-- ==== Sys2Proof/Word.lean ====
section
/-! DEFINITION. The words of the governor: little-endian fields of fixed width (00 R15), and bytes. -/

namespace Sys2Proof

/-- A byte. -/
abbrev Byte := BitVec 8
/-- An unsigned field of 1 byte. -/
abbrev U8 := BitVec 8
/-- An unsigned field of 2 bytes. -/
abbrev U16 := BitVec 16
/-- An unsigned field of 4 bytes. -/
abbrev U32 := BitVec 32
/-- An unsigned field of 8 bytes. -/
abbrev U64 := BitVec 64

/-- The low `w` bits of an integer, two's complement. -/
def ofInt (w : Nat) (i : Int) : BitVec w := BitVec.ofInt w i

/-- The least of two naturals with a saturation bound: counters that saturate (17 R503). -/
def satAdd (w : Nat) (a b : Nat) : Nat := min (2 ^ w - 1) (a + b)

/-- The `n` little-endian bytes of a natural number (00 R15). -/
def leBytes : Nat → Nat → List Byte
  | 0, _ => []
  | n + 1, v => BitVec.ofNat 8 v :: leBytes n (v / 256)

/-- The natural number that little-endian bytes hold (00 R15). -/
def ofLe : List Byte → Nat
  | [] => 0
  | b :: bs => b.toNat + 256 * ofLe bs

/-- The `n` little-endian bytes of an integer, two's complement. -/
def leBytesS (n : Nat) (i : Int) : List Byte := leBytes n (BitVec.ofInt (8 * n) i).toNat

/-- The signed value of a two's complement field of `w` bits. -/
def signed (w v : Nat) : Int := if v % 2 ^ w < 2 ^ (w - 1) then (v % 2 ^ w : Nat) else (v % 2 ^ w : Nat) - (2 ^ w : Nat)

/-- Bits `hi` down to `lo` of a natural number. -/
def bits (v hi lo : Nat) : Nat := v / 2 ^ lo % 2 ^ (hi + 1 - lo)

/-- Bit `i` of a natural number. -/
def bit (v i : Nat) : Bool := v.testBit i

/-- One as a natural number where a flag holds. -/
def flag (b : Bool) : Nat := if b then 1 else 0

/-- The natural number whose bit `i` is the `i`-th flag. -/
def packBits : List Bool → Nat
  | [] => 0
  | b :: bs => flag b + 2 * packBits bs

/-- Division that truncates toward zero, zero by zero being zero. -/
def tdiv (a b : Int) : Int := Int.tdiv a b

end Sys2Proof
end

