-- ==== Sys2Proof/Machine/Mem.lean ====
section
/-! DEFINITION. Byte memory of the staging areas and buffers: (address, byte) pairs in one canonical form. -/

namespace Sys2Proof.Machine

/-- Staging memory: pairs of address and byte, addresses strictly rising, no listed byte zero.
An unlisted address reads zero (log entry 3). -/
abbrev Mem := List Host.Cell

/-- What an address that the memory does not list reads as. -/
def Mem.blank : Byte := 0

/-- The byte at an address. -/
def Mem.read : Mem → Nat → Byte
  | [], _ => Mem.blank
  | (k, v) :: m, a => if k = a then v else Mem.read m a

/-- Insert a byte that is not blank into its place. -/
def Mem.insert : Mem → Nat → Byte → Mem
  | [], a, b => [(a, b)]
  | (k, v) :: m, a, b =>
    if a < k then (a, b) :: (k, v) :: m
    else if a = k then (a, b) :: m
    else (k, v) :: Mem.insert m a b

/-- The memory without an address. -/
def Mem.erase : Mem → Nat → Mem
  | [], _ => []
  | (k, v) :: m, a => if k = a then m else (k, v) :: Mem.erase m a

/-- Write one byte, keeping the canonical form. -/
def Mem.write (m : Mem) (a : Nat) (b : Byte) : Mem :=
  if b = Mem.blank then m.erase a else m.insert a b

/-- Write bytes from an address upward. -/
def Mem.writeBytes : Mem → Nat → List Byte → Mem
  | m, _, [] => m
  | m, a, b :: bs => Mem.writeBytes (m.write a b) (a + 1) bs

/-- `n` bytes from an address upward. -/
def Mem.readBytes (m : Mem) (a : Nat) : Nat → List Byte
  | 0 => []
  | n + 1 => m.read a :: Mem.readBytes m (a + 1) n

/-- The little-endian number of `n` bytes at an address (00 R15). -/
def Mem.num (m : Mem) (a n : Nat) : Nat := ofLe (m.readBytes a n)

/-- Every address of the list is above `lo`, addresses rise and no byte is blank. -/
def Mem.wfFrom : Nat → Mem → Bool
  | _, [] => true
  | lo, (k, v) :: m => decide (lo ≤ k) && decide (v ≠ Mem.blank) && Mem.wfFrom (k + 1) m

/-- The canonical form. -/
def Mem.wf (m : Mem) : Bool := Mem.wfFrom 0 m

end Sys2Proof.Machine
end

