-- ==== Sys2Proof/Machine/PartsA.lean ====
section
/-! DEFINITION. The parts of the state of chapters 02, 04, 05, 06 and 07: plain data with the reset values. Each field is listed as: what it is | width | file and rule | reset value. -/

namespace Sys2Proof.Machine

/-- The named states of the tray (R11). -/
inductive TrayState where
  | off | standby | poweringUp | on | maintenance | poweringDown | faultOff | thermalOff | leakOff
  deriving DecidableEq, Repr, Inhabited

/-- The named states of one accelerator (R13). -/
inductive AccState where
  | off | up | on | down | fault
  deriving DecidableEq, Repr, Inhabited

/-- The role of this governor in its pair (R83, R405); undecided until the start-up arbitration ends. -/
inductive Role where
  | undecided | standby | owner
  deriving DecidableEq, Repr, Inhabited

/-- The role a host key gives its sessions, READ < OPERATE < ADMIN (R36). -/
inductive KeyRole where
  | read | operate | admin
  deriving DecidableEq, Repr, Inhabited

/-- The status codes of R53. -/
inductive Status where
  | ok | accepted | busy | denied | notNegotiated | badArg | semaphoreHeld | emergencyActive | deferred
  | limitExceeded | notOwner | strictMode | noResource | integrityFail | stateConflict
  deriving DecidableEq, Repr, Inhabited

/-- One entry of the host key table in the configuration block (R36, R37, R49). -/
structure HostKey where
  /-- SHA-384 of the host public key, all zero when unused | 384 | 02 R37 | 0 -/
  hash : BitVec 384 := 0
  /-- role | 2 | 02 R36 | READ -/
  role : KeyRole := .read
  /-- ports the key may use, bit 0 P0 and bit 1 P1 | 2 | 02 R37 | 0 -/
  portMask : BitVec 2 := 0
  /-- minimum Jormavi generation | 8 | 02 R49 | 0 -/
  minGen : Nat := 0
  deriving DecidableEq, Repr, Inhabited

/-- The keys of a session (R38). -/
structure SessionKeys where
  /-- key_h2g | 256 | 02 R38 | empty -/
  keyH2g : List Byte := []
  /-- key_g2h | 256 | 02 R38 | empty -/
  keyG2h : List Byte := []
  /-- salt_h2g | 32 | 02 R38 | empty -/
  saltH2g : List Byte := []
  /-- salt_g2h | 32 | 02 R38 | empty -/
  saltG2h : List Byte := []
  /-- key_tel | 256 | 17 R466 | empty -/
  keyTel : List Byte := []
  /-- salt_tel | 32 | 17 R466 | empty -/
  saltTel : List Byte := []
  deriving DecidableEq, Repr, Inhabited

/-- A response kept for resending (R45). -/
structure CachedResponse where
  /-- request ID it answers | 32 | 02 R45 | 0 -/
  reqId : U32 := 0
  /-- the response body | bytes | 02 R45 | empty -/
  body : List Byte := []
  deriving DecidableEq, Repr, Inhabited

/-- A command of a session that is accepted and whose response is held (R45, R46, R55). -/
structure ExecutingCommand where
  /-- request ID | 32 | 02 R45 | 0 -/
  reqId : U32 := 0
  /-- the response body that leaves once the mirror record is acknowledged | bytes | 02 R55 | empty -/
  body : List Byte := []
  /-- mirror sequence number the response waits for, none for a command forwarded to the OWNER | 32 | 15 R410 | none -/
  mseq : Option Nat := none
  deriving DecidableEq, Repr, Inhabited

/-- An established session (R37-R51). -/
structure Session where
  /-- session ID | 32 | 02 R37 | 0 -/
  id : U32 := 0
  /-- host key table index | 4 | 02 R37 | 0 -/
  keyIdx : Nat := 0
  /-- SHA-384 of its host key | 384 | 02 R37, R59 | 0 -/
  keyHash : BitVec 384 := 0
  /-- role of its key | 2 | 02 R36 | READ -/
  role : KeyRole := .read
  /-- session generation 1-3 | 2 | 02 R49 | 1 -/
  gen : Nat := 1
  /-- agreed feature set | 128 | 02 R50 | 0 -/
  features : BitVec 128 := 0
  /-- session keys | 576 | 02 R38 | empty -/
  keys : SessionKeys := {}
  /-- highest accepted message sequence number | 64 | 02 R44 | 0 -/
  rxHigh : Nat := 0
  /-- accepted message sequence numbers within 64 of the highest | list | 02 R44 | empty -/
  rxSeen : List Nat := []
  /-- message sequence number last sent | 64 | 02 R43 | 0 -/
  txSeq : Nat := 0
  /-- GT of the last authenticated message | 64 | 02 R40 | 0 -/
  lastMsg : Nat := 0
  /-- request ID of the last new command | 32 | 02 R45 | none -/
  lastReq : Option U32 := none
  /-- responses kept, newest first, at most 2N | list | 02 R45 | empty -/
  cache : List CachedResponse := []
  /-- commands executing, at most N | list | 02 R46 | empty -/
  executing : List ExecutingCommand := []
  /-- request whose response ends the session: a SESSION_CLOSE, or the batch that holds it | 32 | 02 R40, R52 | none -/
  closing : Option U32 := none
  /-- event push filter by group | 16 | 17 R464 | all (no filter yet) -/
  evGroups : BitVec 16 := 0xFFFF
  /-- lowest severity pushed | 3 | 17 R464 | 0 -/
  evMinSev : Nat := 0
  deriving DecidableEq, Repr, Inhabited

/-- A handshake between HELLO and AUTH (R37). -/
structure Handshake where
  /-- GT of the HELLO | 64 | 02 R37 | 0 -/
  helloGt : Nat := 0
  /-- session ID offered | 32 | 02 R37 | 0 -/
  session : U32 := 0
  /-- chosen generation | 2 | 02 R49 | 1 -/
  gen : Nat := 1
  /-- agreed feature set | 128 | 02 R50 | 0 -/
  features : BitVec 128 := 0
  /-- TH, the SHA-384 of HELLO and HELLO_REPLY | 384 | 02 R37 | empty -/
  th : List Byte := []
  /-- keys derived | 576 | 02 R38 | empty -/
  keys : SessionKeys := {}
  deriving DecidableEq, Repr, Inhabited

/-- A message the governor puts on a mailbox port. -/
structure PortMessage where
  /-- message type of R43 | 8 | 02 R43 | 0 -/
  type : Nat := 0
  /-- session ID of the outer header | 32 | 02 R43 | 0 -/
  session : U32 := 0
  /-- message sequence number | 64 | 02 R43 | 0 -/
  msgSeq : Nat := 0
  /-- generation of the outer header | 8 | 02 R43 | 0 -/
  gen : Nat := 0
  /-- body before encryption | bytes | 02 R44 | empty -/
  body : List Byte := []
  /-- the datagram: outer header, then the body in clear or the ciphertext with its tag | bytes | 02 R38, R43 | empty -/
  wire : List Byte := []
  deriving DecidableEq, Repr, Inhabited

/-- The holder of a hardware semaphore (R55-R59). -/
structure SemHolder where
  /-- pair position, 0 for A and 1 for B | 8 | 02 R55 | 0 -/
  pos : Nat := 0
  /-- port | 8 | 02 R55 | 0 -/
  port : Nat := 0
  /-- session ID | 32 | 02 R55 | 0 -/
  session : U32 := 0
  /-- SHA-384 of the host key of the session | 384 | 02 R59 | 0 -/
  keyHash : BitVec 384 := 0
  /-- lease token | 64 | 02 R56 | 0 -/
  token : U64 := 0
  /-- lease end GT | 64 | 02 R56 | 0 -/
  leaseEnd : Nat := 0
  /-- lease length, s | 16 | 02 R57 | 0 -/
  leaseLen : Nat := 0
  deriving DecidableEq, Repr, Inhabited

/-- One firmware log entry (R64). -/
structure LogEntry where
  /-- governor time | 64 | 02 R64 | 0 -/
  gt : Nat := 0
  /-- log sequence number | 32 | 02 R64 | 0 -/
  logSeq : Nat := 0
  /-- boot count | 16 | 02 R64 | 0 -/
  boot : Nat := 0
  /-- component | 8 | 02 R64 | 0 -/
  comp : Nat := 0
  /-- level, 0 ERROR to 3 DEBUG | 8 | 02 R64 | 0 -/
  level : Nat := 0
  /-- message code | 16 | 02 R64 | 0 -/
  msg : Nat := 0
  /-- arguments, at most 5 | list | 02 R64 | empty -/
  args : List Nat := []
  deriving DecidableEq, Repr, Inhabited

/-- The firmware log (R64, R65). -/
structure LogState where
  /-- SRAM ring, oldest first, at most 65,536 | list | 02 R64 | empty -/
  ring : List LogEntry := []
  /-- DDR5 log ring, oldest first | list | 02 R64 | empty -/
  ddr : List LogEntry := []
  /-- capacity of the DDR5 log ring in entries, from the configuration block | 32 | 02 R64 | 4194304 (256 MiB) -/
  ddrCap : Nat := 4194304
  /-- log spill area of FLASH0, oldest first, at most 1,212,416 entries | list | 02 R64 | empty -/
  flash : List LogEntry := []
  /-- next log_seq | 32 | 02 R64 | 0 -/
  nextSeq : Nat := 0
  /-- second of the flash rate count | 64 | 02 R64 | 0 -/
  rateSecond : Nat := 0
  /-- ERROR entries written to flash in that second | 8 | 02 R64 | 0 -/
  rateCount : Nat := 0
  /-- ERROR entries not written to flash | 32 | 02 R64 | 0 -/
  unspilled : Nat := 0
  /-- most verbose level recorded, per component | 14 x 2 | 02 R65 | 2 (INFO) -/
  level : List Nat := List.replicate 14 2
  deriving DecidableEq, Repr, Inhabited

/-- One trace record (R66). -/
structure TraceRecord where
  /-- governor time | 64 | 02 R66 | 0 -/
  gt : Nat := 0
  /-- trace point | 8 | 02 R66 | 0 -/
  point : Nat := 0
  /-- lost flag | 1 | 02 R66 | false -/
  lost : Bool := false
  /-- source | 16 | 02 R66 | 0 -/
  source : Nat := 0
  /-- per-point sequence | 32 | 02 R66 | 0 -/
  seq : Nat := 0
  /-- highest reported step | 64 | 02 R66 | 0 -/
  step : Nat := 0
  /-- argument | 64 | 02 R66 | 0 -/
  arg : Nat := 0
  deriving DecidableEq, Repr, Inhabited

/-- Per trace point counters (R66), kept only for points that have recorded or lost something. -/
structure TracePoint where
  /-- point | 8 | 02 R66 | 0 -/
  point : Nat := 0
  /-- next sequence number | 32 | 02 R66 | 0 -/
  seq : Nat := 0
  /-- records lost | 32 | 02 R66 | 0 -/
  lost : Nat := 0
  /-- the next record of the point carries the lost flag | 1 | 02 R66 | false -/
  lostPending : Bool := false
  deriving DecidableEq, Repr, Inhabited

/-- The trace buffer (R66). -/
structure TraceState where
  /-- enable mask | 256 | 02 R66 | 0 -/
  mask : BitVec 256 := 0
  /-- buffer, oldest first, at most 32,768 | list | 02 R66 | empty -/
  buffer : List TraceRecord := []
  /-- per-point counters | list | 02 R66 | empty -/
  points : List TracePoint := []
  /-- second of the capture rate count | 64 | 02 R66 | 0 -/
  rateSecond : Nat := 0
  /-- records captured in that second | 32 | 02 R66 | 0 -/
  rateCount : Nat := 0
  deriving DecidableEq, Repr, Inhabited

/-- One firmware component (R24). -/
structure Component where
  /-- GT by which the restart in progress ends | 64 | 01 R24 | none -/
  restartUntil : Option Nat := none
  /-- GT of the last fault | 64 | 01 R24 | none -/
  lastFault : Option Nat := none
  /-- GT of the last service of its 20 ms watchdog | 64 | 01 R24 | 0 -/
  lastService : Nat := 0
  /-- cause of that fault: 1 region violation, 2 watchdog, 3 self-check | 8 | 17 R461 | 0 -/
  cause : Nat := 0
  /-- its protection region, 0xFF where it names none | 8 | 17 R461 | 0xFF -/
  region : Nat := 255
  deriving DecidableEq, Repr, Inhabited

/-- One firmware processor (R25, R73). -/
structure Processor where
  /-- GT by which the restart in progress ends | 64 | 01 R25 | none -/
  restartUntil : Option Nat := none
  /-- GT of the last service of its watchdog | 64 | 01 R25 | 0 -/
  lastService : Nat := 0
  /-- what has triggered its watchdog: 0 nothing, 2 a second component fault in 10 s, 3 a fault outside a compartment | 8 | 01 R24; 17 R461 | 0 -/
  trigger : Nat := 0
  /-- cause of the restart in progress | 8 | 17 R461 | 0 -/
  cause : Nat := 0
  /-- GT of watchdog restarts within 600 s | list | 03 R73 | empty -/
  restarts : List Nat := []
  deriving DecidableEq, Repr, Inhabited

/-- The state word of a loader copy or firmware slot (R88). -/
abbrev StateWord := BitVec 32

/-- One component entry of a firmware manifest (chapter 04, Manifest). -/
structure CompEntry where
  /-- component ID | 8 | 04 Manifest | 0 -/
  id : Nat := 0
  /-- processor | 8 | 04 Manifest | 0 -/
  proc : Nat := 0
  /-- version | 32 | 04 Manifest | 0 -/
  version : Nat := 0
  deriving DecidableEq, Repr, Inhabited

/-- A manifest as the verifier sees it (R89): its fields, and for each cryptographic check whether it holds. -/
structure Manifest where
  /-- magic, as a little-endian number | 32 | 04 Manifest | 0xFFFFFFFF (erased) -/
  magic : BitVec 32 := 0xFFFFFFFF
  /-- fmt | 8 | 04 Manifest | 0xFF (erased) -/
  fmt : Nat := 255
  /-- the RSVD fields, together | 16 | 04 R89 | 0 -/
  rsvd : Nat := 0
  /-- object type | 8 | 04 Manifest | 0 -/
  type : Nat := 0
  /-- version | 32 | 04 Manifest | 0 -/
  version : Nat := 0
  /-- floor | 32 | 04 R97 | 0 -/
  floor : Nat := 0
  /-- number of 64 KiB blocks | 32 | 04 Manifest | 0 -/
  nblocks : Nat := 0
  /-- object length in bytes | 32 | 04 Manifest | 0 -/
  length : Nat := 0
  /-- mirror protocol generation | 16 | 04 Manifest | 0 -/
  mirrorProto : Nat := 0
  /-- settings or configuration schema | 16 | 04 Manifest | 0 -/
  schema : Nat := 0
  /-- SHA-384 of vendor_key equals the hash in the ROM | 1 | 04 R89 | false -/
  vendorKeyOk : Bool := false
  /-- vendor_sig verifies under vendor_key | 1 | 04 R89 | false -/
  vendorSigOk : Bool := false
  /-- cust_sig flag | 1 | 04 R89 | false -/
  custSig : Bool := false
  /-- SHA-384 of cust_key | 384 | 04 R89 | 0 -/
  custKeyHash : BitVec 384 := 0
  /-- cust_sig verifies under cust_key | 1 | 04 R89 | false -/
  custSigOk : Bool := false
  /-- manifest digest | 384 | 04 R89 | 0 -/
  digest : BitVec 384 := 0
  /-- image_digest | 384 | 04 R90 | 0 -/
  imageDigest : BitVec 384 := 0
  /-- component entries | 14 entries | 04 Manifest | empty -/
  comps : List CompEntry := []
  deriving DecidableEq, Repr, Inhabited

/-- A flash object's blocks against its manifest (R90). -/
structure ObjectImage where
  /-- its manifest | record | 04 R89 | erased -/
  man : Manifest := {}
  /-- per block, whether it hashes to its block_hash entry | list | 04 R90 | empty -/
  blocksOk : List Bool := []
  /-- the SHA-384 of the complete copy equals image_digest | 1 | 04 R90 | false -/
  imageOk : Bool := false
  deriving DecidableEq, Repr, Inhabited

/-- A loader copy or firmware slot in flash (R86, R88). -/
structure Slot where
  /-- state word | 32 | 04 R88 | 0xFFFFFFFF (erased) -/
  state : StateWord := 0xFFFFFFFF
  /-- generation | 32 | 04 Slot header | 0xFFFFFFFF (erased) -/
  generation : BitVec 32 := 0xFFFFFFFF
  /-- gen_check | 32 | 04 Slot header | 0xFFFFFFFF (erased) -/
  genCheck : BitVec 32 := 0xFFFFFFFF
  /-- cfg_lo and cfg_hi of the object entry that it was installed from, none where it came otherwise | 2 x 16 | 16 R430 | none -/
  cfgRange : Option (Nat × Nat) := none
  /-- the object | record | 04 R86 | erased -/
  obj : ObjectImage := {}
  deriving DecidableEq, Repr, Inhabited

/-- One anchor header copy (chapter 04, Anchor header). -/
structure AnchorHeader where
  /-- magic, RSVD and signature by IDK verify | 1 | 04 R91 | false -/
  valid : Bool := false
  /-- anchor_gen | 32 | 04 Anchor header | 0 -/
  gen : Nat := 0
  /-- min_version | 32 | 04 Anchor header | 0 -/
  minVersion : Nat := 0
  /-- ck_state | 8 | 04 Anchor header | false -/
  ckEnrolled : Bool := false
  /-- cfg_copy | 8 | 04 Anchor header | 0 -/
  cfgCopy : Nat := 0
  /-- ck_hash | 384 | 04 Anchor header | 0 -/
  ckHash : BitVec 384 := 0
  /-- cfg_digest | 384 | 04 Anchor header | 0 -/
  cfgDigest : BitVec 384 := 0
  /-- device serial | 128 | 04 Anchor header | 0 -/
  serial : BitVec 128 := 0
  deriving DecidableEq, Repr, Inhabited

/-- A change staged for the anchor (R96, R98). -/
inductive AnchorChange where
  | enrol (keyHash : BitVec 384)
  | remove
  deriving DecidableEq, Repr, Inhabited

/-- The transfer of the recovery loader (R103). -/
structure RecoveryTransfer where
  /-- target | 8 | 04 BEGIN | 0 -/
  target : Nat := 0
  /-- manifest length | 32 | 04 BEGIN | 0 -/
  manLen : Nat := 0
  /-- object length | 32 | 04 BEGIN | 0 -/
  objLen : Nat := 0
  /-- byte ranges received, start and end, disjoint and rising | list | 04 R103 | empty -/
  ranges : List (Nat × Nat) := []
  /-- manifest verified | 1 | 04 R103 | false -/
  verified : Bool := false
  /-- manifest as received | record | 04 R103 | erased -/
  man : Manifest := {}
  deriving DecidableEq, Repr, Inhabited

/-- A reply of the recovery loader on UART RECOV (R102). -/
structure RecoveryReply where
  /-- frame sequence echoed | 16 | 04 R102 | 0 -/
  seq : Nat := 0
  /-- NAK status, none for ACK | 8 | 04 R102 | none -/
  nak : Option Status := none
  /-- payload of an ACK | bytes | 04 R102 | empty -/
  payload : List Byte := []
  /-- the frame as sent: sync, type, sequence, length, payload and CRC | bytes | 04 R102 | empty -/
  wire : List Byte := []
  deriving DecidableEq, Repr, Inhabited

/-- The recovery loader (R102, R103). -/
structure RecoveryState where
  /-- last accepted frame sequence | 16 | 04 R102 | none -/
  lastSeq : Option Nat := none
  /-- last reply, sent again for a repeated frame | record | 04 R102 | empty -/
  lastReply : RecoveryReply := {}
  /-- transfer in progress | record | 04 R103 | none -/
  transfer : Option RecoveryTransfer := none
  /-- replies sent, oldest first (the model's own transmit list) | list | 04 R102 | empty -/
  sent : List RecoveryReply := []
  deriving DecidableEq, Repr, Inhabited

/-- Debug access (R109, R110). -/
structure DebugState where
  /-- scope in force, zero when locked | 32 | 04 R109 | 0 -/
  scope : U32 := 0
  /-- GT at which the duration ends | 64 | 04 R110 | none -/
  lockAt : Option Nat := none
  /-- current challenge | 256 | 04 R109 | none -/
  challenge : Option (BitVec 256) := none
  deriving DecidableEq, Repr, Inhabited


/-- The states of a feed (R113). -/
inductive FeedPhase where
  | off | inrush | on | backoff | lockout | lost | forcedOff
  deriving DecidableEq, Repr, Inhabited

/-- One breaker curve point (chapter 05). -/
structure CurvePoint where
  /-- current threshold, A | 16 | 05 Breaker curve point | 0 -/
  iA : Nat := 0
  /-- time, µs | 32 | 05 Breaker curve point | 0 -/
  tUs : Nat := 0
  deriving DecidableEq, Repr, Inhabited

/-- The breaker curve, back-off and comparator threshold of one feed (R119, R141). -/
structure BreakerSettings where
  /-- 8 points, highest current first | 8 points | 05 R118 | empty -/
  curve : List CurvePoint := []
  /-- back-off, s | 16 | 05 R123 | 10 -/
  backoffS : Nat := 10
  /-- comparator threshold, A | 16 | 05 R120 | 0 -/
  cmpA : Nat := 0
  deriving DecidableEq, Repr, Inhabited

/-- The other settings of one feed, from the configuration block (R504, R117, R132, R133, R138). -/
structure FeedSettings where
  /-- VIN_x at code 4,096, mV | 16 | 05 R504 | 1000 -/
  vinFsMv : Nat := 1000
  /-- VBUS_x at code 4,096, mV | 16 | 05 R504 | 1000 -/
  vbusFsMv : Nat := 1000
  /-- I_x span, 0.1 A | 16 | 05 R504 | 1 -/
  iFsDa : Nat := 1
  /-- I_x code at zero current | 16 | 05 R504 | 0 -/
  iZero : Nat := 0
  /-- comparator level per ampere, µV | 32 | 05 R504 | 1 -/
  cmpUvPerA : Nat := 1
  /-- SOA power, W | 16 | 05 R117 | 6000 -/
  soaPowerW : Nat := 6000
  /-- SOA count | 8 | 05 R117 | 4 -/
  soaCount : Nat := 4
  /-- SOA energy, J | 8 | 05 R117 | 8 -/
  soaEnergyJ : Nat := 8
  /-- longest inrush, ms | 8 | 05 R117 | 20 -/
  inrushMaxMs : Nat := 20
  /-- reverse threshold, A below zero | 8 | 05 R132 | 20 -/
  reverseA : Nat := 20
  /-- return time, ms | 16 | 05 R133 | 1000 -/
  returnMs : Nat := 1000
  /-- single-feed current limit, A, none for the default of R138 | 16 | 05 R138 | none -/
  singleA : Option Nat := none
  deriving DecidableEq, Repr, Inhabited

/-- The bounds the limit block holds for one feed (R117, R119). -/
structure FeedLimits where
  /-- envelope curve | 8 points | 05 R119 | empty -/
  envelope : List CurvePoint := []
  /-- ceiling of the comparator threshold, A | 16 | 05 R119 | 0 -/
  cmpCeil : Nat := 0
  /-- ceiling of soa_power_w | 16 | 05 R117 | 0 -/
  soaPowerCeil : Nat := 0
  /-- ceiling of soa_energy_j | 8 | 05 R117 | 0 -/
  soaEnergyCeil : Nat := 0
  /-- ceiling of inrush_max_ms | 8 | 05 R117 | 0 -/
  inrushMaxCeil : Nat := 0
  deriving DecidableEq, Repr, Inhabited

/-- One input feed (chapter 05). -/
structure Feed where
  /-- state without the priority of R113 for FORCED_OFF | 3 | 05 R113 | OFF -/
  phase : FeedPhase := .off
  /-- FORCED_OFF held | 1 | 05 R141 | false -/
  forced : Bool := false
  /-- settings of the breaker in force | record | 05 R119 | none loaded -/
  breaker : BreakerSettings := {}
  /-- settings from the configuration block | record | 05 R504 | defaults -/
  cfg : FeedSettings := {}
  /-- curve counters c_0 to c_7 | 8 x 32 | 05 R118 | 0 -/
  c : List Nat := List.replicate 8 0
  /-- consecutive samples above SOA power | 8 | 05 R116 | 0 -/
  overRun : Nat := 0
  /-- inrush energy, 0.1 µJ (signed as computed) | 64 | 05 R116 | 0 -/
  eQ : Int := 0
  /-- consecutive samples with a drop of at most 500 mV | 3 | 05 R116 | 0 -/
  smallDrop : Nat := 0
  /-- GT at which the feed entered INRUSH | 64 | 05 R116 | 0 -/
  inrushGt : Nat := 0
  /-- GT at which the feed entered ON or the record was last written, restarted by a trip or loss | 64 | 05 R128 | 0 -/
  cleanSince : Nat := 0
  /-- consecutive samples out of 44-60 V | 5 | 05 R133 | 0 -/
  lossRun : Nat := 0
  /-- consecutive samples below the reverse threshold | 3 | 05 R132 | 0 -/
  reverseRun : Nat := 0
  /-- causes met by the latest samples and not yet acted on, as bits of the trip record | 8 | 05 R121 | 0 -/
  due : BitVec 8 := 0
  /-- curve point met, 255 for none | 8 | 05 R121 | 255 -/
  duePoint : Nat := 255
  /-- the input is lost and has not returned | 1 | 05 R133 | false -/
  inputLost : Bool := false
  /-- consecutive samples with VBUS below 40 V | 3 | 05 R134 | 0 -/
  lowBusRun : Nat := 0
  /-- GT since which VIN is within 48-58 V | 64 | 05 R133 | none -/
  inRangeSince : Option Nat := none
  /-- FEED_x_FAST_OFF_N pulled low | 1 | 05 R120 | false -/
  fastOff : Bool := false
  /-- FEED_x_ON released high by this governor | 1 | 05 R111 | false -/
  onReleased : Bool := false
  /-- GT at which the back-off ends | 64 | 05 R123 | 0 -/
  backoffEnd : Nat := 0
  /-- GT of the retries in the 600 s window | list | 05 R122 | empty -/
  retries : List Nat := []
  /-- the next switch-on counts as a retry | 1 | 05 R122, R129 | false -/
  retryNext : Bool := false
  /-- trips since power-on reset, saturating | 32 | 05 FEED_STATUS | 0 -/
  trips : Nat := 0
  /-- VIN_x, mV | 32 | 05 R111 | 0 -/
  vinMv : Nat := 0
  /-- VBUS_x, mV | 32 | 05 R111 | 0 -/
  vbusMv : Nat := 0
  /-- I_x, 0.1 A | s32 | 05 R111 | 0 -/
  iDa : Int := 0
  /-- I_x in A of the last 1,024 samples, newest first | list | 05 R127 | empty -/
  iHist : List Int := []
  /-- sum of I_x in A over the 100 µs interval | s32 | 05 R130 | 0 -/
  iSum : Int := 0
  /-- samples in the interval | 8 | 05 R130 | 0 -/
  iCount : Nat := 0
  /-- level at FEED_x_CMP, mV | 11 | 05 R111, R504 | 0 -/
  cmpMv : Nat := 0
  /-- the instantaneous comparator is armed | 1 | 05 R120 | false -/
  armed : Bool := false
  /-- GT at which the end of a tray power-down program opened the feed from INRUSH or ON | 64 | 05 R139 | none -/
  endGt : Option Nat := none
  /-- GT of the last FORCE_OFF | 64 | 01 R29; 05 R139 | none -/
  forceGt : Option Nat := none
  /-- a FORCE_OFF of a feed in INRUSH waits for the next CLK_TICK | 1 | 05 R139 | false -/
  forceDue : Bool := false
  deriving DecidableEq, Repr, Inhabited

/-- The status of a trip record (chapter 05, Trip record). -/
inductive TripStatus where
  | unresolved | resolved | lockout | superseded
  deriving DecidableEq, Repr, Inhabited

/-- One trip record in the trip area of the journal device (R127). -/
structure TripRecord where
  /-- magic | 32 | 05 Trip record | 0x5254474C as written by R127 -/
  magic : U32 := 0x5254474C
  /-- crc as stored | 32 | 05 Trip record | 0 -/
  crc : U32 := 0
  /-- rec_seq | 32 | 05 Trip record | 0 -/
  recSeq : Nat := 0
  /-- feed, 0 A and 1 B | 8 | 05 Trip record | 0 -/
  feed : Nat := 0
  /-- cause bits | 8 | 05 Trip record | 0 -/
  cause : BitVec 8 := 0
  /-- status | 8 | 05 Trip record | UNRESOLVED -/
  status : TripStatus := .unresolved
  /-- curve point or 0xFF | 8 | 05 Trip record | 0xFF -/
  point : Nat := 255
  /-- boot count | 16 | 05 Trip record | 0 -/
  boot : Nat := 0
  /-- back-off in force, s | 16 | 05 Trip record | 0 -/
  backoffS : Nat := 0
  /-- GT of the deciding sample | 64 | 05 Trip record | 0 -/
  gtTrip : Nat := 0
  /-- retries in the window | 8 | 05 Trip record | 0 -/
  retries : Nat := 0
  /-- highest I_x over 1,024 samples, A | s32 | 05 Trip record | 0 -/
  peakA : Int := 0
  /-- VIN_x, mV | 32 | 05 Trip record | 0 -/
  vinMv : Nat := 0
  /-- VBUS_x, mV | 32 | 05 Trip record | 0 -/
  vbusMv : Nat := 0
  /-- GT of resolution | 64 | 05 Trip record | 0 -/
  gtResolved : Nat := 0
  deriving DecidableEq, Repr, Inhabited

/-- The feed controller (chapter 05). -/
structure FeedState where
  /-- feeds A and B | 2 feeds | 05 R111 | OFF -/
  feeds : List Feed := [{}, {}]
  /-- feed demand | 1 | 05 R114 | false -/
  demand : Bool := false
  /-- share code s | s10 | 05 R130 | 0 -/
  share : Int := 0
  /-- GT of the last share interval boundary | 64 | 05 R130 | 0 -/
  shareGt : Nat := 0
  /-- k_share | 8 | 05 R130 | 4 -/
  kShare : Nat := 4
  /-- GT since which a share is outside 45-55 % | 64 | 05 R131 | none -/
  imbalanceSince : Option Nat := none
  /-- GT since which s is at its limit | 64 | 05 R131 | none -/
  limitSince : Option Nat := none
  /-- event 0x0309 is recorded for the imbalance that lasts | 1 | 05 R131 | false -/
  imbalanceSaid : Bool := false
  /-- event 0x0309 is recorded for the limit that lasts | 1 | 05 R131 | false -/
  limitSaid : Bool := false
  /-- share code at the last trace record of point 53 | s10 | 05 Trace points | 0 -/
  shareTraced : Int := 0
  /-- trip area of the journal device, 64 slots | 64 records | 05 R127 | DESIGN CHOICE erased (log entry 4) -/
  trips : List (Option TripRecord) := List.replicate 64 none
  /-- minimum off time, ms | 16 | 05 R136 | 2000 -/
  minOffMs : Nat := 2000
  /-- an input loss has been recorded and still exists | 1 | 05 R134 | false -/
  inputLoss : Bool := false
  /-- breaker settings stored by command in the settings area, per feed | 2 records | 05 R141 | none -/
  stored : List (Option BreakerSettings) := [none, none]
  /-- per feed, a comparator crossing has pulled FAST_OFF and FEED_x_ON falls in the next CLK_TICK | 2 | 05 R120 | false -/
  onFalls : List Bool := [false, false]
  deriving DecidableEq, Repr, Inhabited

/-- A target of an ENABLE step (R147, ENABLE cls). -/
inductive EnableTarget where
  | rail (c : Nat) | branch (b : Nat) | accReset (n : Nat)
  deriving DecidableEq, Repr, Inhabited

/-- The installed program set (R144-R146). -/
structure ProgramSet where
  /-- directory entries, one per program ID | 32 x 64 | 06 R145 | 0 -/
  dir : List (BitVec 64) := List.replicate 32 0
  /-- role tray_up | 8 | 06 R146 | 0 -/
  trayUp : Nat := 0
  /-- role leak | 8 | 06 R146 | 0 -/
  leak : Nat := 0
  /-- role input_loss | 8 | 06 R146 | 0 -/
  inputLoss : Nat := 0
  /-- roles acc_up, 0xFF where none is fitted | 8 x 8 | 06 R146 | 0 -/
  accUp : List Nat := List.replicate 8 0
  /-- program store, listed where not zero, index rising | 4096 x 64 | 06 R147 | 0 -/
  store : List (Nat × BitVec 64) := []
  deriving DecidableEq, Repr, Inhabited

/-- What a context does once its current run of steps is over (R161-R165). -/
inductive AfterEnd where
  | normal | toFault
  deriving DecidableEq, Repr, Inhabited

/-- The two emergency programs (R163). -/
inductive EmergencyKind where
  | leak | inputLoss
  deriving DecidableEq, Repr, Inhabited

/-- How a context comes to start a program whose first tick has not passed (R160, R161, R165). -/
inductive StartKind where
  | fresh | mirrorOff | mirrorAbort
  deriving DecidableEq, Repr, Inhabited

/-- One execution context (R142, R167). -/
structure ThymeCtx where
  /-- running program | 5 | 06 R167 | none -/
  prog : Option Nat := none
  /-- store index of the current step | 12 | 06 R167 | 0 -/
  idx : Nat := 0
  /-- the current step has started and not completed | 1 | 06 R143 | false -/
  inStep : Bool := false
  /-- tick from which the step may start, then its start tick | 64 | 06 R167 | 0 -/
  stepTick : Nat := 0
  /-- last completed mark and its entry | 8 + 12 | 06 R154 | none -/
  mark : Option (Nat × Nat) := none
  /-- enables held | list | 06 R165 | empty -/
  held : List EnableTarget := []
  /-- return point of a CALL | 12 | 06 R153 | none -/
  ret : Option Nat := none
  /-- start tick of the program | 64 | 06 R167 | 0 -/
  progTick : Nat := 0
  /-- the program's first tick has not passed, and how it starts | 2 | 06 R160 | none -/
  starting : Option StartKind := none
  /-- running the mirror program after an off or an abort | 1 | 06 R169 | false -/
  unwinding : Bool := false
  /-- what follows the END | 1 | 06 R165 | normal -/
  after : AfterEnd := .normal
  /-- an on request is pending | 1 | 06 R162 | false -/
  pendOn : Bool := false
  /-- an off request has been taken and the current step is completing | 1 | 06 R161 | false -/
  offTaken : Bool := false
  /-- cause of the last abort | 8 | 06 R169 | 0 -/
  abortCause : Nat := 0
  /-- code of the last ABORT step | 8 | 06 R169 | 0 -/
  abortCode : Nat := 0
  /-- launch turns still to come, with their ticks | list | 06 R157 | empty -/
  launches : List (Nat × Nat) := []
  /-- regulator bus writes of the current step not yet acknowledged | list of rails | 06 R149 | empty -/
  busWait : List Nat := []
  /-- GT of the tick in which the context last stopped or ended a program | 64 | 06 R142, R168 | none -/
  endTick : Option Nat := none
  /-- the current step is one that a takeover starts again | 1 | 06 R167 | false -/
  resumed : Bool := false
  deriving DecidableEq, Repr, Inhabited

/-- A power request accepted and not yet taken by Thyme (R160). -/
inductive PowerRequest where
  | trayOn | trayOff | accOn (n : Nat) | accOff (n : Nat)
  deriving DecidableEq, Repr, Inhabited

/-- What the conditions of R152 read in a tick: the values as they stood at the end of the tick before. -/
structure CondView where
  /-- RAIL_PG per rail channel | 192 | 06 R152 | 0 -/
  railPg : BitVec 192 := 0
  /-- RAIL_IN_WINDOW per rail channel | 192 | 06 R152 | 0 -/
  inWindow : BitVec 192 := 0
  /-- RAIL_DISCHARGED per rail channel | 192 | 06 R152 | 0 -/
  discharged : BitVec 192 := 0
  /-- feeds in ON | 2 | 06 R152 | 0 -/
  feedsOn : Nat := 0
  /-- COOLING_READY | 1 | 06 R152; 10 R278 | false -/
  cooling : Bool := false
  /-- LINK_UP per port | 10 | 06 R152 | 0 -/
  links : BitVec 10 := 0
  /-- ACC_IDLE per accelerator | 8 | 06 R152 | 0 -/
  accIdle : BitVec 8 := 0
  /-- ACC_ON per accelerator | 8 | 06 R152 | 0 -/
  accOn : BitVec 8 := 0
  /-- NO_THERMTRIP per accelerator | 8 | 06 R152 | 0 -/
  noTrip : BitVec 8 := 0
  /-- NO_VR_ALERT per line | 16 | 06 R152 | 0 -/
  noAlert : BitVec 16 := 0
  /-- NO_LEAK | 1 | 06 R152 | false -/
  dry : Bool := false
  /-- PARTNER_ALIVE | 1 | 06 R152 | false -/
  partner : Bool := false
  deriving DecidableEq, Repr, Inhabited

/-- Thyme and the tray and accelerator states (chapter 06). -/
structure ThymeState where
  /-- enables that a context or the shadow drive switched off in this tick (an off wins over an on) | list | 01 R29; 06 R142 | empty -/
  offsNow : List EnableTarget := []
  /-- the values that conditions read in this tick | record | 06 R152 | all false -/
  view : CondView := {}
  /-- tray state apart from the latches | 4 | 00 R11 | OFF -/
  tray : TrayState := .off
  /-- fault latch | 1 | 00 R12 | false -/
  latchFault : Bool := false
  /-- thermal latch | 1 | 00 R12 | false -/
  latchThermal : Bool := false
  /-- leak latch | 1 | 00 R12 | false -/
  latchLeak : Bool := false
  /-- accelerator states | 8 x 3 | 00 R13 | ACC_OFF -/
  accs : List AccState := List.replicate 8 .off
  /-- installed program set | record | 06 R144 | all zero -/
  set : ProgramSet := {}
  /-- the program store is loaded | 1 | 03 R83 | false -/
  loaded : Bool := false
  /-- contexts T, A0 to A7 | 9 contexts | 06 R142 | idle -/
  ctxs : List ThymeCtx := List.replicate 9 {}
  /-- accepted requests with the tick they take effect in | list | 06 R160 | empty -/
  requests : List (PowerRequest × Nat) := []
  /-- a tray power-up is deferred for want of a feed | 1 | 05 R137 | false -/
  deferredUp : Bool := false
  /-- restart policy AUTO_ON, kept in the settings area | 1 | 06 R164 | false (MANUAL) -/
  autoOn : Bool := false
  /-- GT at which the tray minimum off time ends | 64 | 05 R135 | none -/
  minOffEnd : Option Nat := none
  /-- the minimum off time follows an input-loss program | 1 | 06 R164 | false -/
  afterInputLoss : Bool := false
  /-- GT at which each accelerator's minimum off time ends | 8 x 64 | 06 R162 | none -/
  accMinOffEnd : List (Option Nat) := List.replicate 8 none
  /-- accelerator minimum off time, ms | 16 | 06 R162 | 500 -/
  accMinOffMs : Nat := 500
  /-- emergency program due: leak or input loss, waiting for current steps | 2 | 06 R163 | none -/
  emergencyDue : Option EmergencyKind := none
  /-- emergency program running in context T | 2 | 06 R163 | none -/
  emergency : Option EmergencyKind := none
  /-- a leak was confirmed while a power-down ran, so LEAK_OFF follows | 1 | 06 R163; 10 R280 | false -/
  leakAfter : Bool := false
  /-- accelerators unwinding after an abort when the emergency program became due | 8 | 06 R163 | 0 -/
  accAbortStands : BitVec 8 := 0
  /-- a USER program was stopped by a tray off request | 1 | 06 R172 | false -/
  userStopped : Bool := false
  /-- staged program set image of SEQ_PROGRAM_LOAD | 33,280 bytes | 06 R171 | none -/
  staging : Option Mem := none
  /-- GT at which each reset action releases ACC_RESET_N, with its port | 8 x 64 | 03 R78 | none -/
  resetAction : List (Option (Nat × Nat)) := List.replicate 8 none
  /-- ACC_PWROK[7:0] asserted | 8 | 06 R155 | 0 -/
  pwrok : BitVec 8 := 0
  /-- TRAY_PG asserted | 1 | 06 R155 | false -/
  trayPg : Bool := false
  deriving DecidableEq, Repr, Inhabited

/-- One rail map entry (R176). -/
structure RailMap where
  /-- ctrl: 0 unused, 1 pin, 2 PMBus, 3 I3C | 8 | 07 R176 | 0 -/
  ctrl : Nat := 0
  /-- branch 0-11 | 4 | 07 R176 | 0 -/
  branch : Nat := 0
  /-- tray rail | 1 | 07 R176 | false -/
  trayRail : Bool := false
  /-- setpoint by AVSBus | 1 | 07 R176 | false -/
  avsSet : Bool := false
  /-- RAIL_EN index or bus | 8 | 07 R176 | 0 -/
  en : Nat := 0
  /-- target address | 7 | 07 R176 | 0 -/
  addr : Nat := 0
  /-- page | 8 | 07 R176 | 0 -/
  page : Nat := 0
  /-- AVSBus port and rail select byte | 8 | 07 R176 | 0 -/
  avs : Nat := 0
  /-- voltage source | 8 | 07 R176 | 0 -/
  vSrc : Nat := 0
  /-- current source | 8 | 07 R176 | 0 -/
  iSrc : Nat := 0
  /-- power-good source | 8 | 07 R176 | 0 -/
  pgSrc : Nat := 0
  /-- voltage at code 4,096, mV | 16 | 07 R176 | 0 -/
  vFsMv : Nat := 0
  /-- current span, 0.1 A | 16 | 07 R176 | 0 -/
  iFsDa : Nat := 0
  /-- code at zero current | 16 | 07 R176 | 0 -/
  iZero : Nat := 0
  deriving DecidableEq, Repr, Inhabited

/-- One level entry (R185). -/
structure RailLevels where
  /-- uv_fault_mv | 16 | 07 R185 | 0 -/
  uvFault : Nat := 0
  /-- uv_warn_mv | 16 | 07 R185 | 0 -/
  uvWarn : Nat := 0
  /-- ov_warn_mv | 16 | 07 R185 | 0 -/
  ovWarn : Nat := 0
  /-- ov_fault_mv | 16 | 07 R185 | 0 -/
  ovFault : Nat := 0
  /-- oc_warn_da | 32 | 07 R185 | 0 -/
  ocWarn : Nat := 0
  /-- oc_fault_da | 32 | 07 R185 | 0 -/
  ocFault : Nat := 0
  /-- dis_mv | 16 | 07 R185 | 0 -/
  dis : Nat := 0
  /-- uv_n | 8 | 07 R185 | 0 -/
  uvN : Nat := 0
  /-- ov_n | 8 | 07 R185 | 0 -/
  ovN : Nat := 0
  /-- oc_n | 8 | 07 R185 | 0 -/
  ocN : Nat := 0
  /-- ocw_n | 8 | 07 R185 | 0 -/
  ocwN : Nat := 0
  /-- pg_n | 8 | 07 R185 | 0 -/
  pgN : Nat := 0
  deriving DecidableEq, Repr, Inhabited

/-- One rail limit entry of the limit block (R195). -/
structure RailLimit where
  /-- vset_max_mv | 16 | 07 R195 | 0 -/
  vsetMax : Nat := 0
  /-- margin_span | 8 | 07 R195 | 0 -/
  marginSpan : Nat := 0
  /-- filt_max | 8 | 07 R195 | 0 -/
  filtMax : Nat := 0
  /-- ov_fault_max_mv | 16 | 07 R195 | 0 -/
  ovFaultMax : Nat := 0
  /-- uv_fault_min_mv | 16 | 07 R195 | 0 -/
  uvFaultMin : Nat := 0
  /-- oc_fault_max_da | 32 | 07 R195 | 0 -/
  ocFaultMax : Nat := 0
  deriving DecidableEq, Repr, Inhabited

/-- The limit block (R195-R197); its default is the reset content of R197. -/
structure LimitBlock where
  /-- magic as a little-endian number | 32 | 07 R195 | 0 -/
  magic : Nat := 0
  /-- fmt | 16 | 07 R195 | 0 -/
  fmt : Nat := 0
  /-- every RSVD field is zero | 1 | 07 R195 | true -/
  rsvdZero : Bool := true
  /-- fastest_p | 8 | 07 R195 | 31 -/
  fastestP : Nat := 31
  /-- pe_fastest_p | 8 | 07 R195 | 31 -/
  peFastestP : Nat := 31
  /-- min_off_floor_ms | 16 | 07 R195 | 0 -/
  minOffFloorMs : Nat := 0
  /-- tray_cap_max_w | 32 | 07 R195 | 0 -/
  trayCapMaxW : Nat := 0
  /-- branch_budget_max_ma | 12 x 32 | 07 R195 | 0 -/
  budgetMax : List Nat := List.replicate 12 0
  /-- fan_floor | 16 x 8 | 07 R195 | 100 -/
  fanFloor : List Nat := List.replicate 16 100
  /-- pump_floor | 4 x 8 | 07 R195 | 100 -/
  pumpFloor : List Nat := List.replicate 4 100
  /-- pe_ff_max | 8 | 07 R195 | 0 -/
  peFfMax : Nat := 0
  /-- feed sections A and B | 2 x 96 bytes | 07 R195 | 0 -/
  feeds : List FeedLimits := [{}, {}]
  /-- permitted sets of programs 0-31 | 32 x 256 | 07 R196 | 0 -/
  permit : List (BitVec 256) := List.replicate 32 0
  /-- rail limit entries | 192 entries | 07 R195 | 0 -/
  rails : List RailLimit := List.replicate 192 {}
  deriving DecidableEq, Repr, Inhabited

/-- The kinds of confirmation of R204's `last` field. -/
inductive ConfirmKind where
  | none | uvWarn | uvFault | ovWarn | ovFault | ocWarn | ocFault | pgLoss | busLost
  deriving DecidableEq, Repr, Inhabited

/-- One rail channel (chapter 07). -/
structure Rail where
  /-- rail map entry | 128 | 07 R176 | unused -/
  map : RailMap := {}
  /-- level entry | 192 | 07 R185 | 0 -/
  lev : RailLevels := {}
  /-- own drive granted on | 1 | 07 R202 | false -/
  granted : Bool := false
  /-- UV filters armed | 1 | 07 R188 | false -/
  uvArmed : Bool := false
  /-- PG-loss filter armed | 1 | 07 R189 | false -/
  pgArmed : Bool := false
  /-- UV fault filter count | 8 | 07 R187 | 0 -/
  uvF : Nat := 0
  /-- UV warning filter count | 8 | 07 R187 | 0 -/
  uvW : Nat := 0
  /-- OV fault filter count | 8 | 07 R187 | 0 -/
  ovF : Nat := 0
  /-- OV warning filter count | 8 | 07 R187 | 0 -/
  ovW : Nat := 0
  /-- OC fault filter count | 8 | 07 R187 | 0 -/
  ocF : Nat := 0
  /-- OC warning filter count | 8 | 07 R187 | 0 -/
  ocW : Nat := 0
  /-- PG-loss filter count | 8 | 07 R189 | 0 -/
  pgF : Nat := 0
  /-- filters whose count has reached a changed length: they confirm at their next sample | list | 07 R187 | empty -/
  rearmed : List ConfirmKind := []
  /-- confirmations reached by the last sample and not yet acted on | list | 07 R187 | empty -/
  due : List ConfirmKind := []
  /-- warnings that are confirmed and not yet back in range | list | 07 R204 | empty -/
  warnHeld : List ConfirmKind := []
  /-- latest voltage, mV | 16 | 07 R179 | 0 -/
  vMv : Nat := 0
  /-- latest current, 0.1 A | s32 | 07 R179 | 0 -/
  iDa : Int := 0
  /-- power good as last read | 1 | 07 R189 | false -/
  pg : Bool := false
  /-- last confirmation | 4 | 07 R204 | none -/
  last : ConfirmKind := .none
  /-- nominal setpoint, none until written | 16 | 07 R200 | none -/
  nominal : Option Nat := none
  /-- setpoint in force, mV | 16 | 07 R200 | 0 -/
  outMv : Nat := 0
  /-- margin steps in force | s8 | 07 R200 | 0 -/
  margin : Int := 0
  /-- warn counter, saturating | 32 | 07 R199 | 0 -/
  cWarn : Nat := 0
  /-- fault counter, saturating | 32 | 07 R199 | 0 -/
  cFault : Nat := 0
  /-- oc counter, saturating | 32 | 07 R199 | 0 -/
  cOc : Nat := 0
  /-- margin counter, saturating | 32 | 07 R199 | 0 -/
  cMargin : Nat := 0
  /-- pg_loss counter, saturating | 32 | 07 R199 | 0 -/
  cPg : Nat := 0
  /-- GT of the tick of the last increments | 64 | 07 R199 | 0 -/
  incGt : Nat := 0
  /-- counters incremented in that tick: 0 warn, 1 fault, 2 oc, 3 margin, 4 pg_loss | list | 07 R199 | empty -/
  incs : List Nat := []
  /-- consecutive failed polls | 2 | 07 R183 | 0 -/
  pollFails : Nat := 0
  /-- VOUT_MODE of the start-up read, none before it | 8 | 07 R181 | none -/
  voutMode : Option (BitVec 8) := none
  deriving DecidableEq, Repr, Inhabited

/-- A write waiting on a regulator bus (R182, R505). -/
inductive BusWriteKind where
  | operation (on : Bool) | setpoint (mv : Nat) | clearFaults
  deriving DecidableEq, Repr, Inhabited

/-- Who asked for a bus write (R29, R149, R200, R222). -/
inductive WriteOwner where
  | thyme (ctx : Nat) | margin | pstate | sage
  deriving DecidableEq, Repr, Inhabited

/-- A pending regulator write. -/
structure BusWrite where
  /-- rail channel | 8 | 07 R505 | 0 -/
  rail : Nat := 0
  /-- what is written | tagged | 07 R505 | setpoint 0 -/
  kind : BusWriteKind := .setpoint 0
  /-- who waits for it | tagged | 07 R505 | sage -/
  owner : WriteOwner := .sage
  /-- GT at which its transaction started | 64 | 07 R505 | none -/
  started : Option Nat := none
  /-- refusals so far | 2 | 06 R149 | 0 -/
  refused : Nat := 0
  deriving DecidableEq, Repr, Inhabited

/-- An immediate-off in progress (R192, R206). -/
structure OffRun where
  /-- scope: 0-7 branch, 15 tray | 4 | 07 R191 | 0 -/
  scope : Nat := 0
  /-- GT of confirmation | 64 | 07 R192 | 0 -/
  gt : Nat := 0
  /-- every pin in scope has been read low | 1 | 07 R206 | false -/
  low : Bool := false
  deriving DecidableEq, Repr, Inhabited

/-- The group command of an immediate-off on one bus, until it ends (R192). -/
structure GroupOff where
  /-- bus: PMBus 0-7, I3C 0-3 as 8-11 | 4 | 07 R192 | 0 -/
  bus : Nat := 0
  /-- scope of the immediate-off | 4 | 07 R192 | 0 -/
  scope : Nat := 0
  /-- rails whose devices it addresses with OPERATION 0x00 | list | 07 R192 | empty -/
  rails : List Nat := []
  deriving DecidableEq, Repr, Inhabited

/-- A `MODE_SET` to ON whose answer waits for the restoration of the margins (R201). -/
structure RestoreWait where
  /-- mailbox port | 1 | 07 R201 | 0 -/
  port : Nat := 0
  /-- session | 32 | 07 R201 | 0 -/
  session : U32 := 0
  /-- request ID | 32 | 07 R201 | 0 -/
  reqId : U32 := 0
  deriving DecidableEq, Repr, Inhabited

/-- A readback disagreement reported (R203). -/
structure Disagreement where
  /-- net | 8 | 17 nets | 0 -/
  net : Nat := 0
  /-- level read | 1 | 07 R203 | low -/
  level : Bool := false
  deriving DecidableEq, Repr, Inhabited

/-- Sage, the monitor array, the limit block and the regulator buses (chapter 07). -/
structure SageState where
  /-- rail channels 0-191 | 192 rails | 07 R176 | unused -/
  rails : List Rail := List.replicate 192 {}
  /-- limit block in force | 4608 bytes | 07 R195 | R197 -/
  limits : LimitBlock := {}
  /-- shadow copy of a warm reset | 4608 bytes | 01 R20 | none -/
  shadow : Option LimitBlock := none
  /-- limit block locked in this boot | 1 | 07 R195 | false -/
  locked : Bool := false
  /-- limit block locked at least once since power-on reset | 1 | 03 R71, R74 | false -/
  everLocked : Bool := false
  /-- the lock in force came from a warm reset | 1 | 07 R205 | false -/
  lockWarm : Bool := false
  /-- branch enables granted on, bit n for Bn | 12 | 07 R202 | 0 -/
  branches : BitVec 12 := 0
  /-- ACC_RESET_N own drive released | 8 | 07 R202 | 0 -/
  accReset : BitVec 8 := 0
  /-- branch scopes held off until ACC_FAULT is cleared | 8 | 07 R194 | 0 -/
  holdBranch : BitVec 8 := 0
  /-- tray scope held off until the FAULT_OFF latch is cleared | 1 | 07 R194 | false -/
  holdFault : Bool := false
  /-- tray scope held off by the thermal latch | 1 | 07 R194 | false -/
  holdThermal : Bool := false
  /-- converters ADC0-ADC7 failed | 8 | 07 R180 | 0 -/
  adcFailed : BitVec 8 := 0
  /-- immediate-offs in progress | list | 07 R206 | empty -/
  offs : List OffRun := []
  /-- pending writes of PMBus 0-7, I3C 0-3 (as 8-11) and AVSBus 0-7 (as 12-19), in order of issue | 20 lists | 07 R182, R505 | empty -/
  buses : List (List BusWrite) := List.replicate 20 []
  /-- group commands of immediate-offs on their buses, oldest first | list | 07 R192 | empty -/
  groups : List GroupOff := []
  /-- place of the last value polled on PMBus 0-7 and I3C 0-3 (as 8-11): 4 x rail channel + value, plus 1 | 12 x 10 | 07 R182 | 0 -/
  polls : List Nat := List.replicate 12 0
  /-- `MODE_SET` commands that wait for the restoration of the margins | list | 07 R201 | empty -/
  restores : List RestoreWait := []
  /-- readback disagreements | list | 07 R203 | empty -/
  disagreements : List Disagreement := []
  deriving DecidableEq, Repr, Inhabited

end Sys2Proof.Machine
end

