-- ==== Sys2Proof/Machine/PartsB.lean ====
section
/-! DEFINITION. The parts of the state of chapters 08, 09, 10 and 11. -/

namespace Sys2Proof.Machine

/-- One accelerator section of the P-state table (R208). -/
structure AccSection where
  /-- kind: 0 not fitted, 1 S3, 2 S2 | 8 | 08 R208 | 0 -/
  kind : Nat := 0
  /-- fastest P-state supported | 8 | 08 R208 | 0 -/
  fastest : Nat := 0
  /-- core rail per die, 0xFF where absent | 8 x 8 | 08 R208 | 0xFF -/
  rail : List Nat := List.replicate 8 255
  /-- voltages, 32 rows of 8 dies, mV | 256 x 16 | 08 R208 | 0 -/
  vMv : List (List Nat) := List.replicate 32 (List.replicate 8 0)
  deriving DecidableEq, Repr, Inhabited

/-- The P-state table (R208). -/
structure PTable where
  /-- settle_us | 16 | 08 R208 | 0 -/
  settleUs : Nat := 0
  /-- f_mhz of P0-P31 | 32 x 16 | 08 R208 | 0 -/
  fMhz : List Nat := List.replicate 32 0
  /-- pw of P0-P31 | 32 x 16 | 08 R208 | 0 -/
  pw : List Nat := List.replicate 32 0
  /-- accelerator sections | 8 sections | 08 R208 | not fitted -/
  acc : List AccSection := List.replicate 8 {}
  deriving DecidableEq, Repr, Inhabited

/-- A change sent and not yet applied at every package of its group (R219, R220). -/
structure ArmedChange where
  /-- chg_seq | 32 | 08 R219 | 0 -/
  seq : Nat := 0
  /-- P-state | 5 | 08 R219 | 0 -/
  p : Nat := 0
  /-- immediate | 1 | 08 R219 | false -/
  immediate : Bool := false
  /-- at release | 1 | 08 R226 | false -/
  atRelease : Bool := false
  /-- target step | 64 | 08 R218 | 0 -/
  target : Nat := 0
  /-- packages addressed | 8 | 08 R219 | 0 -/
  pkgs : BitVec 8 := 0
  /-- packages that have acknowledged | 8 | 08 R224 | 0 -/
  acked : BitVec 8 := 0
  /-- packages that have applied it | 8 | 08 R222 | 0 -/
  applied : BitVec 8 := 0
  deriving DecidableEq, Repr, Inhabited

/-- The alert throttle and its release (R225, R226). -/
inductive ThrottlePhase where
  | none | waitHigh | volts | acks (seq : Nat)
  deriving DecidableEq, Repr, Inhabited

/-- A faster change whose voltages are being raised (R222). -/
structure FasterChange where
  /-- P-state | 5 | 08 R222 | 0 -/
  p : Nat := 0
  /-- rails whose raise is not yet acknowledged | list | 08 R222 | empty -/
  waiting : List Nat := []
  deriving DecidableEq, Repr, Inhabited

/-- Operating point and power capping (chapter 08). -/
structure OpState where
  /-- changes not acknowledged are sent again at the next control tick boundary after a takeover | 1 | 15 R418 | false -/
  resendDue : Bool := false
  /-- P-state table in force | 4496 bytes | 08 R208 | empty -/
  table : PTable := {}
  /-- staged table image | 4496 bytes | 08 R228 | none -/
  staging : Option Mem := none
  /-- packages that have entered ACC_ON and are due the change of R223 | 8 | 08 R223 | 0 -/
  entering : BitVec 8 := 0
  /-- host preferred points per phase ID, 0xFF none | 256 x 8 | 08 R211 | 0xFF -/
  pref : List Nat := List.replicate 256 255
  /-- tray cap, W | 32 | 08 R212 | tray_cap_max_w -/
  trayCapW : Nat := 0
  /-- feed caps, A | 2 x 16 | 08 R212 | envelope point 7 -/
  feedCapA : List Nat := [0, 0]
  /-- branch budgets by CAP_SET, mA | 12 x 32 | 08 R212 | branch_budget_max_ma -/
  budget : List Nat := List.replicate 12 0
  /-- branch budgets the arbiter last sent, mA | 12 x 32 | 08 R217 | 0 -/
  budgetSent : List Nat := List.replicate 12 0
  /-- guard, 1/1,024 | 8 | 08 R212 | 20 -/
  guard : Nat := 20
  /-- cap_ceil | 5 | 08 R215 | 31 -/
  capCeil : Nat := 31
  /-- up | 3 | 08 R215 | 0 -/
  up : Nat := 0
  /-- P-state in force | 5 | 08 R210 | 31 -/
  pNow : Nat := 31
  /-- combined ceiling after the clamp | 5 | 08 R210 | 31 -/
  ceil : Nat := 31
  /-- the arbiter's P-state ceiling class: the combined ceiling, P31 from the tick after TRAY_SLOW_N falls | 5 | 08 R225; 01 R29 | 31 -/
  classCeil : Nat := 31
  /-- the six contributions | 6 x 5 | 08 R210 | 0 -/
  contrib : List Nat := List.replicate 6 0
  /-- chg_seq of the last change sent | 32 | 08 R219 | 0 -/
  chgSeq : Nat := 0
  /-- P-state of the last change sent | 5 | 08 R219 | none -/
  lastSent : Option Nat := none
  /-- changes not yet applied everywhere | list | 08 R220 | empty -/
  armed : List ArmedChange := []
  /-- P-state each package has applied | 8 x 5 | 08 R222 | 31 -/
  applied : List Nat := List.replicate 8 31
  /-- chg_seq of the latest change that each package reports applied since it entered ACC_ON | 8 x 32 | 08 R210, R222 | none -/
  appliedSeq : List (Option Nat) := List.replicate 8 none
  /-- changes sent that a package's report may still name, with their P-states, oldest first | list | 08 R210; 13 R370 | empty -/
  history : List (Nat × Nat) := []
  /-- waiting ceiling, held while four changes are unapplied | 5 | 08 R220 | none -/
  waiting : Option Nat := none
  /-- faster change awaiting voltages | record | 08 R222 | none -/
  faster : Option FasterChange := none
  /-- GT of the last acknowledgement of a raising voltage write | 64 | 08 R222 | none -/
  raiseAckGt : Option Nat := none
  /-- raises not yet acknowledged | list of rails | 08 R222 | empty -/
  raises : List Nat := []
  /-- moves held because a program owns the rail | list of (rail, mV) | 01 R31 | empty -/
  heldMoves : List (Nat × Nat) := []
  /-- requests of output registers 0-15 that CAPL took at the last boundary | 16 x s32 | 09 R231 | none -/
  pe : List (Option Int) := List.replicate 16 none
  /-- adj per branch 0-7, mW | 8 x s32 | 08 R213 | 0 -/
  adj : List Int := List.replicate 8 0
  /-- meas per branch 0-11, mW | 12 x s32 | 08 R213; 09 R232 | 0 -/
  meas : List Int := List.replicate 12 0
  /-- tray_adj of the last control tick, mW | s64 | 08 R213 | 0 -/
  trayAdj : Int := 0
  /-- prediction at cap_ceil, mW | s64 | 08 R228 | 0 -/
  predMw : Int := 0
  /-- consecutive control ticks unmet at P31 | 16 | 08 R216 | 0 -/
  unmet : Nat := 0
  /-- GT of the last 0x0407 | 64 | 08 R216 | none -/
  unmetGt : Option Nat := none
  /-- the cap whose limit is unmet: 0 tray, 1 feed A, 2 feed B | 2 | 08 R216 | 0 -/
  unmetCap : Nat := 0
  /-- the next loop treats q as one slower | 1 | 08 R217 | false -/
  slower : Bool := false
  /-- sums of branch current samples over each of the last 20 control ticks, µA, newest first | 12 lists | 08 R217 | empty -/
  iHist : List (List Int) := List.replicate 12 []
  /-- sum of branch current samples of the control tick in progress, µA | 12 x s64 | 08 R217 | 0 -/
  iAcc : List Int := List.replicate 12 0
  /-- energy of branches 0-11 over the control tick in progress, µV·µA·µs | 12 x s128 | 08 R213 | 0 -/
  eAll : List Int := List.replicate 12 0
  /-- the part of it of branches 0-7 in ticks that do not wait | 8 x s128 | 08 R213 | 0 -/
  eAct : List Int := List.replicate 8 0
  /-- ticks that do not wait | 8 x 6 | 08 R213 | 0 -/
  tAct : List Nat := List.replicate 8 0
  /-- waiting ticks of the control tick in progress | 8 x 6 | 08 R213; 09 R232 | 0 -/
  tWait : List Nat := List.replicate 8 0
  /-- alert mask | 16 | 08 R225 | 0 -/
  alertMask : BitVec 16 := 0
  /-- VR_ALERT_N lines low | 16 | 08 R225 | 0 -/
  alertLow : BitVec 16 := 0
  /-- throttle and release sequence | tagged | 08 R226 | none -/
  throttle : ThrottlePhase := .none
  /-- TRAY_SLOW_N pulled low by this governor | 1 | 08 R225 | false -/
  slow : Bool := false
  /-- GT at which the throttle began | 64 | 08 R226 | 0 -/
  slowGt : Nat := 0
  /-- GT since which every enabled alert line is high | 64 | 08 R226 | none -/
  highSince : Option Nat := none
  /-- TRAY_SLOW_N low time since power-on reset, saturating | 32 | 08 R228 | 0 -/
  slowUs : Nat := 0
  /-- alert lines that fell with TRAY_SLOW_N, whose event the next tick records | 16 | 08 R225 | 0 -/
  alertSay : BitVec 16 := 0
  /-- TRAY_SLOW_N reads low, whichever governor pulls it | 1 | 08 R225 | false -/
  slowNet : Bool := false
  /-- GT of the last control tick boundary | 64 | 00 Conventions; 08 R210 | none -/
  ctlGt : Option Nat := none
  deriving DecidableEq, Repr, Inhabited

/-- One tensor of a model container (chapter 09, Tensor entry), with its bytes of the data area. -/
structure Tensor where
  /-- kind 0-5 | 8 | 09 Tensor entry | 0 -/
  kind : Nat := 0
  /-- flags | 8 | 09 Tensor entry | 0 -/
  flags : BitVec 8 := 0
  /-- rows | 16 | 09 Tensor entry | 0 -/
  rows : Nat := 0
  /-- cols | 16 | 09 Tensor entry | 0 -/
  cols : Nat := 0
  /-- e_ref | s8 | 09 R236 | 0 -/
  eRef : Int := 0
  /-- bytes in the data area | list | 09 Tensor entry | empty -/
  data : List Byte := []
  deriving DecidableEq, Repr, Inhabited

/-- One operation of a model container (chapter 09, Operation entry). -/
structure ModelOp where
  /-- code | 8 | 09 R241 | 0 -/
  op : Nat := 0
  /-- flags | 8 | 09 Operation entry | 0 -/
  flags : BitVec 8 := 0
  /-- dst tensor | 16 | 09 Operation entry | 0xFFFF -/
  dst : Nat := 65535
  /-- a tensor | 16 | 09 Operation entry | 0xFFFF -/
  a : Nat := 65535
  /-- b tensor | 16 | 09 Operation entry | 0xFFFF -/
  b : Nat := 65535
  /-- w tensor | 16 | 09 Operation entry | 0xFFFF -/
  w : Nat := 65535
  /-- p0 to p4 | 5 x s32 | 09 Operation entry | 0 -/
  p : List Int := [0, 0, 0, 0, 0]
  deriving DecidableEq, Repr, Inhabited

/-- A parsed model container (chapter 09). -/
structure Container where
  /-- kind: 0 policy, 1 advisory | 8 | 09 Container header | 0 -/
  kind : Nat := 0
  /-- worst-case cycles | 32 | 09 R243 | 0 -/
  cycles : Nat := 0
  /-- state_bytes | 32 | 09 Container header | 0 -/
  stateBytes : Nat := 0
  /-- loaded size in bytes | 32 | 09 R250 | 0 -/
  size : Nat := 0
  /-- tensors | list | 09 Tensor entry | empty -/
  tensors : List Tensor := []
  /-- operations | list | 09 Operation entry | empty -/
  ops : List ModelOp := []
  deriving DecidableEq, Repr, Inhabited

/-- The states of a model slot (R258). -/
inductive SlotPhase where
  | empty | loaded | running
  deriving DecidableEq, Repr, Inhabited

/-- A model slot's record in the settings area and its container in the model area of FLASH1 (R251). -/
structure StoredModel where
  /-- container | record | 09 R251 | empty -/
  cont : Container := {}
  /-- object as the verifier finds it | record | 04 R101 | erased -/
  obj : ObjectImage := {}
  /-- autostart flag | 1 | 09 R251 | false -/
  autostart : Bool := false
  deriving DecidableEq, Repr, Inhabited

/-- One model slot (R230, R258). -/
structure ModelSlot where
  /-- state | 2 | 09 R258 | empty -/
  phase : SlotPhase := .empty
  /-- container loaded in the model store | record | 09 R251 | empty -/
  cont : Container := {}
  /-- manifest version | 32 | 09 R258 | 0 -/
  version : Nat := 0
  /-- manifest digest | 384 | 09 R258 | 0 -/
  digest : BitVec 384 := 0
  /-- autostart | 1 | 09 R258 | false -/
  autostart : Bool := false
  /-- runs since start | 64 | 09 R258 | 0 -/
  runs : Nat := 0
  /-- ADV0-ADV7 of the latest run, none for not written | 8 x s32 | 09 R245 | none -/
  adv : List (Option Int) := List.replicate 8 none
  /-- state region | bytes | 09 R241 | empty -/
  region : List Byte := []
  /-- start (true) or stop (false) pending for the next boundary | 2 | 09 R259 | none -/
  pend : Option Bool := none
  /-- the slot is reloaded after an uncorrectable error and restarts at the next boundary | 1 | 09 R257 | false -/
  restart : Bool := false
  deriving DecidableEq, Repr, Inhabited

/-- One phase table entry (R247). -/
structure PhaseEntry where
  /-- p0_mw | 32 | 09 R247 | 0 -/
  p0Mw : Int := 0
  /-- dur_q4 | 32 | 09 R247 | 0 -/
  durQ4 : Int := 0
  /-- count | 16 | 09 R247 | 0 -/
  count : Nat := 0
  /-- succ, 0xFF unknown | 8 | 09 R247 | 0 -/
  succ : Nat := 0
  /-- p_valid | 1 | 09 R247 | false -/
  pValid : Bool := false
  deriving DecidableEq, Repr, Inhabited

/-- The phase accumulators of one package (R248, R249). -/
structure PhaseAcc where
  /-- cur, -1 for none | s32 | 09 R249 | -1 -/
  cur : Int := -1
  /-- m | 32 | 09 R248 | 0 -/
  m : Nat := 0
  /-- mc | 32 | 09 R248 | 0 -/
  mc : Nat := 0
  /-- s | s64 | 09 R248 | 0 -/
  s : Int := 0
  deriving DecidableEq, Repr, Inhabited

/-- One decision record (R254): a run, or a marker of a commit, start or stop. -/
structure DecisionRecord where
  /-- marker record | 1 | 09 R254 | false -/
  marker : Bool := false
  /-- running slots | 8 | 09 R254 | 0 -/
  models : BitVec 8 := 0
  /-- flags | 16 | 09 R254 | 0 -/
  flags : BitVec 16 := 0
  /-- boot count | 16 | 09 R254 | 0 -/
  boot : Nat := 0
  /-- frame number | 64 | 09 R254 | 0 -/
  frameNo : Nat := 0
  /-- OWNER's GT at capture | 64 | 09 R254 | 0 -/
  gt : Nat := 0
  /-- highest reported step | 64 | 09 R254 | 0 -/
  step : Nat := 0
  /-- cycles used | 32 | 09 R254 | 0 -/
  cycles : Nat := 0
  /-- registers 0-15 written | 16 | 09 R254 | 0 -/
  written : BitVec 16 := 0
  /-- input frame, or slot, action and digest of a marker | 1024 bytes | 09 R254 | empty -/
  frame : List Int := []
  /-- marker: slot | 8 | 09 R254 | 0 -/
  mSlot : Nat := 0
  /-- marker: action, 1 commit 2 start 3 stop | 8 | 09 R254 | 0 -/
  mAction : Nat := 0
  /-- marker: manifest digest | 384 | 09 R254 | 0 -/
  mDigest : BitVec 384 := 0
  /-- registers 0-15 as stored | 16 x s32 | 09 R254 | none -/
  out : List (Option Int) := []
  /-- chain | 384 | 09 R254 | empty -/
  chain : List Byte := []
  deriving DecidableEq, Repr, Inhabited

/-- One snapshot (R255). -/
structure Snapshot where
  /-- boot count | 16 | 09 R255 | 0 -/
  boot : Nat := 0
  /-- first frame it applies to | 64 | 09 R255 | 0 -/
  frameNo : Nat := 0
  /-- GT | 64 | 09 R255 | 0 -/
  gt : Nat := 0
  /-- chain of the record before | 384 | 09 R255 | empty -/
  chain : List Byte := []
  /-- slot states and digests | 8 entries | 09 R255 | empty -/
  models : List (Nat × BitVec 384) := []
  /-- phase table, listed where learned | 32,768 bytes | 09 R255 | empty -/
  table : List (Nat × PhaseEntry) := []
  /-- accumulators | 8 entries | 09 R255 | empty -/
  acc : List PhaseAcc := []
  /-- state regions of the running slots | bytes | 09 R255 | empty -/
  regions : List (List Byte) := []
  deriving DecidableEq, Repr, Inhabited

/-- The phase engine (chapter 09). -/
structure PhaseState where
  /-- model slots | 8 slots | 09 R230 | empty -/
  slots : List ModelSlot := List.replicate 8 {}
  /-- slots in the order in which their models were last loaded | list | 04 R107 | empty -/
  order : List Nat := []
  /-- settings-area record and flash container per slot | 8 records | 09 R251 | none -/
  stored : List (Option StoredModel) := List.replicate 8 none
  /-- slots recorded are still to be loaded after this reset | 1 | 09 R252 | false -/
  loadPending : Bool := false
  /-- staged container with its slot and flags | image | 09 R251 | none -/
  staging : Option (Nat × Bool × Mem) := none
  /-- output registers 0-15 as stored by the last run, none for no request | 16 x s32 | 09 R245 | none -/
  regs : List (Option Int) := List.replicate 16 none
  /-- output registers 0-15 as latched after the clamp | 16 x s32 | 09 R245 | none -/
  latched : List (Option Int) := List.replicate 16 none
  /-- a run is in progress on the frame below | 1 | 09 R231 | false -/
  inRun : Bool := false
  /-- latest input frame | 256 x s32 | 09 R232 | empty -/
  frame : List Int := []
  /-- GT at which the frame was captured | 64 | 09 R254 | 0 -/
  frameGt : Nat := 0
  /-- highest reported step at capture | 64 | 09 R254 | 0 -/
  frameStep : Nat := 0
  /-- frame number of the next frame | 64 | 09 R254 | 0 -/
  frameNo : Nat := 0
  /-- the run in progress is void | 1 | 09 R257 | false -/
  void : Bool := false
  /-- phase table, listed by n × 256 + phase where not zero, index rising | 2048 entries | 09 R247 | 0 -/
  table : List (Nat × PhaseEntry) := []
  /-- phase accumulators | 8 entries | 09 R249 | cur -1 -/
  acc : List PhaseAcc := List.replicate 8 {}
  /-- k_p | 4 | 09 R248 | 3 -/
  kp : Nat := 3
  /-- k_d | 4 | 09 R248 | 2 -/
  kd : Nat := 2
  /-- TRAY_SLOW_N low at any time in the tick in progress | 1 | 09 R232 | false -/
  slowInTick : Bool := false
  /-- P-state in force changed in the tick in progress | 1 | 09 R232 | false -/
  pChanged : Bool := false
  /-- packages in ACC_ON through the whole tick in progress | 8 | 09 R248 | 0 -/
  onAllTick : BitVec 8 := 0
  /-- waiting ticks per branch of the tick just ended | 8 x 6 | 09 R232 | 0 -/
  waits : List Nat := List.replicate 8 0
  /-- decision ring, oldest first | list | 09 R254 | empty -/
  ring : List DecisionRecord := []
  /-- capacity of the decision ring in records | 32 | 09 R254 | 883011 (1 GiB) -/
  ringCap : Nat := 883011
  /-- snapshots, oldest first | list | 09 R255 | empty -/
  snaps : List Snapshot := []
  /-- chain of the last record | 384 | 09 R254 | 48 zero bytes -/
  chain : List Byte := List.replicate 48 0
  /-- a snapshot is due before the next run | 1 | 09 R255 | true -/
  snapDue : Bool := true
  /-- frame number that a snapshot last carried | 64 | 09 R255 | 0 -/
  lastSnap : Nat := 0
  /-- slots marked autostart wait for the next boundary | 1 | 09 R252 | false -/
  autoDue : Bool := false
  /-- output digest received for a frame that this governor has not run | record | 09 R253 | none -/
  partnerDigest : Option (Nat × List Byte) := none
  /-- SHA-384 of the output registers of the last run | 384 | 09 R253 | empty -/
  digest : List Byte := []
  /-- frame number of that digest | 64 | 09 R253 | 0 -/
  digestFrame : Nat := 0
  deriving DecidableEq, Repr, Inhabited

/-- Level entry of a sensor group (R265). -/
structure ThermLevel where
  /-- warn, 0.1 °C | s16 | 10 R265 | 0 -/
  warn : Int := 0
  /-- throttle, 0.1 °C | s16 | 10 R265 | 0 -/
  throttle : Int := 0
  /-- critical, 0.1 °C | s16 | 10 R265 | 0 -/
  critical : Int := 0
  /-- hyst, 0.1 °C | 8 | 10 R265 | 20 -/
  hyst : Nat := 20
  /-- count | 8 | 10 R265 | 3 -/
  count : Nat := 3
  deriving DecidableEq, Repr, Inhabited

/-- The default level entries of groups 0 to 26, each with a hysteresis of 2.0 °C and a count of 3 (R263). -/
def defaultLevels : List ThermLevel :=
  [{ warn := 950, throttle := 1000, critical := 1100 }, { warn := 850, throttle := 950, critical := 1050 }, { warn := 800, throttle := 850, critical := 950 }]
    ++ List.replicate 16 { warn := 850, throttle := 950, critical := 1050 } ++ List.replicate 8 { warn := 400, throttle := 500, critical := 600 }

/-- The thermal states of a sensor (R266). -/
inductive SensorPhase where
  | normal | warn | advisory | enforced
  deriving DecidableEq, Repr, Inhabited

/-- One temperature sensor (R263-R267). -/
structure Sensor where
  /-- active, as of the last tick | 1 | 10 R263 | false -/
  active : Bool := false
  /-- state | 2 | 10 R266 | NORMAL -/
  phase : SensorPhase := .normal
  /-- latest reading, 0.1 °C, none before the first | s16 | 10 R264 | none -/
  x : Option Int := none
  /-- GT of the latest reading, or of becoming active | 64 | 10 R264 | 0 -/
  gt : Nat := 0
  /-- stale | 1 | 10 R264 | false -/
  stale : Bool := false
  /-- consecutive readings at or above warn | 5 | 10 R266 | 0 -/
  nWarn : Nat := 0
  /-- consecutive readings at or above throttle | 5 | 10 R266 | 0 -/
  nThr : Nat := 0
  /-- consecutive readings at or above critical | 5 | 10 R266 | 0 -/
  nCrit : Nat := 0
  /-- consecutive readings below throttle less hysteresis | 5 | 10 R266 | 0 -/
  nExitT : Nat := 0
  /-- consecutive readings below warn less hysteresis | 5 | 10 R266 | 0 -/
  nExitW : Nat := 0
  /-- GT at which the grace timer started | 64 | 10 R267 | none -/
  grace : Option Nat := none
  /-- GT at which the sensor last left ENFORCED | 64 | 10 R267 | none -/
  leftEnf : Option Nat := none
  deriving DecidableEq, Repr, Inhabited

/-- The grade of a leak zone or float (R279). -/
inductive LeakGrade where
  | dry | wet | confirmed | opened
  deriving DecidableEq, Repr, Inhabited

/-- A leak zone or float sensor (R279). -/
structure LeakZone where
  /-- grade | 2 | 10 R279; 18 R480 | OPEN for a zone, DRY for a float -/
  grade : LeakGrade := .dry
  /-- read since reset | 1 | 18 R480 | false -/
  seen : Bool := false
  /-- consecutive WET readings | 16 | 10 R279 | 0 -/
  wetRun : Nat := 0
  /-- GT since which it reads DRY | 64 | 10 R281 | none -/
  drySince : Option Nat := none
  deriving DecidableEq, Repr, Inhabited

/-- A fan or pump (R273-R275). -/
structure Mover where
  /-- named as used in the configuration block | 1 | 10 R283 | false -/
  used : Bool := false
  /-- min_rpm | 16 | 10 R283 | 1000 -/
  minRpm : Nat := 1000
  /-- tach pulses, two a revolution, that the last 500 ms window counted | 16 | 10 R275 | 0 -/
  pulses : Nat := 0
  /-- failed | 1 | 10 R275 | false -/
  failed : Bool := false
  /-- GT since which duty is at least 30 % and speed below min_rpm | 64 | 10 R275 | none -/
  slowSince : Option Nat := none
  /-- GT since which speed is at least min_rpm | 64 | 10 R275 | none -/
  fastSince : Option Nat := none
  /-- manual override, percent | 8 | 10 R274 | none -/
  override : Option Nat := none
  /-- granted duty, percent | 8 | 10 R274 | 100 (18 R473) -/
  duty : Nat := 100
  deriving DecidableEq, Repr, Inhabited

/-- The speed in rpm: half a revolution per pulse, over half a second (R275). -/
def Mover.rpm (m : Mover) : Nat := 60 * m.pulses

/-- A valve (R276). -/
structure Valve where
  /-- named as used in the configuration block | 1 | 10 R283 | false -/
  used : Bool := false
  /-- COOL's request is open | 1 | 10 R276 | false -/
  request : Bool := false
  /-- manual close override | 1 | 10 R284 | false -/
  override : Bool := false
  /-- own drive released (open) | 1 | 10 R282 | false -/
  released : Bool := false
  /-- net read high in the last tick | 1 | 10 R278 | false -/
  netHigh : Bool := false
  deriving DecidableEq, Repr, Inhabited

/-- A control loop of COOL (R273). -/
structure CoolLoop where
  /-- target | s16 | 10 R283 | 100 pump, -100 fan -/
  target : Int := 0
  /-- kp | 16 | 10 R283 | 512 -/
  kp : Nat := 512
  /-- ki | 16 | 10 R283 | 16 -/
  ki : Nat := 16
  /-- d0, percent | 8 | 10 R283 | 40 -/
  d0 : Nat := 40
  /-- i_max | 32 | 10 R283 | 20000 -/
  iMax : Nat := 20000
  /-- integrator | s32 | 10 R273 | 0 -/
  integ : Int := 0
  /-- duty the loop requests, none for no request | 8 | 10 R273 | none -/
  request : Option Nat := none
  deriving DecidableEq, Repr, Inhabited

/-- Cooling, thermal control and leaks (chapter 10). -/
structure CoolState where
  /-- sensors 0-343 | 344 sensors | 10 R263 | NORMAL -/
  sensors : List Sensor := List.replicate 344 {}
  /-- DDR5 modules, board diodes and coolant points named as used, by sensor number 256-343 | 88 | 10 R263 | 0 -/
  usedCfg : BitVec 344 := 0
  /-- level entries in force | 27 entries | 10 R263, R265 | the defaults of R263 -/
  levels : List ThermLevel := defaultLevels
  /-- level entries of the configuration block | 27 entries | 10 R263, R265 | the defaults of R263 -/
  cfgLevels : List ThermLevel := defaultLevels
  /-- grace time, ms | 16 | 10 R267 | 2000 -/
  graceMs : Nat := 2000
  /-- th | 5 | 10 R268 | 0 -/
  th : Nat := 0
  /-- k | 16 | 10 R268 | 0 -/
  k : Nat := 0
  /-- was_enforced | 1 | 10 R268 | false -/
  wasEnforced : Bool := false
  /-- the STANDBY's th as mirrored | 5 | 10 R282 | 0 -/
  partnerTh : Nat := 0
  /-- GT of the control tick boundary at which th was last formed | 64 | 10 R268 | none -/
  thermGt : Option Nat := none
  /-- fans 0-15 | 16 fans | 10 R275 | unused -/
  fans : List Mover := List.replicate 16 {}
  /-- pumps 0-3 | 4 pumps | 10 R275 | unused -/
  pumps : List Mover := List.replicate 4 {}
  /-- valves 0-3 | 4 valves | 10 R276 | closed -/
  valves : List Valve := List.replicate 4 {}
  /-- fan loop | record | 10 R273 | target -100 -/
  fanLoop : CoolLoop := { target := -100 }
  /-- pump loop | record | 10 R273 | target 100 -/
  pumpLoop : CoolLoop := { target := 100 }
  /-- GT of the last loop evaluation | 64 | 10 R273 | none -/
  loopGt : Option Nat := none
  /-- coolant point roles, 0 unused 1 inlet 2 outlet | 8 x 2 | 10 R283 | 0 -/
  roles : List Nat := List.replicate 8 0
  /-- flow meters used | 4 | 10 R283 | 0 -/
  metersUsed : BitVec 4 := 0
  /-- k_factor per flow meter | 4 x 16 | 10 R283 | 400 -/
  kFactor : List Nat := List.replicate 4 400
  /-- total flow of the last 100 ms, 0.01 L/min | 32 | 10 R277 | 0 -/
  flow : Nat := 0
  /-- flow_min, L/min | 16 | 10 R283 | 40 -/
  flowMin : Nat := 40
  /-- GT since which flow is below flow_min under supervision | 64 | 10 R277 | none -/
  flowLowSince : Option Nat := none
  /-- GT since which flow is at or above flow_min in the low-flow state | 64 | 10 R277 | none -/
  flowOkSince : Option Nat := none
  /-- low-flow state entered at this GT, th held at 31 | 64 | 10 R277 | none -/
  flowLow : Option Nat := none
  /-- the low-flow power-down has been requested | 1 | 10 R277 | false -/
  flowPd : Bool := false
  /-- pressures 0 and 1 as means over the last whole ms, kPa | 2 x 16 | 10 R277 | 0 -/
  press : List Nat := [0, 0]
  /-- sum and number of the pressure samples of the ms in progress, kPa | 2 x (32 + 16) | 10 R277 | 0 -/
  pressAcc : List (Nat × Nat) := [(0, 0), (0, 0)]
  /-- this governor drives the PWM outputs of fans and pumps; released, they read 100 % | 1 | 10 R282 | false -/
  pwmDriven : Bool := false
  /-- p_min, kPa | 16 | 10 R283 | 50 -/
  pMin : Nat := 50
  /-- p_max, kPa | 16 | 10 R283 | 400 -/
  pMax : Nat := 400
  /-- GT since which each pressure is out of range | 2 x 64 | 10 R277 | none -/
  pressSince : List (Option Nat) := [none, none]
  /-- pressure event recorded for the present excursion | 2 | 10 R277 | false -/
  pressSaid : List Bool := [false, false]
  /-- leak zones 0-7 and floats 0-1 | 10 zones | 10 R279 | OPEN and DRY -/
  zones : List LeakZone := List.replicate 8 ({ grade := .opened } : LeakZone) ++ List.replicate 2 ({} : LeakZone)
  /-- zones and floats used | 10 | 10 R283 | 0 -/
  zonesUsed : BitVec 10 := 0
  /-- valves held closed by the leak response | 1 | 10 R280 | false -/
  valveHold : Bool := false
  deriving DecidableEq, Repr, Inhabited

/-- Calibration of one metering channel (R288). -/
structure Calib where
  /-- offset | s32 | 11 R288 | 0 until configured -/
  offset : Int := 0
  /-- gain | 32 | 11 R288 | 0 until configured -/
  gain : Nat := 0
  deriving DecidableEq, Repr, Inhabited

/-- The settings of an epoch (R289). -/
structure LedgerSettings where
  /-- interim interval, s | 16 | 11 R298 | 60 -/
  interimS : Nat := 60
  /-- overhead policy SPREAD | 1 | 11 R295 | false -/
  ohSpread : Bool := false
  /-- residual policy SPREAD | 1 | 11 R295 | false -/
  resSpread : Bool := false
  /-- w_stale | 16 | 11 R316 | 3000 -/
  wStale : Nat := 3000
  /-- w_off | 16 | 11 R316 | 100 -/
  wOff : Nat := 100
  /-- calibration of channels feed 0-3, branch 0-23 | 28 entries | 11 R289 | 0 until configured -/
  calib : List Calib := List.replicate 28 {}
  deriving DecidableEq, Repr, Inhabited

/-- A tag report in effect (R291, R292). -/
structure TagInEffect where
  /-- entries of tag and weight | at most 4 | 11 R291 | empty -/
  ent : List (Nat × Nat) := []
  /-- GT of arrival | 64 | 11 R292 | 0 -/
  gt : Nat := 0
  deriving DecidableEq, Repr, Inhabited

/-- Attribution state of one die (R292). -/
structure DieTag where
  /-- report in effect since ACC_ON | record | 11 R292 | none -/
  report : Option TagInEffect := none
  /-- last accepted tag rseq since the comparison restarted | 32 | 11 R292 | none -/
  rseq : Option Nat := none
  /-- GT up to which its contribution is accumulated | 64 | 11 R294 | 0 -/
  upTo : Nat := 0
  /-- the staleness has been recorded | 1 | 11 R292 | false -/
  staleSaid : Bool := false
  deriving DecidableEq, Repr, Inhabited

/-- The states of a tag account (R297). -/
inductive AccountPhase where
  | openPending | open_ | closePending
  deriving DecidableEq, Repr, Inhabited

/-- An account (R296, R300): a tag account, or one of the three special accounts or the feed total. -/
structure Account where
  /-- slot | 32 | 11 R296 | 0 -/
  slot : Nat := 0
  /-- tag | 64 | 11 R296 | 0 -/
  tag : Nat := 0
  /-- state | 2 | 11 R297 | open -/
  phase : AccountPhase := .open_
  /-- C, nJ | s96 | 11 R294 | 0 -/
  c : Int := 0
  /-- second from which the next record begins | 32 | 11 R305 | 0 -/
  fromS : Nat := 0
  /-- e_total_uj of the previous record | s64 | 11 R300 | 0 -/
  lastUj : Int := 0
  /-- C at the previous record | s96 | 11 R298 | 0 -/
  lastC : Int := 0
  /-- record flags gathered since the previous record (bits 2-5, 7) | 8 | 11 Record flags | 0 -/
  flags : BitVec 8 := 0
  /-- port of the pending command | 8 | 11 R317 | 0 -/
  port : Nat := 0
  /-- second at which the pending change takes effect | 32 | 11 R297 | 0 -/
  effective : Nat := 0
  deriving DecidableEq, Repr, Inhabited

/-- A ledger record's body (R299, R303), which its journal entry holds. -/
structure LedgerRecord where
  /-- kind | 8 | 11 Record kinds | 0 -/
  kind : Nat := 0
  /-- class | 8 | 11 R299 | 0 -/
  cls : Nat := 0
  /-- flags | 8 | 11 Record flags | 0 -/
  flags : BitVec 8 := 0
  /-- lsess | 16 | 11 R299 | 0 -/
  lsess : Nat := 0
  /-- epoch | 16 | 11 R299 | 0 -/
  epoch : Nat := 0
  /-- rec_seq | 64 | 11 R299 | 0 -/
  recSeq : Nat := 0
  /-- tag | 64 | 11 R299 | 0 -/
  tag : Nat := 0
  /-- tick_first | 64 | 11 R299 | 0 -/
  tickFirst : Nat := 0
  /-- tick_last | 64 | 11 R299 | 0 -/
  tickLast : Nat := 0
  /-- C, nJ | s96 | 11 R303 | 0 -/
  c : Int := 0
  /-- e_uj | s64 | 11 R300 | 0 -/
  eUj : Int := 0
  /-- aux | 32 | 11 R299 | 0 -/
  aux : Nat := 0
  /-- epoch digest | 384 | 11 R299 | empty -/
  epochDigest : List Byte := []
  /-- prev_hash | 384 | 11 R299 | empty -/
  prevHash : List Byte := []
  deriving DecidableEq, Repr, Inhabited

/-- A signed record in the export queue (R313). -/
structure SignedRecord where
  /-- body | 176 bytes | 11 R299 | 0 -/
  body : LedgerRecord := {}
  /-- serial of the signer | 128 | 11 R299 | 0 -/
  serial : BitVec 128 := 0
  /-- gt_signed | 64 | 11 R299 | 0 -/
  gtSigned : Nat := 0
  /-- sig | 96 bytes | 11 R299 | empty -/
  sig : List Byte := []
  deriving DecidableEq, Repr, Inhabited

/-- A checkpoint with its slots (R305). -/
structure Checkpoint where
  /-- valid magic and hashes | 1 | 11 R305 | false -/
  valid : Bool := false
  /-- lsess | 16 | 11 R305 | 0 -/
  lsess : Nat := 0
  /-- epoch | 16 | 11 R305 | 0 -/
  epoch : Nat := 0
  /-- cp_seq | 64 | 11 R305 | 0 -/
  cpSeq : Nat := 0
  /-- second | 32 | 11 R305 | 0 -/
  second : Nat := 0
  /-- head_seq | 64 | 11 R305 | 0 -/
  headSeq : Nat := 0
  /-- chain_head | 384 | 11 R305 | empty -/
  chainHead : List Byte := []
  /-- f_nj | s96 | 11 R305 | 0 -/
  fNj : Int := 0
  /-- ovf | 8 | 11 R305 | false -/
  ovf : Bool := false
  /-- special accounts | 3 slots | 11 R305 | 0 -/
  specials : List Account := []
  /-- tag slots in use | N slots | 11 R305 | empty -/
  slots : List Account := []
  deriving DecidableEq, Repr, Inhabited

/-- The journal header in force (R304). -/
structure JournalHeader where
  /-- valid magic and hash | 1 | 11 R304 | false -/
  valid : Bool := false
  /-- size_mbit | 16 | 11 R304 | 0 -/
  sizeMbit : Nat := 0
  /-- gen | 32 | 11 R304 | 0 -/
  gen : Nat := 0
  /-- lsess | 16 | 11 R304 | 0 -/
  lsess : Nat := 0
  /-- base_seq | 64 | 11 R304 | 0 -/
  baseSeq : Nat := 0
  /-- base_hash | 384 | 11 R304 | empty -/
  baseHash : List Byte := []
  /-- epochs, newest first, at most 64 | 64 entries | 11 R304 | empty -/
  epochs : List (Nat × List Byte) := []
  deriving DecidableEq, Repr, Inhabited

/-- The power-loss entry (R309). -/
structure PowerLoss where
  /-- lsess | 16 | 11 R309 | 0 -/
  lsess : Nat := 0
  /-- cp_seq | 64 | 11 R309 | 0 -/
  cpSeq : Nat := 0
  /-- tick | 64 | 11 R309 | 0 -/
  tick : Nat := 0
  /-- ea_nj | s64 | 11 R309 | 0 -/
  eaNj : Int := 0
  /-- eb_nj | s64 | 11 R309 | 0 -/
  ebNj : Int := 0
  deriving DecidableEq, Repr, Inhabited

/-- The journal device (R302), apart from its trip area. -/
structure JournalDevice where
  /-- device size in Mbit, 0 when absent | 16 | 11 R296 | as fitted (model: 64) -/
  sizeMbit : Nat := 64
  /-- reads entirely erased | 1 | 11 R311 | true -/
  erased : Bool := true
  /-- header in force | 4 KiB x 2 | 11 R304 | as left (model: erased) -/
  header : JournalHeader := {}
  /-- the header copy not in force | 4 KiB | 11 R304 | as left (model: erased) -/
  oldHeader : JournalHeader := {}
  /-- checkpoints, newest first, at most 2 | 2 copies | 11 R305 | as left (model: erased) -/
  cps : List Checkpoint := []
  /-- power-loss area | entry | 11 R309 | as left (model: none) -/
  powerLoss : Option PowerLoss := none
  /-- entry ring, rec_seq rising | E entries | 11 R303 | as left (model: empty) -/
  ring : List LedgerRecord := []
  deriving DecidableEq, Repr, Inhabited

/-- One ledger tick of branch and feed energy with its weights, waiting for ATTR (R27, R294). -/
structure TickWork where
  /-- feed energies, nJ | 2 x s64 | 11 R288 | 0 -/
  feed : List Int := []
  /-- branch energies, nJ | 12 x s64 | 11 R288 | 0 -/
  branch : List Int := []
  /-- per branch 0-7, weights by tag | lists | 11 R294 | empty -/
  w : List (List (Nat × Nat)) := []
  deriving DecidableEq, Repr, Inhabited

/-- How the ledger stands (R316 JOURNAL_STATUS). -/
inductive JournalPhase where
  | normal | failed | absent
  deriving DecidableEq, Repr, Inhabited

/-- The energy ledger (chapter 11). -/
structure LedgerState where
  /-- settings of the epoch in force | record | 11 R289 | defaults -/
  cfg : LedgerSettings := {}
  /-- settings taking effect at the next ledger second with the port | record | 11 R316 | none -/
  nextCfg : Option (LedgerSettings × Nat) := none
  /-- second at which they take effect | 32 | 11 R316 | 0 -/
  nextCfgAt : Nat := 0
  /-- epoch number | 16 | 11 R289 | 0 -/
  epoch : Nat := 0
  /-- fine accumulators of feeds A and B | 2 x s128 | 11 R288 | 0 -/
  fineFeed : List Int := [0, 0]
  /-- fine accumulators of branches 0-11 | 12 x s128 | 11 R288 | 0 -/
  fineBranch : List Int := List.replicate 12 0
  /-- feed energy since the last checkpoint, nJ | 2 x s64 | 11 R309, R310 | 0 -/
  feedSince : List Int := [0, 0]
  /-- feed energy metered and not yet credited in the chain, nJ | s64 | 11 R290 | 0 -/
  uncredited : Int := 0
  /-- the genesis or restore of this start has completed | 1 | 11 R290, R310, R311 | false -/
  begun : Bool := false
  /-- tick 0 of the session has begun | 1 | 11 R290 | false -/
  inSession : Bool := false
  /-- GT of the last ledger tick boundary drawn | 64 | 11 R290 | none -/
  tickGt : Option Nat := none
  /-- ledger second whose boundary was last completed | 32 | 11 R306 | 0 -/
  second : Nat := 0
  /-- lsess | 16 | 11 R290 | 0 -/
  lsess : Nat := 0
  /-- next ledger tick L of the session | 64 | 11 R290 | 0 -/
  l : Nat := 0
  /-- attribution state of dies 0-63 | 64 dies | 11 R292 | none -/
  dies : List DieTag := List.replicate 64 {}
  /-- weights of the tick in progress per branch 0-7, by tag | lists | 11 R294 | empty -/
  w : List (List (Nat × Nat)) := List.replicate 8 []
  /-- ticks waiting for ATTR, at most 1,024 | list | 01 R27 | empty -/
  queue : List TickWork := []
  /-- tag accounts, slot rising; slot 0 idle | list | 11 R296 | idle only -/
  accounts : List Account := [{}]
  /-- overhead account | record | 11 R296 | 0 -/
  overhead : Account := {}
  /-- residual account | record | 11 R296 | 0 -/
  residual : Account := {}
  /-- overflow account | record | 11 R296 | 0 -/
  overflow : Account := {}
  /-- f_total with the previous TOTAL record | record | 11 R294 | 0 -/
  total : Account := {}
  /-- overflow active | 1 | 11 R308 | false -/
  ovf : Bool := false
  /-- head_seq, next rec_seq | 64 | 11 R305 | 0 -/
  head : Nat := 0
  /-- hash of the body of record head_seq - 1 | 384 | 11 R305 | zero -/
  chainHead : List Byte := List.replicate 48 0
  /-- cp_seq of the last checkpoint | 64 | 11 R305 | 0 -/
  cpSeq : Nat := 0
  /-- records released to signing and not yet signed, with release GT, rec_seq rising | list | 11 R312 | empty -/
  unsigned_ : List (LedgerRecord × Nat) := []
  /-- export queue in DDR5, rec_seq rising | list | 11 R313 | empty -/
  export_ : List SignedRecord := []
  /-- the signing backlog has been recorded | 1 | 11 R312 | false -/
  backlogSaid : Bool := false
  /-- journal state | 2 | 11 R316 | normal -/
  journal : JournalPhase := .normal
  /-- the device's read-backs fail, after a rewrite too, as of the last tick (an input that the model holds) | 1 | 11 R311 | false -/
  badReads : Bool := false
  /-- the journal device | device | 11 R302 | as fitted -/
  dev : JournalDevice := {}
  /-- a RESTORE or GENESIS record is due at the next boundary: kind, credited, flag 6, aux | record | 11 R310 | none -/
  dueRestore : Option (Nat × Int × Bool × Nat) := none
  /-- EPOCH records due: previous epoch, epoch and its settings | list | 11 R298, R308 | empty -/
  dueEpochs : List (Nat × Nat × LedgerSettings) := []
  /-- tag reports discarded | 32 | 11 R292 | 0 -/
  discarded : Nat := 0
  /-- tags already reported unopened in this ledger second | list | 11 R293 | empty -/
  unopened : List Nat := []
  /-- ms of the restored interval metered on the fallback clock | 16 | 11 R299 | 0 -/
  fallbackMs : Nat := 0
  deriving DecidableEq, Repr, Inhabited

end Sys2Proof.Machine
end

