-- ==== Sys2Proof/Machine/PartsC.lean ====
section
/-! DEFINITION. The parts of the state of chapters 12 to 19 and of the secure start, with the configuration block. -/

namespace Sys2Proof.Machine

/-- A sync word that is not in its reset state (R320): value, full/empty bit, turns, poison. -/
structure SyncWord where
  /-- value | 64 | 12 R320 | 0 -/
  val : BitVec 64 := 0
  /-- full | 1 | 12 R320 | false -/
  full : Bool := false
  /-- take turn | 8 | 12 R320 | 0 -/
  takeTurn : BitVec 8 := 0
  /-- fill turn | 8 | 12 R320 | 0 -/
  fillTurn : BitVec 8 := 0
  /-- poisoned by an uncorrectable error | 1 | 12 R349 | false -/
  poison : Bool := false
  deriving DecidableEq, Repr, Inhabited

/-- A counter pair that is not in its reset state (R320, R329). -/
structure SyncPair where
  /-- produced count | 64 | 12 R320 | 0 -/
  p : BitVec 64 := 0
  /-- consumed count | 64 | 12 R320 | 0 -/
  c : BitVec 64 := 0
  /-- cap | 16 | 12 R320 | 1 -/
  cap : Nat := 1
  /-- strict mode owner of the produce side | 7 | 12 R345 | none -/
  prodOwner : Option Nat := none
  /-- strict mode owner of the consume side | 7 | 12 R345 | none -/
  consOwner : Option Nat := none
  /-- poisoned | 1 | 12 R349 | false -/
  poison : Bool := false
  deriving DecidableEq, Repr, Inhabited

/-- A barrier engine (R320, R330, R352). -/
structure Barrier where
  /-- participant mask | 72 | 12 R320 | 0 -/
  mask : BitVec 72 := 0
  /-- arrived set | 72 | 12 R320 | 0 -/
  arrived : BitVec 72 := 0
  /-- generation | 32 | 12 R320 | 0 -/
  gen : BitVec 32 := 0
  /-- tree barrier bound | 6 | 12 R352 | none -/
  tree : Option Nat := none
  /-- poisoned | 1 | 12 R349 | false -/
  poison : Bool := false
  /-- GT since which the arrived set is non-empty | 64 | 12 R347 | none -/
  since : Option Nat := none
  deriving DecidableEq, Repr, Inhabited

/-- A sync operation as received (R322). -/
structure SyncOp where
  /-- operation code with nowait and peek | 8 | 12 R322 | 0 -/
  op : BitVec 8 := 0
  /-- source participant | 8 | 12 R322 | 0 -/
  src : Nat := 0
  /-- fence epoch | 16 | 12 R322 | 0 -/
  fepoch : BitVec 16 := 0
  /-- per-source sequence | 32 | 12 R322 | 0 -/
  seq : BitVec 32 := 0
  /-- sync address | 64 | 12 R322 | 0 -/
  addr : BitVec 64 := 0
  /-- operand | 64 | 12 R322 | 0 -/
  val : BitVec 64 := 0
  /-- second operand | 64 | 12 R322 | 0 -/
  arg : BitVec 64 := 0
  deriving DecidableEq, Repr, Inhabited

/-- A sync reply (R323). -/
structure SyncReply where
  /-- op echoed | 8 | 12 R323 | 0 -/
  op : BitVec 8 := 0
  /-- status | 8 | 12 R323 | OK -/
  status : Status := .ok
  /-- fence epoch echoed | 16 | 12 R323 | 0 -/
  fepoch : BitVec 16 := 0
  /-- sequence echoed | 32 | 12 R323 | 0 -/
  seq : BitVec 32 := 0
  /-- result | 64 | 12 R323 | 0 -/
  val : BitVec 64 := 0
  /-- second result | 64 | 12 R323 | 0 -/
  aux : BitVec 64 := 0
  deriving DecidableEq, Repr, Inhabited

/-- Where an operation came from: a local participant, or a source of another tray through the tree (R353). -/
structure SyncOrigin where
  /-- origin tray, none for this tray | 17 | 12 R353 | none -/
  tray : Option Nat := none
  /-- source participant there | 7 | 12 R322 | 0 -/
  src : Nat := 0
  deriving DecidableEq, Repr, Inhabited

/-- A parked operation (R323, R325). -/
structure Parked where
  /-- the operation | 256 | 12 R322 | 0 -/
  op : SyncOp := {}
  /-- its origin | record | 12 R353 | local -/
  origin : SyncOrigin := {}
  /-- GT at which it parked | 64 | 12 R347 | 0 -/
  gt : Nat := 0
  deriving DecidableEq, Repr, Inhabited

/-- A watch (R334). -/
structure Watch where
  /-- handle | 16 | 12 R334 | 0 -/
  handle : Nat := 0
  /-- source that set it | 7 | 12 R334 | 0 -/
  src : Nat := 0
  /-- watched object | 64 | 12 R334 | 0 -/
  addr : BitVec 64 := 0
  /-- condition | 8 | 12 R334 | 0 -/
  cond : Nat := 0
  /-- persistent | 1 | 12 R334 | false -/
  persist : Bool := false
  /-- cookie | 32 | 12 R334 | 0 -/
  cookie : BitVec 32 := 0
  /-- fire count | 32 | 12 R335 | 0 -/
  fire : BitVec 32 := 0
  deriving DecidableEq, Repr, Inhabited

/-- A notification (R335). -/
structure Notification where
  /-- kind: 1 fired, 2 cancelled | 8 | 12 R335 | 0 -/
  kind : Nat := 0
  /-- condition | 8 | 12 R335 | 0 -/
  cond : Nat := 0
  /-- fence epoch of the cause | 16 | 12 R335 | 0 -/
  fepoch : BitVec 16 := 0
  /-- handle | 32 | 12 R335 | 0 -/
  handle : Nat := 0
  /-- cookie | 32 | 12 R335 | 0 -/
  cookie : BitVec 32 := 0
  /-- fire count | 32 | 12 R335 | 0 -/
  fire : BitVec 32 := 0
  /-- value | 64 | 12 R335 | 0 -/
  val : BitVec 64 := 0
  deriving DecidableEq, Repr, Inhabited

/-- What the hub sends (R323, R335, R351). -/
inductive SyncOut where
  | reply (dest : SyncOrigin) (r : SyncReply)
  | notify (dest : Nat) (n : Notification)
  deriving DecidableEq, Repr, Inhabited

/-- An open job (R336). -/
structure Job where
  /-- job number 1-32 | 6 | 12 R336 | 0 -/
  num : Nat := 0
  /-- watch quota | 32 | 12 R336 | 0 -/
  quota : Nat := 0
  /-- first word | 32 | 12 R336 | 0 -/
  wFirst : Nat := 0
  /-- words | 32 | 12 R336 | 0 -/
  wCount : Nat := 0
  /-- first pair | 16 | 12 R336 | 0 -/
  pFirst : Nat := 0
  /-- pairs | 16 | 12 R336 | 0 -/
  pCount : Nat := 0
  /-- engines | 64 | 12 R336 | 0 -/
  engines : BitVec 64 := 0
  /-- participants | 72 | 12 R336 | 0 -/
  parts : BitVec 72 := 0
  deriving DecidableEq, Repr, Inhabited

/-- One applied sequence of a window with its latest reply (R341). -/
structure WindowEntry where
  /-- sequence | 32 | 12 R341 | 0 -/
  seq : BitVec 32 := 0
  /-- reply to resend | 192 | 12 R341 | empty -/
  reply : SyncReply := {}
  deriving DecidableEq, Repr, Inhabited

/-- The sequence window and fence epoch of one source (R340, R341). -/
structure SourceWindow where
  /-- H | 32 | 12 R341 | 0 -/
  h : BitVec 32 := 0
  /-- the next operation sets H | 1 | 12 R341 | true -/
  restart : Bool := true
  /-- applied sequences H - 255 to H | at most 256 | 12 R341 | empty -/
  seen : List WindowEntry := []
  /-- fence epoch of the last posting operation | 16 | 12 R340 | none -/
  epoch : Option (BitVec 16) := none
  /-- posts without epoch advance, saturating | 32 | 12 R340 | 0 -/
  noAdv : Nat := 0
  deriving DecidableEq, Repr, Inhabited

/-- The window of a remote source (R353). -/
structure RemoteWindow where
  /-- origin tray | 17 | 12 R353 | 0 -/
  tray : Nat := 0
  /-- source | 7 | 12 R353 | 0 -/
  src : Nat := 0
  /-- window | record | 12 R353 | restart -/
  win : SourceWindow := {}
  /-- GT of the last operation | 64 | 12 R353 | 0 -/
  gt : Nat := 0
  deriving DecidableEq, Repr, Inhabited

/-- The last posting operation on an object (R347). -/
structure LastPost where
  /-- object | 64 | 12 R347 | 0 -/
  addr : BitVec 64 := 0
  /-- src | 7 | 12 R347 | 0 -/
  src : Nat := 0
  /-- seq | 32 | 12 R347 | 0 -/
  seq : BitVec 32 := 0
  /-- fepoch | 16 | 12 R347 | 0 -/
  fepoch : BitVec 16 := 0
  deriving DecidableEq, Repr, Inhabited

/-- The content of a tree frame (R352-R354). -/
inductive TreeBody where
  | up (barrier round : Nat)
  | release (barrier round : Nat)
  | remote (home origin : Nat) (op : SyncOp)
  | remoteReply (origin src : Nat) (r : SyncReply)
  | broadcast (channel round : Nat) (val : BitVec 64) (down : Bool) (fepoch : BitVec 16)
  deriving DecidableEq, Repr, Inhabited

/-- A tree frame not yet acknowledged by its neighbour (R351). -/
structure TreeFrame where
  /-- neighbour: 0 parent, i + 1 child i | 7 | 12 R351 | 0 -/
  nbr : Nat := 0
  /-- hop number | 32 | 12 R351 | 0 -/
  hop : Nat := 0
  /-- content | tagged | 12 R351 | up 0 0 -/
  body : TreeBody := .up 0 0
  /-- GT of the last sending | 64 | 12 R351 | 0 -/
  gt : Nat := 0
  /-- failed resends | 8 | 12 R351 | 0 -/
  resends : Nat := 0
  deriving DecidableEq, Repr, Inhabited

/-- A child of the tree node (R350). -/
structure TreeChild where
  /-- address | 128 | 12 R350 | 0 -/
  addr : BitVec 128 := 0
  /-- trays in its subtree | 32 | 12 R350 | 0 -/
  trays : Nat := 0
  deriving DecidableEq, Repr, Inhabited

/-- The tree node settings (R350). -/
structure TreeNode where
  /-- own tray number | 17 | 12 R350 | 0 -/
  tray : Nat := 0
  /-- radix | 7 | 12 R350 | 2 -/
  k : Nat := 2
  /-- parent address, zero at the root | 128 | 12 R350 | 0 -/
  parent : BitVec 128 := 0
  /-- children | at most 64 | 12 R350 | empty -/
  children : List TreeChild := []
  deriving DecidableEq, Repr, Inhabited

/-- A remote operation of a local source whose final reply has not come (R350, R353). -/
structure RemoteOut where
  /-- source | 7 | 12 R353 | 0 -/
  src : Nat := 0
  /-- sequence | 32 | 12 R353 | 0 -/
  seq : BitVec 32 := 0
  /-- object | 64 | 12 R353 | 0 -/
  addr : BitVec 64 := 0
  /-- GT at which it was sent | 64 | 12 R351 | 0 -/
  gt : Nat := 0
  deriving DecidableEq, Repr, Inhabited

/-- The state of a bound tree barrier, or of one not yet bound here with the frames held for it (R352). -/
structure TreeBarrier where
  /-- tree barrier | 6 | 12 R352 | 0 -/
  num : Nat := 0
  /-- local engine | 6 | 12 R352 | 0 -/
  engine : Nat := 0
  /-- round | 32 | 12 R352 | 0 -/
  round : Nat := 0
  /-- UP sent, or release started at the root, for the round | 1 | 12 R352 | false -/
  upSent : Bool := false
  /-- UP frames held: child and round | list | 12 R352 | empty -/
  ups : List (Nat × Nat) := []
  /-- RELEASE rounds held | list | 12 R352 | empty -/
  releases : List Nat := []
  deriving DecidableEq, Repr, Inhabited

/-- The sync hub (chapter 12). -/
structure SyncState where
  /-- words not in their reset state, index rising | 524288 words | 12 R320 | empty and zero -/
  words : List (Nat × SyncWord) := []
  /-- pairs not in their reset state, index rising | 4096 pairs | 12 R320 | p = c = 0, cap 1 -/
  pairs : List (Nat × SyncPair) := []
  /-- barrier engines | 64 engines | 12 R320 | idle -/
  barriers : List Barrier := List.replicate 64 {}
  /-- watches, handle rising | at most 65,536 | 12 R334 | none -/
  watches : List Watch := []
  /-- tree channel bindings to local words | 16 | 12 R354 | none -/
  channels : List (Option Nat) := List.replicate 16 none
  /-- parked operations, oldest first, at most 16,384 | list | 12 R325 | empty -/
  parked : List Parked := []
  /-- open jobs, number rising | at most 32 | 12 R336 | empty -/
  jobs : List Job := []
  /-- windows of participants 0-70 | 71 windows | 12 R341 | restart -/
  wins : List SourceWindow := List.replicate 72 {}
  /-- remote window table, at most 4,096 | list | 12 R353 | empty -/
  remotes : List RemoteWindow := []
  /-- last posting operation per object | list | 12 R347 | empty -/
  posts : List LastPost := []
  /-- objects whose present hang is recorded | list | 12 R347 | empty -/
  hung : List (BitVec 64) := []
  /-- GT of the last progress of each hung or waiting object is the parked GT; hang timeout, s | 16 | 12 R347 | 30 -/
  hangS : Nat := 30
  /-- own tray number | 17 | 12 R350 | 0 -/
  tray : Nat := 0
  /-- tree node | record | 12 R350 | none -/
  node : Option TreeNode := none
  /-- bound tree barriers | list | 12 R352 | empty -/
  treeBars : List TreeBarrier := []
  /-- tree barriers not bound here for which frames are held | list | 12 R352 | empty -/
  treeEarly : List TreeBarrier := []
  /-- next hop number to each neighbour | 65 x 32 | 12 R351 | 0 -/
  hopTx : List Nat := List.replicate 65 0
  /-- next hop number expected from each neighbour | 65 x 32 | 12 R351 | 0 -/
  hopRx : List Nat := List.replicate 65 0
  /-- frames not acknowledged, oldest first | list | 12 R351 | empty -/
  treeOut : List TreeFrame := []
  /-- neighbours recorded as lost | list | 12 R351 | empty -/
  lost : List Nat := []
  /-- next broadcast round per channel at the root, then last round applied | 16 x 32 | 12 R354 | 0 -/
  bcRound : List Nat := List.replicate 16 0
  /-- remote operations of local sources outstanding | list | 12 R350 | empty -/
  remoteOut : List RemoteOut := []
  /-- what is held until the mirror acknowledgement, with its mirror sequence number, oldest first | list | 12 R343 | empty -/
  held : List (Nat × SyncOut) := []
  /-- what has left toward a die and its link has not acknowledged, oldest first | list | 12 R344 | empty -/
  issued : List SyncOut := []
  /-- what has left the hub, oldest first (the model's own transmit list) | list | 12 R343 | empty -/
  sent : List SyncOut := []
  /-- the hub accepts no operation until the partner has copied its state | 1 | 01 R22 | false -/
  awaitCopy : Bool := false
  /-- operations applied | 64 | 12 R358 | 0 -/
  applied : Nat := 0
  /-- duplicates answered | 64 | 12 R358 | 0 -/
  dups : Nat := 0
  /-- corrected errors, saturating | 32 | 12 R358 | 0 -/
  eccCorr : Nat := 0
  /-- uncorrectable errors, saturating | 32 | 12 R358 | 0 -/
  eccUnc : Nat := 0
  /-- operations refused, saturating | 32 | 12 R358 | 0 -/
  refused : Nat := 0
  /-- objects waiting for the partner's copy after an uncorrectable error, with the operation that met it | list | 12 R349 | empty -/
  repairs : List (BitVec 64 × Option Parked) := []
  /-- words read by the scrubber since its round began | 32 | 12 R349 | 0 -/
  scrub : Nat := 0
  deriving DecidableEq, Repr, Inhabited

/-- The states of an SKV port (R385). -/
inductive PortPhase where
  | unused | training | up | linkUp | down | partnerPath
  deriving DecidableEq, Repr, Inhabited

/-- A numbered flit of classes 1-7 (R362). -/
structure Flit where
  /-- implicit sequence | 12 | 13 R362 | 0 -/
  seq : Nat := 0
  /-- class | 3 | 13 R364 | 0 -/
  cls : Nat := 0
  /-- first flit of its message | 1 | 13 R362 | false -/
  first : Bool := false
  /-- last flit of its message | 1 | 13 R362 | false -/
  last : Bool := false
  /-- payload | at most 59 bytes | 13 R362 | empty -/
  payload : List Byte := []
  deriving DecidableEq, Repr, Inhabited

/-- A message waiting for transmission on an SKV port (R364). -/
structure SkvMsg where
  /-- class | 3 | 13 R364 | 0 -/
  cls : Nat := 0
  /-- message bytes | list | 13 R364 | empty -/
  body : List Byte := []
  /-- bytes of it already cut into flits | 16 | 13 R362 | 0 -/
  off : Nat := 0
  deriving DecidableEq, Repr, Inhabited

/-- The capability message of the far end (R368). -/
structure Capability where
  /-- magic | 32 | 13 R368 | as defined -/
  magic : Nat := 0x5843474C
  /-- fmt | 8 | 13 R368 | 1 -/
  fmt : Nat := 1
  /-- role | 8 | 13 R368 | 0 -/
  role : Nat := 0
  /-- highest generation | 8 | 13 R368 | 0 -/
  gen : Nat := 0
  /-- kind | 8 | 13 R368 | 0 -/
  kind : Nat := 0
  /-- present dies | 8 | 13 R368 | 0 -/
  dies : BitVec 8 := 0
  /-- pos | 8 | 13 R368 | 0 -/
  pos : Nat := 0
  /-- firmware version | 32 | 13 R368 | 0 -/
  fw : Nat := 0
  /-- serial | 128 | 13 R368 | 0 -/
  serial : BitVec 128 := 0
  /-- credits of classes 1-7 | 7 x 16 | 13 R368 | 0 -/
  credits : List Nat := List.replicate 7 0
  /-- features | 32 | 13 R368 | 0 -/
  features : BitVec 32 := 0
  /-- present HBM stacks | 24 | 13 R368 | 0 -/
  hbm : BitVec 24 := 0
  /-- the RSVD bytes 10-11, 46-47 and 55-63 | 104 | 13 R368 | 0 -/
  rsvd : BitVec 104 := 0
  deriving DecidableEq, Repr, Inhabited

/-- One SKV port or the MIR port (R361-R368, R404). -/
structure SkvPort where
  /-- state | 3 | 13 R385 | training -/
  phase : PortPhase := .training
  /-- marked expansion (SKV8, SKV9) | 1 | 13 R361 | false -/
  expansion : Bool := false
  /-- generation in use | 2 | 13 R361 | 2 -/
  gen : Nat := 2
  /-- capability message received | record | 13 R368 | none -/
  cap : Option Capability := none
  /-- credits held toward the far end, classes 1-7 | 7 x 16 | 13 R367 | 0 -/
  credits : List Nat := List.replicate 7 0
  /-- credits still to be returned, classes 1-7 | 7 x 16 | 13 R367 | 0 -/
  toReturn : List Nat := List.replicate 7 0
  /-- next implicit sequence to send | 12 | 13 R362 | 0 -/
  txSeq : Nat := 0
  /-- flits sent and unacknowledged, oldest first, at most 512 | list | 13 R365 | empty -/
  replay : List Flit := []
  /-- messages waiting for credit, priority applied when sent | list | 13 R367, R384 | empty -/
  txq : List SkvMsg := []
  /-- messages sent whose last flit is not acknowledged, with the implicit sequence of that flit, oldest first | list | 13 R365, R372 | empty -/
  unacked : List (Nat × SkvMsg) := []
  /-- position in the weighted round of CMD and IMG | 4 | 13 R384 | 0 -/
  round : Nat := 0
  /-- GT of the last acknowledgement progress | 64 | 13 R365 | 0 -/
  ackGt : Nat := 0
  /-- replays without progress | 4 | 13 R366 | 0 -/
  stuck : Nat := 0
  /-- implicit sequence expected next | 12 | 13 R362 | 0 -/
  rxSeq : Nat := 0
  /-- later flits are discarded until the replay arrives | 1 | 13 R365 | false -/
  discarding : Bool := false
  /-- GT at which the retrain in progress started | 64 | 13 R366 | none -/
  retrain : Option Nat := none
  /-- replays, saturating | 32 | 13 R385 | 0 -/
  replays : Nat := 0
  /-- retrains, saturating | 32 | 13 R385 | 0 -/
  retrains : Nat := 0
  /-- CRC errors, saturating | 32 | 13 R385 | 0 -/
  crcErr : Nat := 0
  /-- flits received | 64 | 13 R385 | 0 -/
  rx : Nat := 0
  /-- flits sent | 64 | 13 R385 | 0 -/
  tx : Nat := 0
  /-- reports and flits discarded | 32 | 13 R368, R370, R371 | 0 -/
  discarded : Nat := 0
  /-- messages put on the link, oldest first (the model's own transmit list) | list | 13 R364 | empty -/
  sent : List SkvMsg := []
  /-- LINK flits sent: NAK, acknowledgement, credits (the model's own transmit list) | list | 13 R365 | empty -/
  linkSent : List (Bool × Nat × List Nat) := []
  /-- flits put on the wire, 64 bytes each, oldest first (the model's own transmit list) | list | 13 R362 | empty -/
  wire : List (List Byte) := []
  deriving DecidableEq, Repr, Inhabited

/-- Phase tracking of one die (R370). -/
structure DiePhase where
  /-- last accepted rseq of the class since the comparison restarted | 32 | 13 R370 | none -/
  rseq : Option Nat := none
  /-- phase last reported since ACC_ON | 8 | 09 R233 | none -/
  phase : Option Nat := none
  /-- step last reported since ACC_ON | 64 | 08 R218 | none -/
  step : Option Nat := none
  /-- chg_seq last reported | 32 | 13 R370 | 0 -/
  chgSeq : Nat := 0
  deriving DecidableEq, Repr, Inhabited

/-- One direction of a host-path key (R376). -/
structure HostKeyState where
  /-- the context, queue or buffer is bound, created or open | 1 | 13 R376 | false -/
  bound : Bool := false
  /-- key | 256 | 13 R376 | 0 -/
  key : BitVec 256 := 0
  /-- highest accepted fseq | 64 | 13 R376 | none -/
  high : Option Nat := none
  /-- accepted fseq within 1,024 of the highest | list | 13 R376 | empty -/
  seen : List Nat := []
  /-- own fseq | 64 | 13 R376 | 0 -/
  tx : Nat := 0
  /-- GT of tag failures within 1 s | list | 13 R376 | empty -/
  fails : List Nat := []
  deriving DecidableEq, Repr, Inhabited

/-- A queue entry (R379). -/
structure QueueEntry where
  /-- qseq | 32 | 13 R379 | 0 -/
  qseq : Nat := 0
  /-- ring | 1 | 13 R379 | false -/
  ring : Bool := false
  /-- data | list | 13 R379 | empty -/
  data : List Byte := []
  deriving DecidableEq, Repr, Inhabited

/-- A completion (R380). -/
structure QueueCompletion where
  /-- cseq | 32 | 13 R380 | 0 -/
  cseq : Nat := 0
  /-- data | list | 13 R380 | empty -/
  data : List Byte := []
  /-- GT of the last sending | 64 | 13 R380 | 0 -/
  gt : Nat := 0
  deriving DecidableEq, Repr, Inhabited

/-- A host command queue (R378-R381). -/
structure HostQueue where
  /-- queue number | 6 | 13 R378 | 0 -/
  num : Nat := 0
  /-- port | 4 | 13 R378 | 0 -/
  port : Nat := 0
  /-- depth | 16 | 13 R378 | 0 -/
  depth : Nat := 0
  /-- entry bytes | 16 | 13 R378 | 0 -/
  entryBytes : Nat := 0
  /-- highest accepted qseq | 32 | 13 R379 | 0 -/
  a : Nat := 0
  /-- highest consumed qseq | 32 | 13 R379 | 0 -/
  c : Nat := 0
  /-- highest delivered qseq | 32 | 13 R380 | 0 -/
  delivered : Nat := 0
  /-- highest completion the host has received | 32 | 13 R379 | 0 -/
  cack : Nat := 0
  /-- entries held, qseq rising | list | 13 R378 | empty -/
  entries : List QueueEntry := []
  /-- completions unacknowledged, cseq rising | list | 13 R380 | empty -/
  comps : List QueueCompletion := []
  /-- detached | 1 | 13 R381 | false -/
  detached : Bool := false
  deriving DecidableEq, Repr, Inhabited

/-- An image buffer (R382). -/
structure ImageBuffer where
  /-- size in bytes | 32 | 13 R382 | 0 -/
  size : Nat := 0
  /-- ranges written, as start and end | list | 13 R382 | empty -/
  ranges : List (Nat × Nat) := []
  /-- content | bytes | 13 R382 | empty -/
  content : Mem := []
  /-- the object in it as the verifier finds it | record | 04 R101 | erased -/
  obj : ObjectImage := {}
  deriving DecidableEq, Repr, Inhabited

/-- An image push in progress (R383). -/
structure ImagePush where
  /-- push ID | 32 | 13 R383 | 0 -/
  id : Nat := 0
  /-- packages still addressed | 8 | 13 R383 | 0 -/
  mask : BitVec 8 := 0
  /-- packages that have answered DONE | 8 | 13 R383 | 0 -/
  done : BitVec 8 := 0
  /-- object pushed | record | 04 R101 | erased -/
  obj : ObjectImage := {}
  /-- bytes of the object where it came from an image buffer | bytes | 13 R382 | none -/
  content : Option Mem := none
  /-- next block | 16 | 13 R383 | 0 -/
  next : Nat := 0
  /-- END sent | 1 | 13 R383 | false -/
  ended : Bool := false
  /-- overlay of a substitution | 1 | 14 R398 | false -/
  overlay : Bool := false
  deriving DecidableEq, Repr, Inhabited

/-- A frame or datagram that leaves the Ethernet port (R374-R383). -/
inductive EthOut where
  | syncFrame (ctx : Nat) (fseq : Nat) (entries : List SyncOut)
  | queueAck (queue fseq a c : Nat) (status : Status)
  | completions (queue fseq : Nat) (entries : List QueueCompletion)
  | imageAck (buffer fseq got : Nat)
  | tree (f : TreeFrame)
  | treeAck (nbr hop : Nat)
  | arpReply (tray : Bool)
  | gratuitousArp
  | neighbourAdvert (tray solicited : Bool)
  | echoReply (v6 tray : Bool) (payload : List Byte)
  deriving DecidableEq, Repr, Inhabited

/-- What carries a frame that leaves the Ethernet port: its class with the marks, and its UDP payload where the spec gives the layout (R374-R376). -/
structure EthHead where
  /-- frame class: 0 tree, 1 sync, 2 and 3 mailbox, 4 host queue, 5 telemetry, 6 image; none for ARP, neighbour discovery and ICMP | 3 | 13 R375 | none -/
  cls : Option Nat := none
  /-- UDP source port, the governor's own of the class | 16 | 13 R375 | 0 -/
  port : Nat := 0
  /-- from the tray address | 1 | 13 R375 | false -/
  tray : Bool := false
  /-- VID, zero for untagged | 12 | 13 R374 | 0 -/
  vid : Nat := 0
  /-- PCP | 3 | 13 R375 | 0 -/
  pcp : Nat := 0
  /-- DSCP | 6 | 13 R375 | 0 -/
  dscp : Nat := 0
  /-- the host-path frame | list | 13 R376 | empty -/
  body : List Byte := []
  deriving DecidableEq, Repr, Inhabited

/-- SKV links, Ethernet and the host path (chapter 13). -/
structure LinkState where
  /-- ports SKV0-SKV9 | 10 ports | 13 R361 | training -/
  ports : List SkvPort := List.replicate 10 {}
  /-- phase tracking of dies 0-63 | 64 dies | 13 R370 | none -/
  dies : List DiePhase := List.replicate 64 {}
  /-- highest step number reported | 64 | 02 Event body | 0 -/
  topStep : Nat := 0
  /-- Ethernet mode: 0 down, 1 100G to 4 800G | 3 | 13 R385 | 0 -/
  ethMode : Nat := 0
  /-- media: 0 C2M, 1 CR, 2 KR | 2 | 13 R385 | 0 -/
  media : Nat := 0
  /-- tray address held | 1 | 13 R385 | false -/
  trayAddr : Bool := false
  /-- jumbo frames configured | 1 | 13 R374 | false -/
  jumbo : Bool := false
  /-- UDP port base | 16 | 13 R375 | 47200 -/
  portBase : Nat := 47200
  /-- frames discarded, saturating | 32 | 13 R385 | 0 -/
  dropped : Nat := 0
  /-- codewords corrected | 64 | 13 R385 | 0 -/
  fecCorr : Nat := 0
  /-- codewords uncorrectable | 64 | 13 R385 | 0 -/
  fecUnc : Nat := 0
  /-- host-path tags failed, saturating | 32 | 13 R385 | 0 -/
  authFail : Nat := 0
  /-- keys of host contexts 64-70 | 7 keys | 13 R376 | unbound -/
  ctxKeys : List HostKeyState := List.replicate 7 {}
  /-- keys of queues 0-63 | 64 keys | 13 R376 | unbound -/
  queueKeys : List HostKeyState := List.replicate 64 {}
  /-- keys of image buffers 0-7 | 8 keys | 13 R376 | unbound -/
  imageKeys : List HostKeyState := List.replicate 8 {}
  /-- host queues, number rising | list | 13 R378 | empty -/
  queues : List HostQueue := []
  /-- image buffers 0-7 | 8 buffers | 13 R382 | none -/
  buffers : List (Option ImageBuffer) := List.replicate 8 none
  /-- accelerator image store: offset from 0x0300_0000 and object | list | 13 R382; 04 R85 | as provisioned (model: empty) -/
  store : List (Nat × ObjectImage) := []
  /-- image pushes in progress | list | 13 R383 | empty -/
  pushes : List ImagePush := []
  /-- last push ID | 32 | 13 R383 | 0 -/
  pushId : Nat := 0
  /-- weights CMD, IMG, host queue, telemetry, image | 5 x 4 | 13 R384 | 3, 1, 4, 1, 3 -/
  weights : List Nat := [3, 1, 4, 1, 3]
  /-- completions discarded beyond the depth | 32 | 13 R380 | 0 -/
  compDropped : Nat := 0
  /-- frames put on Ethernet, oldest first (the model's own transmit list) | list | 13 R374 | empty -/
  ethSent : List EthOut := []
  /-- what carries each of them | list | 13 R375 | empty -/
  ethHeads : List EthHead := []
  /-- queue answers held until the mirror acknowledgement | list | 13 R379 | empty -/
  heldAcks : List (Nat × EthOut) := []
  deriving DecidableEq, Repr, Inhabited

/-- A replay binding (R393). -/
structure ReplayBinding where
  /-- job number | 6 | 14 R393 | 0 -/
  job : Nat := 0
  /-- program hash | 384 | 14 R393 | 0 -/
  prog : BitVec 384 := 0
  /-- input manifest hash | 384 | 14 R393 | 0 -/
  input : BitVec 384 := 0
  /-- reference digest, zero for an original | 384 | 14 R393 | 0 -/
  ref : BitVec 384 := 0
  /-- reference counts | 8 x 32 | 14 R393 | empty -/
  refCores : List Nat := []
  /-- seeds | at most 16 x 64 | 14 R393 | empty -/
  seeds : List (BitVec 64) := []
  /-- checkpoint interval | 64 | 14 R393 | 0 -/
  interval : Nat := 0
  deriving DecidableEq, Repr, Inhabited

/-- A checkpoint entry (R396). -/
structure ReplayCheckpoint where
  /-- step | 64 | 14 R395 | 0 -/
  step : Nat := 0
  /-- GT | 64 | 14 R395 | 0 -/
  gt : Nat := 0
  /-- pstate | 8 | 14 R395 | 0 -/
  pstate : Nat := 0
  /-- TRAY_SLOW_N low at capture | 1 | 14 R395 | false -/
  slow : Bool := false
  /-- lsess | 16 | 14 R395 | 0 -/
  lsess : Nat := 0
  /-- chg_seq | 32 | 14 R395 | 0 -/
  chgSeq : Nat := 0
  /-- ltick | 64 | 14 R395 | 0 -/
  ltick : Nat := 0
  /-- result digest | 384 | 14 R396 | none -/
  result : Option (BitVec 384) := none
  deriving DecidableEq, Repr, Inhabited

/-- A spare substitution (R398). -/
structure Substitution where
  /-- package | 8 | 14 R395 | 0 -/
  pkg : Nat := 0
  /-- count changed | 1 | 14 R395 | false -/
  changed : Bool := false
  /-- cores_after | 32 | 14 R395 | 0 -/
  coresAfter : Nat := 0
  /-- failed unit | 32 | 14 R395 | 0 -/
  failed : BitVec 32 := 0
  /-- spare unit | 32 | 14 R395 | 0 -/
  spare : BitVec 32 := 0
  /-- overlay | record | 14 R395 | erased -/
  obj : ObjectImage := {}
  /-- bytes of the overlay where it came from an image buffer | bytes | 13 R382 | none -/
  content : Option Mem := none
  /-- removed from the settings area, in force until the next entry to ACC_ON | 1 | 14 R398 | false -/
  ended : Bool := false
  deriving DecidableEq, Repr, Inhabited

/-- A replay record (R395). -/
structure ReplayRecord where
  /-- rp_seq | 64 | 14 R395 | 0 -/
  rpSeq : Nat := 0
  /-- job | 8 | 14 R395 | 0 -/
  job : Nat := 0
  /-- flags | 16 | 14 R395 | 0 -/
  flags : BitVec 16 := 0
  /-- binding consumed | record | 14 R393 | empty -/
  bind : ReplayBinding := {}
  /-- packages of the job | 8 | 14 R394 | 0 -/
  pkgs : BitVec 8 := 0
  /-- grade: kind, dies, fw_version per package | 8 entries | 14 R395 | empty -/
  grade : List (Nat × Nat × Nat) := []
  /-- logical core counts | 8 x 32 | 14 R394 | empty -/
  pcores : List Nat := []
  /-- substitutions | at most 16 | 14 R395 | empty -/
  subst : List Substitution := []
  /-- checkpoints | at most 32 | 14 R396 | empty -/
  cps : List ReplayCheckpoint := []
  /-- step_open | 64 | 14 R395 | 0 -/
  stepOpen : Nat := 0
  /-- step_close | 64 | 14 R395 | 0 -/
  stepClose : Nat := 0
  /-- gt_open | 64 | 14 R395 | 0 -/
  gtOpen : Nat := 0
  /-- gt_close | 64 | 14 R395 | 0 -/
  gtClose : Nat := 0
  /-- serial of the signer | 128 | 14 R395 | 0 -/
  serial : BitVec 128 := 0
  /-- sig | 96 bytes | 14 R397 | empty -/
  sig : List Byte := []
  /-- the sealed record has been read | 1 | 14 R397 | false -/
  read : Bool := false
  deriving DecidableEq, Repr, Inhabited

/-- Reproducibility (chapter 14). -/
structure ReproState where
  /-- strict mode bit | 1 | 14 R390 | false -/
  strict : Bool := false
  /-- bindings, job rising | list | 14 R393 | empty -/
  binds : List ReplayBinding := []
  /-- replay records, open and sealed, rp_seq rising, at most 4,096 | list | 14 R397 | empty -/
  records : List ReplayRecord := []
  /-- next rp_seq, kept in the settings area | 64 | 14 R395 | 0 -/
  rpSeq : Nat := 0
  /-- substitutions in force, oldest first, kept in the settings area | list | 14 R398 | empty -/
  inForce : List Substitution := []
  /-- substitutions declared and not started, oldest first | list | 14 R398 | empty -/
  pending : List Substitution := []
  /-- substitution whose push is in progress, with its push ID | list | 14 R398 | empty -/
  pushing : List (Nat × Substitution) := []
  /-- overlays still to be pushed after the entry to ACC_ON, per package | 8 lists | 14 R399 | empty -/
  overlays : List (List Substitution) := List.replicate 8 []
  /-- packages whose logical core count is unknown | 8 | 14 R399 | 0 -/
  unknown : BitVec 8 := 0
  /-- nominal logical core count of kinds 1 and 2, from the configuration block | 2 x 32 | 14 R399 | 0 -/
  nominal : List Nat := [0, 0]
  deriving DecidableEq, Repr, Inhabited

/-- Mirror states (R411). -/
inductive MirrorPhase where
  | detached | syncing | mirroring
  deriving DecidableEq, Repr, Inhabited

/-- The rows of the mirrored-state table (R413), as kinds of mirror record. -/
inductive MirKind where
  | hub | thyme | grants | tray | sems | op | phase | cool | ledger | host | repro | plan | events | forward
  deriving DecidableEq, Repr, Inhabited

/-- A mirror record sent and not yet acknowledged (R410); its content is the state it names as it stands when sent. -/
structure MirRecord where
  /-- mseq | 32 | 15 R410 | 0 -/
  mseq : Nat := 0
  /-- row of the mirrored-state table | tagged | 15 R413 | hub -/
  kind : MirKind := .hub
  /-- GT of sending | 64 | 15 R424 | 0 -/
  gt : Nat := 0
  /-- the recorder record that an events row carries, by its `rec_seq` | 32 | 17 R457 | 0 -/
  item : Nat := 0
  deriving DecidableEq, Repr, Inhabited

/-- A message on the HEART, FORWARD or MGMT class of MIR (R404-R423). -/
inductive MirOut where
  | heartbeat (role mstate th : Nat) (leak crit : Bool) (ack gtSend echo echoRx : Nat)
  | recordAck (mseq : Nat)
  | claim
  | handover (mseq : Nat)
  | straps (slot : Nat) (cool pos : Bool) (proto : Nat)
  | notice (leak : Bool) (source : Nat)
  | path (pkg cls : Nat) (body : List Byte)
  | semCommand (port : Nat) (session reqId : BitVec 32) (code : Nat) (args : List Nat)
  | semAnswer (port : Nat) (session reqId : BitVec 32) (status : Status) (payload : List Byte)
  | outDigest (frame : Nat) (digest : List Byte)
  | record (r : MirRecord)
  deriving DecidableEq, Repr, Inhabited

/-- Where a planned handover stands (R423). -/
inductive HandoverPhase where
  | none
  | accepted (port : Nat)
  | released (gt : Nat) (port : Nat)
  | target (gt : Nat) (mseq : Nat)
  deriving DecidableEq, Repr, Inhabited

/-- The redundant pair (chapter 15). -/
structure PairState where
  /-- role | 2 | 15 R406 | undecided -/
  role : Role := .undecided
  /-- own pull on OWN_N | 1 | 15 R406 | false -/
  pull : Bool := false
  /-- OWN_N reads low | 1 | 15 R406 | false -/
  ownLow : Bool := false
  /-- GT since which OWN_N reads at its present level | 64 | 15 R406 | 0 -/
  ownSince : Nat := 0
  /-- ALIVE_OUT toggles (the alive qualifier holds) | 1 | 15 R404 | false -/
  qualifier : Bool := false
  /-- GT since which ALIVE_OUT toggles without a break | 64 | 15 R406 | 0 -/
  aliveOutSince : Nat := 0
  /-- GT of the last heartbeat generated | 64 | 15 R404 | none -/
  hbGen : Option Nat := none
  /-- GT of the last level change of ALIVE_IN | 64 | 15 R405 | none -/
  aliveIn : Option Nat := none
  /-- GT since which the partner is ALIVE without a break | 64 | 15 R406 | none -/
  aliveSince : Option Nat := none
  /-- the partner is ALIVE | 1 | 15 R405 | false -/
  alive : Bool := false
  /-- the warm reset began while MIRRORING, so hub and ledger come from the partner, and they have not come yet | 1 | 01 R21, R22 | false -/
  fromPartner : Bool := false
  /-- the decision of R83 to run alone has been taken | 1 | 03 R83 | false -/
  alone : Bool := false
  /-- the partner has stopped being ALIVE and the OWNER has not yet acted on it | 1 | 15 R422 | false -/
  lostPending : Bool := false
  /-- GT at which MIR training started | 64 | 03 R83 | none -/
  mirTrainGt : Option Nat := none
  /-- the MIR port | port | 15 R409 | training -/
  mir : SkvPort := {}
  /-- mirror state | 2 | 15 R411 | DETACHED -/
  mstate : MirrorPhase := .detached
  /-- mseq of the last record sent | 32 | 15 R410 | 0 -/
  mseqSent : Nat := 0
  /-- highest mseq the partner has acknowledged | 32 | 15 R410 | 0 -/
  mseqAcked : Nat := 0
  /-- highest mseq applied here | 32 | 15 R410 | 0 -/
  mseqApplied : Nat := 0
  /-- records not acknowledged, oldest first | list | 15 R410 | empty -/
  outstanding : List MirRecord := []
  /-- records sent | 64 | 15 R424 | 0 -/
  sent : Nat := 0
  /-- records acknowledged | 64 | 15 R424 | 0 -/
  acked : Nat := 0
  /-- bulk items still to be acknowledged in SYNCING; at the STANDBY, 1 until the first record of a copy | 32 | 15 R412 | 0 -/
  bulkLeft : Nat := 0
  /-- bytes copied in SYNCING | 64 | 15 R424 | 0 -/
  bulkDone : Nat := 0
  /-- bytes to copy | 64 | 15 R424 | 0 -/
  bulkTotal : Nat := 0
  /-- GT at which SYNCING began | 64 | 15 R425 | 0 -/
  syncGt : Nat := 0
  /-- GT of the last heartbeat received | 64 | 15 R415 | none -/
  hbRx : Option Nat := none
  /-- gt_send of that heartbeat | 64 | 15 R414 | 0 -/
  hbEcho : Nat := 0
  /-- partner offset, µs | s64 | 15 R414 | 0 -/
  offset : Int := 0
  /-- heartbeats missed, saturating | 32 | 15 R424 | 0 -/
  hbMissed : Nat := 0
  /-- mirror losses, saturating | 32 | 15 R424 | 0 -/
  losses : Nat := 0
  /-- longest time from record to acknowledgement since the last read, µs | 32 | 15 R424 | 0 -/
  lagMax : Nat := 0
  /-- sum of those times, µs, with their count | 64 | 15 R424 | 0 -/
  lagSum : Nat := 0
  /-- count of those times | 32 | 15 R424 | 0 -/
  lagCount : Nat := 0
  /-- straps exchanged and consistent | 1 | 03 R82 | none yet -/
  strapsOk : Option Bool := none
  /-- partner's mirror_proto, 0 unknown | 16 | 15 R411 | 0 -/
  protoPartner : Nat := 0
  /-- mirror_proto the pair runs | 16 | 15 R411 | 0 -/
  proto : Nat := 0
  /-- partner's limit block digest differs | 1 | 15 R411 | false -/
  limitsDiffer : Bool := false
  /-- partner serial | 128 | 15 R424 | 0 -/
  partnerSerial : BitVec 128 := 0
  /-- partner firmware version | 32 | 15 R424 | 0 -/
  partnerFw : Nat := 0
  /-- handover | tagged | 15 R423 | none -/
  handover : HandoverPhase := .none
  /-- GT of the last claim | 64 | 15 R424 | none -/
  claimGt : Option Nat := none
  /-- claims under R406 item 1, saturating | 32 | 15 R424 | 0 -/
  takeovers : Nat := 0
  /-- completed handovers, saturating | 32 | 15 R424 | 0 -/
  handovers : Nat := 0
  /-- GT at which the shadow-drive outputs are released after giving up ownership | 64 | 15 R417 | none -/
  releaseAt : Option Nat := none
  /-- the shadow-drive outputs have been released | 1 | 15 R417 | false -/
  shadowReleased : Bool := false
  /-- the OWNER's own drive of the shared nets as last mirrored | 103 | 15 R416 | all released -/
  mirNets : BitVec 103 := 2 ^ 103 - 1
  /-- the OWNER's FAULT_OFF latch as last mirrored | 1 | 15 R413 | false -/
  mirFault : Bool := false
  /-- accelerators that the OWNER had in ACC_FAULT as last mirrored | 8 | 15 R413 | 0 -/
  mirAccs : BitVec 8 := 0
  /-- messages put on MIR other than flits, oldest first (the model's own transmit list) | list | 15 R409 | empty -/
  out : List MirOut := []
  deriving DecidableEq, Repr, Inhabited

/-- The cooling section of the configuration block (R263, R265, R283). -/
structure CoolConfig where
  /-- sensors named as fitted or used, by sensor number | 344 | 10 R263 | 0 -/
  used : BitVec 344 := 0
  /-- level entries | 27 entries | 10 R263, R265 | the defaults of R263 -/
  levels : List ThermLevel := defaultLevels
  /-- grace time, ms | 16 | 10 R283 | 2000 -/
  graceMs : Nat := 2000
  /-- fans: used and min_rpm | 16 entries | 10 R283 | unused -/
  fans : List (Bool × Nat) := List.replicate 16 (false, 1000)
  /-- pumps: used and min_rpm | 4 entries | 10 R283 | unused -/
  pumps : List (Bool × Nat) := List.replicate 4 (false, 1000)
  /-- valves used | 4 | 10 R283 | 0 -/
  valves : BitVec 4 := 0
  /-- fan loop settings | record | 10 R283 | defaults -/
  fanLoop : CoolLoop := { target := -100 }
  /-- pump loop settings | record | 10 R283 | defaults -/
  pumpLoop : CoolLoop := { target := 100 }
  /-- coolant point roles | 8 x 2 | 10 R283 | 0 -/
  roles : List Nat := List.replicate 8 0
  /-- flow meters used | 4 | 10 R283 | 0 -/
  meters : BitVec 4 := 0
  /-- k_factor | 4 x 16 | 10 R283 | 400 -/
  kFactor : List Nat := List.replicate 4 400
  /-- flow_min, L/min | 16 | 10 R283 | 40 -/
  flowMin : Nat := 40
  /-- p_min, kPa | 16 | 10 R283 | 50 -/
  pMin : Nat := 50
  /-- p_max, kPa | 16 | 10 R283 | 400 -/
  pMax : Nat := 400
  /-- leak zones and floats used | 10 | 10 R283 | 0 -/
  zones : BitVec 10 := 0
  deriving DecidableEq, Repr, Inhabited

/-- The Ethernet section of the configuration block (R373-R375). -/
structure EthConfig where
  /-- medium: 0 C2M, 1 CR, 2 KR | 2 | 13 R373 | 0 -/
  media : Nat := 0
  /-- permitted modes, bit 0 100G to bit 3 800G | 4 | 13 R373 | all -/
  modes : BitVec 4 := 15
  /-- own MAC, IPv4 and IPv6 addresses | 48 + 32 + 128 | 13 R374 | 0 -/
  own : Nat × Nat × Nat := (0, 0, 0)
  /-- tray MAC, IPv4 and IPv6 addresses | 48 + 32 + 128 | 13 R374 | 0 -/
  tray : Nat × Nat × Nat := (0, 0, 0)
  /-- VID, zero for untagged | 12 | 13 R374 | 0 -/
  vid : Nat := 0
  /-- jumbo frames | 1 | 13 R374 | false -/
  jumbo : Bool := false
  /-- UDP port base | 16 | 13 R375 | 47200 -/
  base : Nat := 47200
  /-- PCP and DSCP of the seven frame classes | 7 x (3 + 6) | 13 R375 | the defaults -/
  marks : List (Nat × Nat) := [(6, 48), (5, 46), (4, 34), (4, 34), (3, 26), (2, 18), (1, 10)]
  deriving DecidableEq, Repr, Inhabited

/-- The configuration block, as the values it carries (R1, R92). The spec gives no byte layout of the whole. -/
structure ConfigBlock where
  /-- host key table | 16 entries | 02 R37 | unused -/
  hostKeys : List HostKey := List.replicate 16 {}
  /-- limit block | 4608 bytes | 07 R195 | R197 -/
  limits : LimitBlock := {}
  /-- rail map | 192 entries | 07 R176 | unused -/
  railMap : List RailMap := List.replicate 192 {}
  /-- rail level entries | 192 entries | 07 R185 | 0 -/
  railLevels : List RailLevels := List.replicate 192 {}
  /-- program set | 33280 bytes | 06 R144 | 0 -/
  programs : ProgramSet := {}
  /-- feed settings A and B | 2 records | 05 R504, R117 | defaults -/
  feeds : List FeedSettings := [{}, {}]
  /-- breaker settings A and B | 2 records | 05 R119 | empty -/
  breakers : List BreakerSettings := [{}, {}]
  /-- k_share | 8 | 05 R130 | 4 -/
  kShare : Nat := 4
  /-- tray minimum off time, ms | 16 | 05 R136 | 2000 -/
  minOffMs : Nat := 2000
  /-- accelerator minimum off time, ms | 16 | 06 R162 | 500 -/
  accMinOffMs : Nat := 500
  /-- restart policy AUTO_ON | 1 | 06 R164 | false -/
  autoOn : Bool := false
  /-- P-state table | 4496 bytes | 08 R208 | empty -/
  pTable : PTable := {}
  /-- host preferred points | 256 x 8 | 08 R211 | 0xFF -/
  pref : List Nat := List.replicate 256 255
  /-- alert mask | 16 | 08 R225 | 0 -/
  alertMask : BitVec 16 := 0
  /-- k_p of the phase table | 4 | 09 R248 | 3 -/
  kp : Nat := 3
  /-- k_d of the phase table | 4 | 09 R248 | 2 -/
  kd : Nat := 2
  /-- decision ring, MiB | 16 | 09 R254 | 1024 -/
  decisionMib : Nat := 1024
  /-- cooling section | record | 10 R283 | defaults -/
  cool : CoolConfig := {}
  /-- ledger settings with the calibration | record | 11 R289 | defaults -/
  ledger : LedgerSettings := {}
  /-- SKV8 and SKV9 are expansion ports | 2 | 13 R361 | unused -/
  expansion : List Bool := [false, false]
  /-- Ethernet section | record | 13 R373 | defaults -/
  eth : EthConfig := {}
  /-- nominal logical cores of kinds 1 and 2 | 2 x 32 | 14 R399 | 0 -/
  nominal : List Nat := [0, 0]
  /-- DDR5 log ring, MiB | 16 | 02 R64 | 256 -/
  logMib : Nat := 256
  /-- spill ring, bytes | 32 | 17 R456 | 67108864 -/
  spillBytes : Nat := 67108864
  /-- partner ring, bytes | 32 | 17 R457 | 16777216 -/
  partnerBytes : Nat := 16777216
  /-- DDR5 device width, density in Gbit and ranks | 3 values | 18 R486 | x8, 16, 1 -/
  ddr : Nat × Nat × Nat := (8, 16, 1)
  /-- ideality factors of the remote diodes, thousandths | 16 x 16 | 19 R496 | 1000 -/
  ideality : List Nat := List.replicate 16 1000
  deriving DecidableEq, Repr, Inhabited

/-- A configuration block copy or staging area in FLASH1: its object as the verifier finds it, and what it carries. -/
structure ConfigObject where
  /-- the object | record | 04 R86 | erased -/
  obj : ObjectImage := {}
  /-- the values it carries | record | 04 R92 | empty -/
  cfg : ConfigBlock := {}
  deriving DecidableEq, Repr, Inhabited

/-- One object of a bundle (chapter 16, Object entry), with what the verifier finds in its blocks. -/
structure BundleObject where
  /-- type | 8 | 16 Object entry | 0 -/
  type : Nat := 0
  /-- target | 8 | 16 Object entry | 0 -/
  target : Nat := 0
  /-- model slot | 8 | 16 Object entry | 0 -/
  slot : Nat := 0
  /-- first data block | 32 | 16 Object entry | 0 -/
  first : Nat := 0
  /-- blocks | 32 | 16 Object entry | 0 -/
  nBlk : Nat := 0
  /-- store_off | 32 | 16 Object entry | 0 -/
  storeOff : Nat := 0
  /-- cfg_lo | 16 | 16 Object entry | 0 -/
  cfgLo : Nat := 0
  /-- cfg_hi | 16 | 16 Object entry | 0 -/
  cfgHi : Nat := 0
  /-- min_fw | 32 | 16 Object entry | 0 -/
  minFw : Nat := 0
  /-- acc_kind | 8 | 16 Object entry | 0 -/
  accKind : Nat := 0
  /-- acc_mask | 8 | 16 Object entry | 0 -/
  accMask : BitVec 8 := 0
  /-- mdigest equals the manifest digest of the object | 1 | 16 Object entry | false -/
  digestOk : Bool := false
  /-- the object as verified from the staging | record | 04 R90 | erased -/
  obj : ObjectImage := {}
  /-- configuration block content, for type 0x03 | record | 16 R431 | empty -/
  cfg : ConfigBlock := {}
  /-- model container content, for type 0x04 | record | 16 R431 | empty -/
  cont : Container := {}
  deriving DecidableEq, Repr, Inhabited

/-- The index of a bundle (R427), with each cryptographic check as it holds. -/
structure BundleIndex where
  /-- magic | 32 | 16 Bundle header | as defined -/
  magic : Nat := 0x4442474C
  /-- fmt | 16 | 16 Bundle header | 1 -/
  fmt : Nat := 1
  /-- the RSVD fields are zero | 1 | 16 Bundle header | true -/
  rsvdZero : Bool := true
  /-- bversion | 32 | 16 Bundle header | 0 -/
  bversion : Nat := 0
  /-- SHA-384 of the index, as the handoff block carries it | 384 | 16 R436 | 0 -/
  digest : BitVec 384 := 0
  /-- nblocks | 32 | 16 Bundle header | 0 -/
  nblocks : Nat := 0
  /-- idx_len | 32 | 16 Bundle header | 0 -/
  idxLen : Nat := 0
  /-- the first 97 bytes of vendor_key hash to the ROM hash | 1 | 16 R427 | false -/
  vendorKeyOk : Bool := false
  /-- vendor_sig verifies | 1 | 16 R427 | false -/
  vendorSigOk : Bool := false
  /-- cust_sig flag | 1 | 16 R427 | false -/
  custSig : Bool := false
  /-- SHA-384 of cust_key | 384 | 16 R427 | 0 -/
  custKeyHash : BitVec 384 := 0
  /-- cust_sig verifies | 1 | 16 R427 | false -/
  custSigOk : Bool := false
  /-- objects | 1-32 | 16 Bundle header | empty -/
  objects : List BundleObject := []
  deriving DecidableEq, Repr, Inhabited

/-- The staged bundle (R428, R429). -/
structure BundleStaging where
  /-- stated length | 32 | 16 R428 | 0 -/
  length : Nat := 0
  /-- idx_len | 32 | 16 R428 | 0 -/
  idxLen : Nat := 0
  /-- byte ranges written, start and end, disjoint and rising | list | 16 R429 | empty -/
  ranges : List (Nat × Nat) := []
  /-- the index as verified | record | 16 R429 | none -/
  idx : Option BundleIndex := none
  /-- good data blocks, rising | list | 16 R429 | empty -/
  good : List Nat := []
  /-- complete blocks awaiting the index whose data will not match their hash | list | 16 R429 | empty -/
  bad : List Nat := []
  deriving DecidableEq, Repr, Inhabited

/-- The states of an update (R446). -/
inductive UpdatePhase where
  | idle | receiving | verifying | installed | deferred | activating | planRunning | failed
  deriving DecidableEq, Repr, Inhabited

/-- A step of the accelerator update of one package (R443). -/
inductive AccStep where
  | none
  | pushing (pkg push : Nat)
  | resetting (pkg : Nat)
  | waiting (pkg : Nat) (until_ : Nat)
  deriving DecidableEq, Repr, Inhabited

/-- The update plan (R439-R443). -/
structure UpdatePlan where
  /-- loader copy pending | 1 | 16 R442 | false -/
  loader : Bool := false
  /-- model objects pending: slot, container and object | list | 16 R440 | empty -/
  models : List (Nat × Container × ObjectImage) := []
  /-- program set pending | 1 | 16 R441 | false -/
  programs : Bool := false
  /-- accelerator objects pending with their remaining masks | list | 16 R443 | empty -/
  accs : List (BitVec 8 × ObjectImage) := []
  /-- packages updated | 8 | 16 R446 | 0 -/
  accDone : BitVec 8 := 0
  /-- package whose step failed | 8 | 16 R446 | 0 -/
  accFail : BitVec 8 := 0
  /-- accelerator step in progress | tagged | 16 R443 | none -/
  step : AccStep := .none
  deriving DecidableEq, Repr, Inhabited

/-- The handoff block (R436, R437), with the sections as the values they carry. -/
structure HandoffBlock where
  /-- pending | 1 | 16 R437 | false -/
  pending : Bool := false
  /-- consumed | 1 | 16 R437 | false -/
  consumed : Bool := false
  /-- bundle: SHA-384 of the bundle index | 384 | 16 Handoff block header | 0 -/
  bundle : BitVec 384 := 0
  /-- target_gen | 32 | 16 Handoff block header | 0 -/
  targetGen : Nat := 0
  /-- from_version | 32 | 16 Handoff block header | 0 -/
  fromVersion : Nat := 0
  /-- target_cfg | 384 | 16 Handoff block header | 0 -/
  targetCfg : BitVec 384 := 0
  /-- section component versions: component and version | list | 16 R437 | empty -/
  sections : List (Nat × Nat) := []
  /-- CAPL section: tray cap, feed caps, guard, budgets, preferred points | record | 16 R436 | empty -/
  caplCaps : Nat × List Nat × Nat × List Nat × List Nat := (0, [], 0, [], [])
  /-- CAPL section: table loaded by command | record | 16 R436 | none -/
  caplTable : Option PTable := none
  /-- COOL section: levels, grace time, fan and pump integrators | record | 16 R436 | empty -/
  cool : List ThermLevel × Nat × Int × Int := ([], 0, 0, 0)
  /-- ATTR section | record | 16 R436 | defaults -/
  attr : LedgerSettings := {}
  /-- SYNM section: hang timeout and host context keys | record | 16 R436 | empty -/
  synm : Nat × List (Option (BitVec 256)) := (30, [])
  /-- SYSC section: log levels | list | 16 R436 | empty -/
  sysc : List Nat := []
  /-- UPDT section: the plan | record | 16 R436 | none -/
  plan : UpdatePlan := {}
  deriving DecidableEq, Repr, Inhabited

/-- A copy of the settings area (R433), with its fields as the values they carry. -/
structure SettingsCopy where
  /-- magic | 32 | 16 R433 | erased -/
  magic : Nat := 0xFFFFFFFF
  /-- fmt | 16 | 16 R433 | erased -/
  fmt : Nat := 0xFFFF
  /-- schema of the image that wrote the copy | 16 | 16 R433 | 0 -/
  schema : Nat := 0
  /-- gen | 32 | 16 R433 | 0 -/
  gen : Nat := 0
  /-- boot count | 16 | 16 R433, 02 R64 | 0 -/
  boot : Nat := 0
  /-- next replay record sequence | 64 | 16 R433, 14 R395 | 0 -/
  rpSeq : Nat := 0
  /-- substitutions, in order of coming into force | at most 16 | 16 R433 | empty -/
  subst : List Substitution := []
  /-- handoff block | record | 16 R433 | none -/
  handoff : HandoffBlock := {}
  /-- body: restart policy AUTO_ON | 1 | 16 R433, 06 R164 | false -/
  autoOn : Bool := false
  /-- body: breaker settings by command, per feed | 2 records | 16 R433, 05 R141 | none -/
  curves : List (Option BreakerSettings) := [none, none]
  /-- body: model slot records | 8 records | 16 R433, 09 R251 | none -/
  models : List (Option StoredModel) := List.replicate 8 none
  /-- hash matches | 1 | 16 R433 | false -/
  hashOk : Bool := false
  deriving DecidableEq, Repr, Inhabited

/-- Firmware update (chapter 16). -/
structure UpdateState where
  /-- state | 3 | 16 R446 | IDLE -/
  phase : UpdatePhase := .idle
  /-- staged bundle | record | 16 R428 | none -/
  staging : Option BundleStaging := none
  /-- last status | 8 | 16 R446 | OK -/
  last : Status := .ok
  /-- objects of the installed update | list | 16 R431 | empty -/
  objects : List BundleObject := []
  /-- generation of the WRITTEN or new slot | 32 | 16 R446 | 0 -/
  genNew : Nat := 0
  /-- firmware version of the bundle | 32 | 16 R446 | 0 -/
  verNew : Nat := 0
  /-- conditions last reported | 4 | 16 R444 | 0 -/
  conds : BitVec 4 := 0
  /-- GT of the first deferring request | 64 | 16 R445 | none -/
  deferGt : Option Nat := none
  /-- AUTO requested | 1 | 16 R445 | false -/
  auto : Bool := false
  /-- the deferral's conditions have cleared without AUTO | 1 | 16 R445 | false -/
  cleared : Bool := false
  /-- lone of the accepted activation | 1 | 16 R435 | false -/
  lone : Bool := false
  /-- the activation waits for the handover of step 6 | 1 | 16 R436 | false -/
  atStep6 : Bool := false
  /-- the warm reset of step 7 is due | 1 | 16 R436 | false -/
  resetDue : Bool := false
  /-- port of the command | 8 | 16 R447 | 0 -/
  port : Nat := 0
  /-- handoff: 0 none, 1 accepted, 2 partly refused, 3 not accepted | 8 | 16 R446 | 0 -/
  handoff : Nat := 0
  /-- handoff block in the settings area | record | 16 R436 | none -/
  block : HandoffBlock := {}
  /-- plan | record | 16 R439 | empty -/
  plan : UpdatePlan := {}
  /-- staged configuration block of CONFIG_BLOCK_WRITE | record | 16 R430 | none -/
  cfgWrite : Option (List (Nat × Nat)) := none
  /-- GT of the last S3 or S4 event | 64 | 16 R444 | none -/
  lastSevere : Option Nat := none
  /-- GT of the last fall of an enabled VR_ALERT_N line | 64 | 16 R444 | none -/
  lastAlert : Option Nat := none
  /-- GT of the last feed trip or lockout | 64 | 16 R444 | none -/
  lastBreaker : Option Nat := none
  deriving DecidableEq, Repr, Inhabited

/-- One event record: its head (R453) and the payload that its continuation records carry. -/
structure EventRec where
  /-- event code | 16 | 17 R453 | 0 -/
  event : Nat := 0
  /-- severity 0-4 | 3 | 17 R453 | 0 -/
  sev : Nat := 0
  /-- this port lost occurrences before this record | 1 | 17 R453 | false -/
  lost : Bool := false
  /-- rpt has saturated | 1 | 17 R453 | false -/
  sat : Bool := false
  /-- record sequence | 32 | 17 R451 | 0 -/
  recSeq : Nat := 0
  /-- governor time of the first occurrence | 64 | 17 R453 | 0 -/
  gt : Nat := 0
  /-- highest reported step at the first occurrence | 64 | 17 R453 | 0 -/
  step : Nat := 0
  /-- further occurrences merged | 16 | 17 R453 | 0 -/
  rpt : Nat := 0
  /-- source | 16 | 17 R453 | 0 -/
  src : Nat := 0
  /-- ms from gt to the latest merged occurrence | 32 | 17 R453 | 0 -/
  lastMs : Nat := 0
  /-- payload, at most 72 bytes | bytes | 17 R453, R503 | empty -/
  payload : List Byte := []
  deriving DecidableEq, Repr, Inhabited

/-- The intake ports of Rosemary, in port order (R451). -/
inductive EvPort where
  | rosemary | sage | feed | thyme | monitor | arbiter | semaphores | hub | metering | hostSwitch | mirror | phase
  | fp0 | fp1 | fp2 | fp3
  deriving DecidableEq, Repr, Inhabited

/-- One intake port of Rosemary (R451, R452). -/
structure IntakePort where
  /-- records waiting, oldest first, at most 16 | list | 17 R452 | empty -/
  waiting : List EventRec := []
  /-- occurrences lost and not yet reported | 32 | 17 R452 | 0 -/
  lost : Nat := 0
  /-- the next record that the port writes carries the lost flag | 1 | 17 R452 | false -/
  lostPending : Bool := false
  deriving DecidableEq, Repr, Inhabited

/-- One key of the merge table (R454). -/
structure MergeKey where
  /-- event code | 16 | 17 R454 | 0 -/
  event : Nat := 0
  /-- severity | 3 | 17 R454 | 0 -/
  sev : Nat := 0
  /-- source | 16 | 17 R454 | 0 -/
  src : Nat := 0
  /-- record the key names | 32 | 17 R454 | 0 -/
  recSeq : Nat := 0
  /-- GT of its latest occurrence | 64 | 17 R454 | 0 -/
  last : Nat := 0
  deriving DecidableEq, Repr, Inhabited

/-- One entry of a handling queue (R458). -/
structure HandleEntry where
  /-- record | 32 | 17 R458 | 0 -/
  recSeq : Nat := 0
  /-- severity | 3 | 17 R458 | 0 -/
  sev : Nat := 0
  deriving DecidableEq, Repr, Inhabited

/-- The handling queue of one firmware processor (R458-R460). -/
structure HandlingQueue where
  /-- entries waiting, at most 64 | list | 17 R458 | empty -/
  entries : List HandleEntry := []
  /-- handler running and those it preempted, running first | list | 17 R458 | empty -/
  running : List HandleEntry := []
  /-- entries displaced or refused | 32 | 17 R459 | 0 -/
  overflow : Nat := 0
  /-- highest queue depth | 8 | 17 R467 | 0 -/
  peak : Nat := 0
  deriving DecidableEq, Repr, Inhabited

/-- The telemetry stream (R465, R466). -/
structure StreamState where
  /-- mailbox port whose session receives the stream | 1 | 17 R465 | 0 -/
  port : Nat := 0
  /-- session | 32 | 17 R465 | 0 -/
  session : U32 := 0
  /-- bit 0 trace records, bit 1 Rosemary records | 2 | 17 R465 | 0 -/
  bits : BitVec 2 := 0
  /-- next frame sequence | 64 | 17 R466 | 1 -/
  tseq : Nat := 1
  /-- records in the frame being filled (type 1 trace, 2 Rosemary; 32 bytes each) | list | 17 R466 | empty -/
  frame : List (List Byte) := []
  /-- type of the frame being filled | 8 | 17 R466 | 0 -/
  frameType : Nat := 0
  /-- GT of the frame's first record | 64 | 17 R466 | 0 -/
  frameGt : Nat := 0
  deriving DecidableEq, Repr, Inhabited

/-- A telemetry frame sent, as its fields and as the bytes on the wire (R466). -/
structure TelemetryFrame where
  /-- session | 32 | 17 R466 | 0 -/
  session : U32 := 0
  /-- type | 8 | 17 R466 | 0 -/
  type : Nat := 0
  /-- frame sequence | 64 | 17 R466 | 0 -/
  tseq : Nat := 0
  /-- records of 32 bytes | list | 17 R466 | empty -/
  records : List (List Byte) := []
  /-- the frame as it leaves, its body encrypted | bytes | 17 R466 | empty -/
  wire : List Byte := []
  deriving DecidableEq, Repr, Inhabited

/-- The Rosemary recorder (chapter 17). -/
structure RecorderState where
  /-- next record sequence, mod 2^32 | 32 | 17 R451 | 0 -/
  nextSeq : Nat := 0
  /-- event records in the SRAM ring (16,384 records, heads with their continuations), oldest first | list | 17 R456 | empty -/
  ring : List EventRec := []
  /-- records in the DDR5 spill ring, oldest first | list | 17 R456 | empty -/
  spill : List EventRec := []
  /-- spill ring size, bytes, from the configuration block | 32 | 17 R456 | 67108864 -/
  spillBytes : Nat := 67108864
  /-- spill running | 1 | 17 R456 | false -/
  spilling : Bool := false
  /-- records overwritten in SRAM before they were spilled | 32 | 17 R456 | 0 -/
  unspilled : Nat := 0
  /-- record sequence of the next record to spill | 32 | 17 R456 | 0 -/
  spillNext : Nat := 0
  /-- partner's records, oldest first | list | 17 R457 | empty -/
  partner : List EventRec := []
  /-- partner ring size, bytes, from the configuration block | 32 | 17 R457 | 16777216 -/
  partnerBytes : Nat := 16777216
  /-- clear mark: records up to and including this sequence are cleared | 32 | 17 R463 | none -/
  mark : Option Nat := none
  /-- intake ports in port order | 16 records | 17 R451 | empty -/
  ports : List IntakePort := List.replicate 16 {}
  /-- total intake losses since power-on reset, saturating | 32 | 17 R452 | 0 -/
  lostTotal : Nat := 0
  /-- GT of the last 0x0D05 record | 64 | 17 R452 | none -/
  lostReport : Option Nat := none
  /-- merge table, newest first, at most 64 | list | 17 R454 | empty -/
  merge : List MergeKey := []
  /-- saturation counter | 64 | 17 R455 | 0 -/
  satCount : Nat := 0
  /-- occurrences of S0-S4 | 5 x 64 | 17 R467 | 0 -/
  bySev : List Nat := List.replicate 5 0
  /-- handling queues of FP0-FP3 | 4 records | 17 R458 | empty -/
  queues : List HandlingQueue := List.replicate 4 {}
  /-- telemetry stream | record | 17 R465 | none -/
  stream : Option StreamState := none
  /-- telemetry frames sent, oldest first (the model's own transmit list) | list | 17 R466 | empty -/
  frames : List TelemetryFrame := []
  /-- GT of the last repeat push per record | list | 02 R48 | empty -/
  repeatLast : List (Nat × Nat) := []
  /-- records whose rpt changed since the last repeat push | list | 02 R48 | empty -/
  repeatDue : List Nat := []
  deriving DecidableEq, Repr, Inhabited

/-- The supplies of the governor, as its power-on detector and start-up see them (R471, R493). -/
structure SupplyState where
  /-- VDD_AON, mV as the power-on detector measures it | 16 | 19 R493; 18 R471 | 750 (nominal) -/
  vddAon : Nat := 750
  /-- VDDIO_AON, mV as the power-on detector measures it | 16 | 19 R493; 18 R471 | 1800 (nominal) -/
  vddioAon : Nat := 1800
  /-- the AON power-on threshold is crossed and no brown-out has followed | 1 | 03 R73; 19 R493 | true -/
  aonGood : Bool := true
  deriving DecidableEq, Repr, Inhabited

/-- The nets whose reset state is Shadow (R473): all but FAST_OFF, TRAY_SLOW_N and OWN_N. -/
def shadowNets : BitVec 103 := ~~~(((1#103 <<< 95) ||| (1#103 <<< 96)) ||| ((1#103 <<< 101) ||| (1#103 <<< 102)))

/-- The pins at which the governor and its partner meet (R202, R473, R474).
The enables, resets, power-goods, valves and feed lines are numbered as the nets of R503, 0 to 102. -/
structure PinState where
  /-- nets latched as pulled since they read low with the partner alive | 103 | 18 R474 | 0 -/
  shadowLatch : BitVec 103 := 0
  /-- shared nets that a governor which has not yet mirrored releases, in place of its own grants | 103 | 18 R474; 15 R415 | none -/
  shadowHold : Option (BitVec 103) := none
  /-- level of ALIVE_OUT | 1 | 15 R404; 18 R473 | low -/
  aliveOut : Bool := false
  /-- ACC_THERMTRIP_N lines low | 8 | 18 R474 | 0 -/
  tripLow : BitVec 8 := 0
  deriving DecidableEq, Repr, Inhabited

/-- The source of CLK_PER and CLK_TICK (R69, R72). -/
inductive ClockSource where
  | oscInt | pll
  deriving DecidableEq, Repr, Inhabited

/-- What the clock monitor has declared (R69, R70). -/
inductive ClockHealth where
  | good | lost
  deriving DecidableEq, Repr, Inhabited

/-- Where the governor is in its start-up (R72, R76, R81, R91, R92, R83). -/
inductive BootPhase where
  | porHeld | waitClock | rom | loader | powerDown | handoff | starting | running | recovery | resetHeld | scan | halted
  deriving DecidableEq, Repr, Inhabited

/-- Clocks, resets and straps (chapter 03). -/
structure ClockState where
  /-- governor time, µs | 64 | 00 Conventions; 01 R19 | 0 -/
  gt : Nat := 0
  /-- source of CLK_PER and CLK_TICK | 1 | 03 R72 | OSC_INT -/
  source : ClockSource := .oscInt
  /-- REFCLK and root PLL as declared by the clock monitor | 1 | 03 R69 | lost (not yet good) -/
  health : ClockHealth := .lost
  /-- consecutive good OSC_INT windows | 16 | 03 R71, R72 | 0 -/
  goodWindows : Nat := 0
  /-- root PLL locked | 1 | 03 R72 | false -/
  pllLocked : Bool := false
  /-- GT of the loss declared | 64 | 03 R71 | none -/
  lossGt : Option Nat := none
  /-- core and PHY domains held in reset | 1 | 03 R72 | true -/
  coreInReset : Bool := true
  /-- RESET_N has been taken as low and is not yet released | 1 | 03 R76 | false -/
  resetNLow : Bool := false
  /-- a warm reset is in progress | 1 | 03 R77 | false -/
  warmInProgress : Bool := false
  /-- where the start-up stands | 4 | 03 R83 | power-on reset held -/
  phase : BootPhase := .porHeld
  /-- GT of a warm reset that BOOT_RECOVERY has started | 64 | 04 R104 | none -/
  recoveryAt : Option Nat := none
  /-- the recovery loader is selected for the next boot only | 1 | 04 R104 | false -/
  recoveryNext : Bool := false
  /-- the current boot follows a power-on reset | 1 | 03 R71, R72 | true -/
  porBoot : Bool := true
  /-- the straps were latched at this power-on reset and no warm reset has read them since | 1 | 03 R79, R80 | false -/
  strapsNew : Bool := false
  /-- consecutive low samples of RESET_N, at most 2 | 2 | 03 R76 | 0 -/
  resetLows : Nat := 0
  /-- REFCLK returned but the PLL is declared lost by temperature | 1 | 19 R502 | false -/
  tempLost : Bool := false
  /-- consecutive on-die readings at or above 115 °C | 4 | 19 R502 | 0 -/
  hotReadings : Nat := 0
  /-- GT since which the on-die reading is below 95 °C | 64 | 19 R502 | none -/
  coolSince : Option Nat := none
  /-- the on-die advisory is active | 1 | 19 R502 | false -/
  tempAdvisory : Bool := false
  deriving DecidableEq, Repr, Inhabited

/-- The strap pins (R79-R82). -/
structure Straps where
  /-- BOOT_MODE as sampled at the last reset | 3 | 03 R79 | 0 (sampled) -/
  bootMode : BitVec 3 := 0
  /-- COOL_MODE latched at power-on | 1 | 03 R79 | 0 (sampled) -/
  coolMode : Bool := false
  /-- PAIR_SEL latched at power-on, false for A | 1 | 03 R79 | 0 (sampled) -/
  pairSel : Bool := false
  /-- SLOT_ID latched at power-on | 6 | 03 R79 | 0 (sampled) -/
  slotId : BitVec 6 := 0
  deriving DecidableEq, Repr, Inhabited

/-- Secure start and identity (chapter 04). -/
structure SecureState where
  /-- loader copies 0 and 1 | 2 slots | 04 R85 | as provisioned (model: erased) -/
  loaders : List Slot := [{}, {}]
  /-- firmware slots A and B | 2 slots | 04 R85 | as provisioned (model: erased) -/
  slots : List Slot := [{}, {}]
  /-- anchor header copies 0 and 1 | 2 headers | 04 Anchor region | as provisioned (model: erased) -/
  anchors : List AnchorHeader := [{}, {}]
  /-- index of the adopted anchor header | 1 | 04 R91 | none -/
  anchor : Option Nat := none
  /-- settings copies, written alternately | 2 x 2 MiB | 16 R433 | as provisioned (model: erased) -/
  settings : List SettingsCopy := [{}, {}]
  /-- configuration block copies 0 and 1, as objects | 2 objects | 04 R85 | as provisioned (model: erased) -/
  cfgCopies : List ConfigObject := [{}, {}]
  /-- configuration staging with the anchor_gen it was made against | object | 04 R85, R96 | none -/
  cfgStaging : Option (Nat × ConfigObject) := none
  /-- anchor staging: a customer key change with the anchor_gen it names | record | 04 R85, R98 | none -/
  anchorStaging : Option (Nat × AnchorChange) := none
  /-- anchor gate open | 1 | 04 R87 | true -/
  gateOpen : Bool := true
  /-- running loader copy | 1 | 04 R91 | none -/
  runningLoader : Option Nat := none
  /-- running firmware slot | 1 | 04 R92 | none -/
  runningSlot : Option Nat := none
  /-- configuration block copy in force | 1 | 04 R92 | none -/
  cfgInForce : Option Nat := none
  /-- device serial | 128 | 04 R105 | 0 (derived from the PUF) -/
  serial : BitVec 128 := 0
  /-- key store: the private scalars of IDK, AK and LK, empty before the ROM has derived them | 3 x 384 | 04 R105 | empty -/
  keys : List Nat := []
  /-- IDK certificate in the anchor region | bytes | 04 Anchor region | as provisioned (model: empty) -/
  idkCert : List Byte := []
  /-- PUF helper data in the anchor region | bytes | 04 Anchor region | as provisioned (model: empty) -/
  helperData : List Byte := []
  /-- boot count, kept in the settings area | 16 | 02 R64 | 0 -/
  bootCount : Nat := 0
  /-- bytes written to UART DIAG (the model's own transmit list) | list | 03 R81 | empty -/
  diag : List Byte := []
  /-- recovery loader | record | 04 R102 | idle -/
  recov : RecoveryState := {}
  /-- debug access | record | 04 R109 | locked -/
  unlock : DebugState := {}
  deriving DecidableEq, Repr, Inhabited

end Sys2Proof.Machine
end

