-- ==== Sys2Proof/Machine/Messages.lean ====
section
/-! DEFINITION. What reaches the governor from outside: mailbox messages with their command bodies, recovery frames, reports, host-path frames and mirror content. Cryptographic checks are attributes of what arrives (log entry 2). -/

namespace Sys2Proof.Machine

/-- The header of a mailbox message and of the command body in it (02 R43, R44). -/
structure Hdr where
  /-- mailbox port, 0 or 1 (R37) -/
  port : U8 := 0
  /-- magic of the outer header, as a little-endian number (R43) -/
  magic : U32 := 0x564D524A
  /-- type of the outer header (R43) -/
  type : U8 := 0x10
  /-- length field of the outer header (R43) -/
  length : U16 := 0
  /-- bytes of the datagram that follow the outer header (R43) -/
  follow : U16 := 0
  /-- generation of the outer header (R43) -/
  gen : U8 := 3
  /-- session ID (R43) -/
  session : U32 := 0
  /-- message sequence number (R43) -/
  msgSeq : U64 := 0
  /-- the GCM tag verifies (R44) -/
  tagOk : Bool := true
  /-- request ID (02 Command body) -/
  reqId : U32 := 0
  /-- AUTO flag (02 Command body) -/
  auto : Bool := false
  /-- the RSVD bits of the flags and the RSVD field of the body, together (02 Command body) -/
  rsvd : U32 := 0
  /-- the RSVD fields of the payload, together (R16) -/
  payRsvd : U32 := 0
  /-- payload length (02 Command body) -/
  plen : U16 := 0
  deriving DecidableEq, Repr, Inhabited

/-- The magic, type and length of a message are right (02 R43, R44). -/
def Hdr.framed (h : Hdr) (type : Nat) : Bool := h.magic == 0x564D524A && h.type.toNat == type && h.length == h.follow

/-- The session and request ID of a command forwarded over MIR (02 R55). -/
structure CommandOrigin where
  /-- session ID at the partner -/
  session : U32 := 0
  /-- its request ID -/
  reqId : U32 := 0
  deriving DecidableEq, Repr, Inhabited

/-- Whether the signatures of an unlock token verify (04 R109; log entry 2). -/
structure TokenSigs where
  /-- vendor_sig verifies under the vendor key of the running firmware's manifest -/
  vendorOk : Bool := true
  /-- the customer signature verifies under the enrolled key -/
  custOk : Bool := true
  deriving DecidableEq, Repr, Inhabited

/-- A level of FEED_x_CMP that outlasts the blanking filter (05 R120, R504). -/
structure CmpLevel where
  /-- 0 for feed A, 1 for feed B -/
  feed : U8 := 0
  /-- mV -/
  mv : U16 := 0
  deriving DecidableEq, Repr, Inhabited

/-- A public key as an uncompressed point: form byte and coordinates (02 R37). -/
def uncompressed (form : U8) (x y : BitVec 384) : BitVec 776 := form ++ x ++ y

/-- A semaphore command as SEMA takes it (02 R55); `close` is the release of all that a closing session holds (02 R58). -/
inductive SemCmd where
  | acquire (id : U8) (lease : U16)
  | renew (id : U8) (token : U64)
  | release (id : U8) (token : U64)
  | query
  | brk (id : U8)
  | close
  deriving DecidableEq, Repr, Inhabited

/-- The frame of a recovery command (04 R102). -/
structure RecovHdr where
  /-- sync byte (R102) -/
  sync : U8 := 0xA5
  /-- payload bytes (R102) -/
  len : U16 := 0
  /-- the CRC is right (R102) -/
  crcOk : Bool := true
  /-- frame sequence (R102) -/
  seq : U16 := 0
  /-- RSVD fields (R16) -/
  rsvd : U32 := 0
  deriving DecidableEq, Repr, Inhabited

/-- The object that a recovery transfer has staged, as its checks find it (04 R100, R103). -/
inductive RecovContent where
  | image (obj : ObjectImage)
  | config (obj : ConfigObject)
  | anchor (obj : ObjectImage) (serialOk idkOk : Bool) (minVersion : U32) (ckEnrolled : Bool) (ckHash : BitVec 384) (helper : List Byte)
  deriving DecidableEq, Repr, Inhabited

/-- The sources of a warm reset (03 R73; 04 R102 for the recovery loader). -/
inductive WarmSource where
  | resetN | refclkReturn | watchdog (proc : U8) | activation | bootRecovery | recoveryLoader
  deriving DecidableEq, Repr, Inhabited

/-- What a device answers to a poll: the word of VOUT_MODE, READ_VOUT or READ_IOUT, or what STATUS_WORD reports: power good, VOUT_OV_FAULT, VOUT_UV_FAULT, IOUT_OC_FAULT (07 R182, R189). -/
structure PollReply where
  /-- word read -/
  word : U16 := 0
  /-- power good -/
  pg : Bool := false
  /-- VOUT_OV_FAULT -/
  ov : Bool := false
  /-- VOUT_UV_FAULT -/
  uv : Bool := false
  /-- IOUT_OC_FAULT -/
  oc : Bool := false
  deriving DecidableEq, Repr, Inhabited

/-- The input pins as a tick reads them. -/
structure TickPins where
  /-- TRAY_SLOW_N reads low (08 R226) -/
  slowLow : Bool := false
  /-- VR_ALERT_N lines that read low (08 R226) -/
  alertLow : BitVec 16 := 0
  /-- ACC_THERMTRIP_N lines that read low (06 R152) -/
  tripLow : BitVec 8 := 0
  /-- the partner pulls OWN_N low (15 R404) -/
  ownLow : Bool := false
  /-- ALIVE_IN has changed level since the last tick (15 R405) -/
  aliveChanged : Bool := false
  /-- RESET_N reads low (03 R76) -/
  resetLow : Bool := false
  /-- FEED_A_CMP and FEED_B_CMP, mV (05 R504) -/
  cmpMv : List Nat := [0, 0]
  /-- samples of pressures 0 and 1 that end in the tick, kPa (10 R277) -/
  press : List (List Nat) := [[], []]
  /-- the journal device reads an entry back wrong, after a rewrite too (11 R311) -/
  journalBad : Bool := false
  deriving DecidableEq, Repr, Inhabited

/-- A tag report (11 R291). -/
structure TagReport where
  /-- participant ID of the die -/
  part : U8 := 0
  /-- entries used -/
  n : U8 := 0
  /-- report sequence of the die -/
  rseq : U32 := 0
  /-- tag and weight of the entries used -/
  ent : List (U64 × U16) := []
  deriving DecidableEq, Repr, Inhabited

/-- A phase report (13 R370). -/
structure PhaseReport where
  /-- participant ID of the die -/
  part : U8 := 0
  /-- phase ID -/
  phase : U8 := 0
  /-- P-state the die runs at -/
  pstate : U8 := 0
  /-- flags -/
  flags : U8 := 0
  /-- last P-state change applied by the package -/
  chgSeq : U32 := 0
  /-- step number -/
  step : U64 := 0
  /-- report sequence of the die -/
  rseq : U32 := 0
  deriving DecidableEq, Repr, Inhabited

/-- A temperature report (13 R371). -/
structure TempReport where
  /-- package -/
  pkg : U8 := 0
  /-- dies 0-7, 0x8000 for no reading -/
  die : List U16 := []
  /-- HBM stacks 0-23, 0x8000 for no reading -/
  hbm : List U16 := []
  deriving DecidableEq, Repr, Inhabited

/-- The header of a host-path frame, with its tag's verdict (13 R376). -/
structure HostFrame where
  /-- magic, bytes 0x4C, 0x47, 0x48, 0x46 -/
  magic : U32 := 0x4648474C
  /-- type: 1 sync operations, 3 queue entries, 6 image data -/
  typ : U8 := 0
  /-- frame class of the UDP port it arrived on: 0 sync, 1 host queue, 2 image (13 R375) -/
  cls : U8 := 0
  /-- body bytes -/
  len : U16 := 0
  /-- the GCM tag verifies under the key of `ctx` -/
  tagOk : Bool := true
  /-- frame sequence -/
  fseq : U64 := 0
  deriving DecidableEq, Repr, Inhabited

/-- A heartbeat (15 R414). -/
structure Heartbeat where
  /-- 0 STANDBY, 1 OWNER, 2 undecided -/
  role : U8 := 0
  /-- 0 DETACHED, 1 SYNCING, 2 MIRRORING -/
  mstate : U8 := 0
  /-- sender's th -/
  th : U8 := 0
  /-- leak confirmed -/
  leak : Bool := false
  /-- critical confirmed -/
  crit : Bool := false
  /-- highest mseq applied -/
  ack : U32 := 0
  /-- sender's GT -/
  gtSend : U64 := 0
  /-- gt_send of the last heartbeat received from this governor -/
  echo : U64 := 0
  /-- sender's GT at its receipt -/
  echoRx : U64 := 0
  deriving DecidableEq, Repr, Inhabited

/-- What the partner sends in the first MGMT exchange (03 R82, 15 R411, R424). -/
structure PartnerStraps where
  /-- SLOT_ID -/
  slotId : BitVec 6 := 0
  /-- COOL_MODE -/
  coolMode : Bool := false
  /-- PAIR_SEL -/
  pairSel : Bool := false
  /-- mirror_proto of the running image -/
  proto : U16 := 0
  /-- the SHA-384 of its locked limit block equals that of this governor -/
  limitsEqual : Bool := true
  /-- serial -/
  serial : BitVec 128 := 0
  /-- firmware version -/
  fw : U32 := 0
  deriving DecidableEq, Repr, Inhabited

/-- A ledger tick's marker and credits from the OWNER (11 R314). -/
structure TickMarker where
  /-- L of the tick -/
  l : U64 := 0
  /-- credits in nJ by account slot; 65536 overhead, 65537 residual, 65538 overflow, 65539 feed total -/
  credits : List (Nat × Int) := []
  deriving DecidableEq, Repr, Inhabited

/-- The content of a repaired hub object (12 R349). -/
inductive SyncContent where
  | word (w : SyncWord)
  | pair (p : SyncPair)
  | barrier (b : Barrier)
  | lost
  deriving DecidableEq, Repr, Inhabited

/-- The state that a mirror record carries, by the rows of the mirrored-state table (15 R413). -/
inductive MirContent where
  | hub (st : SyncState)
  | thyme (ctxs : List ThymeCtx) (requests : List (PowerRequest × Nat)) (autoOn : Bool) (prog : ProgramSet) (deferredUp : Bool) (accMinOff : List (Option Nat)) (due : Option EmergencyKind)
  | grants (rails : List Nat) (setpoints : List (Nat × Nat × Int)) (duties : List Nat) (budgets : List Nat) (ceil : Nat) (nets : BitVec 103)
  | tray (tray : TrayState) (accs : List AccState) (demand fault leak : Bool) (forced : List Bool) (minOff : Option Nat) (afterInputLoss : Bool)
  | sems (holders : List (Option SemHolder))
  | op (pNow ceil capCeil up : Nat) (armed : List ArmedChange) (chgSeq : Nat) (trayCapW : Nat) (feedCapA : List Nat) (guard : Nat) (budget : List Nat) (pref : List Nat)
  | phaseAction (slot : Nat) (action : Nat) (model : StoredModel)
  | phaseState (table : List (Nat × PhaseEntry)) (acc : List PhaseAcc) (slots : List ModelSlot) (order : List Nat) (frameNo : Nat)
  | cool (fanI pumpI : Int) (fanOv pumpOv : List (Option Nat)) (valveOv : List Bool) (levels : List ThermLevel) (graceMs : Nat)
  | ledger (st : LedgerState)
  | host (keys : List HostKeyState) (queueKeys imageKeys : List HostKeyState) (queues : List HostQueue) (buffers : List (Option ImageBuffer)) (pushes : List ImagePush)
  | repro (st : ReproState)
  | plan (plan : UpdatePlan)
  | events (r : EventRec)
  | semAnswer (port : Nat) (session reqId : U32) (status : Status) (payload : List Byte)
  | bulkItem (bytes : Nat)
  | path (pkg cls : Nat) (body : List Byte)
  deriving DecidableEq, Repr, Inhabited

/-- A command body (R62, R63) with its payload as the fields of its payload table; reserved fields stand in the header. -/
inductive Body where
  /-- `SESSION_INFO` (R44). -/
  | sessionInfo
  /-- `KEEPALIVE` (R40). -/
  | keepalive
  /-- `SESSION_CLOSE` (R58). -/
  | sessionClose
  /-- `GOV_INFO` (R63). -/
  | govInfo
  /-- `EVENT_SUBSCRIBE` (R464). -/
  | eventSubscribe (groups : U16) (sev : U8)
  /-- `EVENT_POLL` (R464). -/
  | eventPoll (first : U32) (count : U8)
  /-- `SEM_ACQUIRE` (R56). -/
  | semAcquire (id : U8) (lease : U16)
  /-- `SEM_RENEW` (R57). -/
  | semRenew (id : U8) (token : U64)
  /-- `SEM_RELEASE` (R58). -/
  | semRelease (id : U8) (token : U64)
  /-- `SEM_QUERY` (R61). -/
  | semQuery
  /-- `SEM_BREAK` (R58). -/
  | semBreak (id : U8)
  /-- `RAIL_STATUS` (R204). -/
  | railStatus (first : U8) (count : U8)
  /-- `RAIL_LEVELS_SET` (R186). -/
  | railLevelsSet (first : U8) (count : U8) (levels : List RailLevels)
  /-- `RAIL_COUNTERS_READ` (R204). -/
  | railCountersRead (first : U8) (count : U8)
  /-- `RAIL_COUNTERS_CLEAR` (R199). -/
  | railCountersClear (first : U8) (count : U8)
  /-- `MARGIN_SET` (R200). -/
  | marginSet (channel : U8) (steps : U8) (device : Option U16)
  /-- `LIMITS_READ` (R205). -/
  | limitsRead (offset : U32) (length : U16)
  /-- `RAIL_MAP_READ` (R204). -/
  | railMapRead (first : U8) (count : U8)
  /-- `TRAY_POWER_ON` (R170). -/
  | trayPowerOn
  /-- `TRAY_POWER_OFF` (R170). -/
  | trayPowerOff
  /-- `ACC_POWER_ON` (R170). -/
  | accPowerOn (acc : U8)
  /-- `ACC_POWER_OFF` (R170). -/
  | accPowerOff (acc : U8)
  /-- `ACC_POWER_RESET` (R78). -/
  | accPowerReset (acc : U8)
  /-- `SEQ_STATUS` (R169). -/
  | seqStatus
  /-- `SEQ_PROGRAM_LOAD_BEGIN` (R171). -/
  | seqProgramLoadBegin
  /-- `SEQ_PROGRAM_LOAD_DATA` (R171). -/
  | seqProgramLoadData (offset : U32) (data : List Byte)
  /-- `SEQ_PROGRAM_LOAD_COMMIT` (R171). -/
  | seqProgramLoadCommit
  /-- `SEQ_START` (R172). -/
  | seqStart (prog : U8)
  /-- `TRAY_FAULT_CLEAR` (R173). -/
  | trayFaultClear
  /-- `ACC_FAULT_CLEAR` (R173). -/
  | accFaultClear (acc : U8)
  /-- `RESTART_POLICY_SET` (R164). -/
  | restartPolicySet (policy : U8)
  /-- `MODE_SET_ON` (R201). -/
  | modeSetOn
  /-- `MODE_SET_MAINTENANCE` (R174). -/
  | modeSetMaintenance
  /-- `FEED_STATUS` (R140). -/
  | feedStatus
  /-- `FEED_SWITCH_FORCE_OFF` (R141). -/
  | feedSwitchForceOff (feed : U8)
  /-- `FEED_SWITCH_AUTO` (R141). -/
  | feedSwitchAuto (feed : U8)
  /-- `BREAKER_CURVE_WRITE` (R141). -/
  | breakerCurveWrite (feed : U8) (backoff : U16) (cmp : U16) (curve : List CurvePoint)
  /-- `BREAKER_CURVE_READ` (R140). -/
  | breakerCurveRead (feed : U8)
  /-- `FEED_LOCKOUT_CLEAR` (R126). -/
  | feedLockoutClear (feed : U8)
  /-- `TRIP_RECORDS_READ` (R140). -/
  | tripRecordsRead (first : U32) (count : U8)
  /-- `PSTATE_TABLE_LOAD_BEGIN` (R228). -/
  | pstateTableLoadBegin
  /-- `PSTATE_TABLE_LOAD_DATA` (R228). -/
  | pstateTableLoadData (offset : U32) (data : List Byte)
  /-- `PSTATE_TABLE_LOAD_COMMIT` (R228). -/
  | pstateTableLoadCommit
  /-- `PREF_POINT_SET` (R211). -/
  | prefPointSet (first : U8) (count : U16) (points : List U8)
  /-- `CAP_SET` (R212). -/
  | capSet (tray : U32) (feedA : U16) (feedB : U16) (guard : U16) (budgets : List U32)
  /-- `OPPOINT_STATUS` (R228). -/
  | oppointStatus
  /-- `MODEL_LOAD_BEGIN` (R251). -/
  | modelLoadBegin (slot : U8) (flags : U8)
  /-- `MODEL_LOAD_DATA` (R251). -/
  | modelLoadData (slot : U8) (flags : U8) (offset : U32) (data : List Byte)
  /-- `MODEL_LOAD_COMMIT` (R250). -/
  | modelLoadCommit (slot : U8) (flags : U8) (obj : ObjectImage)
  /-- `MODEL_START` (R259). -/
  | modelStart (slot : U8)
  /-- `MODEL_STOP` (R259). -/
  | modelStop (slot : U8)
  /-- `MODEL_STATUS` (R258). -/
  | modelStatus
  /-- `PHASE_TABLE_READ` (R258). -/
  | phaseTableRead (pkg : U8) (first : U8) (count : U8)
  /-- `DECISION_LOG_READ` (R259). -/
  | decisionLogRead (kind : U8) (frame : U64) (offset : U32) (length : U16)
  /-- `COOL_STATUS` (R284). -/
  | coolStatus
  /-- `THERMAL_LEVELS_SET` (R265). -/
  | thermalLevelsSet (first : U8) (count : U8) (levels : List ThermLevel)
  /-- `GRACE_SET` (R267). -/
  | graceSet (ms : U32)
  /-- `LEAK_CLEAR` (R281). -/
  | leakClear
  /-- `COOL_OVERRIDE` (R274). -/
  | coolOverride (target : U8) (index : U8) (value : U8)
  /-- `LEDGER_CFG_SET` (R316). -/
  | ledgerCfgSet (interim : U16) (oh : U8) (res : U8) (wStale : U16) (wOff : U16)
  /-- `ACCOUNT_OPEN` (R297). -/
  | accountOpen (tag : U64)
  /-- `ACCOUNT_CLOSE` (R297). -/
  | accountClose (tag : U64)
  /-- `ACCOUNT_READ` (R316). -/
  | accountRead (sel : U8) (tag : U64)
  /-- `LEDGER_STATUS` (R316). -/
  | ledgerStatus
  /-- `CALIBRATION_SET` (R289). -/
  | calibrationSet (first : U8) (count : U8) (entries : List Calib)
  /-- `RECORDS_FETCH` (R313). -/
  | recordsFetch (first : U64) (count : U8)
  /-- `RECORDS_ACK` (R307). -/
  | recordsAck (seq : U64)
  /-- `JOURNAL_STATUS` (R316). -/
  | journalStatus
  /-- `SYNC_CFG_HANG_TIMEOUT` (R358). -/
  | syncCfgHangTimeout (ctx : U8) (seconds : U32)
  /-- `SYNC_CFG_BIND` (R358). -/
  | syncCfgBind (ctx : U8) (key : BitVec 256)
  /-- `SYNC_CFG_UNBIND` (R358). -/
  | syncCfgUnbind (ctx : U8)
  /-- `JOB_OPEN` (R336). -/
  | jobOpen (job : U8) (cap : U16) (quota : U32) (wFirst : U32) (wCount : U32) (pFirst : U16) (pCount : U16) (engines : U64) (parts : BitVec 72) (bmask : BitVec 72)
  /-- `JOB_CLOSE` (R338). -/
  | jobClose (job : U8)
  /-- `FE_SET_EMPTY` (R348). -/
  | feSetEmpty (addr : U64) (val : U64)
  /-- `FE_SET_FULL` (R348). -/
  | feSetFull (addr : U64) (val : U64)
  /-- `FE_SET_PAIR` (R348). -/
  | feSetPair (addr : U64) (val : U64)
  /-- `FE_SET_BARRIER` (R348). -/
  | feSetBarrier (addr : U64) (val : U64)
  /-- `FE_SET_UNPOISON` (R348). -/
  | feSetUnpoison (addr : U64) (val : U64)
  /-- `HANG_REPORT` (R347). -/
  | hangReport (first : U16) (count : U16)
  /-- `TREE_CFG_NODE` (R350). -/
  | treeCfgNode (k : U8) (tray : U32) (parent : BitVec 128) (children : List TreeChild)
  /-- `TREE_CFG_BIND_BARRIER` (R352). -/
  | treeCfgBindBarrier (engine : U8) (barrier : U8)
  /-- `TREE_CFG_UNBIND_BARRIER` (R352). -/
  | treeCfgUnbindBarrier (engine : U8) (barrier : U8)
  /-- `TREE_CFG_BIND_CHANNEL` (R354). -/
  | treeCfgBindChannel (channel : U8) (word : U32)
  /-- `TREE_CFG_LEAVE` (R350). -/
  | treeCfgLeave
  /-- `SYNC_STATUS` (R358). -/
  | syncStatus
  /-- `LINK_STATUS` (R385). -/
  | linkStatus
  /-- `HOSTQ_CREATE` (R378). -/
  | hostqCreate (queue : U8) (toPort : U8) (depth : U16) (entryBytes : U16) (key : BitVec 256)
  /-- `HOSTQ_DELETE` (R381). -/
  | hostqDelete (queue : U8)
  /-- `IMAGE_PUSH_OPEN` (R382). -/
  | imagePushOpen (buffer : U8) (mask : U8) (source : U8) (size : U32) (key : BitVec 256)
  /-- `IMAGE_PUSH_START` (R383). -/
  | imagePushStart (buffer : U8) (mask : U8) (source : U8) (offset : U32)
  /-- `IMAGE_PUSH_ABORT` (R383). -/
  | imagePushAbort (buffer : U8) (mask : U8) (source : U8) (offset : U32)
  /-- `LINK_RETRAIN` (R385). -/
  | linkRetrain (link : U8)
  /-- `BW_SHARE_SET` (R384). -/
  | bwShareSet (weights : List U8)
  /-- `STRICT_SET` (R390). -/
  | strictSet (value : U8)
  /-- `REPLAY_RECORD_READ` (R401). -/
  | replayRecordRead (sel : U8) (job : U8) (rp : U64) (offset : U16) (length : U16)
  /-- `REPLAY_BIND` (R393). -/
  | replayBind (job : U8) (interval : U64) (prog : BitVec 384) (input : BitVec 384) (ref : BitVec 384) (refCores : List U32) (seeds : List U64)
  /-- `REPLAY_BIND_RESULT` (R396). -/
  | replayBindResult (job : U8) (step : U64) (digest : BitVec 384)
  /-- `REPLAY_BIND_REMOVE` (R393). -/
  | replayBindRemove (job : U8)
  /-- `SPARE_SUBSTITUTE` (R398). -/
  | spareSubstitute (pkg : U8) (kind : U8) (source : U8) (buffer : U8) (cores : U32) (failed : U32) (spare : U32) (offset : U32)
  /-- `SPARE_SUBSTITUTE_REMOVE` (R398). -/
  | spareSubstituteRemove (pkg : U8)
  /-- `PAIR_STATUS` (R424). -/
  | pairStatus
  /-- `PAIR_HANDOVER` (R423). -/
  | pairHandover
  /-- `MIRROR_STATUS` (R424). -/
  | mirrorStatus
  /-- `ATTEST` (R107). -/
  | attest (nonce : BitVec 256)
  /-- `CERT_CHAIN_READ` (R106). -/
  | certChainRead (index : U8)
  /-- `CUSTOMER_KEY_ENROLL` (R98). -/
  | customerKeyEnroll (basedOn : U32) (keyHash : BitVec 384) (authOk : Bool)
  /-- `CUSTOMER_KEY_ENROLL_REMOVE` (R98). -/
  | customerKeyEnrollRemove (basedOn : U32) (authOk : Bool)
  /-- `BOOT_STATUS` (R63). -/
  | bootStatus
  /-- `BOOT_RECOVERY` (R104). -/
  | bootRecovery
  /-- `UPDATE_BEGIN` (R428). -/
  | updateBegin (length : U32) (idxLen : U32)
  /-- `UPDATE_DATA` (R429). -/
  | updateData (offset : U32) (count : U16) (idx : BundleIndex) (badBlocks : List Nat)
  /-- `UPDATE_VERIFY` (R430). -/
  | updateVerify
  /-- `UPDATE_ACTIVATE` (R435). -/
  | updateActivate (lone : U8)
  /-- `UPDATE_STATUS` (R446). -/
  | updateStatus
  /-- `CONFIG_BLOCK_WRITE_BEGIN` (R430). -/
  | configBlockWriteBegin
  /-- `CONFIG_BLOCK_WRITE_DATA` (R430). -/
  | configBlockWriteData (offset : U32) (count : U16)
  /-- `CONFIG_BLOCK_WRITE_COMMIT` (R430). -/
  | configBlockWriteCommit (obj : ConfigObject)
  /-- `LOG_READ` (R65). -/
  | logRead (boot : U16) (first : U32) (count : U16)
  /-- `LOG_LEVEL_SET` (R65). -/
  | logLevelSet (comp : U8) (level : U8)
  /-- `TRACE_ENABLE` (R66). -/
  | traceEnable (mask : BitVec 256) (stream : U8)
  /-- `TRACE_READ` (R66). -/
  | traceRead (count : U16)
  /-- `REC_READ` (R462). -/
  | recRead (sel : U8) (flags : U8) (first : U32) (count : U8)
  /-- `REC_CLEAR` (R463). -/
  | recClear (mark : U32)
  /-- `REC_STATUS` (R467). -/
  | recStatus
  /-- `DEBUG_UNLOCK` (R109). -/
  | debugUnlock (magic : U32) (serial : BitVec 128) (challenge : BitVec 256) (scope : U32) (duration : U32) (sigs : TokenSigs)
  /-- `DEBUG_LOCK` (R110). -/
  | debugLock
  /-- `DEBUG_STATUS` (R109). -/
  | debugStatus
  /-- A command of the index whose action, phase or mode field names none of the actions that its table defines (R169 and the other payload tables). -/
  | badAction (code : U16)
  deriving DecidableEq, Repr, Inhabited

/-- One member of a BATCH (02 R52). -/
inductive Member where
  | cmd (reqId : U32) (auto : Bool) (rsvd payRsvd : U32) (plen : U16) (b : Body)
  | batch (reqId : U32)
  | unknown (reqId : U32) (code : U16)
  deriving DecidableEq, Repr, Inhabited

/-- A message that reaches a mailbox port (02 R43). -/
inductive MailMsg where
  | hello (h : Hdr) (eph : BitVec 776) (nonce : BitVec 256) (features : BitVec 128)
  | auth (h : Hdr) (keyHash : BitVec 384) (sigOk : Bool)
  | cmd (h : Hdr) (b : Body)
  | batch (h : Hdr) (members : List Member)
  | unknown (h : Hdr) (code : U16)
  deriving DecidableEq, Repr, Inhabited

/-- A batch that waits for the answer of one of its members (02 R52, R55). -/
structure HeldBatch where
  /-- session ID | 32 | 02 R37 | 0 -/
  session : U32 := 0
  /-- request ID of the batch | 32 | 02 R52 | 0 -/
  reqId : U32 := 0
  /-- AUTO of the batch | 1 | 02 R52 | false -/
  auto : Bool := false
  /-- request ID of the member it waits for | 32 | 02 R55 | 0 -/
  waits : U32 := 0
  /-- response bodies so far | bytes | 02 R52 | empty -/
  out : List Byte := []
  /-- mirror sequence number that its response waits for | 32 | 15 R410 | none -/
  hold : Option Nat := none
  /-- members not yet taken | list of at most 15 | 02 R52 | empty -/
  rest : List Member := []
  deriving DecidableEq, Repr, Inhabited

/-- One mailbox port (R37-R46). -/
structure PortState where
  /-- established session | record | 02 R37 | none -/
  session : Option Session := none
  /-- handshake in progress | record | 02 R37 | none -/
  handshake : Option Handshake := none
  /-- GT of failed authentications within 60 s | list | 02 R41 | empty -/
  authFails : List Nat := []
  /-- GT at which the HELLO lockout ends | 64 | 02 R41 | none -/
  lockoutEnd : Option Nat := none
  /-- messages discarded | 32 | 02 R44 | 0 -/
  discards : Nat := 0
  /-- messages dropped beyond 256 while MBOX restarts | 32 | 02 R42 | 0 -/
  rxDropped : Nat := 0
  /-- messages held by the hardware receive queue while MBOX restarts | list of at most 256 | 02 R42 | empty -/
  rxQueue : List MailMsg := []
  /-- batches that wait for a member's answer | list | 02 R52, R55 | empty -/
  batches : List HeldBatch := []
  /-- semaphore commands of replaced sessions that the OWNER has not answered, with their session IDs | list | 02 R39, R55 | empty -/
  orphans : List (U32 × ExecutingCommand) := []
  /-- messages sent on this port, oldest first (the model's own transmit list) | list | 02 R43 | empty -/
  outbox : List PortMessage := []
  deriving DecidableEq, Repr, Inhabited


end Sys2Proof.Machine
end

