-- ==== Sys2Proof/Syntax.lean ====
section
/-! DEFINITION. The commands of the governor: one constructor per row of spec/opcode_table.json.
Host commands carry the header of their message; events and steps carry what the happening brings from outside. -/

namespace Sys2Proof

open Sys2Proof.Machine

/-- The commands, in the order of spec/opcode_table.json. -/
inductive Instr where
  /-- `HELLO` (R37): Host opens a handshake on a mailbox port; the governor answers HELLO_REPLY, or ignores it during an authentication lockout. -/
  | hello (h : Hdr) (form : U8) (x : BitVec 384) (y : BitVec 384) (nonce : BitVec 256) (features : BitVec 128)
  /-- `AUTH` (R37): Host authenticates with its static key; the governor checks the key table, port mask and minimum generation and answers AUTH_REPLY, possibly replacing the port's old session. -/
  | auth (h : Hdr) (keyHash : BitVec 384) (sigOk : Bool)
  /-- `HANDSHAKE_TIMEOUT` (R37): A handshake not completed within 5 s of its HELLO is discarded. -/
  | handshakeTimeout (port : U8)
  /-- `AUTH_LOCKOUT_END` (R41): The 60 s period in which a port ignores HELLO after 8 failed authentications ends. -/
  | authLockoutEnd (port : U8)
  /-- `SESSION_IDLE_TIMEOUT` (R40): A session ends after 10 s without an authenticated message; its semaphores keep running. -/
  | sessionIdleTimeout (port : U8)
  /-- `SESSION_INFO` (R44): Returns session state and the discard counters. -/
  | sessionInfo (h : Hdr)
  /-- `KEEPALIVE` (R40): Authenticated message that keeps the session alive. -/
  | keepalive (h : Hdr)
  /-- `SESSION_CLOSE` (R58): Ends the session and releases its semaphores. -/
  | sessionClose (h : Hdr)
  /-- `GOV_INFO` (R63): Returns governor information including SLOT_ID. -/
  | govInfo (h : Hdr)
  /-- `EVENT_SUBSCRIBE` (R464): Sets the group and severity filter for event pushes. -/
  | eventSubscribe (h : Hdr) (groups : U16) (sev : U8)
  /-- `EVENT_POLL` (R464): Returns consecutive event bodies from a given event sequence number. -/
  | eventPoll (h : Hdr) (first : U32) (count : U8)
  /-- `BATCH` (R52): Executes up to 16 command bodies in order, stopping at the first failure unless AUTO is set. -/
  | batch (h : Hdr) (members : List Member)
  /-- `SEM_ACQUIRE` (R56): Grants a free semaphore with a lease and returns a token, or names the holder. -/
  | semAcquire (h : Hdr) (id : U8) (lease : U16)
  /-- `SEM_RENEW` (R57): Restarts a semaphore lease, or adopts the semaphore for a session with the same key. -/
  | semRenew (h : Hdr) (id : U8) (token : U64)
  /-- `SEM_RELEASE` (R58): Releases a held semaphore, with the release effect of its semaphore. -/
  | semRelease (h : Hdr) (id : U8) (token : U64)
  /-- `SEM_QUERY` (R61): Returns holder and remaining lease of all 16 semaphores. -/
  | semQuery (h : Hdr)
  /-- `SEM_BREAK` (R58): ADMIN releases a semaphore regardless of its holder. -/
  | semBreak (h : Hdr) (id : U8)
  /-- `LEASE_END` (R58): A semaphore lease expires and the semaphore is released. -/
  | leaseEnd (id : U8)
  /-- `FORWARDED_SEMAPHORE_COMMAND` (R55): The OWNER's semaphore block receives a semaphore command forwarded over MIR by the STANDBY and grants in order of receipt. -/
  | forwardedSemaphoreCommand (port : U8) (origin : CommandOrigin) (keyHash : BitVec 384) (cmd : SemCmd)
  /-- `RAIL_STATUS` (R204): Returns status entries for a range of rail channels. -/
  | railStatus (h : Hdr) (first : U8) (count : U8)
  /-- `RAIL_LEVELS_SET` (R186): Replaces the level entries of a range of rails, all or none. -/
  | railLevelsSet (h : Hdr) (first : U8) (count : U8) (levels : List RailLevels)
  /-- `RAIL_COUNTERS_READ` (R204): Returns the five counters of a range of rails. -/
  | railCountersRead (h : Hdr) (first : U8) (count : U8)
  /-- `RAIL_COUNTERS_CLEAR` (R199): Clears the counters of a range of rails. -/
  | railCountersClear (h : Hdr) (first : U8) (count : U8)
  /-- `MARGIN_SET` (R200): Margins a rail's setpoint by signed 0.25 % steps in MAINTENANCE. -/
  | marginSet (h : Hdr) (channel : U8) (steps : U8) (device : Option U16)
  /-- `LIMITS_READ` (R205): Returns bytes of the locked limit block and its hash. -/
  | limitsRead (h : Hdr) (offset : U32) (length : U16)
  /-- `RAIL_MAP_READ` (R204): Returns rail map entries for a range of channels. -/
  | railMapRead (h : Hdr) (first : U8) (count : U8)
  /-- `TRAY_POWER_ON` (R170): Requests tray power-up, accepted, deferred or refused by tray and feed state. -/
  | trayPowerOn (h : Hdr)
  /-- `TRAY_POWER_OFF` (R170): Requests tray power-down from the current state. -/
  | trayPowerOff (h : Hdr)
  /-- `ACC_POWER_ON` (R170): Requests power-up of one accelerator. -/
  | accPowerOn (h : Hdr) (acc : U8)
  /-- `ACC_POWER_OFF` (R170): Requests power-down of one accelerator. -/
  | accPowerOff (h : Hdr) (acc : U8)
  /-- `ACC_POWER_RESET` (R78): Holds an accelerator's ACC_RESET_N low for 1 ms in ACC_ON. -/
  | accPowerReset (h : Hdr) (acc : U8)
  /-- `ACC_RESET_RELEASE` (R78): After 1 ms the reset action releases ACC_RESET_N, restarts the die report comparisons and records event 0x020A. -/
  | accResetRelease (acc : U8)
  /-- `SEQ_STATUS` (R169): Returns tray state, restart policy and the nine context entries. -/
  | seqStatus (h : Hdr)
  /-- `SEQ_PROGRAM_LOAD_BEGIN` (R171): Discards any staged program set. -/
  | seqProgramLoadBegin (h : Hdr)
  /-- `SEQ_PROGRAM_LOAD_DATA` (R171): Writes data into the staged program set image at an offset. -/
  | seqProgramLoadData (h : Hdr) (offset : U32) (data : List Byte)
  /-- `SEQ_PROGRAM_LOAD_COMMIT` (R171): Checks the staged program set and installs it when every context is idle. -/
  | seqProgramLoadCommit (h : Hdr)
  /-- `SEQ_START` (R172): Starts a USER program in context T. -/
  | seqStart (h : Hdr) (prog : U8)
  /-- `TRAY_FAULT_CLEAR` (R173): Releases the FAULT_OFF latch when its conditions hold. -/
  | trayFaultClear (h : Hdr)
  /-- `ACC_FAULT_CLEAR` (R173): Moves an accelerator from ACC_FAULT to ACC_OFF when its conditions hold. -/
  | accFaultClear (h : Hdr) (acc : U8)
  /-- `RESTART_POLICY_SET` (R164): Sets the restart policy MANUAL or AUTO_ON. -/
  | restartPolicySet (h : Hdr) (policy : U8)
  /-- `MODE_SET_ON` (R201): Moves the tray from MAINTENANCE to ON, restoring margined rails to nominal. -/
  | modeSetOn (h : Hdr)
  /-- `MODE_SET_MAINTENANCE` (R174): Moves the tray from ON to MAINTENANCE. -/
  | modeSetMaintenance (h : Hdr)
  /-- `FEED_STATUS` (R140): Returns both feed entries and the minimum off time remaining. -/
  | feedStatus (h : Hdr)
  /-- `FEED_SWITCH_FORCE_OFF` (R141): Forces a feed off into FORCED_OFF. -/
  | feedSwitchForceOff (h : Hdr) (feed : U8)
  /-- `FEED_SWITCH_AUTO` (R141): Ends FORCED_OFF of a feed. -/
  | feedSwitchAuto (h : Hdr) (feed : U8)
  /-- `BREAKER_CURVE_WRITE` (R141): Writes a feed's breaker curve, back-off and comparator threshold and stores them in the settings area. -/
  | breakerCurveWrite (h : Hdr) (feed : U8) (backoff : U16) (cmp : U16) (curve : List CurvePoint)
  /-- `BREAKER_CURVE_READ` (R140): Returns the curve, back-off, threshold and envelope of a feed. -/
  | breakerCurveRead (h : Hdr) (feed : U8)
  /-- `FEED_LOCKOUT_CLEAR` (R126): Clears a feed lockout, rewrites its trip record and starts the full back-off. -/
  | feedLockoutClear (h : Hdr) (feed : U8)
  /-- `TRIP_RECORDS_READ` (R140): Returns trip records from a given rec_seq. -/
  | tripRecordsRead (h : Hdr) (first : U32) (count : U8)
  /-- `PSTATE_TABLE_LOAD_BEGIN` (R228): Discards any staged P-state table. -/
  | pstateTableLoadBegin (h : Hdr)
  /-- `PSTATE_TABLE_LOAD_DATA` (R228): Writes data into the staged P-state table. -/
  | pstateTableLoadData (h : Hdr) (offset : U32) (data : List Byte)
  /-- `PSTATE_TABLE_LOAD_COMMIT` (R228): Checks and installs the staged P-state table in STANDBY or MAINTENANCE. -/
  | pstateTableLoadCommit (h : Hdr)
  /-- `PREF_POINT_SET` (R211): Sets host preferred P-states for a range of phases. -/
  | prefPointSet (h : Hdr) (first : U8) (count : U16) (points : List U8)
  /-- `CAP_SET` (R212): Sets tray cap, feed caps, guard and branch budgets. -/
  | capSet (h : Hdr) (tray : U32) (feedA : U16) (feedB : U16) (guard : U16) (budgets : List U32)
  /-- `OPPOINT_STATUS` (R228): Returns the operating point status. -/
  | oppointStatus (h : Hdr)
  /-- `MODEL_LOAD_BEGIN` (R251): Discards any staged model container. -/
  | modelLoadBegin (h : Hdr) (slot : U8) (flags : U8)
  /-- `MODEL_LOAD_DATA` (R251): Writes data into the staged model container in DDR5. -/
  | modelLoadData (h : Hdr) (slot : U8) (flags : U8) (offset : U32) (data : List Byte)
  /-- `MODEL_LOAD_COMMIT` (R250): Checks the staged container, writes it to flash, loads it into the slot and records it in the settings area. -/
  | modelLoadCommit (h : Hdr) (slot : U8) (flags : U8) (obj : ObjectImage)
  /-- `MODEL_START` (R259): Starts a loaded model slot at the next frame boundary. -/
  | modelStart (h : Hdr) (slot : U8)
  /-- `MODEL_STOP` (R259): Stops a model slot at the next frame boundary. -/
  | modelStop (h : Hdr) (slot : U8)
  /-- `MODEL_STATUS` (R258): Returns frame number, budget use and slot entries. -/
  | modelStatus (h : Hdr)
  /-- `PHASE_TABLE_READ` (R258): Returns phase table entries of a package. -/
  | phaseTableRead (h : Hdr) (pkg : U8) (first : U8) (count : U8)
  /-- `DECISION_LOG_READ` (R259): Returns bytes of a decision record or snapshot. -/
  | decisionLogRead (h : Hdr) (kind : U8) (frame : U64) (offset : U32) (length : U16)
  /-- `COOL_STATUS` (R284): Returns the cooling status. -/
  | coolStatus (h : Hdr)
  /-- `THERMAL_LEVELS_SET` (R265): Sets the level entries of a range of sensor groups. -/
  | thermalLevelsSet (h : Hdr) (first : U8) (count : U8) (levels : List ThermLevel)
  /-- `GRACE_SET` (R267): Sets the tray grace time, applied to running timers. -/
  | graceSet (h : Hdr) (ms : U32)
  /-- `LEAK_CLEAR` (R281): Releases the leak latch and valve hold when all zones read dry. -/
  | leakClear (h : Hdr)
  /-- `COOL_OVERRIDE` (R274): Sets or ends a manual override of fan, pump or valve loop requests. -/
  | coolOverride (h : Hdr) (target : U8) (index : U8) (value : U8)
  /-- `LEDGER_CFG_SET` (R316): Sets interim interval, policies and weights as a new epoch at the next ledger second. -/
  | ledgerCfgSet (h : Hdr) (interim : U16) (oh : U8) (res : U8) (wStale : U16) (wOff : U16)
  /-- `ACCOUNT_OPEN` (R297): Requests an account for a tag, effective at the next ledger second boundary. -/
  | accountOpen (h : Hdr) (tag : U64)
  /-- `ACCOUNT_CLOSE` (R297): Requests the close of a tag account, effective at the next ledger second boundary. -/
  | accountClose (h : Hdr) (tag : U64)
  /-- `ACCOUNT_READ` (R316): Returns the state and credit of an account. -/
  | accountRead (h : Hdr) (sel : U8) (tag : U64)
  /-- `LEDGER_STATUS` (R316): Returns the ledger status. -/
  | ledgerStatus (h : Hdr)
  /-- `CALIBRATION_SET` (R289): Replaces branch channel calibration as a new epoch. -/
  | calibrationSet (h : Hdr) (first : U8) (count : U8) (entries : List Calib)
  /-- `RECORDS_FETCH` (R313): Returns consecutive signed ledger records from the export queue. -/
  | recordsFetch (h : Hdr) (first : U64) (count : U8)
  /-- `RECORDS_ACK` (R307): Acknowledges records up to a rec_seq and frees their journal entries. -/
  | recordsAck (h : Hdr) (seq : U64)
  /-- `JOURNAL_STATUS` (R316): Returns the journal status. -/
  | journalStatus (h : Hdr)
  /-- `SYNC_CFG_HANG_TIMEOUT` (R358): Sets the hang timeout of the sync hub. -/
  | syncCfgHangTimeout (h : Hdr) (ctx : U8) (seconds : U32)
  /-- `SYNC_CFG_BIND` (R358): Binds a host context under a key and restarts its sequence window. -/
  | syncCfgBind (h : Hdr) (ctx : U8) (key : BitVec 256)
  /-- `SYNC_CFG_UNBIND` (R358): Unbinds a host context not in an open job. -/
  | syncCfgUnbind (h : Hdr) (ctx : U8)
  /-- `JOB_OPEN` (R336): Opens a job over clean hub objects, setting caps, masks and turns, and consumes a replay binding. -/
  | jobOpen (h : Hdr) (job : U8) (cap : U16) (quota : U32) (wFirst : U32) (wCount : U32) (pFirst : U16) (pCount : U16) (engines : U64) (parts : BitVec 72) (bmask : BitVec 72)
  /-- `JOB_CLOSE` (R338): Closes a job, cancelling parked operations and watches with AUTO, and seals its replay record. -/
  | jobClose (h : Hdr) (job : U8)
  /-- `FE_SET_EMPTY` (R348): Sets a word to a value and empty by hand. -/
  | feSetEmpty (h : Hdr) (addr : U64) (val : U64)
  /-- `FE_SET_FULL` (R348): Sets a word to a value and full by hand, serving parked operations. -/
  | feSetFull (h : Hdr) (addr : U64) (val : U64)
  /-- `FE_SET_PAIR` (R348): Sets a pair's c equal to p by hand. -/
  | feSetPair (h : Hdr) (addr : U64) (val : U64)
  /-- `FE_SET_BARRIER` (R348): Clears a barrier's arrived set and completes its parked ARRIVEs with STATE_CONFLICT. -/
  | feSetBarrier (h : Hdr) (addr : U64) (val : U64)
  /-- `FE_SET_UNPOISON` (R348): Clears a word's poison, leaving it zero and empty. -/
  | feSetUnpoison (h : Hdr) (addr : U64) (val : U64)
  /-- `HANG_REPORT` (R347): Lists the hub objects hung at the moment of the command. -/
  | hangReport (h : Hdr) (first : U16) (count : U16)
  /-- `TREE_CFG_NODE` (R350): Makes the tray a node of the cross-tray tree. -/
  | treeCfgNode (h : Hdr) (k : U8) (tray : U32) (parent : BitVec 128) (children : List TreeChild)
  /-- `TREE_CFG_BIND_BARRIER` (R352): Binds a local engine to a tree barrier. -/
  | treeCfgBindBarrier (h : Hdr) (engine : U8) (barrier : U8)
  /-- `TREE_CFG_UNBIND_BARRIER` (R352): Unbinds a local engine from a tree barrier. -/
  | treeCfgUnbindBarrier (h : Hdr) (engine : U8) (barrier : U8)
  /-- `TREE_CFG_BIND_CHANNEL` (R354): Binds a tree channel to a local word. -/
  | treeCfgBindChannel (h : Hdr) (channel : U8) (word : U32)
  /-- `TREE_CFG_LEAVE` (R350): Removes the tray from the tree. -/
  | treeCfgLeave (h : Hdr)
  /-- `SYNC_STATUS` (R358): Returns the sync hub status. -/
  | syncStatus (h : Hdr)
  /-- `LINK_STATUS` (R385): Returns Ethernet and SKV port entries. -/
  | linkStatus (h : Hdr)
  /-- `HOSTQ_CREATE` (R378): Creates a host command queue toward a port. -/
  | hostqCreate (h : Hdr) (queue : U8) (toPort : U8) (depth : U16) (entryBytes : U16) (key : BitVec 256)
  /-- `HOSTQ_DELETE` (R381): Deletes a queue and discards its contents. -/
  | hostqDelete (h : Hdr) (queue : U8)
  /-- `IMAGE_PUSH_OPEN` (R382): Opens an image buffer in DDR5 with a key. -/
  | imagePushOpen (h : Hdr) (buffer : U8) (mask : U8) (source : U8) (size : U32) (key : BitVec 256)
  /-- `IMAGE_PUSH_START` (R383): Verifies an object's manifest and starts pushing it to the packages of a mask. -/
  | imagePushStart (h : Hdr) (buffer : U8) (mask : U8) (source : U8) (offset : U32)
  /-- `IMAGE_PUSH_ABORT` (R383): Aborts the push to the packages of a mask. -/
  | imagePushAbort (h : Hdr) (buffer : U8) (mask : U8) (source : U8) (offset : U32)
  /-- `LINK_RETRAIN` (R385): Retrains an SKV port or the Ethernet port. -/
  | linkRetrain (h : Hdr) (link : U8)
  /-- `BW_SHARE_SET` (R384): Sets the weighted-round weights of link classes. -/
  | bwShareSet (h : Hdr) (weights : List U8)
  /-- `STRICT_SET` (R390): Sets or clears the strict mode bit when nothing is parked and no bound job is open. -/
  | strictSet (h : Hdr) (value : U8)
  /-- `REPLAY_RECORD_READ` (R401): Returns bytes of an open or sealed replay record. -/
  | replayRecordRead (h : Hdr) (sel : U8) (job : U8) (rp : U64) (offset : U16) (length : U16)
  /-- `REPLAY_BIND` (R393): Binds a replay record to a job number before JOB_OPEN. -/
  | replayBind (h : Hdr) (job : U8) (interval : U64) (prog : BitVec 384) (input : BitVec 384) (ref : BitVec 384) (refCores : List U32) (seeds : List U64)
  /-- `REPLAY_BIND_RESULT` (R396): Attaches a result digest to a captured checkpoint of an open record. -/
  | replayBindResult (h : Hdr) (job : U8) (step : U64) (digest : BitVec 384)
  /-- `REPLAY_BIND_REMOVE` (R393): Removes a replay binding. -/
  | replayBindRemove (h : Hdr) (job : U8)
  /-- `SPARE_SUBSTITUTE` (R398): Declares a spare substitution for a package, keeping or changing its core count. -/
  | spareSubstitute (h : Hdr) (pkg : U8) (kind : U8) (source : U8) (buffer : U8) (cores : U32) (failed : U32) (spare : U32) (offset : U32)
  /-- `SPARE_SUBSTITUTE_REMOVE` (R398): Removes every substitution of a package from the settings area. -/
  | spareSubstituteRemove (h : Hdr) (pkg : U8)
  /-- `SUBSTITUTION_START` (R398): A declared substitution starts its overlay push once the package is in ACC_ON at LINK_UP and in no open job. -/
  | substitutionStart (pkg : U8)
  /-- `PAIR_STATUS` (R424): Returns the pair status. -/
  | pairStatus (h : Hdr)
  /-- `PAIR_HANDOVER` (R423): Requests a planned handover of ownership to the partner. -/
  | pairHandover (h : Hdr)
  /-- `MIRROR_STATUS` (R424): Returns the mirror counters. -/
  | mirrorStatus (h : Hdr)
  /-- `ATTEST` (R107): Returns attestation evidence signed by AK over a host nonce. -/
  | attest (h : Hdr) (nonce : BitVec 256)
  /-- `CERT_CHAIN_READ` (R106): Returns the IDK, AK or LK certificate. -/
  | certChainRead (h : Hdr) (index : U8)
  /-- `CUSTOMER_KEY_ENROLL` (R98): Stages an enrolment or replacement of the customer key. -/
  | customerKeyEnroll (h : Hdr) (basedOn : U32) (keyHash : BitVec 384) (authOk : Bool)
  /-- `CUSTOMER_KEY_ENROLL_REMOVE` (R98): Stages a removal of the customer key. -/
  | customerKeyEnrollRemove (h : Hdr) (basedOn : U32) (authOk : Bool)
  /-- `BOOT_STATUS` (R63): Returns the boot status. -/
  | bootStatus (h : Hdr)
  /-- `BOOT_RECOVERY` (R104): Starts a warm reset 1 ms later with the recovery loader selected. -/
  | bootRecovery (h : Hdr)
  /-- `UPDATE_BEGIN` (R428): Opens a DDR5 staging area for a bundle. -/
  | updateBegin (h : Hdr) (length : U32) (idxLen : U32)
  /-- `UPDATE_DATA` (R429): Writes bundle data, verifying the index and each completed block. -/
  | updateData (h : Hdr) (offset : U32) (count : U16) (idx : BundleIndex) (badBlocks : List Nat)
  /-- `UPDATE_VERIFY` (R430): Verifies every staged object, applies the compatibility checks and installs the objects. -/
  | updateVerify (h : Hdr)
  /-- `UPDATE_ACTIVATE` (R435): Brings an installed update into force, or defers it in an emergency. -/
  | updateActivate (h : Hdr) (lone : U8)
  /-- `UPDATE_STATUS` (R446): Returns the update status. -/
  | updateStatus (h : Hdr)
  /-- `CONFIG_BLOCK_WRITE_BEGIN` (R430): Discards any staged configuration block. -/
  | configBlockWriteBegin (h : Hdr)
  /-- `CONFIG_BLOCK_WRITE_DATA` (R430): Writes data into the staged configuration block. -/
  | configBlockWriteData (h : Hdr) (offset : U32) (count : U16)
  /-- `CONFIG_BLOCK_WRITE_COMMIT` (R430): Verifies and installs the staged configuration block as a one-object bundle. -/
  | configBlockWriteCommit (h : Hdr) (obj : ConfigObject)
  /-- `LOG_READ` (R65): Returns firmware log entries from a given boot and log sequence. -/
  | logRead (h : Hdr) (boot : U16) (first : U32) (count : U16)
  /-- `LOG_LEVEL_SET` (R65): Sets per component the most verbose log level recorded. -/
  | logLevelSet (h : Hdr) (comp : U8) (level : U8)
  /-- `TRACE_ENABLE` (R66): Sets the trace point mask and the trace and record streams. -/
  | traceEnable (h : Hdr) (mask : BitVec 256) (stream : U8)
  /-- `TRACE_READ` (R66): Returns and removes trace records from the trace buffer. -/
  | traceRead (h : Hdr) (count : U16)
  /-- `REC_READ` (R462): Returns raw Rosemary records from SRAM, spill or partner ring. -/
  | recRead (h : Hdr) (sel : U8) (flags : U8) (first : U32) (count : U8)
  /-- `REC_CLEAR` (R463): Moves the clear mark and records event 0x0D04. -/
  | recClear (h : Hdr) (mark : U32)
  /-- `REC_STATUS` (R467): Returns the recorder status. -/
  | recStatus (h : Hdr)
  /-- `DEBUG_UNLOCK` (R109): Unlocks debug scopes with a signed token bound to the current challenge. -/
  | debugUnlock (h : Hdr) (magic : U32) (serial : BitVec 128) (challenge : BitVec 256) (scope : U32) (duration : U32) (sigs : TokenSigs)
  /-- `DEBUG_LOCK` (R110): Locks debug access again. -/
  | debugLock (h : Hdr)
  /-- `DEBUG_STATUS` (R109): Returns the debug scope and a fresh challenge. -/
  | debugStatus (h : Hdr)
  /-- `DEBUG_DURATION_END` (R110): Debug locks again at the end of the token's duration. -/
  | debugDurationEnd
  /-- `RECOV_INFO` (R102): Recovery frame asking for serial, certificate, anchor and slot states. -/
  | recovInfo (f : RecovHdr)
  /-- `RECOV_BEGIN` (R103): Recovery frame starting a transfer to a target, discarding any earlier one. -/
  | recovBegin (f : RecovHdr) (target : U8) (manLen : U32) (objLen : U32)
  /-- `RECOV_DATA` (R103): Recovery frame staging transfer data and verifying the manifest when complete. -/
  | recovData (f : RecovHdr) (offset : U32) (count : U16) (man : Manifest)
  /-- `RECOV_COMMIT` (R103): Recovery frame that checks all blocks and writes the target through WRITING, WRITTEN, VALID. -/
  | recovCommit (f : RecovHdr) (content : RecovContent)
  /-- `RECOV_BOOT` (R102): Recovery frame that acknowledges and starts a warm reset. -/
  | recovBoot (f : RecovHdr)
  /-- `POWER_ON_RESET` (R73): The AON supply rises through its threshold; the whole chip resets and outputs hold the reset state. -/
  | powerOnReset (vddAon : U16) (vddioAon : U16)
  /-- `BROWN_OUT` (R493): An AON supply falls below the brown-out level for 1 µs or longer. -/
  | brownOut (vddAon : U16) (vddioAon : U16) (us : U32)
  /-- `POWER_ON_RESET_RELEASE` (R493): The power-on reset is released 2.0 ms after the threshold crossing. -/
  | powerOnResetRelease (samples : List (BitVec 11))
  /-- `SHADOW_RESET_PULL` (R474): Before the first lock, a Shadow output is pulled when ALIVE_IN stops toggling for 8 µs or its net reads low. -/
  | shadowResetPull (levels : BitVec 103)
  /-- `CLOCK_FIRST_MOVE` (R72): After 16 good windows and PLL lock, CLK_PER and CLK_TICK move to the root PLL and the core domain is released. -/
  | clockFirstMove
  /-- `ROM_BOOT` (R91): The ROM derives keys, adopts the anchor, selects and verifies a loader copy and starts it. -/
  | romBoot (samples : List (BitVec 11))
  /-- `RESIDENT_LOADER_RUN` (R92): The loader verifies the configuration block, locks limits, loads Thyme, reads the journal, selects a slot, commits anchor changes and starts the processors. -/
  | residentLoaderRun
  /-- `HANDOFF_ACCEPTANCE` (R437): At first start the firmware checks the settings schema and accepts or refuses the handoff block. -/
  | handoffAcceptance
  /-- `STANDBY_ENTRY` (R83): When all start-up conditions hold, the tray enters STANDBY and an AUTO_ON power-up may start. -/
  | standbyEntry
  /-- `ALONE_DECISION` (R83): ALIVE_IN silent for 100 ms after MIR training starts: the governor decides to run alone. -/
  | aloneDecision
  /-- `MODEL_SLOTS_LOAD` (R252): Recorded model slots are loaded from flash with verification after reset and STANDBY. -/
  | modelSlotsLoad
  /-- `MODEL_AUTOSTART` (R252): Loaded autostart slots start at the next frame boundary within the budget. -/
  | modelAutostart
  /-- `WARM_RESET` (R75): RESET_N low for two samples or another source starts a warm reset of the core and PHY domains. -/
  | warmReset (source : WarmSource)
  /-- `RESET_N_RELEASE` (R76): The first high sample of RESET_N starts the boot sequence. -/
  | resetNRelease
  /-- `REFCLK_LOSS` (R69): The clock monitor declares REFCLK or the root PLL lost and switches to OSC_INT. -/
  | refclkLoss (pllOnly : Bool)
  /-- `REFCLK_RETURN` (R71): After 1,024 good windows and PLL lock, clocks switch back and a warm reset starts. -/
  | refclkReturn
  /-- `ON_DIE_TEMP_READ` (R502): Sage reads the on-die sensor each millisecond, records advisories and declares the PLL lost after 10 readings at 115 °C. -/
  | onDieTempRead (t : Int)
  /-- `COMPONENT_FAULT` (R24): A protection-region violation or failed self-check restarts a component from its checkpoint. -/
  | componentFault (comp : U8) (cause : U8) (region : U8)
  /-- `COMPONENT_WATCHDOG_EXPIRY` (R24): A component's 20 ms watchdog expires and the component restarts. -/
  | componentWatchdogExpiry (comp : U8)
  /-- `COMPONENT_RESTART_COMPLETE` (R24): A component finishes restoring from its checkpoint area and serves commands again. -/
  | componentRestartComplete (comp : U8)
  /-- `PROCESSOR_WATCHDOG_EXPIRY` (R25): A processor watchdog expires 50 ms after the last service and the processor restarts. -/
  | processorWatchdogExpiry (proc : U8)
  /-- `PROCESSOR_RESTART_COMPLETE` (R25): A processor restart completes with its components restored. -/
  | processorRestartComplete (proc : U8)
  /-- `ARBITER_TICK` (R29): The arbiter combines all pending requests per actuator class, clamps them and applies them. -/
  | arbiterTick (branchCodes : List (Int × Int)) (feedCodes : List (List (Int × Int))) (pins : TickPins)
  /-- `MONITOR_SAMPLE` (R187): A monitor conversion ends and updates the filters of its rails. -/
  | monitorSample (adc : U8) (pos : U8) (code : BitVec 12)
  /-- `CONVERTER_FAILURE` (R180): A converter does not end a conversion within 400 ns and is declared failed. -/
  | converterFailure (adc : U8)
  /-- `WARNING_CONFIRM` (R190): A warning filter reaches its count and increments the warning counter. -/
  | warningConfirm (rail : U8) (kind : ConfirmKind)
  /-- `FAULT_CONFIRM` (R190): A UV, OV, OC or PG-loss filter reaches its count and starts the immediate-off of the rail's scope. -/
  | faultConfirm (rail : U8) (kind : ConfirmKind)
  /-- `IMMEDIATE_OFF_COMPLETE` (R206): Every pin in scope reads low and every group command has ended; event 0x0105. -/
  | immediateOffComplete (scope : U8)
  /-- `RAIL_PG_SAMPLE` (R189): A power-good source is read each tick and counted by the PG-loss filter. -/
  | railPgSample (rail : U8) (pg : Bool)
  /-- `POLL_ROUND` (R182): A regulator bus reads the next polled value or carries a pending write. -/
  | pollRound (bus : U8) (replies : List (Option PollReply)) (hubs : List (U16 × Int))
  /-- `BUS_LOST` (R183): Three consecutive failed polls of an enabled rail confirm a BUS_LOST fault. -/
  | busLost (rail : U8)
  /-- `BUS_WRITE_ACK` (R505): A setpoint or OPERATION write is acknowledged, completing the step or move that waited for it. -/
  | busWriteAck (bus : U8) (good : Bool)
  /-- `BUS_WRITE_TIMEOUT` (R149): A bus write not acknowledged within 1 ms aborts its program with cause BUS. -/
  | busWriteTimeout (bus : U8)
  /-- `READBACK_DISAGREEMENT` (R203): A shared net disagrees with its own drive for 16 ticks, with the outcome of its readback row. -/
  | readbackDisagreement (net : U8) (level : Bool)
  /-- `READBACK_AGREEMENT` (R203): A reported readback disagreement ends with an S0 record. -/
  | readbackAgreement (net : U8)
  /-- `ACC_THERMTRIP` (R271): ACC_THERMTRIP_N low takes the branch off and puts the accelerator in ACC_FAULT. -/
  | accThermtrip (acc : U8)
  /-- `VR_ALERT_FALL` (R225): An enabled VR_ALERT_N line falls and pulls TRAY_SLOW_N low. -/
  | vrAlertFall (line : U8)
  /-- `THROTTLE_RELEASE_START` (R226): All alert lines high for 1 ms starts the release sequence and voltage writes. -/
  | throttleReleaseStart
  /-- `THROTTLE_RELEASE` (R226): Every package acknowledges the release change and TRAY_SLOW_N is released. -/
  | throttleRelease
  /-- `FEED_SAMPLE` (R118): A feed sample updates inrush, curve, share, reverse and loss counters. -/
  | feedSample (feed : U8) (vin : BitVec 12) (vbus : BitVec 12) (cur : BitVec 12)
  /-- `INRUSH_END` (R116): Four consecutive samples with a small drop end the inrush and the feed enters ON. -/
  | inrushEnd (feed : U8)
  /-- `SOA_TRIP` (R116): SOA power count or energy reaches its limit and the feed trips. -/
  | soaTrip (feed : U8)
  /-- `INRUSH_TIMEOUT` (R116): inrush_max_ms passes without the inrush ending and the feed trips. -/
  | inrushTimeout (feed : U8)
  /-- `FEED_CURVE_TRIP` (R118): A breaker curve counter reaches its trip count and the feed trips. -/
  | feedCurveTrip (feed : U8)
  /-- `FEED_COMPARATOR_TRIP` (R120): An armed comparator crossing pulls FEED_x_FAST_OFF_N low and trips the feed. -/
  | feedComparatorTrip (level : CmpLevel)
  /-- `BACKOFF_END` (R123): A feed back-off ends; the feed enters OFF or LOST and retries if demanded. -/
  | backoffEnd (feed : U8)
  /-- `REVERSE_CURRENT_OPEN` (R132): Four samples below the reverse threshold open the feed into LOST. -/
  | reverseCurrentOpen (feed : U8)
  /-- `FEED_LOSS` (R133): Sixteen samples of input out of range put the feed in LOST. -/
  | feedLoss (feed : U8)
  /-- `LOW_BUS_IMMEDIATE_OFF` (R134): Both bus voltages below 40 V for four samples end the power-down by an unlatched immediate-off. -/
  | lowBusImmediateOff
  /-- `FEED_RETURN` (R133): A LOST feed's input stays in range for the return time and the feed returns to OFF. -/
  | feedReturn (feed : U8)
  /-- `TRIP_RECORD_RESOLVED` (R128): A feed has been in ON for 60 s and its trip record becomes RESOLVED. -/
  | tripRecordResolved (feed : U8)
  /-- `SHARE_UPDATE` (R130): Every 100 µs the share code is updated from the feed current averages. -/
  | shareUpdate
  /-- `SHARE_IMBALANCE` (R131): A share outside 45–55 % or at the trim limit for 1 s records event 0x0309. -/
  | shareImbalance (kind : U8)
  /-- `POWER_REQUEST_TAKE_EFFECT` (R160): An accepted power request takes effect in Thyme one tick later, starting or redirecting programs. -/
  | powerRequestTakeEffect (req : PowerRequest)
  /-- `ENABLE` (R149): Thyme step requesting an enable value for each target. -/
  | enable (ctx : U8)
  /-- `VSET` (R150): Thyme step writing a setpoint to a range of rails. -/
  | vset (ctx : U8)
  /-- `WAIT` (R143): Thyme step that waits a fixed time. -/
  | wait (ctx : U8)
  /-- `WAIT_EXPIRY` (R143): A WAIT step's time passes and the step completes. -/
  | waitExpiry (ctx : U8)
  /-- `WAITFOR` (R151): Thyme step that waits for a condition with a timeout. -/
  | waitfor (ctx : U8)
  /-- `WAITFOR_CONDITION_MET` (R151): A WAITFOR condition holds and the step completes. -/
  | waitforConditionMet (ctx : U8)
  /-- `WAITFOR_TIMEOUT` (R151): A WAITFOR timeout acts, jumping or aborting with cause TIMEOUT. -/
  | waitforTimeout (ctx : U8)
  /-- `CHECK` (R151): Thyme step evaluating a condition once, jumping or aborting when false. -/
  | check (ctx : U8)
  /-- `JUMP` (R151): Thyme step continuing at its target when its condition holds. -/
  | jump (ctx : U8)
  /-- `CALL` (R153): Thyme step entering a SUB with a return point. -/
  | call (ctx : U8)
  /-- `MIRROR` (R154): Thyme step recording the context's last completed mark and entry. -/
  | mirror (ctx : U8)
  /-- `PG` (R155): Thyme step asserting or deasserting a PG output. -/
  | pg (ctx : U8)
  /-- `PG_ASSERT_QUALIFIED` (R155): A PG assert step finds a qualified tick and asserts its target. -/
  | pgAssertQualified (ctx : U8)
  /-- `PG_TIMEOUT` (R155): A PG assert step finds no qualified tick before its timeout and aborts. -/
  | pgTimeout (ctx : U8)
  /-- `EVENT` (R175): Thyme step recording an event 0x0280–0x02FF. -/
  | event (ctx : U8)
  /-- `LAUNCH` (R157): Thyme step fixing a launch list of accelerator programs. -/
  | launch (ctx : U8)
  /-- `LAUNCH_TURN` (R157): An accelerator's stagger turn comes and it is launched if still eligible. -/
  | launchTurn (acc : U8)
  /-- `END` (R153): Thyme step ending a program or returning from a SUB, with its state change. -/
  | endStep (ctx : U8)
  /-- `ABORT` (R153): Thyme step aborting its program with cause ABORT_STEP. -/
  | abort (ctx : U8)
  /-- `PROGRAM_TIME_EXPIRY` (R165): max_ms passes before END and the program aborts with cause PROGRAM_TIME. -/
  | programTimeExpiry (ctx : U8)
  /-- `MIN_OFF_TIME_END` (R135): The tray minimum off time passes; the tray enters STANDBY and a pending or AUTO_ON power-up may start. -/
  | minOffTimeEnd
  /-- `ACC_MIN_OFF_TIME_END` (R162): An accelerator's minimum off time passes and its pending power-up starts. -/
  | accMinOffTimeEnd (acc : U8)
  /-- `CONTROL_TICK` (R210): At each 50 µs boundary CAPL forms the combined ceiling and runs the cap loop. -/
  | controlTick
  /-- `CAP_UNMET` (R216): The prediction at P31 exceeds a limit for 400 control ticks; event 0x0407. -/
  | capUnmet
  /-- `FASTER_CHANGE_SEND` (R222): settle_us after the last raising voltage acknowledgement, a faster change is sent. -/
  | fasterChangeSend
  /-- `PSTATE_ACK` (R221): A package acknowledges a P-state change as ARMED, LATE, APPLIED or DUPLICATE. -/
  | pstateAck (pkg : U8) (seq : U32) (kind : U8) (step : U64)
  /-- `PHASE_ENGINE_RUN_END` (R245): The run ends, outputs are clamped and latched, and the decision record is written. -/
  | phaseEngineRunEnd
  /-- `MODEL_STORE_ECC_ERROR` (R257): An uncorrectable model store error voids the run and reloads the slot. -/
  | modelStoreEccError (slot : U8)
  /-- `OUTPUT_DIGEST_RECEIVE` (R253): The partner's output register digest arrives over MIR and is compared. -/
  | outputDigestReceive (frame : U64) (digest : List Byte)
  /-- `FORWARDED_INPUT_FRAME` (R253): The STANDBY receives the OWNER's input frame and runs the same models on it. -/
  | forwardedInputFrame (frameNo : U64) (gt : U64) (step : U64) (words : List Int)
  /-- `TEMPERATURE_READING` (R266): A sensor reading arrives and updates its thermal state filters. -/
  | temperatureReading (sensor : U16) (xs : List Int)
  /-- `THERMAL_WARN` (R266): n readings at or above warn put a sensor in WARN. -/
  | thermalWarn (sensor : U16)
  /-- `THERMAL_ADVISORY` (R266): n readings at or above throttle put a sensor in ADVISORY and start its grace timer. -/
  | thermalAdvisory (sensor : U16)
  /-- `THERMAL_EXIT` (R266): n readings below the level less hysteresis return a sensor to WARN or NORMAL. -/
  | thermalExit (sensor : U16)
  /-- `THERMAL_CRITICAL` (R270): n readings at or above critical run the tray immediate-off into THERMAL_OFF. -/
  | thermalCritical (sensor : U16)
  /-- `GRACE_EXPIRY` (R267): An ADVISORY sensor's grace timer reaches the grace time and it enters ENFORCED. -/
  | graceExpiry (sensor : U16)
  /-- `SENSOR_STALE` (R264): An active sensor without a reading for 10 periods becomes stale and reads as throttle. -/
  | sensorStale (sensor : U16)
  /-- `THERMAL_ENFORCE_STEP` (R268): While hot and enforced, each 100 control ticks th slows by one P-state. -/
  | thermalEnforceStep
  /-- `THERMAL_RELAX_STEP` (R268): With no sensor enforced, each 2,000 control ticks th relaxes by one P-state. -/
  | thermalRelaxStep
  /-- `COOLING_LOOP` (R273): Every 10 ms COOL computes fan and pump duty. -/
  | coolingLoop (fansLow : List Nat) (fansHigh : List Nat) (pumpPulses : List Nat) (flowPulses : List Nat)
  /-- `FAN_FAILURE` (R275): A fan or pump below min_rpm for 2 s at 30 % duty has failed. -/
  | fanFailure (pump : Bool) (index : U8)
  /-- `FAN_RECOVERY` (R275): A failed fan or pump at or above min_rpm for 2 s has recovered. -/
  | fanRecovery (pump : Bool) (index : U8)
  /-- `FLOW_LOW` (R277): Flow below flow_min for 1 s sets th to 31. -/
  | flowLow
  /-- `FLOW_LOW_POWER_DOWN` (R277): Flow below flow_min for a further 5 s requests a tray power-down. -/
  | flowLowPowerDown
  /-- `FLOW_RECOVERY` (R277): Flow recovered for 1 s ends the low-flow state. -/
  | flowRecovery
  /-- `PRESSURE_OUT_OF_RANGE` (R277): A pressure reading outside range for 1 s records event 0x060D. -/
  | pressureOutOfRange (point : U8)
  /-- `LEAK_READING` (R279): A rope zone or float is read and graded each millisecond. -/
  | leakReading (zone : U8) (mv : U16)
  /-- `LEAK_CONFIRM` (R280): 200 WET readings confirm a leak: valves closed, latch set, leak program or LEAK_OFF. -/
  | leakConfirm (zone : U8)
  /-- `PARTNER_CONFIRMATION_NOTICE` (R282): A leak or critical confirmation at the STANDBY reaches the OWNER over MIR. -/
  | partnerConfirmationNotice (leak : Bool) (source : U16)
  /-- `LEDGER_TICK` (R294): Each 1 ms ledger tick is attributed to accounts with remainder carry. -/
  | ledgerTick
  /-- `TAG_REPORT` (R292): A die's tag report is accepted or discarded and takes effect in its arrival µs. -/
  | tagReport (pkg : U8) (rep : TagReport)
  /-- `DIE_STALE` (R292): A die's latest report becomes 4,000 µs old and it contributes to residual. -/
  | dieStale (die : U8)
  /-- `LEDGER_SECOND_BOUNDARY` (R306): Records due are journaled, a checkpoint written and entries released to signing. -/
  | ledgerSecondBoundary
  /-- `RECORD_SIGNED` (R312): A signing engine completes a record, which enters the export queue. -/
  | recordSigned
  /-- `LEDGER_TICK_MARKER` (R314): The STANDBY receives a tick marker and credits, applies them and latches its accumulators. -/
  | ledgerTickMarker (marker : TickMarker)
  /-- `READFE` (R324): Sync operation reading a word when full. -/
  | readfe (src : U8) (op : SyncOp)
  /-- `TAKE` (R324): Sync operation reading a full word and emptying it. -/
  | take (src : U8) (op : SyncOp)
  /-- `FILL` (R324): Sync operation writing an empty word and filling it. -/
  | fill (src : U8) (op : SyncOp)
  /-- `STORE` (R324): Sync operation storing a word, pair cap, barrier mask or remote broadcast. -/
  | store (src : U8) (op : SyncOp)
  /-- `CLEAR` (R324): Sync operation writing a word and emptying it. -/
  | clear (src : U8) (op : SyncOp)
  /-- `ADD` (R324): Sync operation adding to a word's value. -/
  | add (src : U8) (op : SyncOp)
  /-- `PADV` (R329): Sync operation advancing a pair's produced count within its cap. -/
  | padv (src : U8) (op : SyncOp)
  /-- `CADV` (R329): Sync operation advancing a pair's consumed count, or peeking. -/
  | cadv (src : U8) (op : SyncOp)
  /-- `ARRIVE` (R330): Sync operation recording a barrier arrival. -/
  | arrive (src : U8) (op : SyncOp)
  /-- `WATCH` (R334): Sync operation setting a watch on a word, pair or barrier. -/
  | watch (src : U8) (op : SyncOp)
  /-- `UNWATCH` (R334): Sync operation freeing a watch handle. -/
  | unwatch (src : U8) (op : SyncOp)
  /-- `READ` (R324): Sync operation reading an object's state. -/
  | read (src : U8) (op : SyncOp)
  /-- `HANG_TIMEOUT` (R347): An object is parked on or has arrivals for the hang timeout; event 0x0804. -/
  | hangTimeout (addr : U64)
  /-- `SYNC_SCRUB` (R349): The scrubber reads every word once per 10 s and corrects or poisons errors. -/
  | syncScrub (index : U32) (bad : U8)
  /-- `SYNC_OBJECT_REPAIRED` (R349): An object with an uncorrectable error is fetched from the partner and its waiting operation proceeds. -/
  | syncObjectRepaired (addr : U64) (content : SyncContent)
  /-- `TREE_UP` (R352): A child's UP frame for a tree barrier round arrives. -/
  | treeUp (child : U8) (hop : U32) (barrier : U8) (round : U32)
  /-- `TREE_RELEASE` (R352): A RELEASE from the parent sets bit 71 and is forwarded to the children. -/
  | treeRelease (hop : U32) (barrier : U8) (round : U32)
  /-- `REMOTE_OPERATION` (R353): A remote operation arrives at a node and is forwarded or applied as participant 71. -/
  | remoteOperation (nbr : U8) (hop : U32) (home : U32) (origin : U32) (op : SyncOp)
  /-- `TREE_BROADCAST` (R354): A channel broadcast arrives and is applied to the bound word and forwarded. -/
  | treeBroadcast (nbr : U8) (hop : U32) (channel : U8) (round : U32) (val : U64) (fepoch : U16)
  /-- `TREE_FRAME_ACK` (R351): A neighbour acknowledges a numbered tree frame. -/
  | treeFrameAck (nbr : U8) (hop : U32)
  /-- `TREE_RESEND_TIMEOUT` (R351): An unacknowledged tree frame is resent after 20 µs. -/
  | treeResendTimeout (nbr : U8) (hop : U32)
  /-- `TREE_NEIGHBOUR_LOST` (R351): After 50 failed resends event 0x0808 is recorded and resends slow to 10 ms. -/
  | treeNeighbourLost (nbr : U8)
  /-- `REMOTE_WINDOW_EXPIRY` (R353): A remote window entry is freed after 10 s without an operation. -/
  | remoteWindowExpiry (tray : U32) (src : U8)
  /-- `LINK_FLIT` (R365): A LINK flit with acknowledgement, NAK and credits arrives. -/
  | linkFlit (port : U8) (nak : Bool) (ack : BitVec 12) (credits : List Nat)
  /-- `FLIT_CRC_FAIL` (R365): A flit fails CRC; later flits are discarded and a NAK is sent. -/
  | flitCrcFail (port : U8)
  /-- `REPLAY_TIMEOUT` (R365): 2 µs without acknowledgement progress starts a replay. -/
  | replayTimeout (port : U8)
  /-- `RETRAIN` (R366): After 8 replays without progress the port retrains. -/
  | retrain (port : U8)
  /-- `RETRAIN_TIMEOUT` (R366): A retrain not ended within 100 ms takes the link down. -/
  | retrainTimeout (port : U8)
  /-- `CAPABILITY_MESSAGE` (R368): A capability message arrives and decides LINK_UP, with resends and overlay pushes on return. -/
  | capabilityMessage (port : U8) (cap : Capability)
  /-- `PHASE_REPORT` (R370): A die's phase report updates the input buffer, highest step and applied changes. -/
  | phaseReport (pkg : U8) (rep : PhaseReport)
  /-- `TEMPERATURE_REPORT` (R371): A package temperature report feeds the thermal table. -/
  | temperatureReport (pkg : U8) (rep : TempReport)
  /-- `CONSUMED_COUNT` (R380): A package reports consumption of queue entries. -/
  | consumedCount (port : U8) (queue : U8) (count : U32)
  /-- `COMPLETION` (R380): A package completion is forwarded to the host. -/
  | completion (port : U8) (queue : U8) (cseq : U32) (data : List Byte)
  /-- `COMPLETION_RESEND` (R380): Unacknowledged completions are resent every 1 ms. -/
  | completionResend (queue : U8)
  /-- `DONE` (R383): A package answers an image push with its status. -/
  | done (pkg : U8) (push : U32) (status : U8)
  /-- `IMAGE_BLOCK_SEND` (R383): A verified image block is sent as DATA messages, with END after the last. -/
  | imageBlockSend (push : U32)
  /-- `HOST_SYNC_FRAME` (R377): A host-context sync frame carries operations applied in body order. -/
  | hostSyncFrame (ctx : U8) (f : HostFrame) (ops : List SyncOp)
  /-- `QUEUE_ENTRIES_FRAME` (R379): A queue entries frame is accepted entry by entry and acknowledged. -/
  | queueEntriesFrame (queue : U8) (f : HostFrame) (cack : U32) (entries : List QueueEntry)
  /-- `IMAGE_DATA_FRAME` (R382): An image data frame is written into its buffer and acknowledged. -/
  | imageDataFrame (buffer : U8) (f : HostFrame) (offset : U32) (data : List Byte) (obj : ObjectImage)
  /-- `HOST_TAG_FAIL_BURST` (R376): More than 64 tag failures on one key in 1 s record event 0x0908. -/
  | hostTagFailBurst (cls : U8) (index : U8)
  /-- `ETHERNET_LINK_CHANGE` (R373): The Ethernet link goes down or trains up. -/
  | ethernetLinkChange (mode : U8)
  /-- `FEC_UNCORRECTABLE_BURST` (R386): More than 1,000 uncorrectable codewords in 1 s record event 0x090A. -/
  | fecUncorrectableBurst (count : U32)
  /-- `ARP_REQUEST` (R374): An ARP request for an own or tray address is answered. -/
  | arpRequest (ip : U32)
  /-- `NEIGHBOUR_SOLICITATION` (R374): An IPv6 neighbour solicitation is answered. -/
  | neighbourSolicitation (ip : BitVec 128)
  /-- `ICMP_ECHO_REQUEST` (R374): An ICMP or ICMPv6 echo request is answered. -/
  | icmpEchoRequest (v6 : Bool) (ip : BitVec 128) (payload : List Byte)
  /-- `PARTNER_PATH_MESSAGE` (R369): The STANDBY forwards a package's SYNC, CMD or IMG message to the OWNER over MIR. -/
  | partnerPathMessage (pkg : U8) (cls : U8) (body : List Byte)
  /-- `PARTNER_NOT_ALIVE` (R405): ALIVE_IN stops changing for 8 ticks and the partner is no longer ALIVE. -/
  | partnerNotAlive
  /-- `OWNERSHIP_CLAIM` (R406): A governor pulls OWN_N low, becomes OWNER and sends a CLAIM record. -/
  | ownershipClaim (levels : BitVec 103)
  /-- `CLAIM_RECORD` (R406): A partner's CLAIM arrives within 10 ticks and position B releases OWN_N. -/
  | claimRecord
  /-- `OWN_N_LOW_STANDBY` (R406): OWN_N reads low for 20 ticks without own pull and the governor becomes STANDBY. -/
  | ownNLowStandby
  /-- `HEARTBEAT_SEND` (R404): Every 10 µs the mirror engine generates a heartbeat. -/
  | heartbeatSend
  /-- `HEARTBEAT_RECEIVE` (R414): A heartbeat arrives and updates the partner offset and th. -/
  | heartbeatReceive (hb : Heartbeat)
  /-- `MIRROR_LOSS` (R415): No heartbeat for 50 µs or MIR down with the partner ALIVE; the pair goes DETACHED. -/
  | mirrorLoss
  /-- `MIRROR_RECORD_APPLY` (R410): The STANDBY applies a mirror record in mseq order and acknowledges it. -/
  | mirrorRecordApply (mseq : U32) (content : MirContent)
  /-- `MIRROR_ACK_RECEIVE` (R343): A cumulative mirror acknowledgement lets held replies and notifications leave. -/
  | mirrorAckReceive (mseq : U32)
  /-- `STRAP_EXCHANGE` (R82): At the first MIR exchange the straps and protocol generations are compared. -/
  | strapExchange (partner : PartnerStraps)
  /-- `SYNCING_START` (R411): When its conditions hold the OWNER starts the bulk copy. -/
  | syncingStart
  /-- `MIRRORING_ENTRY` (R412): The last bulk item is acknowledged and the pair enters MIRRORING. -/
  | mirroringEntry
  /-- `PARTNER_LOST_AT_OWNER` (R422): The OWNER finds its partner not ALIVE and continues alone. -/
  | partnerLostAtOwner
  /-- `SHADOW_DRIVE_RELEASE` (R417): 50 µs after giving up ownership the shadow-drive outputs are released. -/
  | shadowDriveRelease
  /-- `HANDOVER_RELEASE` (R423): At the next control tick the OWNER sends the final HANDOVER record and releases OWN_N. -/
  | handoverRelease
  /-- `HANDOVER_RECORD` (R423): The target receives the final record and claims under item 3. -/
  | handoverRecord (mseq : U32)
  /-- `HANDOVER_ABANDON` (R423): No claim after 1,000 ticks of high OWN_N; the former OWNER reclaims. -/
  | handoverAbandon
  /-- `ACTIVATION_RESUME` (R436): After the handover of step 6 the activation continues as STANDBY to the warm reset. -/
  | activationResume
  /-- `DEFERRAL_CLEAR` (R445): The first tick with no deferring condition proceeds with the activation or records event 0x0C11. -/
  | deferralClear
  /-- `DEFERRAL_EXPIRY` (R445): A deferral not proceeded after 600 s expires and the update returns to INSTALLED. -/
  | deferralExpiry
  /-- `LOADER_COPY_STEP` (R442): The plan writes the new loader over the other loader copy. -/
  | loaderCopyStep
  /-- `MODEL_STEP` (R440): The plan replaces each model slot's container in slot order. -/
  | modelStep
  /-- `PROGRAM_STEP` (R441): The plan installs the new program set in the first tick with every context idle. -/
  | programStep
  /-- `ACCELERATOR_STEP` (R443): The plan pushes, resets and confirms each eligible package in turn. -/
  | acceleratorStep
  /-- `ACC_UPDATE_CONFIRM_TIMEOUT` (R443): A package does not return at the new version within 2 s and the step fails. -/
  | accUpdateConfirmTimeout (pkg : U8)
  /-- `RECORD_INTAKE` (R451): Rosemary accepts a record from an intake port and assigns its rec_seq. -/
  | recordIntake
  /-- `HANDLER_COMPLETE` (R458): A firmware handler finishes and the next queued entry by severity runs. -/
  | handlerComplete (proc : U8)
  /-- `INTAKE_LOSS_REPORT` (R452): At most once per second non-zero lost counters are recorded in event 0x0D05. -/
  | intakeLossReport
  /-- `REPEAT_PUSH` (R48): A merged record's count is pushed as a repeat update at most once per second. -/
  | repeatPush (rec_ : U32)
  /-- `TELEMETRY_FRAME_TIMEOUT` (R466): A telemetry frame is sent 100 µs after its first record if not yet full. -/
  | telemetryFrameTimeout
  /-- `MAILBOX_MESSAGE_REJECT` (R44): A mailbox datagram with a bad magic, generation, type, length, session, tag or msg_seq is discarded and counted, and an authenticated command with an unknown code returns BAD_ARG. -/
  | mailboxMessageReject (h : Hdr) (code : U16)
  /-- `ETHERNET_FRAME_DISCARD` (R374): An incoming fragment, another IP protocol or a frame to another UDP port is discarded and counted. -/
  | ethernetFrameDiscard (reason : U8)
  /-- `LINK_TRAINING_COMPLETE` (R368): An SKV or MIR port finishes training or a retrain; it then sends its capability message, or resumes replay after the retrain. -/
  | linkTrainingComplete (port : U8) (gen : U8)
  /-- `PARTNER_ALIVE` (R405): ALIVE_IN starts changing level and the partner becomes ALIVE, which changes the shadow reset drive, the readback outcomes and the start-up arbitration. -/
  | partnerAlive
  /-- `QUALIFIER_DROP` (R404): The mirror engine has generated no heartbeat for 40 µs, the alive qualifier drops, ALIVE_OUT stops and OWN_N is released. -/
  | qualifierDrop
  /-- `REMOTE_OPERATION_REPLY` (R353): The reply to a remote operation arrives at a node on its reverse path and is forwarded, or at the origin tray completes the source's operation. -/
  | remoteOperationReply (nbr : U8) (hop : U32) (origin : U32) (src : U8) (rep : SyncReply)
  /-- `SIGNING_BACKLOG` (R312): A released record has waited for signing for more than 60 s and event 0x070A is recorded. -/
  | signingBacklog
  /-- `SPILL_STOP` (R456): An uncorrectable DDR5 error in the spill ring, or DDR5 becoming unavailable, stops the Rosemary spill and records event 0x0D06. -/
  | spillStop (cause : U8)
  deriving DecidableEq, Repr, Inhabited

end Sys2Proof
end

