-- ==== Sys2Proof/Machine/Index.lean ====
section
/-! DEFINITION. The command index (02 R63), the feature bits (02 R51), the serving components (02 R62) and the payload lengths of the payload tables. -/

namespace Sys2Proof.Machine

/-- One row of the command index with what R51 and R62 add. -/
structure CmdSpec where
  /-- command code (R63) -/
  code : Nat := 0
  /-- minimum role (R63) -/
  role : KeyRole := .read
  /-- required semaphore (R63) -/
  sem : Option Nat := none
  /-- served at a STANDBY (R63) -/
  standby : Bool := false
  /-- feature bit (R51) -/
  feature : Nat := 0
  /-- serving component (R62) -/
  comp : Nat := 0
  deriving DecidableEq, Repr, Inhabited

/-- The index rows by command code, for a command whose action field names no action. -/
def specOfCode (code : Nat) : CmdSpec :=
  match code with
  | 0x0001 => { code := 0x0001, role := .read, sem := none, standby := true, feature := 0, comp := 1 }  -- SESSION_INFO
  | 0x0002 => { code := 0x0002, role := .read, sem := none, standby := true, feature := 0, comp := 1 }  -- KEEPALIVE
  | 0x0003 => { code := 0x0003, role := .read, sem := none, standby := true, feature := 0, comp := 1 }  -- SESSION_CLOSE
  | 0x0004 => { code := 0x0004, role := .read, sem := none, standby := true, feature := 0, comp := 1 }  -- GOV_INFO
  | 0x0005 => { code := 0x0005, role := .read, sem := none, standby := true, feature := 1, comp := 1 }  -- EVENT_SUBSCRIBE
  | 0x0006 => { code := 0x0006, role := .read, sem := none, standby := true, feature := 0, comp := 1 }  -- EVENT_POLL
  | 0x0007 => { code := 0x0007, role := .read, sem := none, standby := true, feature := 16, comp := 1 }  -- BATCH
  | 0x0010 => { code := 0x0010, role := .operate, sem := none, standby := true, feature := 2, comp := 2 }  -- SEM_ACQUIRE
  | 0x0011 => { code := 0x0011, role := .operate, sem := none, standby := true, feature := 2, comp := 2 }  -- SEM_RENEW
  | 0x0012 => { code := 0x0012, role := .operate, sem := none, standby := true, feature := 2, comp := 2 }  -- SEM_RELEASE
  | 0x0013 => { code := 0x0013, role := .read, sem := none, standby := true, feature := 2, comp := 2 }  -- SEM_QUERY
  | 0x0014 => { code := 0x0014, role := .admin, sem := none, standby := true, feature := 2, comp := 2 }  -- SEM_BREAK
  | 0x0100 => { code := 0x0100, role := .read, sem := none, standby := false, feature := 0, comp := 6 }  -- RAIL_STATUS
  | 0x0101 => { code := 0x0101, role := .admin, sem := some 0, standby := false, feature := 0, comp := 6 }  -- RAIL_LEVELS_SET
  | 0x0102 => { code := 0x0102, role := .read, sem := none, standby := false, feature := 0, comp := 6 }  -- RAIL_COUNTERS_READ
  | 0x0103 => { code := 0x0103, role := .operate, sem := none, standby := false, feature := 0, comp := 6 }  -- RAIL_COUNTERS_CLEAR
  | 0x0104 => { code := 0x0104, role := .admin, sem := some 2, standby := false, feature := 10, comp := 6 }  -- MARGIN_SET
  | 0x0105 => { code := 0x0105, role := .read, sem := some 1, standby := false, feature := 0, comp := 6 }  -- LIMITS_READ
  | 0x0106 => { code := 0x0106, role := .read, sem := none, standby := false, feature := 0, comp := 6 }  -- RAIL_MAP_READ
  | 0x0200 => { code := 0x0200, role := .operate, sem := none, standby := false, feature := 0, comp := 6 }  -- TRAY_POWER
  | 0x0201 => { code := 0x0201, role := .operate, sem := none, standby := false, feature := 0, comp := 6 }  -- ACC_POWER
  | 0x0202 => { code := 0x0202, role := .read, sem := none, standby := false, feature := 0, comp := 6 }  -- SEQ_STATUS
  | 0x0203 => { code := 0x0203, role := .admin, sem := some 0, standby := false, feature := 9, comp := 6 }  -- SEQ_PROGRAM_LOAD
  | 0x0204 => { code := 0x0204, role := .admin, sem := some 0, standby := false, feature := 9, comp := 6 }  -- SEQ_START
  | 0x0205 => { code := 0x0205, role := .operate, sem := none, standby := false, feature := 0, comp := 6 }  -- TRAY_FAULT_CLEAR
  | 0x0206 => { code := 0x0206, role := .operate, sem := none, standby := false, feature := 0, comp := 6 }  -- ACC_FAULT_CLEAR
  | 0x0207 => { code := 0x0207, role := .admin, sem := none, standby := false, feature := 0, comp := 6 }  -- RESTART_POLICY_SET
  | 0x0208 => { code := 0x0208, role := .operate, sem := none, standby := false, feature := 0, comp := 6 }  -- MODE_SET
  | 0x0300 => { code := 0x0300, role := .read, sem := none, standby := false, feature := 0, comp := 6 }  -- FEED_STATUS
  | 0x0301 => { code := 0x0301, role := .operate, sem := some 3, standby := false, feature := 0, comp := 6 }  -- FEED_SWITCH
  | 0x0302 => { code := 0x0302, role := .admin, sem := some 3, standby := false, feature := 19, comp := 6 }  -- BREAKER_CURVE_WRITE
  | 0x0303 => { code := 0x0303, role := .read, sem := none, standby := false, feature := 0, comp := 6 }  -- BREAKER_CURVE_READ
  | 0x0304 => { code := 0x0304, role := .admin, sem := some 3, standby := false, feature := 0, comp := 6 }  -- FEED_LOCKOUT_CLEAR
  | 0x0305 => { code := 0x0305, role := .read, sem := none, standby := false, feature := 0, comp := 6 }  -- TRIP_RECORDS_READ
  | 0x0400 => { code := 0x0400, role := .admin, sem := some 4, standby := false, feature := 0, comp := 4 }  -- PSTATE_TABLE_LOAD
  | 0x0401 => { code := 0x0401, role := .operate, sem := none, standby := false, feature := 0, comp := 4 }  -- PREF_POINT_SET
  | 0x0402 => { code := 0x0402, role := .operate, sem := some 4, standby := false, feature := 0, comp := 4 }  -- CAP_SET
  | 0x0403 => { code := 0x0403, role := .read, sem := none, standby := false, feature := 0, comp := 4 }  -- OPPOINT_STATUS
  | 0x0500 => { code := 0x0500, role := .admin, sem := some 5, standby := false, feature := 8, comp := 4 }  -- MODEL_LOAD
  | 0x0501 => { code := 0x0501, role := .operate, sem := some 5, standby := false, feature := 8, comp := 4 }  -- MODEL_START
  | 0x0502 => { code := 0x0502, role := .operate, sem := some 5, standby := false, feature := 8, comp := 4 }  -- MODEL_STOP
  | 0x0503 => { code := 0x0503, role := .read, sem := none, standby := false, feature := 8, comp := 4 }  -- MODEL_STATUS
  | 0x0504 => { code := 0x0504, role := .read, sem := none, standby := false, feature := 8, comp := 4 }  -- PHASE_TABLE_READ
  | 0x0505 => { code := 0x0505, role := .read, sem := none, standby := false, feature := 8, comp := 4 }  -- DECISION_LOG_READ
  | 0x0600 => { code := 0x0600, role := .read, sem := none, standby := false, feature := 0, comp := 5 }  -- COOL_STATUS
  | 0x0601 => { code := 0x0601, role := .admin, sem := some 6, standby := false, feature := 0, comp := 5 }  -- THERMAL_LEVELS_SET
  | 0x0602 => { code := 0x0602, role := .admin, sem := some 6, standby := false, feature := 0, comp := 5 }  -- GRACE_SET
  | 0x0603 => { code := 0x0603, role := .operate, sem := none, standby := false, feature := 0, comp := 5 }  -- LEAK_CLEAR
  | 0x0604 => { code := 0x0604, role := .operate, sem := some 6, standby := false, feature := 0, comp := 5 }  -- COOL_OVERRIDE
  | 0x0700 => { code := 0x0700, role := .admin, sem := some 7, standby := false, feature := 4, comp := 7 }  -- LEDGER_CFG_SET
  | 0x0701 => { code := 0x0701, role := .operate, sem := none, standby := false, feature := 4, comp := 7 }  -- ACCOUNT_OPEN
  | 0x0702 => { code := 0x0702, role := .operate, sem := none, standby := false, feature := 4, comp := 7 }  -- ACCOUNT_CLOSE
  | 0x0703 => { code := 0x0703, role := .read, sem := none, standby := false, feature := 4, comp := 7 }  -- ACCOUNT_READ
  | 0x0704 => { code := 0x0704, role := .read, sem := none, standby := false, feature := 4, comp := 7 }  -- LEDGER_STATUS
  | 0x0705 => { code := 0x0705, role := .admin, sem := some 7, standby := false, feature := 4, comp := 7 }  -- CALIBRATION_SET
  | 0x0710 => { code := 0x0710, role := .read, sem := none, standby := false, feature := 3, comp := 8 }  -- RECORDS_FETCH
  | 0x0711 => { code := 0x0711, role := .operate, sem := none, standby := false, feature := 3, comp := 8 }  -- RECORDS_ACK
  | 0x0712 => { code := 0x0712, role := .read, sem := none, standby := false, feature := 3, comp := 8 }  -- JOURNAL_STATUS
  | 0x0800 => { code := 0x0800, role := .admin, sem := none, standby := false, feature := 5, comp := 12 }  -- SYNC_CFG
  | 0x0801 => { code := 0x0801, role := .operate, sem := none, standby := false, feature := 5, comp := 12 }  -- JOB_OPEN
  | 0x0802 => { code := 0x0802, role := .operate, sem := none, standby := false, feature := 5, comp := 12 }  -- JOB_CLOSE
  | 0x0803 => { code := 0x0803, role := .admin, sem := some 8, standby := false, feature := 6, comp := 12 }  -- FE_SET
  | 0x0804 => { code := 0x0804, role := .read, sem := none, standby := false, feature := 5, comp := 12 }  -- HANG_REPORT
  | 0x0805 => { code := 0x0805, role := .admin, sem := none, standby := false, feature := 18, comp := 12 }  -- TREE_CFG
  | 0x0806 => { code := 0x0806, role := .read, sem := none, standby := false, feature := 5, comp := 12 }  -- SYNC_STATUS
  | 0x0900 => { code := 0x0900, role := .read, sem := none, standby := false, feature := 0, comp := 11 }  -- LINK_STATUS
  | 0x0901 => { code := 0x0901, role := .operate, sem := none, standby := false, feature := 17, comp := 11 }  -- HOSTQ_CREATE
  | 0x0902 => { code := 0x0902, role := .operate, sem := none, standby := false, feature := 17, comp := 11 }  -- HOSTQ_DELETE
  | 0x0903 => { code := 0x0903, role := .operate, sem := none, standby := false, feature := 17, comp := 11 }  -- IMAGE_PUSH
  | 0x0904 => { code := 0x0904, role := .admin, sem := some 9, standby := false, feature := 0, comp := 11 }  -- LINK_RETRAIN
  | 0x0905 => { code := 0x0905, role := .admin, sem := some 9, standby := false, feature := 0, comp := 11 }  -- BW_SHARE_SET
  | 0x0A00 => { code := 0x0A00, role := .admin, sem := some 10, standby := false, feature := 7, comp := 12 }  -- STRICT_SET
  | 0x0A01 => { code := 0x0A01, role := .read, sem := none, standby := false, feature := 7, comp := 12 }  -- REPLAY_RECORD_READ
  | 0x0A02 => { code := 0x0A02, role := .operate, sem := some 10, standby := false, feature := 7, comp := 12 }  -- REPLAY_BIND
  | 0x0A03 => { code := 0x0A03, role := .admin, sem := some 15, standby := false, feature := 7, comp := 12 }  -- SPARE_SUBSTITUTE
  | 0x0B00 => { code := 0x0B00, role := .read, sem := none, standby := true, feature := 0, comp := 13 }  -- PAIR_STATUS
  | 0x0B01 => { code := 0x0B01, role := .admin, sem := some 11, standby := false, feature := 0, comp := 13 }  -- PAIR_HANDOVER
  | 0x0B02 => { code := 0x0B02, role := .read, sem := none, standby := true, feature := 0, comp := 13 }  -- MIRROR_STATUS
  | 0x0C00 => { code := 0x0C00, role := .read, sem := none, standby := true, feature := 12, comp := 10 }  -- ATTEST
  | 0x0C01 => { code := 0x0C01, role := .read, sem := none, standby := true, feature := 12, comp := 10 }  -- CERT_CHAIN_READ
  | 0x0C02 => { code := 0x0C02, role := .admin, sem := some 12, standby := false, feature := 0, comp := 10 }  -- CUSTOMER_KEY_ENROLL
  | 0x0C08 => { code := 0x0C08, role := .read, sem := none, standby := true, feature := 0, comp := 3 }  -- BOOT_STATUS
  | 0x0C09 => { code := 0x0C09, role := .admin, sem := some 13, standby := true, feature := 11, comp := 3 }  -- BOOT_RECOVERY
  | 0x0C10 => { code := 0x0C10, role := .admin, sem := some 12, standby := true, feature := 11, comp := 3 }  -- UPDATE_BEGIN
  | 0x0C11 => { code := 0x0C11, role := .admin, sem := some 12, standby := true, feature := 11, comp := 3 }  -- UPDATE_DATA
  | 0x0C12 => { code := 0x0C12, role := .admin, sem := some 12, standby := true, feature := 11, comp := 3 }  -- UPDATE_VERIFY
  | 0x0C13 => { code := 0x0C13, role := .admin, sem := some 12, standby := true, feature := 11, comp := 3 }  -- UPDATE_ACTIVATE
  | 0x0C14 => { code := 0x0C14, role := .read, sem := none, standby := true, feature := 11, comp := 3 }  -- UPDATE_STATUS
  | 0x0C15 => { code := 0x0C15, role := .admin, sem := some 12, standby := true, feature := 11, comp := 3 }  -- CONFIG_BLOCK_WRITE
  | 0x0D00 => { code := 0x0D00, role := .read, sem := none, standby := true, feature := 20, comp := 0 }  -- LOG_READ
  | 0x0D01 => { code := 0x0D01, role := .admin, sem := none, standby := true, feature := 20, comp := 0 }  -- LOG_LEVEL_SET
  | 0x0D02 => { code := 0x0D02, role := .operate, sem := none, standby := true, feature := 14, comp := 0 }  -- TRACE_ENABLE
  | 0x0D03 => { code := 0x0D03, role := .read, sem := none, standby := true, feature := 14, comp := 0 }  -- TRACE_READ
  | 0x0D10 => { code := 0x0D10, role := .read, sem := none, standby := true, feature := 0, comp := 0 }  -- REC_READ
  | 0x0D11 => { code := 0x0D11, role := .read, sem := none, standby := true, feature := 0, comp := 0 }  -- REC_CLEAR
  | 0x0D12 => { code := 0x0D12, role := .read, sem := none, standby := true, feature := 0, comp := 0 }  -- REC_STATUS
  | 0x0F00 => { code := 0x0F00, role := .admin, sem := some 14, standby := true, feature := 13, comp := 10 }  -- DEBUG_UNLOCK
  | 0x0F01 => { code := 0x0F01, role := .admin, sem := none, standby := true, feature := 13, comp := 10 }  -- DEBUG_LOCK
  | 0x0F02 => { code := 0x0F02, role := .read, sem := none, standby := true, feature := 13, comp := 10 }  -- DEBUG_STATUS
  | c => { code := c }

/-- Whether a code stands in the command index (R62, R63). -/
def knownCode (code : Nat) : Bool :=
  [0x0001, 0x0002, 0x0003, 0x0004, 0x0005, 0x0006, 0x0007, 0x0010, 0x0011, 0x0012, 0x0013, 0x0014, 0x0100, 0x0101, 0x0102, 0x0103, 0x0104, 0x0105, 0x0106, 0x0200, 0x0201, 0x0202, 0x0203, 0x0204, 0x0205, 0x0206, 0x0207, 0x0208, 0x0300, 0x0301, 0x0302, 0x0303, 0x0304, 0x0305, 0x0400, 0x0401, 0x0402, 0x0403, 0x0500, 0x0501, 0x0502, 0x0503, 0x0504, 0x0505, 0x0600, 0x0601, 0x0602, 0x0603, 0x0604, 0x0700, 0x0701, 0x0702, 0x0703, 0x0704, 0x0705, 0x0710, 0x0711, 0x0712, 0x0800, 0x0801, 0x0802, 0x0803, 0x0804, 0x0805, 0x0806, 0x0900, 0x0901, 0x0902, 0x0903, 0x0904, 0x0905, 0x0A00, 0x0A01, 0x0A02, 0x0A03, 0x0B00, 0x0B01, 0x0B02, 0x0C00, 0x0C01, 0x0C02, 0x0C08, 0x0C09, 0x0C10, 0x0C11, 0x0C12, 0x0C13, 0x0C14, 0x0C15, 0x0D00, 0x0D01, 0x0D02, 0x0D03, 0x0D10, 0x0D11, 0x0D12, 0x0F00, 0x0F01, 0x0F02].contains code

/-- The command code of a body (R63). -/
def Body.code : Body → Nat
  | .sessionInfo => 0x0001
  | .keepalive => 0x0002
  | .sessionClose => 0x0003
  | .govInfo => 0x0004
  | .eventSubscribe _ _ => 0x0005
  | .eventPoll _ _ => 0x0006
  | .semAcquire _ _ => 0x0010
  | .semRenew _ _ => 0x0011
  | .semRelease _ _ => 0x0012
  | .semQuery => 0x0013
  | .semBreak _ => 0x0014
  | .railStatus _ _ => 0x0100
  | .railLevelsSet _ _ _ => 0x0101
  | .railCountersRead _ _ => 0x0102
  | .railCountersClear _ _ => 0x0103
  | .marginSet _ _ _ => 0x0104
  | .limitsRead _ _ => 0x0105
  | .railMapRead _ _ => 0x0106
  | .trayPowerOn => 0x0200
  | .trayPowerOff => 0x0200
  | .accPowerOn _ => 0x0201
  | .accPowerOff _ => 0x0201
  | .accPowerReset _ => 0x0201
  | .seqStatus => 0x0202
  | .seqProgramLoadBegin => 0x0203
  | .seqProgramLoadData _ _ => 0x0203
  | .seqProgramLoadCommit => 0x0203
  | .seqStart _ => 0x0204
  | .trayFaultClear => 0x0205
  | .accFaultClear _ => 0x0206
  | .restartPolicySet _ => 0x0207
  | .modeSetOn => 0x0208
  | .modeSetMaintenance => 0x0208
  | .feedStatus => 0x0300
  | .feedSwitchForceOff _ => 0x0301
  | .feedSwitchAuto _ => 0x0301
  | .breakerCurveWrite _ _ _ _ => 0x0302
  | .breakerCurveRead _ => 0x0303
  | .feedLockoutClear _ => 0x0304
  | .tripRecordsRead _ _ => 0x0305
  | .pstateTableLoadBegin => 0x0400
  | .pstateTableLoadData _ _ => 0x0400
  | .pstateTableLoadCommit => 0x0400
  | .prefPointSet _ _ _ => 0x0401
  | .capSet _ _ _ _ _ => 0x0402
  | .oppointStatus => 0x0403
  | .modelLoadBegin _ _ => 0x0500
  | .modelLoadData _ _ _ _ => 0x0500
  | .modelLoadCommit _ _ _ => 0x0500
  | .modelStart _ => 0x0501
  | .modelStop _ => 0x0502
  | .modelStatus => 0x0503
  | .phaseTableRead _ _ _ => 0x0504
  | .decisionLogRead _ _ _ _ => 0x0505
  | .coolStatus => 0x0600
  | .thermalLevelsSet _ _ _ => 0x0601
  | .graceSet _ => 0x0602
  | .leakClear => 0x0603
  | .coolOverride _ _ _ => 0x0604
  | .ledgerCfgSet _ _ _ _ _ => 0x0700
  | .accountOpen _ => 0x0701
  | .accountClose _ => 0x0702
  | .accountRead _ _ => 0x0703
  | .ledgerStatus => 0x0704
  | .calibrationSet _ _ _ => 0x0705
  | .recordsFetch _ _ => 0x0710
  | .recordsAck _ => 0x0711
  | .journalStatus => 0x0712
  | .syncCfgHangTimeout _ _ => 0x0800
  | .syncCfgBind _ _ => 0x0800
  | .syncCfgUnbind _ => 0x0800
  | .jobOpen _ _ _ _ _ _ _ _ _ _ => 0x0801
  | .jobClose _ => 0x0802
  | .feSetEmpty _ _ => 0x0803
  | .feSetFull _ _ => 0x0803
  | .feSetPair _ _ => 0x0803
  | .feSetBarrier _ _ => 0x0803
  | .feSetUnpoison _ _ => 0x0803
  | .hangReport _ _ => 0x0804
  | .treeCfgNode _ _ _ _ => 0x0805
  | .treeCfgBindBarrier _ _ => 0x0805
  | .treeCfgUnbindBarrier _ _ => 0x0805
  | .treeCfgBindChannel _ _ => 0x0805
  | .treeCfgLeave => 0x0805
  | .syncStatus => 0x0806
  | .linkStatus => 0x0900
  | .hostqCreate _ _ _ _ _ => 0x0901
  | .hostqDelete _ => 0x0902
  | .imagePushOpen _ _ _ _ _ => 0x0903
  | .imagePushStart _ _ _ _ => 0x0903
  | .imagePushAbort _ _ _ _ => 0x0903
  | .linkRetrain _ => 0x0904
  | .bwShareSet _ => 0x0905
  | .strictSet _ => 0x0A00
  | .replayRecordRead _ _ _ _ _ => 0x0A01
  | .replayBind _ _ _ _ _ _ _ => 0x0A02
  | .replayBindResult _ _ _ => 0x0A02
  | .replayBindRemove _ => 0x0A02
  | .spareSubstitute _ _ _ _ _ _ _ _ => 0x0A03
  | .spareSubstituteRemove _ => 0x0A03
  | .pairStatus => 0x0B00
  | .pairHandover => 0x0B01
  | .mirrorStatus => 0x0B02
  | .attest _ => 0x0C00
  | .certChainRead _ => 0x0C01
  | .customerKeyEnroll _ _ _ => 0x0C02
  | .customerKeyEnrollRemove _ _ => 0x0C02
  | .bootStatus => 0x0C08
  | .bootRecovery => 0x0C09
  | .updateBegin _ _ => 0x0C10
  | .updateData _ _ _ _ => 0x0C11
  | .updateVerify => 0x0C12
  | .updateActivate _ => 0x0C13
  | .updateStatus => 0x0C14
  | .configBlockWriteBegin => 0x0C15
  | .configBlockWriteData _ _ => 0x0C15
  | .configBlockWriteCommit _ => 0x0C15
  | .logRead _ _ _ => 0x0D00
  | .logLevelSet _ _ => 0x0D01
  | .traceEnable _ _ => 0x0D02
  | .traceRead _ => 0x0D03
  | .recRead _ _ _ _ => 0x0D10
  | .recClear _ => 0x0D11
  | .recStatus => 0x0D12
  | .debugUnlock _ _ _ _ _ _ => 0x0F00
  | .debugLock => 0x0F01
  | .debugStatus => 0x0F02
  | .badAction c => c.toNat

/-- The index row of a body (R63). -/
def Body.spec (b : Body) : CmdSpec := specOfCode b.code

/-- The payload length that the payload table gives a body. -/
def Body.plen : Body → Nat
  | .sessionInfo => 0
  | .keepalive => 0
  | .sessionClose => 0
  | .govInfo => 0
  | .eventSubscribe _ _ => 4
  | .eventPoll _ _ => 8
  | .semAcquire _ _ => 4
  | .semRenew _ _ => 12
  | .semRelease _ _ => 12
  | .semQuery => 0
  | .semBreak _ => 4
  | .railStatus _ _ => 4
  | .railLevelsSet _ _ levels => 4 + 24 * levels.length
  | .railCountersRead _ _ => 4
  | .railCountersClear _ _ => 4
  | .marginSet _ _ _ => 4
  | .limitsRead _ _ => 8
  | .railMapRead _ _ => 4
  | .trayPowerOn => 4
  | .trayPowerOff => 4
  | .accPowerOn _ => 4
  | .accPowerOff _ => 4
  | .accPowerReset _ => 4
  | .seqStatus => 0
  | .seqProgramLoadBegin => 8
  | .seqProgramLoadData _ data => 8 + data.length
  | .seqProgramLoadCommit => 8
  | .seqStart _ => 4
  | .trayFaultClear => 0
  | .accFaultClear _ => 4
  | .restartPolicySet _ => 4
  | .modeSetOn => 4
  | .modeSetMaintenance => 4
  | .feedStatus => 0
  | .feedSwitchForceOff _ => 4
  | .feedSwitchAuto _ => 4
  | .breakerCurveWrite _ _ _ curve => 8 + 8 * curve.length
  | .breakerCurveRead _ => 4
  | .feedLockoutClear _ => 4
  | .tripRecordsRead _ _ => 8
  | .pstateTableLoadBegin => 8
  | .pstateTableLoadData _ data => 8 + data.length
  | .pstateTableLoadCommit => 8
  | .prefPointSet _ _ points => 4 + points.length
  | .capSet _ _ _ _ budgets => 12 + 4 * budgets.length
  | .oppointStatus => 0
  | .modelLoadBegin _ _ => 8
  | .modelLoadData _ _ _ data => 8 + data.length
  | .modelLoadCommit _ _ _ => 8
  | .modelStart _ => 4
  | .modelStop _ => 4
  | .modelStatus => 0
  | .phaseTableRead _ _ _ => 4
  | .decisionLogRead _ _ _ _ => 20
  | .coolStatus => 0
  | .thermalLevelsSet _ _ levels => 4 + 8 * levels.length
  | .graceSet _ => 4
  | .leakClear => 0
  | .coolOverride _ _ _ => 4
  | .ledgerCfgSet _ _ _ _ _ => 8
  | .accountOpen _ => 8
  | .accountClose _ => 8
  | .accountRead _ _ => 16
  | .ledgerStatus => 0
  | .calibrationSet _ _ entries => 4 + 8 * entries.length
  | .recordsFetch _ _ => 12
  | .recordsAck _ => 8
  | .journalStatus => 0
  | .syncCfgHangTimeout _ _ => 8
  | .syncCfgBind _ _ => 36
  | .syncCfgUnbind _ => 4
  | .jobOpen _ _ _ _ _ _ _ _ _ _ => 52
  | .jobClose _ => 4
  | .feSetEmpty _ _ => 24
  | .feSetFull _ _ => 24
  | .feSetPair _ _ => 24
  | .feSetBarrier _ _ => 24
  | .feSetUnpoison _ _ => 24
  | .hangReport _ _ => 4
  | .treeCfgNode _ _ _ children => 24 + 20 * children.length
  | .treeCfgBindBarrier _ _ => 3
  | .treeCfgUnbindBarrier _ _ => 3
  | .treeCfgBindChannel _ _ => 8
  | .treeCfgLeave => 1
  | .syncStatus => 0
  | .linkStatus => 0
  | .hostqCreate _ _ _ _ _ => 40
  | .hostqDelete _ => 4
  | .imagePushOpen _ _ _ _ _ => 40
  | .imagePushStart _ _ _ _ => 8
  | .imagePushAbort _ _ _ _ => 8
  | .linkRetrain _ => 4
  | .bwShareSet weights => 3 + weights.length
  | .strictSet _ => 4
  | .replayRecordRead _ _ _ _ _ => 16
  | .replayBind _ _ _ _ _ refCores seeds => 156 + 4 * refCores.length + 8 * seeds.length
  | .replayBindResult _ _ _ => 60
  | .replayBindRemove _ => 4
  | .spareSubstitute _ _ _ _ _ _ _ _ => 20
  | .spareSubstituteRemove _ => 20
  | .pairStatus => 0
  | .pairHandover => 4
  | .mirrorStatus => 0
  | .attest _ => 32
  | .certChainRead _ => 1
  | .customerKeyEnroll _ _ _ => 208
  | .customerKeyEnrollRemove _ _ => 208
  | .bootStatus => 0
  | .bootRecovery => 0
  | .updateBegin _ _ => 8
  | .updateData _ count _ _ => 8 + count.toNat
  | .updateVerify => 0
  | .updateActivate _ => 4
  | .updateStatus => 0
  | .configBlockWriteBegin => 8
  | .configBlockWriteData _ count => 8 + count.toNat
  | .configBlockWriteCommit _ => 8
  | .logRead _ _ _ => 8
  | .logLevelSet _ _ => 4
  | .traceEnable _ _ => 36
  | .traceRead _ => 4
  | .recRead _ _ _ _ => 12
  | .recClear _ => 8
  | .recStatus => 0
  | .debugUnlock _ _ _ _ _ _ => 256
  | .debugLock => 0
  | .debugStatus => 0
  | .badAction _ => 4

end Sys2Proof.Machine
end

