-- ==== Sys2Proof/Config.lean ====
section
/-! DEFINITION. What the spec leaves open: free values, and the outputs of the cryptographic functions, as constants without a body. -/

namespace Sys2Proof.Config

/-- A free value: the `n`-th value that the governor draws where the spec states none (log entry 1). -/
opaque freeWord : Nat → BitVec 64

/-- A free ephemeral public key of the governor (02 R37; log entry 1). -/
opaque freeKey : Nat → BitVec 776

/-- A free nonce or challenge of 32 bytes (02 R37, 04 R109; log entry 1). -/
opaque freeNonce : Nat → BitVec 256

/-- SHA-384 (FIPS 180-4), named by 00 and 02 R37 and left abstract (log entry 2). -/
opaque sha384 : List Byte → BitVec 384

/-- The x-coordinate of the ECDHE shared point of the `n`-th ephemeral key with a host key (02 R38; log entry 2). -/
opaque ecdh : Nat → BitVec 776 → BitVec 384

/-- AES-256-GCM: ciphertext and 16-byte tag under a key, for a nonce, additional data and a plaintext (02 R38; log entry 2). -/
opaque gcmSeal : (key nonce aad plain : List Byte) → List Byte

/-- HKDF extract with SHA-384: salt and input key material (02 R38; log entry 2). -/
opaque hkdfExtract : List Byte → List Byte → BitVec 384

/-- HKDF expand with SHA-384: key, info and length in bits (02 R38; log entry 2). -/
opaque hkdfExpand : BitVec 384 → List Byte → (bits : Nat) → BitVec bits

/-- The 48-byte identity seed that the SRAM PUF gives with the helper data (04 R105; log entry 2). -/
opaque pufSeed : (helper : List Byte) → BitVec 384

/-- The public key of a private scalar on brainpoolP384r1, an uncompressed point (04 R105; log entry 2). -/
opaque publicKey : Nat → BitVec 776

/-- The deterministic ECDSA signature of a private scalar over bytes (04 R105, 11 R301; log entry 2). -/
opaque ecdsa : Nat → List Byte → BitVec 768

/-- The DER bytes of the certificate that IDK issues for AK (1) or LK (2) of a device, with its fixed content (04 R106; log entry 2). -/
opaque certificate : (content : List (List Byte)) → (serial : BitVec 128) → Nat → List Byte

/-- A piece of 4,096 bytes of a block of the image with a manifest digest, where the model holds the image by its attributes (13 R383; log entry 2). -/
opaque imageBytes : (digest : BitVec 384) → (block piece : Nat) → List Byte

/-- A division that the spec does not define, by its operands (log entry 1). -/
opaque freeQuotient : Int → Int → Int

end Sys2Proof.Config
end

