-- ==== Sys2Proof/Machine/State.lean ====
section
/-! DEFINITION. The state of one governor: every piece the spec gives it, as plain data, with the queue of waiting commands. -/

namespace Sys2Proof.Machine

open Sys2Proof

/-- The state. Each part's own declaration lists its fields with width, rule and reset value. -/
structure State where
  /-- supplies as the power-on detector sees them | record | 19 R493 | in range -/
  sup : SupplyState := {}
  /-- clocks, resets and start-up | record | 03 R67-R84 | power-on reset held -/
  clk : ClockState := {}
  /-- straps | record | 03 R79 | 0 until sampled -/
  straps : Straps := {}
  /-- pins shared with the partner | record | 18 R473 | R473 -/
  pins : PinState := {}
  /-- secure start, flash and identity | record | 04 R85 | as provisioned -/
  sec : SecureState := {}
  /-- configuration block in force | record | 04 R92 | none in force (all defaults) -/
  cfg : ConfigBlock := {}
  /-- mailbox ports P0 and P1 | 2 ports | 02 R37 | idle -/
  ports : List PortState := [{}, {}]
  /-- hardware semaphores 0-15 | 16 holders | 02 R55 | free -/
  sems : List (Option SemHolder) := List.replicate 16 none
  /-- firmware log | record | 02 R64 | empty -/
  log : LogState := {}
  /-- trace points | record | 02 R66 | disabled -/
  trace : TraceState := {}
  /-- firmware components 0-13 | 14 | 01 R23 | running -/
  comps : List Component := List.replicate 14 {}
  /-- firmware processors FP0-FP3 | 4 | 01 R25 | running -/
  procs : List Processor := List.replicate 4 {}
  /-- Rosemary | record | 17 R451 | empty -/
  rec_ : RecorderState := {}
  /-- feed controller | record | 05 R111 | OFF -/
  feed : FeedState := {}
  /-- Thyme with the tray and accelerator states | record | 06 R142 | OFF -/
  thyme : ThymeState := {}
  /-- Sage, monitor array, limit block and regulator buses | record | 07 R176 | reset content -/
  sage : SageState := {}
  /-- operating point and capping | record | 08 R208 | P31 -/
  op : OpState := {}
  /-- phase engine | record | 09 R230 | empty -/
  phase : PhaseState := {}
  /-- cooling, thermal control and leaks | record | 10 R262 | normal -/
  cool : CoolState := {}
  /-- energy ledger | record | 11 R287 | no session -/
  ledger : LedgerState := {}
  /-- sync hub | record | 12 R319 | empty -/
  sync : SyncState := {}
  /-- links, Ethernet and host path | record | 13 R361 | training -/
  link : LinkState := {}
  /-- reproducibility | record | 14 R390 | strict mode clear -/
  repro : ReproState := {}
  /-- redundant pair | record | 15 R404 | undecided -/
  pair : PairState := {}
  /-- firmware update | record | 16 R427 | IDLE -/
  upd : UpdateState := {}
  /-- the model's own counter of free values used (no state of the spec) | unbounded | log entry 1 | DESIGN CHOICE 0 (log entry 1) -/
  free : Nat := 0
  /-- commands waiting, first in first out (the model's own queue) | list | the row's form | empty -/
  pending : List Instr := []
  deriving DecidableEq, Repr, Inhabited

/-- Why a step stops with a fault. -/
inductive Fault where
  /-- Raised by POWER_ON_RESET and BROWN_OUT when a supply is named above its absolute maximum rating, where the
  spec states no behaviour (19 R491). Safe: the machine stops where the hardware may do anything. -/
  | beyondRatings
  deriving DecidableEq, Repr, Inhabited

/-- Why a command has no meaning here. -/
inductive Refusal where
  /-- Raised by an arm of the dispatch that has no meaning yet. Safe: the machine stops. -/
  | notModelled (mnemonic : String)
  deriving DecidableEq, Repr, Inhabited

/-- The machine right after power-on reset: every field at the reset value that its declaration lists. -/
def State.reset : State := {}

end Sys2Proof.Machine
end

