-- ==== Sys2Proof/Machine/Operands.lean ====
section
/-! DEFINITION. The byte fields of payloads and records: item widths of 17 R503, little-endian throughout (00 R15). -/

namespace Sys2Proof.Machine

open Sys2Proof

/-- A one-byte item. -/
def i1 (v : Nat) : List Byte := leBytes 1 v
/-- A two-byte item. -/
def i2 (v : Nat) : List Byte := leBytes 2 v
/-- A four-byte item: counts saturate (17 R503). -/
def i4 (v : Nat) : List Byte := leBytes 4 (min v (2 ^ 32 - 1))
/-- A four-byte signed item. -/
def i4s (v : Int) : List Byte := leBytesS 4 v
/-- An eight-byte item. -/
def i8 (v : Nat) : List Byte := leBytes 8 v
/-- An eight-byte signed item. -/
def i8s (v : Int) : List Byte := leBytesS 8 v
/-- A one-byte signed item. -/
def i1s (v : Int) : List Byte := leBytesS 1 v
/-- A flag as one byte. -/
def ib (b : Bool) : List Byte := i1 (flag b)
/-- `n` zero bytes. -/
def zeros (n : Nat) : List Byte := List.replicate n 0

/-- The bytes of a hash, key or serial in the order in which its standard writes them, most significant first. -/
def beBytes : (n : Nat) → Nat → List Byte
  | 0, _ => []
  | n + 1, v => BitVec.ofNat 8 (v / 256 ^ n) :: beBytes n v

/-- The 48 bytes of a digest. -/
def digestBytes (d : BitVec 384) : List Byte := beBytes 48 d.toNat
/-- The 96 bytes of a signature. -/
def sigBytes (d : BitVec 768) : List Byte := beBytes 96 d.toNat
/-- The 16 bytes of a serial. -/
def serialBytes (d : BitVec 128) : List Byte := beBytes 16 d.toNat

/-- The bytes of an ASCII text. -/
def ascii (t : String) : List Byte := t.toList.map fun c => BitVec.ofNat 8 c.toNat

/-- Pad or cut to `n` bytes. -/
def fit (n : Nat) (l : List Byte) : List Byte := (l ++ zeros n).take n

/-- The element of a table, its type's blank value outside the table. -/
def nth {α : Type} [Inhabited α] (l : List α) (i : Nat) : α := l.getD i default

/-- Replace an element of a table by its image. -/
def modAt {α : Type} [Inhabited α] (l : List α) (i : Nat) (f : α → α) : List α := l.set i (f (nth l i))

/-- The entry of a sparse table, blank where it lists none. -/
def look {α : Type} [Inhabited α] (l : List (Nat × α)) (k : Nat) : α :=
  match l.find? (fun p => p.1 == k) with
  | some p => p.2
  | none => default

/-- Write an entry of a sparse table whose keys rise; a blank entry is not listed. -/
def put {α : Type} [DecidableEq α] [Inhabited α] : List (Nat × α) → Nat → α → List (Nat × α)
  | [], k, a => if a = default then [] else [(k, a)]
  | (j, b) :: l, k, a =>
    if k < j then (if a = default then (j, b) :: l else (k, a) :: (j, b) :: l)
    else if k = j then (if a = default then l else (k, a) :: l)
    else (j, b) :: put l k a

/-- Drop the oldest elements of a ring until their sizes fit its capacity. -/
def trimOldest {α : Type} (size : α → Nat) (cap : Nat) : List α → List α
  | [] => []
  | r :: rs => if (rs.map size).foldl (· + ·) (size r) ≤ cap then r :: rs else trimOldest size cap rs

/-- Count the elements that satisfy a test. -/
def countIf {α : Type} (p : α → Bool) (l : List α) : Nat := (l.filter p).length

/-- Sum of a list of integers. -/
def sumInt (l : List Int) : Int := l.foldl (· + ·) 0

/-- The indices below `n` at which a test holds. -/
def indices (n : Nat) (p : Nat → Bool) : List Nat := (List.range n).filter p

end Sys2Proof.Machine
end

