-- ==== Sys2Proof/Machine/Flags.lean ====
section
/-! DEFINITION. Codes and flag fields that several responses, records and events share. -/

namespace Sys2Proof.Machine

open Sys2Proof

/-- Status codes (02 R53). -/
def Status.code : Status → Nat
  | .ok => 0 | .accepted => 1 | .busy => 2 | .denied => 3 | .notNegotiated => 4 | .badArg => 5
  | .semaphoreHeld => 6 | .emergencyActive => 7 | .deferred => 8 | .limitExceeded => 9 | .notOwner => 10
  | .strictMode => 11 | .noResource => 12 | .integrityFail => 13 | .stateConflict => 14

/-- Roles as a response names them (02 R36). -/
def KeyRole.code : KeyRole → Nat
  | .read => 0 | .operate => 1 | .admin => 2

/-- The tray states in the order of 00 R11. -/
def TrayState.code : TrayState → Nat
  | .off => 0 | .standby => 1 | .poweringUp => 2 | .on => 3 | .maintenance => 4 | .poweringDown => 5
  | .faultOff => 6 | .thermalOff => 7 | .leakOff => 8

/-- The accelerator states in the order of 00 R13. -/
def AccState.code : AccState → Nat
  | .off => 0 | .up => 1 | .on => 2 | .down => 3 | .fault => 4

/-- The tray state that a query reports: during start-up OFF, which only its completion leaves (00 R11); then a latch that is set comes first, THERMAL_OFF before LEAK_OFF before FAULT_OFF (00 R12); a leak latch is reported once the program that ends in LEAK_OFF has ended (10 R280). -/
def ThymeState.reported (t : ThymeState) : TrayState :=
  if t.tray = .off then .off
  else if t.latchThermal then .thermalOff
  else if t.latchLeak && !t.leakAfter then .leakOff
  else if t.latchFault then .faultOff
  else t.tray

/-- Some latch of 00 R12 is set. -/
def ThymeState.latched (t : ThymeState) : Bool := t.latchThermal || t.latchLeak || t.latchFault

/-- The number of an intake port in port order (17 R451). -/
def EvPort.num : EvPort → Nat
  | .rosemary => 0 | .sage => 1 | .feed => 2 | .thyme => 3 | .monitor => 4 | .arbiter => 5 | .semaphores => 6
  | .hub => 7 | .metering => 8 | .hostSwitch => 9 | .mirror => 10 | .phase => 11 | .fp0 => 12 | .fp1 => 13
  | .fp2 => 14 | .fp3 => 15

/-- The intake port of a firmware processor (17 R451). -/
def EvPort.ofProc : Nat → EvPort
  | 0 => .fp0 | 1 => .fp1 | 2 => .fp2 | _ => .fp3

/-- The processor of a component (01 R23). -/
def procOf (comp : Nat) : Nat :=
  if comp ≤ 3 then 0 else if comp ≤ 6 then 1 else if comp ≤ 10 then 2 else 3

/-- The component that serves a command code or handles an event of its group (02 R62). -/
def compOfCode (code : Nat) : Nat :=
  let low := code % 256
  match code / 256 with
  | 0 => if 0x10 ≤ low ∧ low ≤ 0x1F then 2 else 1
  | 1 => 6 | 2 => 6 | 3 => 6 | 4 => 4 | 5 => 4 | 6 => 5
  | 7 => if 0x10 ≤ low ∧ low ≤ 0x1F then 8 else 7
  | 8 => 12 | 9 => 11 | 10 => 12 | 11 => 13
  | 12 => if low < 8 then 10 else 3
  | 13 => 0
  | _ => 10

/-- A code that R449 reserves: never recorded. -/
def reservedEvent (code : Nat) : Bool := code % 256 == 0 || code / 256 == 0x0E || decide (0x0F < code / 256)

end Sys2Proof.Machine
end

