-- ==== Sys2Proof/Machine/Ops.lean ====
section
/-! DEFINITION. Named operations that many meanings share: free values, trace points, the firmware log, Rosemary's intake ports, mirror records, and messages to the mailbox ports. -/

namespace Sys2Proof.Machine

open Sys2Proof

/-- Draw one free value: the number of the draw (log entry 1). -/
def State.draw (s : State) : Nat × State := (s.free, { s with free := s.free + 1 })

/-- Governor time, µs. -/
abbrev State.gt (s : State) : Nat := s.clk.gt

/-- Microseconds of a count of milliseconds. -/
def ms (n : Nat) : Nat := 1000 * n

/-- Microseconds of a count of seconds. -/
def secs (n : Nat) : Nat := 1000000 * n

/-- `n` µs have passed since a GT. -/
def State.since (s : State) (t n : Nat) : Bool := decide (t + n ≤ s.gt)

/-- This governor is OWNER (15 R406). -/
def State.isOwner (s : State) : Bool := s.pair.role == .owner

/-- This governor's pair position: 0 for A, 1 for B (03 R79). -/
def State.position (s : State) : Nat := flag s.straps.pairSel

/-! Trace points -/

/-- The 32 bytes of a trace record (02 R66). -/
def TraceRecord.bytes (r : TraceRecord) : List Byte :=
  i8 r.gt ++ i1 r.point ++ ib r.lost ++ i2 r.source ++ i4 r.seq ++ i8 r.step ++ i8 r.arg

/-- Count a lost trace record of a point (02 R66). -/
def TraceState.lose (t : TraceState) (point : Nat) : TraceState :=
  match t.points.find? (fun p => p.point == point) with
  | some _ => { t with points := t.points.map fun p => if p.point = point then { p with lost := satAdd 32 p.lost 1, lostPending := true } else p }
  | none => { t with points := { point := point, lost := 1, lostPending := true } :: t.points }

/-- Capture an occurrence of an enabled point: its record, unless the rate of 20 million records per second or the buffer of 32,768 is exhausted (02 R66). -/
def TraceState.capture (t : TraceState) (gt step point source arg : Nat) : TraceState × Option TraceRecord :=
  let t := if t.rateSecond = gt / 1000000 then t else { t with rateSecond := gt / 1000000, rateCount := 0 }
  if 20000000 ≤ t.rateCount then (t.lose point, none)
  else if 32768 ≤ t.buffer.length then (t.lose point, none)
  else
    let p := (t.points.find? (fun p => p.point == point)).getD { point := point }
    let r : TraceRecord := { gt := gt, point := point, lost := p.lostPending, source := source % 65536, seq := p.seq, step := step, arg := arg % 2 ^ 64 }
    let p' := { p with seq := (p.seq + 1) % 2 ^ 32, lostPending := false }
    ({ t with rateCount := t.rateCount + 1, points := p' :: t.points.filter (fun q => q.point != point) }, some r)

/-- Records that one telemetry frame holds within the frame size of R374 (17 R466). -/
def State.frameRecords (s : State) : Nat := if s.link.jumbo then 255 else 44

/-- A telemetry frame: bytes 0-23 authenticated, the records encrypted under the keys of the session, the nonce `salt_tel` and `tseq` big-endian (17 R466). -/
def TelemetryFrame.make (k : SessionKeys) (session : U32) (type tseq : Nat) (records : List (List Byte)) : TelemetryFrame :=
  let head := i4 0x4D54474C ++ i1 type ++ i1 records.length ++ i2 0 ++ i8 tseq ++ leBytes 4 session.toNat ++ i4 0
  { session := session, type := type, tseq := tseq, records := records, wire := head ++ Config.gcmSeal k.keyTel (k.saltTel ++ beBytes 8 tseq) head records.flatten }

/-- Send the telemetry frame being filled, with trace point 253 (17 R466, R468). -/
def State.sendFrame (s : State) : State :=
  match s.rec_.stream with
  | none => s
  | some st =>
    if st.frame = [] then s
    else
      let keys := ((nth s.ports st.port).session.map Session.keys).getD {}
      let f := TelemetryFrame.make keys st.session st.frameType st.tseq st.frame
      let s := { s with rec_ := { s.rec_ with frames := s.rec_.frames ++ [f], stream := some { st with tseq := st.tseq + 1, frame := [] } } }
      if s.trace.mask.getLsbD 253 then
        let (t, r) := s.trace.capture s.gt s.link.topStep 253 st.frameType st.tseq
        { s with trace := { t with buffer := t.buffer ++ r.toList } }
      else s

/-- A frame holds records of one type: one of another type is sent first (17 R466). -/
def State.freshFrame (s : State) (type : Nat) : State :=
  match s.rec_.stream with
  | some st => if st.frame ≠ [] ∧ st.frameType ≠ type then s.sendFrame else s
  | none => s

/-- Add one 32-byte record to the telemetry frame being filled; a full frame is sent (17 R466). -/
def State.fillFrame (s : State) (type : Nat) (r : List Byte) : State :=
  match s.rec_.stream with
  | none => s
  | some st =>
    let st := if st.frame = [] then { st with frameType := type, frameGt := s.gt } else st
    let s := { s with rec_ := { s.rec_ with stream := some { st with frame := st.frame ++ [r] } } }
    if s.frameRecords ≤ st.frame.length + 1 then s.sendFrame else s

/-- Add 32-byte records of one type to the telemetry stream (17 R466). -/
def State.stream (s : State) (type : Nat) (recs : List (List Byte)) : State :=
  recs.foldl (fun s r => (s.freshFrame type).fillFrame type r) s

/-- While trace records are streamed, those of the buffer leave it into the stream (17 R465). -/
def State.drainTrace (s : State) : State :=
  if s.rec_.stream.any fun st => st.bits.getLsbD 0 then { s with trace := { s.trace with buffer := [] } }.stream 1 (s.trace.buffer.map TraceRecord.bytes) else s

/-- A happening of a trace point at a GT (02 R66): recorded when the point is enabled, streamed when the trace stream runs (17 R465). -/
def State.tracedAt (s : State) (gt point source arg : Nat) : State :=
  if s.trace.mask.getLsbD point then
    let (t, r) := s.trace.capture gt s.link.topStep point source arg
    { s with trace := { t with buffer := t.buffer ++ r.toList } }.drainTrace
  else s

/-- A happening of a trace point in this tick. -/
def State.traced (s : State) (point source arg : Nat) : State := s.tracedAt s.gt point source arg

/-! The firmware log -/

/-- The areas of the two flash devices (04 R85). -/
inductive FlashArea where
  | loader0 | loader1 | slotA | settings | logSpill | slotB | store | reservedA | cfg0 | cfg1 | cfgStaging | reservedB | anchorStaging | anchor
  deriving DecidableEq, Repr, Inhabited

/-- Device, first and last address of an area (04 R85). -/
def FlashArea.place : FlashArea → Nat × Nat × Nat
  | .loader0 => (0, 0x00000000, 0x000FFFFF)
  | .loader1 => (0, 0x00100000, 0x001FFFFF)
  | .slotA => (0, 0x00200000, 0x031FFFFF)
  | .settings => (0, 0x03200000, 0x035FFFFF)
  | .logSpill => (0, 0x03600000, 0x07FFFFFF)
  | .slotB => (1, 0x00000000, 0x02FFFFFF)
  | .store => (1, 0x03000000, 0x06FFFFFF)
  | .reservedA => (1, 0x07000000, 0x07EFFFFF)
  | .cfg0 => (1, 0x07F00000, 0x07F3FFFF)
  | .cfg1 => (1, 0x07F40000, 0x07F7FFFF)
  | .cfgStaging => (1, 0x07F80000, 0x07FBFFFF)
  | .reservedB => (1, 0x07FC0000, 0x07FDFFFF)
  | .anchorStaging => (1, 0x07FE0000, 0x07FEFFFF)
  | .anchor => (1, 0x07FF0000, 0x07FFFFFF)

/-- Bytes of an area. -/
def FlashArea.size (a : FlashArea) : Nat := a.place.2.2 + 1 - a.place.2.1

/-- Image blocks of 64 KiB that an area holds after its header and manifest (04 R86). -/
def FlashArea.blocks (a : FlashArea) : Nat := a.size / 65536 - 1

/-- The governor reads the area as erased and never writes it (04 R85). -/
def FlashArea.reserved (a : FlashArea) : Bool := a == .reservedA || a == .reservedB

/-- The area is protected by the anchor gate (04 R87). -/
def FlashArea.gated (a : FlashArea) : Bool := a == .anchor || a == .cfg0 || a == .cfg1

/-- The flash ports take a program or erase command addressed to an area (04 R85, R87). -/
def State.flashTakes (s : State) (a : FlashArea) : Bool := !a.reserved && (!a.gated || s.sec.gateOpen)

/-- The manifest of the running firmware image (04 R92). -/
def State.runningManifest (s : State) : Manifest :=
  match s.sec.runningSlot with
  | some k => (nth s.sec.slots k).obj.man
  | none => {}

/-! The settings area (16 R433, R434) -/

/-- A settings copy is valid: the right magic and a matching hash. -/
def SettingsCopy.valid (c : SettingsCopy) : Bool := c.magic == 0x4153474C && c.hashOk

/-- The index of the settings copy in force: the valid one with the higher `gen`. -/
def SecureState.settingsAt (c : SecureState) : Option Nat :=
  let a := nth c.settings 0
  let b := nth c.settings 1
  if a.valid && (!b.valid || decide (b.gen ≤ a.gen)) then some 0 else if b.valid then some 1 else none

/-- The settings copy in force. -/
def SecureState.settingsInForce (c : SecureState) : Option SettingsCopy := c.settingsAt.map fun k => nth c.settings k

/-- The settings as they stand, as a copy under a schema and a generation. -/
def State.settingsNow (s : State) (schema gen : Nat) : SettingsCopy :=
  { magic := 0x4153474C, fmt := 1, schema := schema, gen := gen, boot := s.sec.bootCount, rpSeq := s.repro.rpSeq
    subst := s.repro.inForce.filter fun x => !x.ended, handoff := if s.upd.block.pending then s.upd.block else { s.upd.block with plan := { s.upd.plan with step := .none } }, autoOn := s.thyme.autoOn
    curves := s.feed.stored, models := s.phase.stored, hashOk := true }

/-- Write the settings under a schema, where they differ from the copy in force, into the other copy under the next generation (16 R433). -/
def State.saveSettingsAs (s : State) (schema : Nat) : State :=
  let old := s.sec.settingsInForce
  let gen := (old.map SettingsCopy.gen).getD 0
  if old = some (s.settingsNow schema gen) then s
  else { s with sec := { s.sec with settings := s.sec.settings.set (1 - s.sec.settingsAt.getD 1) (s.settingsNow schema ((gen + 1) % 2 ^ 32)) } }

/-- Write changed settings; before the first start of a firmware image there is no copy to replace. -/
def State.saveSettings (s : State) : State :=
  match s.sec.settingsInForce with
  | some c => s.saveSettingsAs c.schema
  | none => s

/-- The signature of the governor's own key: 0 IDK, 1 AK, 2 LK (04 R105). -/
def State.sign (s : State) (key : Nat) (l : List Byte) : List Byte := sigBytes (Config.ecdsa (s.sec.keys.getD key 0) l)

/-- Entries of 64 bytes that the log spill area of FLASH0 holds (02 R64). -/
def logSpillEntries : Nat := FlashArea.logSpill.size / 64

/-- Write a log entry of a component: levels above the component's own are not recorded, ERROR always is (02 R64, R65). A full log spill area loses its oldest entry (log entry 55). -/
def State.logWrite (s : State) (comp level msg : Nat) (args : List Nat) : State :=
  if level ≤ nth s.log.level comp ∨ level = 0 then
    let l := s.log
    let e : LogEntry := { gt := s.gt, logSeq := l.nextSeq, boot := s.sec.bootCount, comp := comp, level := level, msg := msg, args := args.take 5 }
    let ring := l.ring ++ [e]
    let extra := ring.length - 65536
    let ddr := (l.ddr ++ ring.take extra)
    let l := { l with ring := ring.drop extra, ddr := ddr.drop (ddr.length - l.ddrCap), nextSeq := l.nextSeq + 1 }
    let l :=
      if level = 0 then
        let l := if l.rateSecond = s.gt / 1000000 then l else { l with rateSecond := s.gt / 1000000, rateCount := 0 }
        if l.rateCount < 64 then { l with flash := (l.flash ++ [e]).drop (l.flash.length + 1 - logSpillEntries), rateCount := l.rateCount + 1 }
        else { l with unspilled := satAdd 32 l.unspilled 1 }
      else l
    { s with log := l }
  else s

/-! Events: the intake ports of Rosemary -/

/-- Continuation records of a payload: 24 bytes each (17 R453, R503). -/
def contRecords (payload : List Byte) : Nat := (payload.length + 23) / 24

/-- 32-byte records that an event occupies (17 R453). -/
def EventRec.size (r : EventRec) : Nat := 1 + contRecords r.payload

/-- Write an event at its intake port (17 R449-R452). A port holds 16 records; an occurrence that does not fit is counted as lost, save at Rosemary's own port, which is taken first and never loses one. -/
def State.event (s : State) (port : EvPort) (code sev src : Nat) (payload : List Byte) : State :=
  if reservedEvent code then s
  else
    let p := nth s.rec_.ports port.num
    let r : EventRec := { event := code, sev := sev, lost := p.lostPending, gt := s.gt, step := s.link.topStep, src := src % 65536, payload := payload.take 72 }
    let used := (p.waiting.map EventRec.size).foldl (· + ·) 0
    let s := if 3 ≤ sev then { s with upd := { s.upd with lastSevere := some s.gt } } else s
    if used + r.size ≤ 16 ∨ port = .rosemary then
      { s with rec_ := { s.rec_ with ports := s.rec_.ports.set port.num { p with waiting := p.waiting ++ [r], lostPending := false } } }
    else
      { s with rec_ := { s.rec_ with ports := s.rec_.ports.set port.num { p with lost := p.lost + 1, lostPending := true }, lostTotal := satAdd 32 s.rec_.lostTotal 1 } }

/-! Mirror records -/

/-- The pair keeps a copy or is making one (15 R411). -/
def State.mirrors (s : State) : Bool := s.pair.mstate != .detached

/-- Send a mirror record of one row of the mirrored-state table while the pair mirrors or is syncing (15 R410, R413). -/
def State.sendRecordOf (s : State) (kind : MirKind) (item : Nat) : State :=
  if s.mirrors then
    let n := (s.pair.mseqSent + 1) % 2 ^ 32
    let r : MirRecord := { mseq := n, kind := kind, gt := s.gt, item := item }
    { s with pair := { s.pair with mseqSent := n, outstanding := s.pair.outstanding ++ [r], sent := s.pair.sent + 1, out := s.pair.out ++ [.record r] } }
  else s

/-- Send a mirror record that is its row's only one. -/
def State.sendRecord (s : State) (kind : MirKind) : State := s.sendRecordOf kind 0

/-- The OWNER's change of mirrored state: its record goes to the partner (15 R413). -/
def State.mirrored (s : State) (kind : MirKind) : State := if s.isOwner then s.sendRecord kind else s

/-- Put a message on MIR that carries no mirror sequence. -/
def State.mirOut (s : State) (m : MirOut) : State := { s with pair := { s.pair with out := s.pair.out ++ [m] } }

/-! Messages to the host -/

/-- The port's state. -/
def State.port (s : State) (p : Nat) : PortState := nth s.ports p

/-- Change a port's state. -/
def State.onPort (s : State) (p : Nat) (f : PortState → PortState) : State := { s with ports := modAt s.ports p f }

/-- Change the session of a port, if it has one. -/
def State.onSession (s : State) (p : Nat) (f : Session → Session) : State :=
  s.onPort p fun q => { q with session := q.session.map f }

/-! The end of a session -/

/-- The stream is over: event 0x0D07 (17 R465; log entry 58). -/
def State.streamOver (s : State) : State :=
  match s.rec_.stream with
  | none => s
  | some st => { s with rec_ := { s.rec_ with stream := none } }.event .fp0 0x0D07 0 st.port (i4 st.session.toNat ++ i1 st.bits.toNat ++ i1 3)

/-- End the stream once the frame being filled has left (17 R465). -/
def State.endStream (s : State) : State := s.sendFrame.streamOver

/-- End the stream of a session that ends (17 R465). -/
def State.endStreamOf (s : State) (session : U32) : State :=
  match s.rec_.stream with
  | some st => if st.session = session then s.endStream else s
  | none => s

/-- End the session of a port, and the stream that it carries (02 R40, 17 R465). -/
def State.endSession (s : State) (p : Nat) : State :=
  match (s.port p).session with
  | none => s
  | some se => (s.endStreamOf se.id).onPort p fun q => { q with session := none }

/-- The CRC-32 of the IEEE 802.3 polynomial, one byte more (02 Log entry). -/
def crcByte (crc : BitVec 32) (b : Byte) : BitVec 32 :=
  (List.range 8).foldl (fun (c : BitVec 32) _ => if c.getLsbD 0 then (c >>> 1) ^^^ 0xEDB88320#32 else c >>> 1) (crc ^^^ b.zeroExtend 32)

/-- CRC-32 of bytes (02 Log entry). -/
def crc32 (l : List Byte) : BitVec 32 := ~~~(l.foldl crcByte 0xFFFFFFFF#32)

/-- The outer header (02 R43). -/
def outerHeader (gen type length : Nat) (session : U32) (msgSeq : Nat) : List Byte :=
  [0x4A, 0x52, 0x4D, 0x56] ++ i1 gen ++ i1 type ++ i2 length ++ leBytes 4 session.toNat ++ i8 msgSeq

/-- A message in clear text (02 R37, R43). -/
def PortMessage.clear (gen type : Nat) (session : U32) (body : List Byte) : PortMessage :=
  { type := type, session := session, gen := gen, body := body, wire := outerHeader gen type body.length session 0 ++ body }

/-- A message encrypted with AES-256-GCM, its header authenticated as additional data: the nonce is the salt of the direction and the message sequence number, big-endian (02 R38, R43). -/
def PortMessage.encrypted (k : SessionKeys) (gen type : Nat) (session : U32) (msgSeq : Nat) (body : List Byte) : PortMessage :=
  let head := outerHeader gen type (body.length + 16) session msgSeq
  { type := type, session := session, msgSeq := msgSeq, gen := gen, body := body, wire := head ++ Config.gcmSeal k.keyG2h (k.saltG2h ++ beBytes 8 msgSeq) head body }

/-- Send a message of the established session of a port; the session ends when its sequence number would pass 2^48 (02 R40, R43). -/
def State.post (s : State) (p : Nat) (type : Nat) (body : List Byte) : State :=
  match (s.port p).session with
  | none => s
  | some se =>
    if 2 ^ 48 ≤ se.txSeq then s.endSession p
    else s.onPort p fun q => { q with
      session := some { se with txSeq := se.txSeq + 1 }
      outbox := q.outbox ++ [.encrypted se.keys se.gen type se.id (se.txSeq + 1) body] }

/-- Largest payload of a session (02 R49). -/
def Session.largest (se : Session) : Nat :=
  if se.gen = 1 then 1024 else if se.gen = 3 ∧ se.features.getLsbD 15 then 8960 else 1400

/-- Outstanding limit N of a session (02 R49). -/
def Session.limit (se : Session) : Nat := if se.gen = 1 then 1 else if se.gen = 2 then 16 else 64

/-- The modulus of a session's request IDs (02 R45). -/
def Session.reqMod (se : Session) : Nat := if se.gen = 1 then 65536 else 2 ^ 32

/-- The event body (02, Event body). -/
def eventBody (r : EventRec) (again : Bool) : List Byte :=
  let pl := if again then i2 r.rpt ++ i1 (8 * flag r.sat + 16 * flag r.lost + 2 * contRecords r.payload) ++ i1 0 ++ i4 r.lastMs ++ r.payload else r.payload
  i2 r.event ++ i1 r.sev ++ ib again ++ i4 r.recSeq ++ i8 r.gt ++ i8 r.step ++ i2 pl.length ++ i2 0 ++ pl

/-- A session receives pushes of an event (02 R48, R49, 17 R464). -/
def Session.wants (se : Session) (r : EventRec) : Bool :=
  se.features.getLsbD 1 && (se.gen == 2 || (se.evGroups.getLsbD (r.event / 256) && decide (se.evMinSev ≤ r.sev)))

/-- Push an event to the sessions that receive it (02 R48). -/
def State.push (s : State) (r : EventRec) (again : Bool) : State :=
  [0, 1].foldl (fun s p =>
    match (s.port p).session with
    | some se => if se.wants r then s.post p 0x12 (eventBody r again) else s
    | none => s) s

/-! Restarting components -/

/-- A component is restarting, or its processor is (01 R24-R26). -/
def State.restarting (s : State) (comp : Nat) : Bool :=
  (nth s.comps comp).restartUntil.isSome || (nth s.procs (procOf comp)).restartUntil.isSome

/-- The firmware runs (03 R83). -/
def State.firmwareRuns (s : State) : Bool := s.clk.phase == .running || s.clk.phase == .starting

end Sys2Proof.Machine
end

