-- ==== Sys2Proof/Machine/Host.lean ====
section
/-! DEFINITION. The mailbox: accepting messages, the order of the statuses, responses and their cache (02 R36-R54). -/

namespace Sys2Proof.Machine

open Sys2Proof

/-- What a command answers. A response whose change is mirrored waits for the acknowledgement of a mirror sequence number (02 R55, 15 R413). -/
structure Reply where
  /-- status (R53) -/
  status : Status := .ok
  /-- detail (02 Response body) -/
  detail : Nat := 0
  /-- payload -/
  payload : List Byte := []
  /-- mirror sequence number that the response waits for -/
  hold : Option Nat := none
  /-- the response comes from the OWNER over MIR (02 R55) -/
  forwarded : Bool := false
  deriving DecidableEq, Repr, Inhabited

/-- The answer of a command with the state it leaves. -/
abbrev Answer := Reply × State

/-- A refusal: the status, and nothing changed (02 R53). -/
def Reply.fail (st : Status) : Reply := { status := st }

/-- The session that sent a command, and the flags of its body. -/
structure Ctx where
  /-- mailbox port -/
  port : Nat := 0
  /-- the session -/
  se : Session := {}
  /-- request ID -/
  reqId : U32 := 0
  /-- AUTO -/
  auto : Bool := false
  /-- the request whose response leaves: the command's own, or its batch's (02 R52) -/
  top : U32 := 0
  /-- a RSVD field of the payload is not zero, for a command that checks other statuses first (02 R54) -/
  payRsvd : Bool := false
  deriving DecidableEq, Repr, Inhabited

/-- Refuse with a status and change nothing. -/
def refuse (st : Status) (s : State) : Answer := (Reply.fail st, s)

/-- Answer OK with a payload. -/
def okay (payload : List Byte) (s : State) : Answer := ({ payload := payload }, s)

/-- Answer ACCEPTED. -/
def accepted (s : State) : Answer := ({ status := .accepted }, s)

/-- The first check that fails decides the status (02 R54); when none fails, the effect runs. -/
def check (conds : List (Bool × Status)) (s : State) (k : Unit → Answer) : Answer :=
  match conds with
  | [] => k ()
  | (bad, st) :: cs => if bad then refuse st s else check cs s k

/-- The session holds a semaphore at this governor (02 R55). -/
def State.holds (s : State) (id port : Nat) (session : U32) : Bool :=
  match nth s.sems id with
  | some h => h.pos == s.position && h.port == port && h.session == session
  | none => false

/-- The checks that precede a command's own, in the order of R54; `early` is what the command itself answers as NOT_NEGOTIATED or DENIED (02 R36, R46, R51, R54, R55, R63; 01 R26). -/
def State.precheck (s : State) (port : Nat) (se : Session) (sp : CmdSpec) (framing : Bool) (plen : Nat) (payRsvd : Bool) (early : Option Status) (executing : Nat) : Option Status :=
  if framing then some .badArg
  else if !s.isOwner && !sp.standby then some .notOwner
  else if !se.features.getLsbD sp.feature || (sp.sem.isSome && !se.features.getLsbD 2) || decide (se.largest < plen) then some .notNegotiated
  else if se.role.code < sp.role.code then some .denied
  else if early.isSome then early
  else if se.limit ≤ executing then some .noResource
  else if s.restarting sp.comp then some .busy
  else
    match sp.sem with
    | some id =>
      match nth s.sems id with
      | none => some .stateConflict
      | some _ => if !s.holds id port se.id then some .semaphoreHeld else if payRsvd then some .badArg else none
    | none => if payRsvd then some .badArg else none

/-- The response body (02, Response body). -/
def responseBody (code : Nat) (r : Reply) (reqId : U32) : List Byte :=
  i2 code ++ i1 r.status.code ++ i1 0 ++ i4 reqId.toNat ++ i2 r.payload.length ++ i2 r.detail ++ r.payload

/-- Keep a response among the most recent 2 × N (02 R45). -/
def Session.keep (se : Session) (c : CachedResponse) : Session :=
  { se with cache := ({ reqId := c.reqId, body := c.body } :: se.cache).take (2 * se.limit) }

/-- The session ends once the response to its SESSION_CLOSE has left (02 R40). -/
def State.closeAfter (s : State) (port : Nat) (reqId : U32) : State :=
  match (s.port port).session with
  | some se => if se.closing = some reqId then s.endSession port else s
  | none => s

/-- Send a response and keep it, or hold it until the mirror record is acknowledged (02 R45, R55). -/
def State.respond (s : State) (port : Nat) (session : U32) (reqId : U32) (code : Nat) (r : Reply) : State :=
  let body := responseBody code r reqId
  match (s.port port).session with
  | none => s
  | some se =>
    if se.id ≠ session then s
    else if r.forwarded then
      s.onSession port fun se => { se with executing := se.executing ++ [{ reqId := reqId, body := i2 code }] }
    else
      match r.hold with
      | some n => s.onSession port fun se => { se with executing := se.executing ++ [{ reqId := reqId, body := body, mseq := some n }] }
      | none => ((s.onSession port fun se => se.keep { reqId := reqId, body := body }).post port 0x11 body).closeAfter port reqId

/-- The result of a command of a replaced session goes to the firmware log: session, request ID, code and status (02 R39). -/
def State.logResult (s : State) (session reqId : U32) (body : List Byte) : State :=
  s.logWrite 1 2 0 [session.toNat, reqId.toNat, ofLe (body.take 2), ofLe ((body.drop 2).take 1)]

/-- The late answer of a command that waited, for the OWNER's answer to a forwarded semaphore command or for the restoration of margins: the response of the session, kept for a batch that waits for it, or a log entry where the session has been replaced (02 R39, R52, R55, 07 R201). -/
def State.lateAnswer (s : State) (port : Nat) (session reqId : U32) (status : Status) (payload : List Byte) : State :=
  let q := s.port port
  let answer := fun (e : ExecutingCommand) => responseBody (ofLe (e.body.take 2)) { status := status, payload := payload } reqId
  match q.orphans.find? fun o => o.1 == session && o.2.reqId == reqId with
  | some o => (s.onPort port fun q => { q with orphans := q.orphans.filter fun x => x != o }).logResult session reqId (answer o.2)
  | none =>
    match q.session with
    | none => s
    | some se =>
      match (if se.id = session then se.executing.find? fun e => e.reqId == reqId && e.mseq.isNone else none) with
      | none => s
      | some e =>
        let s := s.onSession port fun se => { se with executing := se.executing.filter fun x => x.reqId != reqId }.keep { reqId := reqId, body := answer e }
        if q.batches.any fun b => b.waits == reqId then s else s.post port 0x11 (answer e)

/-- Count a discarded message of a port (02 R44). -/
def State.discard (s : State) (port : Nat) : State := s.onPort port fun p => { p with discards := satAdd 32 p.discards 1 }

/-- A message of the established session is authentic and new (02 R44). -/
def Session.accepts (se : Session) (h : Hdr) : Bool :=
  h.framed 0x10 && h.tagOk && h.gen.toNat == se.gen && h.session == se.id
    && decide (se.rxHigh < h.msgSeq.toNat + 64) && !se.rxSeen.contains h.msgSeq.toNat

/-- Note an accepted message (02 R40, R44). -/
def Session.noted (se : Session) (gt n : Nat) : Session :=
  let high := max se.rxHigh n
  { se with rxHigh := high, rxSeen := (n :: se.rxSeen).filter (fun k => decide (high < k + 64)), lastMsg := gt }

/-- What the request ID of an authentic command makes of it (02 R45). -/
inductive ReqVerdict where
  | new | cached (body : List Byte) | executing | outOfOrder
  deriving DecidableEq, Repr, Inhabited

/-- Judge a request ID (02 R45). -/
def Session.judge (se : Session) (reqId : U32) : ReqVerdict :=
  match se.cache.find? (fun c => c.reqId == reqId) with
  | some c => .cached c.body
  | none =>
    if se.executing.any (fun e => e.reqId == reqId) then .executing
    else if se.gen = 1 ∧ 65536 ≤ reqId.toNat then .outOfOrder
    else
      match se.lastReq with
      | none => .new
      | some l => if reqId.toNat = (l.toNat + 1) % se.reqMod then .new else .outOfOrder

/-- Take an authentic command of a session through R45, and run it if it is new. -/
def State.command (s : State) (h : Hdr) (code : Nat) (run : Session → State → Answer) : State :=
  let p := h.port.toNat
  match (s.port p).session with
  | none => s.discard p
  | some se =>
    if !se.accepts h then s.discard p
    else if 2 ^ 48 < h.msgSeq.toNat then s.endSession p
    else
      let s := s.onSession p fun se => se.noted s.gt h.msgSeq.toNat
      match se.judge h.reqId with
      | .cached body => s.post p 0x11 body
      | .executing => s
      | .outOfOrder => s.post p 0x11 (responseBody code (Reply.fail .badArg) h.reqId)
      | .new =>
        let s := s.onSession p fun se => { se with lastReq := some h.reqId }
        let (r, s) := run (((s.port p).session).getD se) s
        s.respond p se.id h.reqId code r

end Sys2Proof.Machine
end

