-- ==== Sys2Proof/Machine/Recorder.lean ====
section
/-! DEFINITION. Rosemary: intake, merging, rings, handling queues, streams, and the recorder, event and trace commands (17 R449-R469). -/

namespace Sys2Proof.Machine

open Sys2Proof

/-! Records -/

/-- The flags byte of a head record (17 Head record). -/
def EventRec.flagsByte (r : EventRec) : Nat := 2 * contRecords r.payload + 8 * flag r.sat + 16 * flag r.lost

/-- The head record (17 Head record). -/
def EventRec.head (r : EventRec) : List Byte :=
  i2 r.event ++ i1 r.sev ++ i1 r.flagsByte ++ i4 r.recSeq ++ i8 r.gt ++ i8 r.step ++ i2 r.rpt ++ i2 r.src ++ i4 r.lastMs

/-- Continuation record `k` (17 Continuation record). -/
def EventRec.cont (r : EventRec) (k : Nat) : List Byte :=
  let part := (r.payload.drop (24 * k)).take 24
  i2 r.event ++ i1 part.length ++ i1 1 ++ i4 r.recSeq ++ fit 24 part

/-- The 32-byte records of an event, head first (17 R453). -/
def EventRec.records (r : EventRec) : List (List Byte) :=
  r.head :: (List.range (contRecords r.payload)).map r.cont

/-- A record sequence lies at or below another, sequences wrapping mod 2^32 (17 R451). -/
def seqLe (a b : Nat) : Bool := decide ((b + 2 ^ 32 - a % 2 ^ 32) % 2 ^ 32 < 2 ^ 31)

/-- A record lies at or below the clear mark (17 R463). -/
def RecorderState.cleared (r : RecorderState) (n : Nat) : Bool :=
  match r.mark with
  | some m => seqLe n m
  | none => false

/-- The newest record sequence; one below zero before the first record. -/
def RecorderState.newest (r : RecorderState) : Nat := (r.nextSeq + 2 ^ 32 - 1) % 2 ^ 32

/-! Handling queues -/

/-- The entry that runs next among those waiting: highest severity, then lowest sequence, which is the oldest (17 R458). -/
def nextEntry (l : List HandleEntry) : Option HandleEntry :=
  l.foldl (fun best e =>
    match best with
    | none => some e
    | some b => if b.sev < e.sev then some e else some b) none

/-- Count a displaced or refused entry and record event 0x0D03 (17 R459). -/
def State.queueOverflow (s : State) (proc : Nat) (e : HandleEntry) : State :=
  let q := nth s.rec_.queues proc
  let n := satAdd 32 q.overflow 1
  let s := { s with rec_ := { s.rec_ with queues := s.rec_.queues.set proc { q with overflow := n } } }
  (s.event (.ofProc proc) 0x0D03 1 proc (i1 proc ++ i1 e.sev ++ i2 0 ++ i4 n)).traced 252 proc e.recSeq

/-- Put an entry into a handling queue, with trace point 250 (17 R459): a full queue displaces the newest entry of the lowest severity below that of the post, else refuses the post. -/
def State.enqueue (s : State) (proc : Nat) (e : HandleEntry) : State :=
  let q := nth s.rec_.queues proc
  let set := fun (s : State) (l : List HandleEntry) =>
    let q := nth s.rec_.queues proc
    { s with rec_ := { s.rec_ with queues := s.rec_.queues.set proc { q with entries := l, peak := max q.peak l.length } } }.traced 250 proc (e.recSeq + 2 ^ 32 * e.sev)
  if q.entries.length < 64 then set s (q.entries ++ [e])
  else
    let low := (q.entries.map HandleEntry.sev).foldl min 4
    if low < e.sev then
      match q.entries.reverse.find? (fun x => x.sev == low) with
      | some d => (set s (q.entries.filter (fun x => x ≠ d) ++ [e])).queueOverflow proc d
      | none => s.queueOverflow proc e
    else s.queueOverflow proc e

/-- Start waiting entries that a processor's handlers let run (17 R458). -/
def State.schedule (s : State) (proc : Nat) : State :=
  let q := nth s.rec_.queues proc
  match nextEntry q.entries with
  | none => s
  | some e =>
    let start := match q.running with
      | [] => true
      | r :: _ => decide (r.sev < e.sev)
    if start && (nth s.procs proc).restartUntil.isNone then
      let s' := { s with rec_ := { s.rec_ with queues := s.rec_.queues.set proc { q with entries := q.entries.filter (fun x => x ≠ e), running := e :: q.running } } }
      if q.running = [] then s' else s'.traced 251 proc e.recSeq
    else s

/-- Post an event to the handling queue of its component's processor (17 R458). -/
def State.postHandler (s : State) (r : EventRec) : State :=
  if r.sev = 0 ∨ r.event = 0x0D03 then s
  else
    let proc := procOf (compOfCode r.event)
    let e : HandleEntry := { recSeq := r.recSeq, sev := r.sev }
    (s.enqueue proc e).schedule proc

/-! Intake -/

/-- Whether records of a code and severity can merge (17 R454). -/
def mergeable (event sev : Nat) : Bool := decide (sev ≤ 2) && event != 0x0D04

/-- Copy a record to the spill ring while the spill runs (17 R456). -/
def RecorderState.spillOne (r : RecorderState) (e : EventRec) : RecorderState :=
  if r.spilling then
    { r with spill := trimOldest EventRec.size (r.spillBytes / 32) (r.spill ++ [e]), spillNext := (e.recSeq + 1) % 2 ^ 32 }
  else r

/-- Append a record to the SRAM ring, overwriting the oldest (17 R456). -/
def RecorderState.append (r : RecorderState) (e : EventRec) : RecorderState :=
  let ring := trimOldest EventRec.size 16384 (r.ring ++ [e])
  let gone := (r.ring ++ [e]).take (r.ring.length + 1 - ring.length)
  { r with ring := ring, unspilled := satAdd 32 r.unspilled (countIf (fun x => seqLe r.spillNext x.recSeq) gone) }

/-- The key of an occurrence in the merge table, when the occurrence merges into its record, which the SRAM ring still holds (17 R454; log entry 58). -/
def RecorderState.mergesInto (r : RecorderState) (e : EventRec) : Option MergeKey :=
  if mergeable e.event e.sev then
    r.merge.find? fun k => k.event == e.event && k.sev == e.sev && k.src == e.src && decide (e.gt ≤ k.last + secs 60) && !r.cleared k.recSeq
      && r.ring.any fun x => x.recSeq == k.recSeq
  else none

/-- One merged occurrence in its record (17 R454, R455). -/
def EventRec.repeated (x : EventRec) (gt : Nat) : EventRec :=
  let ms := min (2 ^ 32 - 1) ((gt - x.gt) / 1000)
  if x.rpt = 65535 then { x with sat := true, lastMs := ms } else { x with rpt := x.rpt + 1, lastMs := ms }

/-- Accept one occurrence: merge it, or write it as a new record with its sequence (17 R451-R457). -/
def State.acceptRecord (s : State) (e : EventRec) : State :=
  let r := { s.rec_ with bySev := modAt s.rec_.bySev e.sev (· + 1) }
  match r.mergesInto e with
  | some k =>
    let full := r.ring.any fun x => x.recSeq == k.recSeq && x.rpt == 65535
    { s with rec_ := { r with
        ring := r.ring.map fun x => if x.recSeq = k.recSeq then x.repeated e.gt else x
        merge := r.merge.map fun m => if m = k then { m with last := e.gt } else m
        satCount := if full then r.satCount + 1 else r.satCount
        repeatDue := k.recSeq :: r.repeatDue.filter (fun n => n != k.recSeq) } }
  | none =>
    let e := { e with recSeq := r.nextSeq }
    let r := { r with nextSeq := (r.nextSeq + 1) % 2 ^ 32 }
    let r := (r.append e).spillOne e
    let r :=
      if mergeable e.event e.sev then
        { r with merge := (({ event := e.event, sev := e.sev, src := e.src, recSeq := e.recSeq, last := e.gt } : MergeKey) ::
            r.merge.filter fun k => !(k.event == e.event && k.sev == e.sev && k.src == e.src)).take 64 }
      else r
    let s := { s with rec_ := r }
    let s := s.sendRecordOf .events e.recSeq
    let s := s.push e false
    let s := match s.rec_.stream with
      | some st => if st.bits.getLsbD 1 then s.stream 2 e.records else s
      | none => s
    s.postHandler e

/-- The first intake port with a waiting record, in port order (17 R451). -/
def firstWaiting : List IntakePort → Nat → Option (Nat × EventRec × IntakePort)
  | [], _ => none
  | p :: ps, i =>
    match p.waiting with
    | e :: rest => some (i, e, { p with waiting := rest })
    | [] => firstWaiting ps (i + 1)

/-- `RECORD_INTAKE`: Rosemary accepts the next waiting record (17 R451). -/
def execRecordIntake (s : State) : Host.Outcome State Fault Refusal :=
  .next (match firstWaiting s.rec_.ports 0 with
    | none => s
    | some (i, e, p) => { s with rec_ := { s.rec_ with ports := s.rec_.ports.set i p } }.acceptRecord e)

/-- `HANDLER_COMPLETE`: the running handler of a processor ends; the next entry runs, or the preempted handler resumes (17 R458). -/
def execHandlerComplete (proc : U8) (s : State) : Host.Outcome State Fault Refusal :=
  let p := proc.toNat
  let q := nth s.rec_.queues p
  .next (if p < 4 ∧ (nth s.procs p).restartUntil = none then
    match q.running with
    | [] => s
    | _ :: rest => { s with rec_ := { s.rec_ with queues := s.rec_.queues.set p { q with running := rest } } }.schedule p
  else s)

/-- An intake port whose losses are reported (17 R452). -/
def IntakePort.reported (p : IntakePort) : IntakePort := { p with lost := 0 }

/-- `INTAKE_LOSS_REPORT`: event 0x0D05 with the lost counts, at most once per second, which then restart (17 R452). -/
def execIntakeLossReport (s : State) : Host.Outcome State Fault Refusal :=
  let due := match s.rec_.lostReport with
    | some t => s.since t (secs 1)
    | none => true
  let others := s.rec_.ports.drop 1
  .next (if due && others.any (fun p => decide (0 < p.lost)) then
    let pl := (others.map fun p => i2 (min 65535 p.lost)).flatten
    let s := { s with rec_ := { s.rec_ with lostReport := some s.gt, ports := s.rec_.ports.map IntakePort.reported } }
    s.event .rosemary 0x0D05 1 0 pl
  else s)

/-- `REPEAT_PUSH`: a merged record's count is pushed, at most once per second (02 R48). -/
def execRepeatPush (rec_ : U32) (s : State) : Host.Outcome State Fault Refusal :=
  let n := rec_.toNat
  .next (match s.rec_.ring.find? (fun r => r.recSeq == n) with
    | none => s
    | some r =>
      let last := look s.rec_.repeatLast n
      if s.rec_.repeatDue.contains n && (last == 0 || s.since last (secs 1)) then
        let s := { s with rec_ := { s.rec_ with repeatDue := s.rec_.repeatDue.filter (fun k => k != n), repeatLast := put s.rec_.repeatLast n s.gt } }
        s.push r true
      else s)

/-- `TELEMETRY_FRAME_TIMEOUT`: a frame leaves 100 µs after its first record (17 R466). -/
def execTelemetryFrameTimeout (s : State) : Host.Outcome State Fault Refusal :=
  .next (match s.rec_.stream with
    | some st => if st.frame ≠ [] ∧ s.since st.frameGt 100 then s.sendFrame.drainTrace else s
    | none => s)

/-- Stop the spill with event 0x0D06 (17 R456). -/
def State.stopSpill (s : State) (cause : Nat) : State :=
  if s.rec_.spilling then { s with rec_ := { s.rec_ with spilling := false } }.event .rosemary 0x0D06 2 0 (i1 cause) else s

/-- Start the spill: the SRAM ring is spilled in `rec_seq` order, then each record as it is accepted (17 R456). -/
def State.startSpill (s : State) : State :=
  let due := s.rec_.ring.filter fun e => seqLe s.rec_.spillNext e.recSeq
  { s with rec_ := due.foldl RecorderState.spillOne { s.rec_ with spilling := true } }

/-- `SPILL_STOP`: a DDR5 error in the spill ring (cause 1), or DDR5 not available (cause 2) (17 R456). -/
def execSpillStop (cause : U8) (s : State) : Host.Outcome State Fault Refusal :=
  .next (if cause = 1 ∨ cause = 2 then s.stopSpill cause.toNat else s)

/-! Streams -/

/-- `TRACE_ENABLE` (02 R66, 17 R465); event 0x0D07 codes its action 1 started, 2 moved, 3 ended (log entry 58). -/
def bodyTraceEnable (mask : BitVec 256) (stream : U8) (c : Ctx) (s : State) : Answer :=
  check [(decide (4 ≤ stream.toNat), .badArg)] s fun _ =>
    let s := { s with trace := { s.trace with mask := mask } }
    let b : BitVec 2 := BitVec.ofNat 2 stream.toNat
    let ev := fun (s : State) (action : Nat) => s.event .fp0 0x0D07 0 c.port (i4 c.se.id.toNat ++ i1 stream.toNat ++ i1 action)
    okay [] ((match s.rec_.stream with
      | none => if b = 0 then s else ev { s with rec_ := { s.rec_ with stream := some { port := c.port, session := c.se.id, bits := b } } } 1
      | some st =>
        if st.session = c.se.id then
          if b = 0 then s.endStream else { s with rec_ := { s.rec_ with stream := some { st with bits := b } } }
        else if b = 0 then s
        else
          let s := s.sendFrame
          ev { s with rec_ := { s.rec_ with stream := some { port := c.port, session := c.se.id, bits := b } } } 2).drainTrace)

/-- `TRACE_READ`: the oldest records of the buffer, which leave it (02 R66). -/
def bodyTraceRead (count : U16) (c : Ctx) (s : State) : Answer :=
  let n := min count.toNat (c.se.largest / 32)
  okay ((s.trace.buffer.take n).map TraceRecord.bytes).flatten { s with trace := { s.trace with buffer := s.trace.buffer.drop n } }

/-! Recorder commands -/

/-- Take heads with their continuations while at most `n` records are returned; a run that does not fit ends the response (17 R462). -/
def takeRuns (n : Nat) : List EventRec → List (List Byte)
  | [] => []
  | e :: es => if e.size ≤ n then e.records ++ takeRuns (n - e.size) es else []

/-- `REC_READ` (17 R462, R467; log entry 58). -/
def bodyRecRead (sel : U8) (flags : U8) (first : U32) (count : U8) (c : Ctx) (s : State) : Answer :=
  check [(decide (2 ≤ sel.toNat) || decide (2 ≤ flags.toNat) || count == 0, .badArg)] s fun _ =>
    let r := s.rec_
    let held :=
      if sel = 1 then r.partner
      else match r.ring with
        | [] => r.spill
        | e :: _ => r.spill.filter (fun x => seqLe x.recSeq e.recSeq && x.recSeq != e.recSeq) ++ r.ring
    let oldest := match held with | e :: _ => e.recSeq | [] => r.newest
    let newest := match held.getLast? with | some e => e.recSeq | none => r.newest
    let early := held ≠ [] ∧ seqLe first.toNat newest ∧ held.all fun x => x.recSeq != first.toNat
    let from_ := if early then held else held.filter fun x => seqLe first.toNat x.recSeq
    let shown := if sel = 0 ∧ flags = 0 then from_.filter (fun x => !r.cleared x.recSeq) else from_
    let n := min count.toNat ((c.se.largest - 16) / 32)
    ({ payload := i4 oldest ++ i4 newest ++ (takeRuns n shown).flatten, detail := if early then 1 else 0 }, s)

/-- `REC_CLEAR`: the clear mark moves up, the cleared records leave the merge table, and event 0x0D04 is recorded (17 R463). -/
def bodyRecClear (mark : U32) (c : Ctx) (s : State) : Answer :=
  let m := mark.toNat
  let r := s.rec_
  check [(!seqLe m r.newest || (r.nextSeq == 0 && r.ring == []), .badArg)] s fun _ =>
    if r.cleared m then okay (i4 (r.mark.getD 0) ++ i4 0) s
    else
      let old := r.mark.getD (2 ^ 32 - 1)
      let r := { r with mark := some m, merge := r.merge.filter fun k => !seqLe k.recSeq m }
      let s := { s with rec_ := r }
      let key := digestBytes (nth s.cfg.hostKeys c.se.keyIdx).hash
      let s := s.event .rosemary 0x0D04 0 c.port
        (i4 c.se.id.toNat ++ i1 s.position ++ i1 c.se.role.code ++ i2 0 ++ i4 old ++ i4 m ++ key.take 8)
      okay (i4 m ++ i4 0) s

/-- `REC_STATUS` (17 REC_STATUS response). -/
def bodyRecStatus (_c : Ctx) (s : State) : Answer :=
  let r := s.rec_
  let oldestOf := fun (l : List EventRec) => match l with | e :: _ => e.recSeq | [] => r.newest
  let st := match r.stream with | some st => st.bits.toNat | none => 0
  okay (i4 r.newest ++ i4 (oldestOf r.ring) ++ i4 (oldestOf r.spill) ++ i4 (r.mark.getD (2 ^ 32 - 1))
    ++ (r.bySev.map i8).flatten ++ i8 r.satCount ++ i4 r.lostTotal ++ i4 r.unspilled
    ++ (r.queues.map fun q => i4 q.overflow).flatten ++ (r.queues.map fun q => i1 q.peak).flatten
    ++ i1 (flag r.spilling + 2 * flag s.mirrors + 4 * st) ++ zeros 3 ++ i8 r.spillBytes) s

/-- Event bodies while they fit the response (17 R464). -/
def takeBodies : Nat → Nat → List EventRec → List Byte
  | 0, _, _ => []
  | _, _, [] => []
  | n + 1, room, e :: es =>
    let b := eventBody e false
    if b.length ≤ room then b ++ takeBodies n (room - b.length) es else []

/-- `EVENT_POLL` (17 R464). -/
def bodyEventPoll (first : U32) (count : U8) (c : Ctx) (s : State) : Answer :=
  check [(count == 0, .badArg)] s fun _ =>
    let r := s.rec_.ring
    let early := match r with | e :: _ => !seqLe e.recSeq first.toNat | [] => false
    let l := if early then r else r.filter fun e => seqLe first.toNat e.recSeq
    ({ payload := takeBodies count.toNat c.se.largest l, detail := flag early }, s)

/-- A filter that a J2 session asks for (17 R464). -/
def subscribeBeyond (se : Session) (groups : U16) (sev : U8) : Bool := se.gen == 2 && (groups != 0xFFFF || sev != 0)

/-- `EVENT_SUBSCRIBE` (17 R464). -/
def bodyEventSubscribe (groups : U16) (sev : U8) (c : Ctx) (s : State) : Answer :=
  check [(subscribeBeyond c.se groups sev, .notNegotiated), (c.payRsvd || decide (4 < sev.toNat), .badArg)] s fun _ =>
    okay [] (s.onSession c.port fun se => { se with evGroups := groups, evMinSev := sev.toNat })

/-! Firmware log commands -/

/-- The 64 bytes of a log entry (02 Log entry). -/
def LogEntry.bytes (e : LogEntry) : List Byte :=
  let b := i8 e.gt ++ i4 e.logSeq ++ i2 e.boot ++ i1 e.comp ++ i1 e.level ++ i2 e.msg ++ i2 e.args.length ++ fit 40 (e.args.map i8).flatten
  b ++ i4 (crc32 b).toNat

/-- An entry lies at or after a place in the log. -/
def LogEntry.atOrAfter (e : LogEntry) (boot seq : Nat) : Bool := decide (boot < e.boot) || (e.boot == boot && decide (seq ≤ e.logSeq))

/-- Put an entry into its place in a log. -/
def placeEntry (e : LogEntry) : List LogEntry → List LogEntry
  | [] => [e]
  | x :: xs => if x.atOrAfter e.boot e.logSeq then (if x.boot == e.boot && x.logSeq == e.logSeq then x :: xs else e :: x :: xs) else x :: placeEntry e xs

/-- The entries held, oldest first, each from SRAM, else DDR5, else flash (02 R65). -/
def LogState.held (l : LogState) : List LogEntry := l.flash.foldl (fun m e => placeEntry e m) (l.ddr ++ l.ring)

/-- `LOG_READ`: entries from (`boot`, `log_seq`) onward, through every store; one not yet written gives no entry, one no longer held the oldest ones (02 R65; log entry 55). -/
def bodyLogRead (boot : U16) (first : U32) (count : U16) (c : Ctx) (s : State) : Answer :=
  let held := s.log.held
  let onward := held.filter fun e => e.atOrAfter boot.toNat first.toNat
  let here := onward.head?.any fun e => e.boot == boot.toNat && e.logSeq == first.toNat
  let lost := !here && onward != []
  let n := min count.toNat (c.se.largest / 64)
  ({ payload := (((if lost then held else onward).take n).map LogEntry.bytes).flatten, detail := flag lost }, s)

/-- `LOG_LEVEL_SET` (02 R65). -/
def bodyLogLevelSet (comp : U8) (level : U8) (_c : Ctx) (s : State) : Answer :=
  check [(decide (14 ≤ comp.toNat) || decide (4 ≤ level.toNat), .badArg)] s fun _ =>
    okay [] { s with log := { s.log with level := s.log.level.set comp.toNat level.toNat } }

end Sys2Proof.Machine
end

