-- ==== Sys2Proof/Machine/Tags.lean ====
section
/-! DEFINITION. What the dies contribute to attribution: the weights of a ledger tick, settled whenever a contribution changes (11 R292, R293). -/

namespace Sys2Proof.Machine

open Sys2Proof

/-! Account keys in account order: tag slots 0 to 65535, then the special accounts (11 R294) -/

/-- Key of the overhead account. -/
def keyOverhead : Nat := 65536
/-- Key of the residual account. -/
def keyResidual : Nat := 65537
/-- Key of the overflow account. -/
def keyOverflow : Nat := 65538
/-- Key of the feed total in a tick marker (11 R314). -/
def keyTotal : Nat := 65539

/-- The account of a tag, if it is open (11 R293, R297). -/
def LedgerState.accountOf (l : LedgerState) (tag : Nat) : Option Account :=
  l.accounts.find? fun a => a.tag == tag && a.phase != .openPending

/-- The tag of all ones, which stands for the residual account (11 R293). -/
def tagResidual : Nat := 2 ^ 64 - 1

/-- The account to which an entry contributes: residual for a tag without an open account or of all ones (11 R293). -/
def LedgerState.keyOf (l : LedgerState) (tag : Nat) : Nat :=
  if tag = tagResidual then keyResidual
  else match l.accountOf tag with
    | some a => a.slot
    | none => keyResidual

/-- Add a weight to an account's weight in a tick. -/
def addWeight (w : List (Nat × Nat)) (key v : Nat) : List (Nat × Nat) := put w key (look w key + v)

/-- Energy drawn from a fine accumulator, rounded toward minus infinity. -/
def drawNj (fine : Int) (d : Nat) : Int := fine / (d : Int)

/-- Change the ledger. -/
def State.onLedger (s : State) (f : LedgerState → LedgerState) : State := { s with ledger := f s.ledger }

/-- Record the tags of entries that have no open account: event 0x0703, once per tag per ledger second (11 R293). -/
def State.noteUnopened (s : State) (ent : List (Nat × Nat)) : State :=
  ent.foldl (fun s e =>
    if s.ledger.keyOf e.1 = keyResidual ∧ !s.ledger.unopened.contains e.1 then
      (s.onLedger fun l => { l with unopened := e.1 :: l.unopened }).event .metering 0x0703 1 e.1 []
    else s) s

/-- The weights by tag that a die adds over the microseconds from `t` to `gt` (11 R292). -/
def LedgerState.contributes (l : LedgerState) (kind : Nat) (on : Bool) (i t gt : Nat) : List (Nat × Nat) :=
  if kind = 0 ∨ (kind = 2 ∧ 4 ≤ i % 8) then []
  else if !on then [(0, l.cfg.wOff * (gt - t))]
  else
    match (nth l.dies i).report with
    | none => [(tagResidual, l.cfg.wStale * (gt - t))]
    | some r =>
      let fresh := min gt (r.gt + 4000)
      (r.ent.map fun e => (e.1, e.2 * (fresh - t))) ++ [(tagResidual, l.cfg.wStale * (gt - max t fresh))]

/-- Settle a die's contribution up to now. -/
def State.settleDie (s : State) (i : Nat) : State :=
  let t := (nth s.ledger.dies i).upTo
  let on := nth s.thyme.accs (i / 8) == .on
  let s := match (nth s.ledger.dies i).report with
    | some r => if on ∧ t < s.gt ∧ t < r.gt + 4000 then s.noteUnopened r.ent else s
    | none => s
  let add := s.ledger.contributes (nth s.op.table.acc (i / 8)).kind on i t s.gt
  s.onLedger fun l => { l with
    dies := modAt l.dies i fun d => { d with upTo := s.gt }
    w := modAt l.w (i / 8) fun w => add.foldl (fun w e => addWeight w e.1 e.2) w }

/-- Settle every die of a package. -/
def State.settlePkg (s : State) (n : Nat) : State := (List.range 8).foldl (fun s d => s.settleDie (8 * n + d)) s

end Sys2Proof.Machine
end

