-- ==== Sys2Proof/Machine/Power.lean ====
section
/-! DEFINITION. Enables, scopes, latches, accelerator states and the immediate-off (00 R11-R13, 01 R29, 07 R191-R194, R202, 18 R474). -/

namespace Sys2Proof.Machine

open Sys2Proof

/-- Change the Thyme part. -/
def State.onThyme (s : State) (f : ThymeState → ThymeState) : State := { s with thyme := f s.thyme }
/-- Change the Sage part. -/
def State.onSage (s : State) (f : SageState → SageState) : State := { s with sage := f s.sage }
/-- Change one rail channel. -/
def State.onRail (s : State) (c : Nat) (f : Rail → Rail) : State := { s with sage := { s.sage with rails := modAt s.sage.rails c f } }
/-- Change one Thyme context. -/
def State.onCtx (s : State) (k : Nat) (f : ThymeCtx → ThymeCtx) : State := { s with thyme := { s.thyme with ctxs := modAt s.thyme.ctxs k f } }
/-- A rail channel. -/
def State.rail (s : State) (c : Nat) : Rail := nth s.sage.rails c
/-- A Thyme context: 0 is T, n + 1 is An. -/
def State.ctx (s : State) (k : Nat) : ThymeCtx := nth s.thyme.ctxs k
/-- A rail limit entry of the limit block in force. -/
def State.railLimit (s : State) (c : Nat) : RailLimit := nth s.sage.limits.rails c
/-- The state of an accelerator. -/
def State.acc (s : State) (n : Nat) : AccState := nth s.thyme.accs n
/-- The channel is in use (07 R176). -/
def Rail.used (r : Rail) : Bool := r.map.ctrl != 0

/-! Scopes (07 R191): 0 to 7 name a branch, 14 and 15 the tray -/

/-- A branch of the tray scope: B0 to B8, B10 and B11. -/
def trayBranch (b : Nat) : Bool := decide (b < 12) && b != 9

/-- The scope is the tray: 15 with every rail, 14 with the rails of branches B0 to B8, B10 and B11 only (03 R70, 06 R165). -/
def wideScope (scope : Nat) : Bool := decide (14 ≤ scope)

/-- A rail lies in a scope. -/
def Rail.inScope (r : Rail) (scope : Nat) : Bool :=
  r.used && (scope == 15 || (scope == 14 && r.map.branch != 9) || (decide (scope < 12) && r.map.branch == scope))

/-- An enable target lies in a scope. -/
def State.targetInScope (s : State) (scope : Nat) : EnableTarget → Bool
  | .rail c => (s.rail c).inScope scope
  | .branch b => if wideScope scope then trayBranch b else b == scope
  | .accReset n => wideScope scope || n == scope

/-- The scope of a fault on a rail, if any (07 R191). -/
def Rail.faultScope (r : Rail) : Option Nat :=
  if r.map.branch = 9 ∧ !r.map.trayRail then none
  else if r.map.trayRail ∨ 8 ≤ r.map.branch then some 15
  else some r.map.branch

/-- A latch holds an enable of the target off (07 R194). -/
def State.heldOff (s : State) (t : EnableTarget) : Bool :=
  ((s.sage.holdFault || s.sage.holdThermal) && s.targetInScope 15 t)
    || (List.range 8).any fun n => s.sage.holdBranch.getLsbD n && s.targetInScope n t

/-! Own drive and pins (07 R202, 18 R474; nets numbered as in 17 R503) -/

/-- One net as a set. -/
def netBit (k : Nat) : BitVec 103 := 1#103 <<< k

/-- The nets that the arbiter's granted values release. -/
def State.grantedNets (s : State) : BitVec 103 :=
  let rails := (List.range 192).foldl (fun (a : BitVec 103) c =>
    let r := s.rail c
    if r.map.ctrl = 1 ∧ r.granted then a ||| netBit r.map.en else a) 0
  let feeds := (List.range 2).foldl (fun (a : BitVec 103) f =>
    let x := nth s.feed.feeds f
    let a := if x.onReleased then a ||| netBit (93 + f) else a
    if x.fastOff then a else a ||| netBit (95 + f)) 0
  let valves := (List.range 4).foldl (fun (a : BitVec 103) v => if (nth s.cool.valves v).released then a ||| netBit (97 + v) else a) 0
  rails ||| ((s.sage.branches.zeroExtend 103 &&& ~~~(1#103 <<< 9)) <<< 64) ||| (s.sage.accReset.zeroExtend 103 <<< 76)
    ||| (s.thyme.pwrok.zeroExtend 103 <<< 84) ||| (if s.thyme.trayPg then netBit 92 else 0)
    ||| feeds ||| valves ||| (if s.op.slow then 0 else netBit 101) ||| (if s.pair.pull then 0 else netBit 102)

/-- The own drive: the granted values; at the STANDBY, a feed net only where the OWNER releases it too (15 R416); and before the pair
mirrors, the shared nets as R474 and R415 hold them, less what this governor's own supervision pulls (15 R415, 18 R474). -/
def State.ownDrive (s : State) : BitVec 103 :=
  let own := s.grantedNets
  match s.pins.shadowHold with
  | some h => (own &&& ~~~shadowNets) ||| (h &&& shadowNets &&& (if s.cool.valveHold then ~~~(15#103 <<< 97) else -1))
  | none => if s.pair.role = .standby then own &&& (s.pair.mirNets ||| ~~~(15#103 <<< 93)) else own

/-- Change the nets that are held until the pair mirrors. -/
def State.onHold (s : State) (f : BitVec 103 → BitVec 103) : State := { s with pins := { s.pins with shadowHold := s.pins.shadowHold.map f } }

/-- ALIVE_IN has changed level within the last 8 µs (15 R405, 18 R474). -/
def State.aliveInRecent (s : State) : Bool :=
  match s.pair.aliveIn with
  | some t => decide (s.gt ≤ t + 8)
  | none => false

/-- Thyme executes here: at the OWNER, and through a warm reset while no partner takes over; never in the STANDBY role (06 R166, R167, 15 R408). -/
def State.serves (s : State) : Bool := s.isOwner || (s.pair.role == .undecided && !s.pair.ownLow && !s.aliveInRecent)

/-- The AON supplies are in their operating ranges, so that the outputs of their banks act (18 R472, 19 R492, R493). -/
def SupplyState.operates (p : SupplyState) : Bool := p.aonGood && decide (1710 ≤ p.vddioAon)

/-- The nets that this governor pulls low: none while the supply bank is below its range (18 R472); before the first lock those of R474, then the own drive's complement; none while the shadow drive is released (15 R417). -/
def State.pulls (s : State) : BitVec 103 :=
  if !s.sup.operates then 0
  else if !s.sage.everLocked then
    (if s.aliveInRecent then shadowNets &&& s.pins.shadowLatch else shadowNets) ||| (if s.pair.pull then netBit 102 else 0)
  else if s.pair.shadowReleased then (~~~s.ownDrive) &&& ~~~shadowNets
  else ~~~s.ownDrive

/-- A rail whose enable goes off: UV and PG-loss filters disarmed, and its failed polls no longer count (07 R183, R188, R189). -/
def Rail.goesOff (r : Rail) : Rail :=
  { r with granted := false, uvArmed := false, pgArmed := false, uvF := 0, uvW := 0, pgF := 0
           rearmed := r.rearmed.filter fun k => k != .uvWarn && k != .uvFault && k != .pgLoss
           due := r.due.filter fun k => k != .uvWarn && k != .uvFault && k != .pgLoss
           warnHeld := r.warnHeld.filter fun k => k != .uvWarn
           pollFails := 0 }

/-- The enables that a net switches (07 R202). -/
def State.netTargets (s : State) (k : Nat) : List EnableTarget :=
  if k < 64 then (indices 192 fun c => (s.rail c).map.ctrl == 1 && (s.rail c).map.en == k).map .rail
  else if k < 76 then [.branch (k - 64)]
  else if k < 84 then [.accReset (k - 76)]
  else []

/-- Turn the granted drive of one net off: an off request of this tick (01 R29). -/
def State.netOff (s : State) (k : Nat) : State :=
  let targets := s.netTargets k
  let s := (s.onHold fun h => h &&& ~~~netBit k).onThyme fun t => { t with offsNow := targets ++ t.offsNow }
  if k < 64 then s.onSage fun g => { g with rails := g.rails.map fun r => if r.map.ctrl = 1 ∧ r.map.en = k ∧ r.granted then r.goesOff else r }
  else if k < 76 then s.onSage fun g => { g with branches := g.branches &&& ~~~(1#12 <<< (k - 64)) }
  else if k < 84 then s.onSage fun g => { g with accReset := g.accReset &&& ~~~(1#8 <<< (k - 76)) }
  else if k < 92 then s.onThyme fun t => { t with pwrok := t.pwrok &&& ~~~(1#8 <<< (k - 84)) }
  else if k = 92 then s.onThyme fun t => { t with trayPg := false }
  else if k < 95 then { s with feed := { s.feed with feeds := modAt s.feed.feeds (k - 93) fun f =>
      { f with onReleased := false, phase := if f.phase = .inrush ∨ f.phase = .on then .off else f.phase, forceGt := some s.gt } } }
  else if k < 97 then { s with feed := { s.feed with feeds := modAt s.feed.feeds (k - 95) fun f => { f with fastOff := true } } }
  else if k < 101 then { s with cool := { s.cool with valves := modAt s.cool.valves (k - 97) fun v => { v with released := false } } }
  else s

/-- The level of a net as last read: the own drive unless a disagreement is reported (07 R203). -/
def State.netHigh (s : State) (k : Nat) : Bool :=
  match s.sage.disagreements.find? (fun d => d.net == k) with
  | some d => d.level
  | none => s.ownDrive.getLsbD k

/-- A net released here is stuck low: a reported disagreement that no living partner's pull explains (07 R203). -/
def State.stuckLow (s : State) (k : Nat) : Bool :=
  !s.pair.alive && !s.pulls.getLsbD k && s.sage.disagreements.any fun d => d.net == k && !d.level

/-- A rail counts as off for the conditions of 06 R152: the net of its enable or of its branch is stuck low (07 R203). -/
def State.railStuck (s : State) (c : Nat) : Bool :=
  let m := (s.rail c).map
  (m.ctrl == 1 && s.stuckLow m.en) || s.stuckLow (64 + m.branch)

/-! Thyme contexts and accelerators -/

/-- The directory entry of a program (06 R145). -/
def ProgramSet.entry (p : ProgramSet) (id : Nat) : Nat := (nth p.dir id).toNat
/-- Kind of a program: 1 TRAY_UP, 2 TRAY_DOWN, 3 ACC_UP, 4 ACC_DOWN, 5 SUB, 6 USER. -/
def ProgramSet.kind (p : ProgramSet) (id : Nat) : Nat := bits (p.entry id) 63 60
/-- First store index of a program. -/
def ProgramSet.first (p : ProgramSet) (id : Nat) : Nat := bits (p.entry id) 59 48
/-- Steps of a program. -/
def ProgramSet.len (p : ProgramSet) (id : Nat) : Nat := bits (p.entry id) 47 35
/-- Mirror program of a power-up program. -/
def ProgramSet.mirror (p : ProgramSet) (id : Nat) : Nat := bits (p.entry id) 34 30
/-- Rail stride. -/
def ProgramSet.stride (p : ProgramSet) (id : Nat) : Nat := bits (p.entry id) 29 22
/-- Longest run in ms. -/
def ProgramSet.maxMs (p : ProgramSet) (id : Nat) : Nat := bits (p.entry id) 15 0

/-- The context runs a program. -/
def State.runs (s : State) (k : Nat) : Bool := (s.ctx k).prog.isSome
/-- The step at a store index. -/
def ProgramSet.word (p : ProgramSet) (i : Nat) : Nat := (look p.store i).toNat
/-- Opcode of a step (06 R147). -/
def stepOp (w : Nat) : Nat := bits w 63 60
/-- The step word at a context's store index. -/
def State.word (s : State) (k : Nat) : Nat := s.thyme.set.word (s.ctx k).idx
/-- The kind of the program that a context runs, zero when idle. -/
def State.runKind (s : State) (k : Nat) : Nat :=
  match (s.ctx k).prog with
  | some p => s.thyme.set.kind p
  | none => 0
/-- Every context is idle. -/
def State.allIdle (s : State) : Bool := (List.range 9).all fun k => !s.runs k

/-- A context after it has stopped: idle, with what SEQ_STATUS still reports. -/
def ThymeCtx.stopped (c : ThymeCtx) : ThymeCtx :=
  { mark := c.mark, abortCause := c.abortCause, abortCode := c.abortCode, idx := c.idx, pendOn := c.pendOn }

/-- Stop a context. -/
def State.stop (s : State) (k : Nat) : State := s.onCtx k fun c => { c.stopped with endTick := some s.gt }

/-- Put a program into a context; its first step starts in the tick `tick`. -/
def State.begin (s : State) (k prog idx tick : Nat) (how : StartKind) : State :=
  s.onCtx k fun c =>
    { mark := if how = .fresh then none else c.mark, abortCause := c.abortCause, abortCode := c.abortCode, pendOn := c.pendOn, endTick := c.endTick
      held := if how = .fresh then [] else c.held, prog := some prog, idx := idx, stepTick := tick, progTick := tick
      starting := some how, unwinding := how != .fresh, after := if how = .mirrorAbort then .toFault else .normal }

/-- When no context runs any more, the emergency program that is due starts in context T in the next tick (06 R163). -/
def State.emergencyStart (s : State) : State :=
  match s.thyme.emergencyDue with
  | none => s
  | some kind =>
    if !s.allIdle then s
    else
      let prog := match kind with
        | .leak => s.thyme.set.leak
        | .inputLoss => s.thyme.set.inputLoss
      let held := (s.ctx 0).held
      let s := s.onThyme fun t => { t with emergencyDue := none, emergency := some kind }
      let s := (s.begin 0 prog (s.thyme.set.first prog) (s.gt + 1) .fresh).onCtx 0 fun c => { c with held := held }
      (s.traced 38 0 3).mirrored .thyme

/-- Record the abort of a context's program: event 0x0203 and trace point 36 (06 R165). -/
def State.abortEvent (s : State) (k cause code : Nat) : State :=
  let c := s.ctx k
  let sev := if s.runKind k = 6 then 2 else if k = 0 then 4 else 3
  let s := s.onCtx k fun c => { c with abortCause := cause, abortCode := if cause = 8 then code else c.abortCode }
  (s.event .thyme 0x0203 sev k (i1 k ++ i1 (c.prog.getD 255) ++ i2 c.idx ++ i1 cause ++ i1 code)).traced 36 k (cause + 256 * c.idx)

/-- A queue whose package leaves ACC_ON is detached: its contents go (13 R381). -/
def HostQueue.detach (q : HostQueue) : HostQueue := { q with detached := true, entries := [], comps := [] }

/-- A push without a package. -/
def ImagePush.without (p : ImagePush) (n : Nat) : ImagePush := { p with mask := p.mask &&& ~~~(1#8 <<< n) }

/-- An armed change without a package. -/
def ArmedChange.without (a : ArmedChange) (n : Nat) : ArmedChange := { a with pkgs := a.pkgs &&& ~~~(1#8 <<< n) }

/-- The host switch's view of a package that leaves ACC_ON. -/
def LinkState.dropPkg (l : LinkState) (n : Nat) : LinkState :=
  { l with queues := l.queues.map fun q => if q.port = n then q.detach else q, pushes := (l.pushes.map fun p => p.without n).filter fun p => p.mask != 0 }

/-- The operating point's view of a package that leaves ACC_ON. -/
def OpState.dropPkg (o : OpState) (n : Nat) : OpState :=
  { o with entering := o.entering &&& ~~~(1#8 <<< n), applied := o.applied.set n 31, appliedSeq := o.appliedSeq.set n none, armed := (o.armed.map fun a => a.without n).filter fun a => a.pkgs &&& ~~~a.applied != 0 }

/-! Active sensors (10 R263) -/

/-- A temperature sensor is used (10 R263): dies and HBM stacks by the capability message of their package. -/
def State.sensorUsed (s : State) (i : Nat) : Bool :=
  if i < 64 then (match (nth s.link.ports (i / 8)).cap with | some c => c.dies.getLsbD (i % 8) | none => false)
  else if i < 256 then (match (nth s.link.ports ((i - 64) / 24)).cap with | some c => c.hbm.getLsbD ((i - 64) % 24) | none => false)
  else if i < 336 then s.cool.usedCfg.getLsbD i
  else !s.straps.coolMode && nth s.cool.roles (i - 336) != 0

/-- A temperature sensor is in use and so active (10 R262, R263). -/
def State.sensorActive (s : State) (i : Nat) : Bool :=
  s.sensorUsed i &&
    (if i < 64 then s.acc (i / 8) == .on
    else if i < 256 then s.acc ((i - 64) / 24) == .on
    else if i < 320 then s.acc ((i - 256) / 8) == .on
    else if i < 336 then (match s.thyme.reported with
      | .off | .faultOff | .thermalOff | .leakOff => false
      | .standby | .poweringUp | .on | .maintenance | .poweringDown => true)
    else s.sage.branches.getLsbD 8)

/-- A sensor that becomes active starts its period; one that becomes inactive returns to NORMAL and its timers stop (10 R264, R266). -/
def Sensor.refreshed (x : Sensor) (active : Bool) (gt : Nat) : Sensor :=
  if x.active = active then x else if active then { active := true, gt := gt } else {}

/-- The thermal states as numbers (10 R266). -/
def SensorPhase.code : SensorPhase → Nat
  | .normal => 0 | .warn => 1 | .advisory => 2 | .enforced => 3

/-- A reading as trace points carry it. -/
def reading16 (x : Option Int) : Nat := (ofInt 16 (x.getD 0)).toNat

/-- Bring every sensor's activity up to date (10 R263, R266). -/
def State.refreshSensors (s : State) : State :=
  let gone := indices 344 fun i => let x := nth s.cool.sensors i; x.phase != .normal && !s.sensorActive i
  let s := gone.foldl (fun s i => let x := nth s.cool.sensors i; s.traced 128 i (x.phase.code + 65536 * reading16 x.x)) s
  { s with cool := { s.cool with sensors := s.cool.sensors.mapIdx fun i x => x.refreshed (s.sensorActive i) s.gt } }

/-- A hub message goes to a die of a package. -/
def SyncOut.toPkg (o : SyncOut) (n : Nat) : Bool :=
  match o with
  | .reply dest _ => dest.tray.isNone && dest.src / 8 == n
  | .notify dest _ => dest / 8 == n

/-- The hub's view of a package that leaves ACC_ON: parked operations complete with no reply, watches go without notification, arrivals stay, and what has not left or arrived is discarded (12 R339, R360). -/
def SyncState.dropPkg (y : SyncState) (n : Nat) : SyncState :=
  let its := fun (p : Parked) => p.origin.tray.isNone && p.op.src / 8 == n
  let ended := (y.parked.filter its).map fun p => p.op.addr
  { y with
    parked := y.parked.filter fun p => !its p
    watches := y.watches.filter fun w => w.src / 8 != n
    hung := y.hung.filter fun a => !ended.contains a
    repairs := y.repairs.filter fun r => !r.2.any its
    remoteOut := y.remoteOut.filter fun r => r.src / 8 != n
    held := y.held.filter fun h => !h.2.toPkg n
    issued := y.issued.filter fun o => !o.toPkg n }

/-- The windows of a package's dies restart (12 R341). -/
def SyncState.restartPkg (y : SyncState) (n : Nat) : SyncState :=
  { y with wins := y.wins.mapIdx fun i w => if i / 8 = n then { w with restart := true, seen := [] } else w }

/-- The substitutions of a package that enters ACC_ON: removals take effect, and every overlay in force is to be pushed (14 R398, R399). -/
def ReproState.enterPkg (r : ReproState) (n : Nat) : ReproState :=
  let kept := r.inForce.filter fun x => !(x.pkg == n && x.ended)
  { r with inForce := kept, overlays := r.overlays.set n (kept.filter fun x => x.pkg == n), unknown := r.unknown &&& ~~~(1#8 <<< n) }

/-- A substitution push that ends without DONE `OK`: a declared one is not in force, an overlay of one in force leaves the count unknown (14 R398, R399). -/
def ReproState.failPush (r : ReproState) (x : Substitution) : ReproState :=
  if r.inForce.contains x then { r with unknown := r.unknown ||| (1#8 <<< x.pkg), overlays := r.overlays.set x.pkg [] } else r

/-- The outcome of a substitution push: event 0x0A05 (14 R398, R402). -/
def State.substEvent (s : State) (x : Substitution) (sev : Nat) : State :=
  s.event .fp3 0x0A05 sev x.pkg (i1 x.pkg ++ i1 (flag x.changed) ++ i4 x.coresAfter)

/-- Every push of a substitution to a package fails (14 R398, R399, R403). -/
def State.failSubst (s : State) (n : Nat) : State :=
  let mine := s.repro.pushing.filter fun p => p.2.pkg == n
  let s := { s with repro := { s.repro with pushing := s.repro.pushing.filter fun p => p.2.pkg != n } }
  mine.foldl (fun s p => ({ s with repro := s.repro.failPush p.2 }.substEvent p.2 2)) s

/-- The arbiter releases its pull on TRAY_SLOW_N and the throttle ends, with event 0x0402 at the OWNER (08 R226 step 4, R227). -/
def State.throttleEnds (s : State) : State :=
  let len := s.gt - s.op.slowGt
  let s := { s with op := { s.op with throttle := .none, slow := false } }
  if s.isOwner then ((s.event .arbiter 0x0402 0 0 (i4 len ++ i1 (s.op.lastSent.getD 31))).traced 69 0 len).mirrored .op else s

/-- The throttle ends when the last package leaves ACC_ON (08 R227). -/
def State.throttleIdle (s : State) : State :=
  if s.op.throttle ≠ .none ∧ (s.thyme.accs.all fun a => a != .on) then s.throttleEnds else s

/-- What follows an accelerator that leaves ACC_ON: its host queues are detached with event 0x0909 the changes armed for it are forgotten, and with the last one the throttle ends (13 R381, 08 R223, R227). -/
def State.leaveAccOn (s : State) (n : Nat) : State :=
  let gone := s.link.queues.filter fun q => q.port == n && !q.detached
  let pushes := s.link.pushes.filter fun p => p.mask.getLsbD n
  let s := { s with link := s.link.dropPkg n, op := s.op.dropPkg n, sync := s.sync.dropPkg n, phase := { s.phase with onAllTick := s.phase.onAllTick &&& ~~~(1#8 <<< n) } }
  let s := (pushes.foldl (fun s _ => s.event .fp3 0x0907 2 n []) s).failSubst n
  (gone.foldl (fun s q => s.event .hostSwitch 0x0909 1 q.num (i1 q.num ++ i1 q.port)) s).throttleIdle

/-- What follows an accelerator that enters ACC_ON: the comparisons of its dies' reports restart and no report is in effect (11 R292, 13 R370, 08 R218). -/
def State.enterAccOn (s : State) (n : Nat) : State :=
  let mine := fun i => decide (8 * n ≤ i ∧ i < 8 * n + 8)
  { s with
    op := { s.op with entering := s.op.entering ||| (1#8 <<< n), budgetSent := s.op.budgetSent.set n 0 }
    link := { s.link with dies := s.link.dies.mapIdx fun i d => if mine i then {} else d }
    sync := s.sync.restartPkg n
    ledger := { s.ledger with dies := s.ledger.dies.mapIdx fun i d => if mine i then { upTo := s.gt } else d }
    repro := s.repro.enterPkg n : State }.saveSettings

/-- Put an accelerator into a state (00 R13); in ACC_OFF and ACC_FAULT its ACC_RESET_N is held low (03 R78). -/
def State.setAcc (s : State) (n : Nat) (a : AccState) : State :=
  let old := s.acc n
  let s := if (old == .on) != (a == .on) then s.settlePkg n else s
  let s := s.onThyme fun t => { t with accs := t.accs.set n a }
  let s := if a = .off ∨ a = .fault then s.onSage fun g => { g with accReset := g.accReset &&& ~~~(1#8 <<< n) } else s
  let s := if old = .on ∧ a ≠ .on then s.leaveAccOn n else s
  let s := if old ≠ .on ∧ a = .on then s.enterAccOn n else s
  if (old == .on) != (a == .on) then s.refreshSensors.event .sage 0x060F 0 n (i1 n) else s

/-! The immediate-off (07 R191-R194) -/

/-- Why an immediate-off runs and what latch it leaves. -/
inductive OffKind where
  | fault | thermal | unlatched
  deriving DecidableEq, Repr, Inhabited

/-- The bus that switches or writes a rail over PMBus or I3C, if any (07 R176). -/
def RailMap.pmBus (m : RailMap) : Option Nat :=
  if m.ctrl = 2 then some m.en else if m.ctrl = 3 then some (8 + m.en) else none

/-- The nets of a scope (07 R191, R192). -/
def State.scopeNets (s : State) (scope : Nat) : BitVec 103 :=
  (List.range 103).foldl (fun (a : BitVec 103) k =>
    let hit := (s.netTargets k).any (s.targetInScope scope) || (decide (84 ≤ k ∧ k < 92) && (wideScope scope || k == 84 + scope)) || (k == 92 && wideScope scope)
    if hit then a ||| netBit k else a) 0

/-- The group commands of an immediate-off: one on every bus with a rail of the scope (07 R192). -/
def SageState.groupsOf (g : SageState) (scope : Nat) : List GroupOff :=
  (List.range 12).filterMap fun b =>
    let rails := indices g.rails.length fun c => (nth g.rails c).inScope scope && (nth g.rails c).map.pmBus == some b
    if rails = [] then none else some { bus := b, scope := scope, rails := rails }

/-- The writes of a bus after the group command has broken in: the transaction in progress has ended with a STOP and starts again later, and the OPERATION and margin writes of rails in scope are overtaken (07 R192, R207; log entry 57). -/
def SageState.interrupt (g : SageState) (scope : Nat) (q : List BusWrite) : List BusWrite :=
  (q.filter fun w => !(nth g.rails w.rail).inScope scope || (match w.kind with
    | .operation _ => false
    | _ => w.owner != .margin)).map fun w => { w with started := none }

/-- Take a scope off at the pins and on its buses: enables, power-goods and resets low (07 R191, R192). -/
def State.scopeOff (s : State) (scope : Nat) : State :=
  let groups := s.sage.groupsOf scope
  let nets := s.scopeNets scope
  let s := s.onHold fun h => h &&& ~~~nets
  let s := s.onSage fun g => { g with
    rails := g.rails.map fun r => if r.inScope scope then { r.goesOff with margin := 0 } else r
    buses := g.buses.mapIdx fun b q => if groups.any (fun x => x.bus == b) then g.interrupt scope q else q
    groups := g.groups ++ groups
    branches := if wideScope scope then g.branches &&& (1#12 <<< 9) else g.branches &&& ~~~(1#12 <<< scope)
    accReset := if wideScope scope then 0 else g.accReset &&& ~~~(1#8 <<< scope) }
  let s : State := { s with op := { s.op with raises := s.op.raises.filter fun c => !(s.rail c).inScope scope } }
  s.onThyme fun t => { t with
    pwrok := if wideScope scope then 0 else t.pwrok &&& ~~~(1#8 <<< scope)
    trayPg := t.trayPg && !wideScope scope }

/-- The contexts that an immediate-off aborts with cause SAGE, the accelerators' before the tray's, which stops every other (06 Abort causes). -/
def State.sageVictims (s : State) (scope : Nat) (low : Bool) : List Nat :=
  (indices 9 fun k => s.runs k && ((wideScope scope && !low) || (s.ctx k).held.any (s.targetInScope scope))).reverse

/-- Stop every context; an accelerator whose program stops leaves ACC_UP or ACC_DOWN (06 R165; log entry 5). -/
def State.stopAll (s : State) (scope : Nat) : State :=
  (List.range 9).foldl (fun s j =>
    if s.runs j then
      let s := s.stop j
      if j = 0 ∨ s.acc (j - 1) = .fault then s else s.setAcc (j - 1) (if wideScope scope then .off else .fault)
    else s) s

/-- Abort a program with cause SAGE (06 R165): a USER program stops alone, a tray program stops every context with FAULT_OFF, an accelerator program stops with ACC_FAULT or, in the tray scope, ACC_OFF. -/
def State.abortSage (s : State) (scope : Nat) (k : Nat) : State :=
  if !s.runs k then s
  else
    let kind := s.runKind k
    let s := s.abortEvent k 1 0
    if k = 0 then
      if kind = 6 then s.stop 0
      else
        let s := s.stopAll scope
        s.onThyme fun t => { t with latchFault := true, emergency := none, emergencyDue := none, leakAfter := false, tray := if t.tray = .off then .off else .standby }
    else
      let s := s.stop k
      if s.acc (k - 1) = .fault then s else s.setAcc (k - 1) (if wideScope scope then .off else .fault)

/-- Some enable of a scope is on. -/
def State.anyOn (s : State) (scope : Nat) : Bool :=
  s.sage.rails.any (fun r => r.granted && r.inScope scope) || (List.range 103).any fun k => (s.scopeNets scope).getLsbD k && s.grantedNets.getLsbD k

/-- Run the immediate-off of a scope (07 R191-R194): pins, latch, accelerator states, and aborts in one tick; where its latch is held already and nothing in scope is on, it acts on no pin.
`rule` is the rule that invokes it. -/
def State.immediateOff (s : State) (scope rule : Nat) (kind : OffKind) : State :=
  let started := s.sage.holdFault || s.sage.holdThermal || (decide (scope < 8) && s.sage.holdBranch.getLsbD scope)
  let victims := s.sageVictims scope (kind == .unlatched)
  let s := if started && !s.anyOn scope then s else s.scopeOff scope
  let s := victims.foldl (fun s k => s.abortSage scope k) s
  let s :=
    if wideScope scope then
      let s := (List.range 8).foldl (fun s n => if s.acc n = .fault then s else s.setAcc n .off) s
      match kind with
      | .fault => (s.onThyme fun t => { t with latchFault := true }).onSage fun g => { g with holdFault := true }
      | .thermal => (s.onThyme fun t => { t with latchThermal := true }).onSage fun g => { g with holdThermal := true }
      | .unlatched => s
    else if kind = .unlatched then s
    else (s.setAcc scope .fault).onSage fun g => { g with holdBranch := g.holdBranch ||| (1#8 <<< scope) }
  let s :=
    if wideScope scope ∧ kind ≠ .unlatched then
      s.onThyme fun t => { t with
        tray := if t.tray = .off then .off else .standby
        ctxs := t.ctxs.map fun c => ({ c with pendOn := false } : ThymeCtx)
        deferredUp := false, emergencyDue := none, emergency := none, leakAfter := false, minOffEnd := none, userStopped := false }
    else if scope < 8 then s.onCtx (scope + 1) fun c => { c with pendOn := false }
    else s
  let s := if started then s else (s.onSage fun g => { g with offs := g.offs ++ [{ scope := scope, gt := s.gt }] }).traced 3 scope rule
  ((s.mirrored .grants).mirrored .tray).emergencyStart

end Sys2Proof.Machine
end

