-- ==== Sys2Proof/Machine/Sage.lean ====
section
/-! DEFINITION. Rail supervision: samples, filters, confirmations, polls, bus writes, margins, readback and the rail commands (07). -/

namespace Sys2Proof.Machine

open Sys2Proof

/-! Conversion and filters -/

/-- A voltage code in mV (07 R179). -/
def voltOf (code fs : Nat) : Nat := (code * fs + 2048) / 4096

/-- A current code in 0.1 A, signed, truncating toward zero (07 R179). -/
def currOf (code atZero fs : Nat) : Int := tdiv (((code : Int) - atZero) * fs) 4096

/-- A number with a binary exponent, scaled and truncated toward zero (07 R179; PMBus number formats, log entry 57). -/
def scaled (mantissa exponent : Int) (scale : Nat) : Int :=
  if 0 ≤ exponent then mantissa * scale * (2 ^ exponent.toNat : Nat) else tdiv (mantissa * scale) ((2 ^ (-exponent).toNat : Nat) : Int)

/-- READ_VOUT or VOUT_COMMAND in LINEAR16, in mV (07 R179). -/
def linear16Mv (exponent : Int) (w : U16) : Nat := (scaled w.toNat exponent 1000).toNat

/-- READ_IOUT in LINEAR11, in 0.1 A: exponent in bits 15 to 11, mantissa in bits 10 to 0, both signed (07 R179). -/
def linear11Da (w : U16) : Int := scaled (w.truncate 11 : BitVec 11).toInt ((w >>> 11).truncate 5 : BitVec 5).toInt 10

/-- The start-up read of VOUT_MODE has reported LINEAR16: bits 7 to 5 zero (07 R181; log entry 57). -/
def Rail.linear16 (r : Rail) : Bool := r.voutMode.any fun (m : BitVec 8) => m >>> 5 == 0

/-- The start-up read of VOUT_MODE has reported another mode: the rail counts as having failed to start (07 R181). -/
def Rail.wrongMode (r : Rail) : Bool := r.voutMode.any fun (m : BitVec 8) => m >>> 5 != 0

/-- The exponent of VOUT_MODE: bits 4 to 0, signed (07 R179). -/
def Rail.voutExp (r : Rail) : Int := ((r.voutMode.getD 0).truncate 5 : BitVec 5).toInt

/-- One filter sample: the new count, and whether the filter confirms at it; `re` where a changed length makes it confirm (07 R187). -/
def filterStep (cond re : Bool) (n c : Nat) : Nat × Bool :=
  let c' := if cond then min 255 (c + 1) else 0
  (c', cond && ((c' == n && c != n) || re))

/-- Sample count of the UV warning filter (07 R185). -/
def RailLevels.uvWarnN (l : RailLevels) : Nat := min 255 (2 * l.uvN)

/-- The number of a confirmation (07 Status entry). -/
def ConfirmKind.code : ConfirmKind → Nat
  | .none => 0 | .uvWarn => 1 | .uvFault => 2 | .ovWarn => 3 | .ovFault => 4 | .ocWarn => 5 | .ocFault => 6
  | .pgLoss => 7 | .busLost => 8

/-- A confirmation is due when its filter confirms. -/
def dueIf (b : Bool) (k : ConfirmKind) : List ConfirmKind := if b then [k] else []

/-- A UV, OV or OC fault filter of the rail is running (06 R155). -/
def Rail.running (r : Rail) : Bool := decide (0 < r.uvF) || decide (0 < r.ovF) || decide (0 < r.ocF)

/-- The confirmed warnings that are still out of range (07 Status entry). -/
def Rail.stillWarned (r : Rail) : List ConfirmKind :=
  r.warnHeld.filter fun k => (k == .uvWarn && r.uvW != 0) || (k == .ovWarn && r.ovW != 0) || (k == .ocWarn && r.ocW != 0)

/-- The filters that a voltage sample feeds (07 R187). -/
def ConfirmKind.ofVolt : ConfirmKind → Bool
  | .uvWarn => true | .uvFault => true | .ovWarn => true | .ovFault => true | _ => false

/-- A voltage sample of a rail (07 R187, R188). -/
def Rail.volt (r : Rail) (v : Nat) : Rail :=
  let l := r.lev
  let armed := r.uvArmed || (r.granted && decide (l.uvWarn ≤ v))
  let re := fun k => r.rearmed.contains k
  let (uvF, a) := filterStep (armed && decide (v < l.uvFault)) (re .uvFault) l.uvN r.uvF
  let (uvW, b) := filterStep (armed && decide (v < l.uvWarn)) (re .uvWarn) l.uvWarnN r.uvW
  let (ovF, c) := filterStep (decide (l.ovFault < v)) (re .ovFault) l.ovN r.ovF
  let (ovW, d) := filterStep (decide (l.ovWarn < v)) (re .ovWarn) l.ovN r.ovW
  let r := { r with vMv := v, uvArmed := armed, uvF := uvF, uvW := uvW, ovF := ovF, ovW := ovW, rearmed := r.rearmed.filter (fun k => !k.ofVolt),
                    due := r.due ++ dueIf a .uvFault ++ dueIf b .uvWarn ++ dueIf c .ovFault ++ dueIf d .ovWarn }
  { r with warnHeld := r.stillWarned }

/-- A current sample of a rail (07 R187, R188). -/
def Rail.curr (r : Rail) (i : Int) : Rail :=
  let l := r.lev
  let (ocF, a) := filterStep (decide ((l.ocFault : Int) < i)) (r.rearmed.contains .ocFault) l.ocN r.ocF
  let (ocW, b) := filterStep (decide ((l.ocWarn : Int) < i)) (r.rearmed.contains .ocWarn) l.ocwN r.ocW
  let r := { r with iDa := i, ocF := ocF, ocW := ocW, rearmed := r.rearmed.filter (fun (k : ConfirmKind) => k != ConfirmKind.ocFault && k != ConfirmKind.ocWarn), due := r.due ++ dueIf a .ocFault ++ dueIf b .ocWarn }
  { r with warnHeld := r.stillWarned }

/-- A power-good sample of a rail (07 R189). -/
def Rail.pgSample (r : Rail) (good : Bool) : Rail :=
  let armed := r.pgArmed || (r.uvArmed && good)
  let (pgF, a) := filterStep (armed && !good) (r.rearmed.contains .pgLoss) r.lev.pgN r.pgF
  { r with pg := good, pgArmed := armed, pgF := pgF, rearmed := r.rearmed.filter (fun (k : ConfirmKind) => k != ConfirmKind.pgLoss), due := r.due ++ dueIf a .pgLoss }

/-- Trace point 0 for the fault filters that a sample starts (07 Trace points). -/
def State.filterTraces (s : State) (c : Nat) (old new : Rail) : State :=
  let s := if old.uvF = 0 ∧ new.uvF = 1 then s.traced 0 c 2 else s
  let s := if old.ovF = 0 ∧ new.ovF = 1 then s.traced 0 c 4 else s
  if old.ocF = 0 ∧ new.ocF = 1 then s.traced 0 c 6 else s

/-- Apply a sample to a rail. -/
def State.sampleRail (s : State) (c : Nat) (f : Rail → Rail) : State :=
  let old := s.rail c
  let s := s.onRail c f
  s.filterTraces c old (s.rail c)

/-- `MONITOR_SAMPLE`: a conversion of a converter ends and acts on the rails of its channel (07 R178, R187). -/
def execMonitorSample (adc : U8) (pos : U8) (code : BitVec 12) (s : State) : Host.Outcome State Fault Refusal :=
  let ch := 16 * adc.toNat + pos.toNat
  .next (if adc.toNat < 8 ∧ pos.toNat < 16 ∧ s.sage.everLocked ∧ !s.sage.adcFailed.getLsbD adc.toNat then
    let rs := indices 192 fun c => let r := s.rail c; r.used && (r.map.vSrc == ch || r.map.iSrc == ch)
    rs.foldl (fun s c =>
      let m := (s.rail c).map
      let s := if m.vSrc = ch then s.sampleRail c (fun r => r.volt (voltOf code.toNat m.vFsMv)) else s
      if m.iSrc = ch then s.sampleRail c (fun r => r.curr (currOf code.toNat m.iZero m.iFsDa)) else s) s
  else s)

/-- `RAIL_PG_SAMPLE`: a RAIL_PG pin is read in a tick (07 R189). -/
def execRailPgSample (rail : U8) (pg : Bool) (s : State) : Host.Outcome State Fault Refusal :=
  let c := rail.toNat
  .next (if c < 192 ∧ (s.rail c).used ∧ (s.rail c).map.pgSrc ≠ 255 then s.onRail c (fun r => r.pgSample pg) else s)

/-! Confirmations -/

/-- The value that a confirmation reports. -/
def Rail.valueOf (r : Rail) : ConfirmKind → Int
  | .ocWarn => r.iDa
  | .ocFault => r.iDa
  | .pgLoss => flag r.pg
  | .busLost => 0
  | _ => r.vMv

/-- The confirmation is a warning. -/
def ConfirmKind.warning : ConfirmKind → Bool
  | .uvWarn => true | .ovWarn => true | .ocWarn => true | _ => false

/-- The confirmation is a fault. -/
def ConfirmKind.isFault : ConfirmKind → Bool
  | .uvFault => true | .ovFault => true | .ocFault => true | .pgLoss => true | .busLost => true | _ => false

/-- Take one due confirmation off a rail. -/
def Rail.settled (r : Rail) (k : ConfirmKind) : Rail := { r with due := r.due.filter (fun j => j != k), last := k }

/-- Increment counters of a rail: 0 warn, 1 fault, 2 oc, 3 margin, 4 pg_loss; a clear later in the tick keeps these increments (07 R199). -/
def Rail.bump (r : Rail) (gt : Nat) (ks : List Nat) : Rail :=
  let up := fun (k n : Nat) => if ks.contains k then satAdd 32 n 1 else n
  { r with cWarn := up 0 r.cWarn, cFault := up 1 r.cFault, cOc := up 2 r.cOc, cMargin := up 3 r.cMargin, cPg := up 4 r.cPg
           incGt := gt, incs := (if r.incGt = gt then r.incs else []) ++ ks }

/-- A warning is confirmed: counted and recorded, nothing else (07 R190). -/
def State.warn (s : State) (c : Nat) (k : ConfirmKind) : State :=
  let v := (s.rail c).valueOf k
  let s := s.onRail c fun r => { (r.settled k).bump s.gt [0] with warnHeld := k :: r.warnHeld.filter (· != k) }
  (s.event .sage 0x0103 1 c (i1 c ++ i1 k.code ++ i4s v)).traced 1 c (k.code + 256 * (ofInt 32 v).toNat)

/-- The counters of a confirmed fault (07 R190, R199). -/
def Rail.counted (r : Rail) (gt : Nat) (k : ConfirmKind) : Rail :=
  r.bump gt (match k with
    | .ocFault => [2]
    | .pgLoss => [1, 4]
    | _ => [1])

/-- The severity of event 0x0104 by the scope of the fault (07 R191). -/
def faultSeverity : Option Nat → Nat
  | none => 2
  | some 15 => 4
  | some _ => 3

/-- A fault is confirmed: counted, the immediate-off of its scope runs, and it is recorded; a warning that confirms on the same sample is counted before (07 R190, R191, R207). -/
def State.faultConfirmed (s : State) (c : Nat) (k : ConfirmKind) : State :=
  let s := ((s.rail c).due.filter ConfirmKind.warning).foldl (fun s w => s.warn c w) s
  let v := (s.rail c).valueOf k
  let scope := (s.rail c).faultScope
  let s := s.onRail c fun r => (r.settled k).counted s.gt k
  let s := match scope with
    | some n => s.immediateOff n 191 .fault
    | none => s
  (s.event .sage 0x0104 (faultSeverity scope) c (i1 c ++ i1 k.code ++ i4s v ++ i1 (scope.getD 0))).traced 2 c (k.code + 256 * (ofInt 32 v).toNat)

/-- `WARNING_CONFIRM` (07 R190): acts when the filter of that kind has just reached its count. -/
def execWarningConfirm (rail : U8) (kind : ConfirmKind) (s : State) : Host.Outcome State Fault Refusal :=
  .next (if rail.toNat < 192 ∧ kind.warning ∧ (s.rail rail.toNat).due.contains kind then s.warn rail.toNat kind else s)

/-- `FAULT_CONFIRM` (07 R190, R191): acts when the filter of that kind has just reached its count. -/
def execFaultConfirm (rail : U8) (kind : ConfirmKind) (s : State) : Host.Outcome State Fault Refusal :=
  .next (if rail.toNat < 192 ∧ kind.isFault ∧ (s.rail rail.toNat).due.contains kind then s.faultConfirmed rail.toNat kind else s)

/-- `BUS_LOST` (07 R183): three consecutive polls of an enabled rail have failed. -/
def execBusLost (rail : U8) (s : State) : Host.Outcome State Fault Refusal :=
  .next (if rail.toNat < 192 ∧ (s.rail rail.toNat).due.contains .busLost then s.faultConfirmed rail.toNat .busLost else s)

/-- Every pin of a scope reads low (07 R206). -/
def State.scopeLow (s : State) (scope : Nat) : Bool :=
  let nets := s.scopeNets scope
  (List.range 103).all fun k => !nets.getLsbD k || !s.netHigh k

/-- The first tick in which every pin in scope reads low after an immediate-off: trace point 4 (07 R192, R206). -/
def State.offTick (s : State) : State :=
  (s.sage.offs.filter fun o => !o.low && s.scopeLow o.scope).foldl (fun s o =>
    (s.onSage fun g => { g with offs := g.offs.map fun x => if x = o then { x with low := true } else x }).traced 4 o.scope (1000 * (s.gt - o.gt))) s

/-- `IMMEDIATE_OFF_COMPLETE`: every pin in scope has been read low and every group command has ended: event 0x0105 (07 R206). -/
def execImmediateOffComplete (scope : U8) (s : State) : Host.Outcome State Fault Refusal :=
  .next (match s.sage.offs.find? (fun o => o.scope == scope.toNat) with
    | none => s
    | some o =>
      if o.low && s.sage.groups.all fun x => x.scope != o.scope then
        (s.onSage fun g => { g with offs := g.offs.filter fun x => x ≠ o }).event .sage 0x0105 0 o.scope (i1 o.scope ++ i4 (s.gt - o.gt))
      else s)

/-! Regulator buses: PMBus 0-7, I3C 0-3 as 8-11, AVSBus 0-7 as 12-19 -/

/-- The bus that writes a rail's setpoint: AVSBus where the map says so, else PMBus or I3C (07 R176, R184). -/
def RailMap.setBus (m : RailMap) : Option Nat := if m.avsSet then some (12 + m.avs % 8) else m.pmBus

/-- Record a bus device failure (07 R206). -/
def State.busFailure (s : State) (bus addr command : Nat) : State :=
  s.event .sage 0x0109 2 bus (i1 bus ++ i1 addr ++ i1 command)

/-- Issue a write on a bus: it waits in order of issue; an AVSBus write starts at once when none is in progress (07 R505). -/
def State.busWrite (s : State) (bus : Nat) (w : BusWrite) : State :=
  s.onSage fun g => { g with buses := modAt g.buses bus fun q =>
    q ++ [if 12 ≤ bus ∧ q = [] then { w with started := some s.gt } else w] }

/-- A waiting or running setpoint write at the bounds of a limit block (01 R20, 07 R198). -/
def BusWrite.clamped (w : BusWrite) (l : LimitBlock) : BusWrite :=
  match w.kind with
  | .setpoint mv => { w with kind := .setpoint (min mv (nth l.rails w.rail).vsetMax) }
  | _ => w

/-- The caps at the bounds of a limit block (01 R20, 08 R212). -/
def OpState.capped (o : OpState) (l : LimitBlock) : OpState :=
  { o with
    trayCapW := min o.trayCapW l.trayCapMaxW
    feedCapA := o.feedCapA.mapIdx fun x a => min a (nth (nth l.feeds x).envelope 7).iA
    budget := o.budget.mapIdx fun b v => min v (nth l.budgetMax b) }

/-- Issue a setpoint write of a rail at its clamp (07 R198). -/
def State.writeSetpoint (s : State) (c mv : Nat) (bus : Option Nat) (owner : WriteOwner) : State :=
  match bus with
  | some b => s.busWrite b { rail := c, kind := .setpoint (min mv (s.railLimit c).vsetMax), owner := owner }
  | none => s

/-- Take the head write of a bus off it; the next AVSBus write starts. -/
def State.busPop (s : State) (bus : Nat) : State :=
  s.onSage fun g => { g with buses := modAt g.buses bus fun q =>
    match q with
    | [] => []
    | _ :: [] => []
    | _ :: w :: rest => (if 12 ≤ bus then { w with started := some s.gt } else w) :: rest }

/-- The PMBus command that a write carries. -/
def BusWriteKind.command : BusWriteKind → Nat
  | .operation _ => 0x01
  | .setpoint _ => 0x21
  | .clearFaults => 0x03

/-- A poll of a rail that failed: the third in a row is BUS_LOST while the enable is on, else event 0x0109 (07 R183). -/
def State.pollFailed (s : State) (bus c : Nat) (command : Nat) : State :=
  let r := s.rail c
  if r.pollFails + 1 < 3 then s.onRail c fun r => { r with pollFails := r.pollFails + 1 }
  else
    let s := s.onRail c fun r => { r with pollFails := 0 }
    if r.granted then s.onRail c fun r => { r with due := r.due ++ [.busLost] }
    else s.busFailure bus r.map.addr command

/-- What a poll of a rail reads: VOUT_MODE once at start-up, then STATUS_WORD, READ_VOUT and READ_IOUT in turn (07 R181, R182). -/
inductive PollValue where
  | mode | status | vout | iout
  deriving DecidableEq, Repr, Inhabited

/-- The PMBus command of a polled value. -/
def PollValue.command : PollValue → Nat
  | .mode => 0x20 | .status => 0x79 | .vout => 0x8B | .iout => 0x8C

/-- The place of a value in a rail's cycle. -/
def PollValue.place : PollValue → Nat
  | .mode => 0 | .status => 1 | .vout => 2 | .iout => 3

/-- The values polled from a rail, in order; the start-up read comes first and alone (07 R181, R182; log entry 57). -/
def Rail.polled (r : Rail) : List PollValue :=
  if r.voutMode.isNone then [.mode]
  else [.status] ++ (if r.map.vSrc = 255 then [.vout] else []) ++ (if r.map.iSrc = 254 then [.iout] else [])

/-- The values that a bus cycles through: its rails in channel order (07 R182). -/
def State.pollCycle (s : State) (bus : Nat) : List (Nat × PollValue) :=
  ((indices 192 fun c => (s.rail c).used && (s.rail c).map.pmBus == some bus).map fun c => (s.rail c).polled.map fun v => (c, v)).flatten

/-- The place after a value in the cycle of its bus. -/
def pollAfter (x : Nat × PollValue) : Nat := 4 * x.1 + x.2.place + 1

/-- The next value of a bus's cycle: the first beyond the last one polled, else the first of all (07 R182). -/
def State.pollNext (s : State) (bus : Nat) : Option (Nat × PollValue) :=
  let l := s.pollCycle bus
  match l.find? fun x => decide (nth s.sage.polls bus < pollAfter x) with
  | some x => some x
  | none => l.head?

/-- A value polled from a rail: one sample of its filters (07 R181, R182, R189). -/
def State.polledValue (s : State) (bus c : Nat) (v : PollValue) (x : PollReply) : State :=
  let s := s.onRail c fun r => { r with pollFails := 0 }
  match v with
  | .mode =>
    let s := s.onRail c fun r => { r with voutMode := some (x.word.truncate 8) }
    if (s.rail c).wrongMode then s.busFailure bus (s.rail c).map.addr 0x20 else s
  | .vout => if (s.rail c).linear16 then s.sampleRail c (fun r => r.volt (linear16Mv r.voutExp x.word)) else s
  | .iout => s.sampleRail c (fun r => r.curr (linear11Da x.word))
  | .status =>
    let s := if (s.rail c).map.pgSrc = 255 then s.onRail c (fun r => r.pgSample x.pg) else s
    let r := s.rail c
    let ks := dueIf x.ov .ovFault ++ dueIf (x.uv && r.uvArmed) .uvFault ++ dueIf x.oc .ocFault
    let s := s.onRail c fun r => { r with due := r.due ++ ks.filter fun k => !r.due.contains k }
    let w : BusWrite := { rail := c, kind := .clearFaults, owner := .sage }
    if ks = [] || (nth s.sage.buses bus).contains w then s else s.busWrite bus w

/-- One poll of a bus: the next value of its cycle, or its failure: no answer, a refusal or a bad PEC (07 R181-R183). -/
def State.pollOnce (s : State) (bus : Nat) (x : Option PollReply) : State :=
  match s.pollNext bus with
  | none => s
  | some (c, v) =>
    let s := s.onSage fun g => { g with polls := g.polls.set bus (pollAfter (c, v)) }
    match x with
    | none => s.pollFailed bus c v.command
    | some x => s.polledValue bus c v x

/-- A waiting write may start: CLEAR_FAULTS only after its rail is off (07 R189). -/
def State.mayBegin (s : State) (w : BusWrite) : Bool := w.kind != .clearFaults || !(s.rail w.rail).granted

/-! Margins (07 R200, R201) -/

/-- A running program owns a rail: it lies in the program's permitted set (01 R31, 06 R150). -/
def State.owned (s : State) (c : Nat) : Bool :=
  (List.range 9).any fun k =>
    match (s.ctx k).prog with
    | some p => (nth s.sage.limits.permit p).getLsbD c
    | none => false

/-- The margined setpoint (07 R200). -/
def marginMv (nominal : Nat) (steps : Int) : Nat := ((nominal : Int) * (400 + steps) + 200).toNat / 400

/-- Every margined rail returns to nominal (07 R201, 02 R61). -/
def State.restoreMargins (s : State) : State :=
  (indices 192 fun c => (s.rail c).margin != 0).foldl (fun s c =>
    let r := s.rail c
    (s.onRail c fun r => { r with margin := 0 }).writeSetpoint c (r.nominal.getD 0) r.map.setBus .margin) s

/-- A write of the restoration still waits (07 R201). -/
def State.marginWaits (s : State) : Bool := s.sage.buses.any fun q => q.any fun w => w.owner == .margin

/-- Every margin ends without a write: a power-down program's first tick (07 R201). -/
def State.dropMargins (s : State) : State :=
  s.onSage fun g => { g with rails := g.rails.map fun r => ({ r with margin := 0 } : Rail) }

/-- The setpoint that a device answers, in mV: an AVSBus read carries mV; VOUT_COMMAND is LINEAR16 with the exponent of the start-up read, without which it has no value (07 R200; log entry 57). -/
def Rail.setpointRead (r : Rail) (w : U16) : Option Nat :=
  if r.map.avsSet then some w.toNat
  else if r.linear16 then some (linear16Mv r.voutExp w) else none

/-- `MARGIN_SET` (07 R200). `device` is what the device answers when the nominal setpoint has to be read from it. -/
def bodyMarginSet (channel : U8) (steps : U8) (device : Option U16) (c : Ctx) (s : State) : Answer :=
  let ch := channel.toNat
  let n : Int := steps.toInt
  let r := s.rail ch
  let nominal := match r.nominal with
    | some v => some v
    | none => device.bind r.setpointRead
  check [(decide (192 ≤ ch) || decide (n < -20) || decide (20 < n), .badArg),
    (s.thyme.reported != .maintenance || !r.used || r.map.setBus.isNone || s.owned ch || nominal.isNone, .stateConflict),
    (decide ((s.railLimit ch).marginSpan < n.natAbs), .limitExceeded)] s fun _ =>
      let v := nominal.getD 0
      let out := marginMv v n
      check [(decide ((s.railLimit ch).vsetMax < out), .limitExceeded)] s fun _ =>
        let s := s.onRail ch fun r => { r.bump s.gt [3] with nominal := some v, margin := n }
        let s := s.writeSetpoint ch out r.map.setBus .margin
        let s := s.event .sage 0x0106 0 ch (i1 ch ++ i1s n ++ i1 c.port)
        okay (i2 v ++ i2 out) (s.mirrored .grants)

/-! Readback (07 R203) -/

/-- The rail that a RAIL_EN index switches. -/
def State.railOfIndex (s : State) (k : Nat) : Option Nat :=
  (List.range 192).find? fun c => (s.rail c).map.ctrl == 1 && (s.rail c).map.en == k

/-- A net takes part in the readback: those that R488 pulls permanently do not (07 R203, 18 R488). -/
def State.netUsed (s : State) (k : Nat) : Bool :=
  if k < 64 then (s.railOfIndex k).isSome
  else if k < 76 then
    let b := k - 64
    b != 9 && (s.sage.rails.any (fun r => r.used && r.map.branch == b) || s.sage.limits.permit.any fun p => p.getLsbD (192 + b))
  else if k < 92 then nth s.thyme.set.accUp ((k - 76) % 8) != 255
  else decide (k < 97)

/-- Record a readback disagreement or its end (07 R206). -/
def State.readbackEvent (s : State) (k sev : Nat) (own level : Bool) : State :=
  (s.event .sage 0x010B sev k (i2 k ++ ib own ++ ib level)).traced 7 k (flag own + 2 * flag level)

/-- `READBACK_DISAGREEMENT`: a net has differed from the own drive for 16 ticks (07 R203). -/
def execReadbackDisagreement (net : U8) (level : Bool) (s : State) : Host.Outcome State Fault Refusal :=
  let k := net.toNat
  let own := !(s.pulls.getLsbD k)
  .next (if s.netUsed k && own != level && !(s.sage.disagreements.any fun d => d.net == k) then
    let s := s.onSage fun g => { g with disagreements := g.disagreements ++ [{ net := k, level := level }] }
    if own then
      let s := s.readbackEvent k (if s.pair.alive then 1 else 2) own level
      if s.pair.role = .standby ∧ s.pair.mstate = .detached ∧ s.pair.alive then s.netOff k else s
    else
      let s :=
        if k < 64 then
          match s.railOfIndex k with
          | some c => match (s.rail c).faultScope with
            | some n => s.immediateOff n 203 .fault
            | none => s
          | none => s
        else if k < 76 ∨ (93 ≤ k ∧ k < 97) then s.immediateOff 15 203 .fault
        else s
      s.readbackEvent k 3 own level
  else s)

/-- `READBACK_AGREEMENT`: a reported disagreement ends, with an S0 record (07 R203). -/
def execReadbackAgreement (net : U8) (s : State) : Host.Outcome State Fault Refusal :=
  let k := net.toNat
  .next (match s.sage.disagreements.find? (fun d => d.net == k) with
    | none => s
    | some d =>
      let s := s.onSage fun g => { g with disagreements := g.disagreements.filter fun x => x ≠ d }
      let own := !(s.pulls.getLsbD k)
      s.readbackEvent k 0 own own)

/-! The limit block as bytes (07 R195) -/

/-- A curve as bytes: `i_a` (2), RSVD (2), `t_us` (4) per point (05 Breaker curve point). -/
def curveBytes (l : List CurvePoint) : List Byte := fit 64 (l.map fun p => i2 p.iA ++ i2 0 ++ i4 p.tUs).flatten

/-- A feed section (07 Feed section). -/
def FeedLimits.bytes (f : FeedLimits) : List Byte :=
  curveBytes f.envelope ++ i2 f.cmpCeil ++ i2 0 ++ i4 f.soaPowerCeil ++ i2 f.soaEnergyCeil ++ i2 f.inrushMaxCeil ++ zeros 20

/-- A rail limit entry (07 Rail limit entry). -/
def RailLimit.bytes (r : RailLimit) : List Byte :=
  i2 r.vsetMax ++ i1 r.marginSpan ++ i1 r.filtMax ++ i2 r.ovFaultMax ++ i2 r.uvFaultMin ++ i4 r.ocFaultMax ++ zeros 4

/-- The limit block (07 R195). -/
def LimitBlock.bytes (l : LimitBlock) : List Byte :=
  i4 l.magic ++ i2 l.fmt ++ i2 0 ++ i1 l.fastestP ++ i1 l.peFastestP ++ i2 l.minOffFloorMs ++ i4 l.trayCapMaxW
    ++ (l.budgetMax.map i4).flatten ++ (l.fanFloor.map i1).flatten ++ (l.pumpFloor.map i1).flatten ++ i1 l.peFfMax ++ zeros 11
    ++ (l.feeds.map FeedLimits.bytes).flatten ++ zeros 224 ++ (l.permit.map fun p => leBytes 32 p.toNat).flatten
    ++ (l.rails.map RailLimit.bytes).flatten

/-! Rail commands (07 R204) -/

/-- A channel range is inside the command's limits (07 R204). -/
def badRange (first count limit : Nat) : Bool := count == 0 || decide (limit < count) || decide (192 < first + count)

/-- The channels of a range. -/
def channels (first count : Nat) : List Nat := (List.range count).map (· + first)

/-- The status entry of a rail (07 Status entry). -/
def State.railStatus (s : State) (c : Nat) : List Byte :=
  let r := s.rail c
  if !r.used then zeros 16
  else
    let high := if r.map.ctrl = 1 then s.netHigh r.map.en else r.granted
    let flags := flag r.granted + 2 * flag high + 4 * flag r.pg + 8 * flag r.uvArmed + 16 * flag r.running + 32 * flag (r.warnHeld != [])
    i1 flags ++ i1s r.margin ++ i2 r.vMv ++ i4s r.iDa ++ i2 (r.nominal.getD 0) ++ i2 r.outMv ++ i1 r.last.code ++ zeros 3

/-- `RAIL_STATUS` (07 R204). -/
def bodyRailStatus (first : U8) (count : U8) (_c : Ctx) (s : State) : Answer :=
  check [(badRange first.toNat count.toNat 64, .badArg)] s fun _ =>
    okay ((channels first.toNat count.toNat).map s.railStatus).flatten s

/-- A level entry is valid (07 R186). -/
def RailLevels.valid (l : RailLevels) : Bool :=
  decide (l.dis < l.uvFault) && decide (l.uvFault < l.uvWarn) && decide (l.uvWarn < l.ovWarn) && decide (l.ovWarn < l.ovFault)
    && decide (l.ocWarn < l.ocFault) && [l.uvN, l.ovN, l.ocN, l.ocwN, l.pgN].all fun n => decide (1 ≤ n ∧ n ≤ 255)

/-- A level entry lies within the limit block (07 R186). -/
def RailLevels.within (l : RailLevels) (m : RailLimit) : Bool :=
  decide (l.ovFault ≤ m.ovFaultMax) && decide (m.uvFaultMin ≤ l.uvFault) && decide (l.ocFault ≤ m.ocFaultMax)
    && [l.uvN, l.ovN, l.ocN, l.pgN].all fun n => decide (n ≤ m.filtMax)

/-- A count that has reached a changed filter length makes the filter confirm at its next sample (07 R187). -/
def Rail.rearms (r : Rail) (k : ConfirmKind) (old new c : Nat) : List ConfirmKind :=
  if new ≤ c ∧ (old ≠ new ∨ r.rearmed.contains k) then [k] else []

/-- A rail under a new level entry: counts kept (07 R187). -/
def Rail.relevel (r : Rail) (l : RailLevels) : Rail :=
  { r with lev := l
           rearmed := r.rearms .uvFault r.lev.uvN l.uvN r.uvF ++ r.rearms .uvWarn r.lev.uvWarnN l.uvWarnN r.uvW
             ++ r.rearms .ovFault r.lev.ovN l.ovN r.ovF ++ r.rearms .ovWarn r.lev.ovN l.ovN r.ovW
             ++ r.rearms .ocFault r.lev.ocN l.ocN r.ocF ++ r.rearms .ocWarn r.lev.ocwN l.ocwN r.ocW
             ++ r.rearms .pgLoss r.lev.pgN l.pgN r.pgF }

/-- `RAIL_LEVELS_SET` (07 R186, R204): all entries or none. -/
def bodyRailLevelsSet (first : U8) (count : U8) (levels : List RailLevels) (c : Ctx) (s : State) : Answer :=
  let cs := (channels first.toNat count.toNat).zip levels
  let used := cs.filter fun p => (s.rail p.1).used
  check [(badRange first.toNat count.toNat 32 || levels.length != count.toNat, .badArg),
    (used.any fun p => !p.2.valid, .badArg),
    (used.any fun p => !p.2.within (s.railLimit p.1), .limitExceeded)] s fun _ =>
      let s := used.foldl (fun s p => s.onRail p.1 fun r => r.relevel p.2) s
      let s := s.event .sage 0x0108 0 c.port (i1 c.port ++ i1 first.toNat ++ i1 (first.toNat + count.toNat - 1))
      okay [] s

/-- `RAIL_COUNTERS_READ` (07 R204). -/
def bodyRailCountersRead (first : U8) (count : U8) (_c : Ctx) (s : State) : Answer :=
  check [(badRange first.toNat count.toNat 64, .badArg)] s fun _ =>
    okay ((channels first.toNat count.toNat).map fun c =>
      let r := s.rail c
      if r.used then i4 r.cWarn ++ i4 r.cFault ++ i4 r.cOc ++ i4 r.cMargin ++ i4 r.cPg else zeros 20).flatten s

/-- A rail with its counters cleared; the increments of the clear's tick are applied after it (07 R199). -/
def Rail.zeroed (r : Rail) (gt : Nat) : Rail :=
  let n := fun k => if r.incGt = gt then r.incs.count k else 0
  { r with cWarn := n 0, cFault := n 1, cOc := n 2, cMargin := n 3, cPg := n 4 }

/-- `RAIL_COUNTERS_CLEAR` (07 R199). -/
def bodyRailCountersClear (first : U8) (count : U8) (c : Ctx) (s : State) : Answer :=
  check [(badRange first.toNat count.toNat 192, .badArg)] s fun _ =>
    let s := (channels first.toNat count.toNat).foldl (fun s ch => s.onRail ch fun r => r.zeroed s.gt) s
    okay [] (s.event .sage 0x0107 0 c.port (i1 c.port ++ i1 first.toNat ++ i1 (first.toNat + count.toNat - 1)))

/-- `LIMITS_READ` (07 R205). -/
def bodyLimitsRead (offset : U32) (length : U16) (c : Ctx) (s : State) : Answer :=
  let o := offset.toNat
  let n := length.toNat
  check [(decide (4608 < o + n), .badArg)] s fun _ =>
    let b := s.sage.limits.bytes
    okay (ib s.sage.locked ++ ib s.sage.lockWarm ++ i2 0 ++ digestBytes (Config.sha384 b) ++ (b.drop o).take (min n (c.se.largest - 52))) s

/-- A rail map entry as stored (07 Rail map entry). -/
def RailMap.bytes (m : RailMap) : List Byte :=
  i1 m.ctrl ++ i1 (m.branch + 16 * flag m.trayRail + 32 * flag m.avsSet) ++ i1 m.en ++ i1 m.addr ++ i1 m.page ++ i1 m.avs
    ++ i1 m.vSrc ++ i1 m.iSrc ++ i1 m.pgSrc ++ i1 0 ++ i2 m.vFsMv ++ i2 m.iFsDa ++ i2 m.iZero

/-- `RAIL_MAP_READ` (07 R204). -/
def bodyRailMapRead (first : U8) (count : U8) (_c : Ctx) (s : State) : Answer :=
  check [(badRange first.toNat count.toNat 64, .badArg)] s fun _ =>
    okay ((channels first.toNat count.toNat).map fun c => (s.rail c).map.bytes).flatten s

end Sys2Proof.Machine
end

