-- ==== Sys2Proof/Machine/Feeds.lean ====
section
/-! DEFINITION. The input feeds: samples, inrush, the breaker curve, trips and their records, current sharing, and the feed commands (05). -/

namespace Sys2Proof.Machine

open Sys2Proof

/-- A feed. -/
def State.feedAt (s : State) (x : Nat) : Feed := nth s.feed.feeds x
/-- Change a feed. -/
def State.onFeed (s : State) (x : Nat) (f : Feed → Feed) : State := { s with feed := { s.feed with feeds := modAt s.feed.feeds x f } }
/-- Change the feed controller. -/
def State.onFeeds (s : State) (f : FeedState → FeedState) : State := { s with feed := f s.feed }
/-- The other feed. -/
def otherFeed (x : Nat) : Nat := if x = 0 then 1 else 0

/-- The state that a feed reports: the first of the table of R113 that applies. -/
def Feed.reported (f : Feed) : FeedPhase :=
  match f.phase with
  | .lockout => .lockout
  | p => if f.forced then .forcedOff else p

/-- Codes of the feed states (05 R113). -/
def FeedPhase.code : FeedPhase → Nat
  | .off => 0 | .inrush => 1 | .on => 2 | .backoff => 3 | .lockout => 4 | .lost => 5 | .forcedOff => 6

/-- The feed is in INRUSH or ON. -/
def Feed.live (f : Feed) : Bool := f.phase == .inrush || f.phase == .on

/-- A trip acts on a feed in INRUSH or ON, and in the tick in which the end of a tray power-down program opened it (05 R139). -/
def Feed.mayTrip (f : Feed) (gt : Nat) : Bool := f.live || (f.phase == .off && f.endGt == some gt)

/-- The comparator's threshold as a level at FEED_x_CMP, mV (05 R504). -/
def Feed.cmpLevel (f : Feed) : Nat := f.breaker.cmpA * f.cfg.cmpUvPerA / 1000

/-- The level at FEED_x_CMP lies above the threshold (05 R120). -/
def Feed.crossed (f : Feed) : Bool := decide (f.cmpLevel < f.cmpMv)

/-- The governor drives FEED_x_SHARE, AVS_CLK and AVS_MDATA: as OWNER, outside a power-on and a warm reset; otherwise they are high impedance (18 R475). -/
def State.ownerDrives (s : State) : Bool := s.isOwner && s.sage.everLocked && !s.clk.coreInReset

/-- The duty of FEED_A_SHARE (x = 0) and FEED_B_SHARE, of 1,024, while they are driven (05 R130). -/
def State.shareDuty (s : State) (x : Nat) : Option Nat :=
  if s.ownerDrives then some (512 + (if x = 0 then s.feed.share else -s.feed.share)).toNat else none

/-- The number of feeds in ON. -/
def State.feedsOn (s : State) : Nat := countIf (fun (f : Feed) => f.phase == .on) s.feed.feeds

/-- The retries of the window: the last 600 s (05 R122). -/
def Feed.window (f : Feed) (gt : Nat) : List Nat := f.retries.filter fun t => decide (gt < t + secs 600)

/-! Samples -/

/-- Trip count of a curve point (05 R118). -/
def CurvePoint.n (p : CurvePoint) : Nat := (p.tUs * 10 + 31) / 32

/-- A curve is valid (05 R118). -/
def validCurve (l : List CurvePoint) : Bool :=
  l.length == 8 && l.all (fun p => decide (1 ≤ p.iA)) && decide (4 ≤ (nth l 0).tUs)
    && (List.range 7).all fun k => decide ((nth l (k + 1)).iA < (nth l k).iA ∧ (nth l k).tUs < (nth l (k + 1)).tUs)

/-- A curve lies within an envelope (05 R119). -/
def curveWithin (l env : List CurvePoint) : Bool :=
  (List.range 8).all fun k => decide ((nth l k).iA ≤ (nth env k).iA ∧ (nth l k).tUs ≤ (nth env k).tUs)

/-- The curve counters after a sample of `a` A (05 R118). -/
def Feed.heated (f : Feed) (a : Int) : List Nat :=
  f.breaker.curve.mapIdx fun k p => if (p.iA : Int) < a then nth f.c k + 1 else nth f.c k - 1

/-- The first curve point whose counter has reached its trip count (05 R118). -/
def Feed.curvePoint (f : Feed) : Option Nat :=
  (List.range 8).find? fun k => decide (k < f.breaker.curve.length) && decide ((nth f.breaker.curve k).n ≤ nth f.c k)

/-- What every sample updates: the readings, the loss and low-bus runs, and the peak (05 R127, R130, R133, R134). -/
def Feed.read (f : Feed) (gt vin vbus : Nat) (iDa : Int) : Feed :=
  let a := tdiv iDa 10
  { f with
    vinMv := vin, vbusMv := vbus, iDa := iDa
    iHist := (a :: f.iHist).take 1024
    iSum := f.iSum + a, iCount := f.iCount + 1
    lossRun := if !f.inputLost && (decide (vin < 44000) || decide (60000 < vin)) then min 16 (f.lossRun + 1) else 0
    inRangeSince := if 48000 ≤ vin ∧ vin ≤ 58000 then some (f.inRangeSince.getD gt) else none
    lowBusRun := if vbus < 40000 then min 4 (f.lowBusRun + 1) else 0 }

/-- What a sample in INRUSH or ON updates: the curve counters and the reverse run (05 R118, R132). -/
def Feed.heat (f : Feed) : Feed :=
  let a := tdiv f.iDa 10
  let f := { f with c := f.heated a, reverseRun := if a < -(f.cfg.reverseA : Int) then min 4 (f.reverseRun + 1) else 0 }
  match f.curvePoint with
  | some k => { f with due := f.due ||| 1#8, duePoint := k }
  | none => f

/-- What a sample in INRUSH updates (05 R116). -/
def Feed.inrushSample (f : Feed) : Feed :=
  let drop : Int := (f.vinMv : Int) - f.vbusMv
  let pW := tdiv (drop * tdiv f.iDa 10) 1000  -- truncated toward zero, for a negative product too (DEDUCED, log entry 51)
  let overN := if (f.cfg.soaPowerW : Int) < pW then min 255 (f.overRun + 1) else 0
  let eQ := f.eQ + pW * 32
  { f with
    overRun := overN, eQ := eQ
    smallDrop := if drop ≤ 500 then min 4 (f.smallDrop + 1) else 0
    due := f.due ||| (if f.cfg.soaCount ≤ overN then 4#8 else 0) ||| (if (f.cfg.soaEnergyJ : Int) * 10000000 ≤ eQ then 8#8 else 0) }

/-- A feed after a sample. -/
def Feed.sample (f : Feed) (gt vin vbus : Nat) (iDa : Int) : Feed :=
  let f := f.read gt vin vbus iDa
  let f := if f.live then f.heat else f
  if f.phase = .inrush then f.inrushSample else f

/-- `FEED_SAMPLE`: the three monitor channels of a feed are converted (05 R116, R118, R504, 07 R178). -/
def execFeedSample (feed : U8) (vin vbus i : BitVec 12) (s : State) : Host.Outcome State Fault Refusal :=
  let x := feed.toNat
  .next (if x < 2 ∧ s.sage.everLocked ∧ !s.sage.adcFailed.getLsbD x then
    s.onFeed x fun f => f.sample s.gt (voltOf vin.toNat f.cfg.vinFsMv) (voltOf vbus.toNat f.cfg.vbusFsMv) (currOf i.toNat f.cfg.iZero f.cfg.iFsDa)
  else s)

/-! Switching on and off -/

/-- When a feed leaves ON the share code is zero (05 R130). -/
def FeedState.shareOff (c : FeedState) : FeedState :=
  { c with share := 0, imbalanceSince := none, limitSince := none, imbalanceSaid := false, limitSaid := false }

/-- A feed opens normally through FEED_x_ON. -/
def Feed.opened (f : Feed) (p : FeedPhase) : Feed :=
  { f with phase := p, onReleased := false, due := 0, duePoint := 255, reverseRun := 0, smallDrop := 0, overRun := 0 }

/-- A feed in OFF enters INRUSH; after a trip this is a retry (05 R114, R116, R118, R122). -/
def State.enterInrush (s : State) (x : Nat) : State :=
  let f := s.feedAt x
  if f.reported ≠ .off ∨ f.forceGt = some s.gt then s
  else
    let retries := if f.retryNext then f.window s.gt ++ [s.gt] else f.retries
    let s := s.onFeed x fun f => { f with
      phase := .inrush, onReleased := true, inrushGt := s.gt, c := List.replicate 8 0, overRun := 0, eQ := 0, smallDrop := 0
      due := 0, duePoint := 255, reverseRun := 0, retries := retries, retryNext := false }
    if f.retryNext then s.traced 50 x retries.length else s

/-- After a feed changes: with the demand set, feeds in OFF enter INRUSH; a deferred power-up starts in the tick after a
feed enters OFF and is cancelled when every feed is in LOCKOUT or FORCED_OFF (05 R114, R137). -/
def State.feedsSettle (s : State) : State :=
  let s := if s.feed.demand then (s.enterInrush 0).enterInrush 1 else s
  if s.thyme.deferredUp && s.serves then
    if s.feed.feeds.any fun f => f.reported == .off then
      s.onThyme fun t => { t with deferredUp := false, requests := t.requests ++ [(.trayOn, s.gt + 1)] }
    else if s.feed.feeds.all fun f => f.reported == .lockout || f.reported == .forcedOff then
      s.onThyme fun t => { t with deferredUp := false }
    else s
  else s

/-- The feed demand is set (05 R114). -/
def State.setDemand (s : State) : State :=
  ((s.onFeeds fun c => { c with demand := true }).feedsSettle).mirrored .tray

/-- The demand ends for a feed: INRUSH and ON open normally, and what is met in this tick still trips (05 R114, R139). -/
def Feed.released (f : Feed) (gt : Nat) : Feed :=
  if f.live then { f.opened .off with due := f.due, duePoint := f.duePoint, endGt := some gt } else f

/-- The feed demand is cleared: feeds in INRUSH or ON open normally (05 R114). -/
def State.clearDemand (s : State) : State :=
  (s.onFeeds fun c => { c.shareOff with demand := false, inputLoss := false, feeds := c.feeds.map fun f => f.released s.gt }).mirrored .tray

/-! Trips (05 R121-R127) -/

/-- Bytes 0-59 of a trip record (05 Trip record). -/
def TripRecord.body (r : TripRecord) : List Byte :=
  let st := match r.status with
    | .unresolved => 1 | .resolved => 2 | .lockout => 3 | .superseded => 4
  i4 r.magic.toNat ++ i4 r.recSeq ++ i1 r.feed ++ i1 r.cause.toNat ++ i1 st ++ i1 r.point ++ i2 r.boot ++ i2 r.backoffS ++ i8 r.gtTrip
    ++ i1 r.retries ++ zeros 3 ++ i4s r.peakA ++ i4 r.vinMv ++ i4 r.vbusMv ++ i8 r.gtResolved ++ zeros 12

/-- The record with its `crc` right. -/
def TripRecord.sealed (r : TripRecord) : TripRecord := { r with crc := crc32 r.body }

/-- The 64 bytes of a trip record. -/
def TripRecord.bytes (r : TripRecord) : List Byte := r.body ++ i4 r.crc.toNat

/-- Rewrite the records of the trip area that satisfy a test (05 R126-R128). -/
def FeedState.rewrite (c : FeedState) (p : TripRecord → Bool) (f : TripRecord → TripRecord) : FeedState :=
  { c with trips := c.trips.map fun o => o.map fun r => if p r then (f r).sealed else r }

/-- The records present, with their slots. -/
def FeedState.present (c : FeedState) : List (Nat × TripRecord) :=
  (List.range 64).filterMap fun k => (nth c.trips k).map fun r => (k, r)

/-- The record with the highest `rec_seq`, and its slot. -/
def FeedState.newest (c : FeedState) : Option (Nat × TripRecord) :=
  c.present.foldl (fun b p => match b with
    | none => some p
    | some q => if q.2.recSeq < p.2.recSeq then some p else some q) none

/-- Write a trip record: in the slot after the highest `rec_seq`, skipping UNRESOLVED and LOCKOUT; then the feed's previous
UNRESOLVED record is SUPERSEDED (05 R127). The first record of an empty area takes `rec_seq` 0 and slot 0 (DESIGN CHOICE, log entry 51). -/
def FeedState.writeTrip (c : FeedState) (r : TripRecord) : FeedState :=
  let (start, seq) := match c.newest with
    | some (k, q) => (k + 1, q.recSeq + 1)
    | none => (0, 0)
  let r := { r with recSeq := seq }.sealed
  let free := fun k => match nth c.trips k with
    | some q => q.status != .unresolved && q.status != .lockout
    | none => true
  match (List.range 64).find? fun d => free ((start + d) % 64) with
  | none => c
  | some d =>
    let c := c.rewrite (fun q => q.feed == r.feed && q.status == .unresolved) fun q => { q with status := .superseded }
    { c with trips := c.trips.set ((start + d) % 64) (some r) }

/-- The END of a tray power-down program is due in this tick, so that the demand is cleared in it (05 R114, R139). -/
def State.downEndDue (s : State) : Bool :=
  let c := s.ctx 0
  s.runKind 0 == 2 && !c.inStep && decide (c.stepTick ≤ s.gt) && c.ret.isNone && stepOp (s.word 0) == 12

/-- A trip of a feed with the causes of one sample (05 R121-R125, R127; the journal's failure stops the records, 11 R311). -/
def State.trip (s : State) (x : Nat) (cause : BitVec 8) (point : Nat) : State :=
  let f := s.feedAt x
  let n := (f.window s.gt).length
  let lock := decide (3 ≤ n)
  let peak := f.iHist.foldl max (f.iHist.headD 0)
  let s := s.onFeed x fun f => { f.opened (if lock then .lockout else .backoff) with
    fastOff := true, onReleased := f.onReleased && cause.getLsbD 1, endGt := none, backoffEnd := s.gt + secs f.breaker.backoffS
    retries := f.window s.gt, retryNext := true, trips := satAdd 32 f.trips 1 }
  let s := s.onFeeds fun c => { c.shareOff with onFalls := c.onFalls.set x (cause.getLsbD 1) }
  let r : TripRecord := { feed := x, cause := cause, status := if lock then .lockout else .unresolved, point := point, boot := s.sec.bootCount
                          backoffS := f.breaker.backoffS, gtTrip := s.gt, retries := n, peakA := peak, vinMv := f.vinMv, vbusMv := f.vbusMv }
  let s := if s.ledger.journal = .normal then s.onFeeds fun c => c.writeTrip r else s
  let s := { s with upd := { s.upd with lastBreaker := some s.gt } }
  let alone := s.feedsOn == 0 && s.feed.demand && !s.downEndDue
  let s := if alone then s.immediateOff 14 124 .fault else s
  let sev := if alone then 4 else 2
  let s := s.event .feed 0x0301 sev x []
  let s := if lock then s.event .feed 0x0304 sev x [] else s
  (s.traced 48 x (cause.toNat + 256 * point)).feedsSettle

/-- Trip a feed that is in INRUSH or ON with the causes met, one cause being due (05 R121). -/
def State.tripWith (s : State) (x : Nat) (cause : BitVec 8) : State :=
  let f := s.feedAt x
  s.trip x (f.due ||| cause) f.duePoint

/-- `SOA_TRIP` (05 R116): SOA power or energy has been met in a sample. -/
def execSoaTrip (feed : U8) (s : State) : Host.Outcome State Fault Refusal :=
  let f := s.feedAt feed.toNat
  .next (if feed.toNat < 2 ∧ f.mayTrip s.gt ∧ f.due &&& 12#8 ≠ 0 then s.tripWith feed.toNat 0 else s)

/-- `INRUSH_TIMEOUT` (05 R116): the longest inrush has passed without its end. -/
def execInrushTimeout (feed : U8) (s : State) : Host.Outcome State Fault Refusal :=
  let f := s.feedAt feed.toNat
  .next (if feed.toNat < 2 ∧ f.phase = .inrush ∧ f.smallDrop < 4 ∧ s.since f.inrushGt (ms f.cfg.inrushMaxMs) then s.tripWith feed.toNat 16 else s)

/-- `FEED_CURVE_TRIP` (05 R118): a curve counter has reached its trip count in a sample. -/
def execFeedCurveTrip (feed : U8) (s : State) : Host.Outcome State Fault Refusal :=
  let f := s.feedAt feed.toNat
  .next (if feed.toNat < 2 ∧ f.mayTrip s.gt ∧ f.due.getLsbD 0 then s.tripWith feed.toNat 0 else s)

/-- `FEED_COMPARATOR_TRIP` (05 R120, R504): FEED_x_CMP has stood at the level for as long as the blanking filter lasts. A level above
the threshold trips the feed while the comparator is armed; in the tick of another trip of the feed it joins that trip (05 R139). -/
def execFeedComparatorTrip (level : CmpLevel) (s : State) : Host.Outcome State Fault Refusal :=
  let x := level.feed.toNat
  let s := s.onFeed x fun f => { f with cmpMv := level.mv.toNat }
  let f := s.feedAt x
  .next (if 2 ≤ x ∨ !f.armed ∨ !f.crossed then s
    else if f.mayTrip s.gt then s.tripWith x 2
    else if f.phase = .backoff ∨ f.phase = .lockout then
      s.onFeeds fun c => c.rewrite (fun r => r.feed == x && r.gtTrip == s.gt && (r.status == .unresolved || r.status == .lockout))
        fun r => { r with cause := r.cause ||| 2#8 }
    else s)

/-- `INRUSH_END` (05 R116): four samples with a small drop. A trip that is due in the same sample comes first (DESIGN CHOICE, log entry 51). -/
def execInrushEnd (feed : U8) (s : State) : Host.Outcome State Fault Refusal :=
  let x := feed.toNat
  let f := s.feedAt x
  .next (if x < 2 ∧ f.phase = .inrush ∧ f.due = 0 ∧ 4 ≤ f.smallDrop then
    let s := s.onFeed x fun f => { f with phase := .on, cleanSince := s.gt, iSum := 0, iCount := 0 }
    let s := s.onFeeds fun c => { c with shareGt := s.gt, inputLoss := false, feeds := c.feeds.map fun g => ({ g with iSum := 0, iCount := 0 } : Feed) }
    s.traced 49 x (ofInt 64 f.eQ).toNat
  else s)

/-- `FEED_RETURN` (05 R132, R133): the input has stayed within 48-58 V for the return time. -/
def execFeedReturn (feed : U8) (s : State) : Host.Outcome State Fault Refusal :=
  let x := feed.toNat
  let f := s.feedAt x
  .next (match f.inRangeSince with
    | some t =>
      if x < 2 ∧ f.inputLost ∧ t + ms f.cfg.returnMs ≤ s.gt then
        let s := s.onFeed x fun f => { f with inputLost := false, lossRun := 0, phase := if f.phase = .lost then .off else f.phase,
                                              fastOff := if f.phase = .lost then false else f.fastOff }
        ((s.event .feed 0x0306 0 x []).traced 52 x f.vinMv).feedsSettle
      else s
    | none => s)

/-- `TRIP_RECORD_RESOLVED` (05 R128): 60 s in ON. -/
def execTripRecordResolved (feed : U8) (s : State) : Host.Outcome State Fault Refusal :=
  let x := feed.toNat
  let f := s.feedAt x
  let mine := fun (r : TripRecord) => r.feed == x && r.status == .unresolved
  .next (if x < 2 ∧ f.phase = .on ∧ s.since f.cleanSince (secs 60) ∧ s.feed.present.any fun p => mine p.2 then
    (s.onFeeds fun c => c.rewrite mine fun r => { r with status := .resolved, gtResolved := s.gt }).event .feed 0x0308 0 x []
  else s)

/-! Current sharing (05 R130, R131) -/

/-- The share of a feed in 0.1 %, 0 to 1,000. -/
def FeedState.sharePermille (c : FeedState) (x : Nat) : Nat :=
  let i := (nth c.feeds x).iDa
  let t := (nth c.feeds 0).iDa + (nth c.feeds 1).iDa
  if t ≤ 0 then 0 else min 1000 (tdiv (i * 1000) t).toNat

/-- Both feeds are in ON with at least 100 A together. -/
def FeedState.sharing (c : FeedState) : Bool :=
  c.feeds.all (fun f => f.phase == .on) && decide (100 ≤ tdiv (nth c.feeds 0).iDa 10 + tdiv (nth c.feeds 1).iDa 10)

/-- A feed carries between 45 % and 55 % of the total current (05 R131). -/
def FeedState.inBand (c : FeedState) (x : Nat) : Bool :=
  let i := (nth c.feeds x).iDa
  let t := (nth c.feeds 0).iDa + (nth c.feeds 1).iDa
  decide (0 < t ∧ 45 * t ≤ 100 * i ∧ 100 * i ≤ 55 * t)

/-- A share lies outside 45-55 % (05 R131). -/
def FeedState.unbalanced (c : FeedState) : Bool := [0, 1].any fun x => !c.inBand x

/-- Note how long a condition has held. -/
def heldSince (b : Bool) (t : Option Nat) (gt : Nat) : Option Nat := if b then some (t.getD gt) else none

/-- `SHARE_UPDATE` (05 R130): an interval of 100 µs ends. -/
def execShareUpdate (s : State) : Host.Outcome State Fault Refusal :=
  let c := s.feed
  .next (if s.since c.shareGt 100 then
    let mean := fun x => let f := nth c.feeds x; if f.iCount = 0 then tdiv f.iDa 10 else tdiv f.iSum f.iCount
    let sh := if c.sharing then max (-512) (min 511 (c.share + tdiv ((mean 0 - mean 1) * c.kShare) 256)) else c.share
    let out := c.sharing && c.unbalanced
    let lim := sh == 511 || sh == -512
    let far := decide (64 ≤ (sh - c.shareTraced).natAbs)
    let s := s.onFeeds fun c => { c with
      share := sh, shareGt := s.gt, feeds := c.feeds.map fun f => ({ f with iSum := 0, iCount := 0 } : Feed)
      imbalanceSince := heldSince out c.imbalanceSince s.gt, imbalanceSaid := c.imbalanceSaid && out
      limitSince := heldSince lim c.limitSince s.gt, limitSaid := c.limitSaid && lim
      shareTraced := if far then sh else c.shareTraced }
    if far then s.traced 53 0 (ofInt 64 sh).toNat else s
  else s)

/-- A condition has lasted 1 s. -/
def State.lasted (s : State) (t : Option Nat) : Bool :=
  match t with
  | some t => s.since t (secs 1)
  | none => false

/-- `SHARE_IMBALANCE` (05 R131): kind 0 a share outside 45-55 % for 1 s, kind 1 the share code at its limit for 1 s. -/
def execShareImbalance (kind : U8) (s : State) : Host.Outcome State Fault Refusal :=
  .next (if kind = 0 ∧ s.lasted s.feed.imbalanceSince ∧ !s.feed.imbalanceSaid then
      (s.onFeeds fun c => { c with imbalanceSaid := true }).event .feed 0x0309 1 0 []
    else if kind = 1 ∧ s.lasted s.feed.limitSince ∧ !s.feed.limitSaid then
      (s.onFeeds fun c => { c with limitSaid := true }).event .feed 0x0309 2 0 []
    else s)

/-! Commands (05 R140, R141) -/

/-- The feed entry of `FEED_STATUS`. -/
def State.feedEntry (s : State) (x : Nat) : List Byte :=
  let f := s.feedAt x
  let unresolved := s.feed.present.any fun p => p.2.feed == x && p.2.status == .unresolved
  let sh := s.feed.sharePermille x
  let flags := flag unresolved + 2 * flag (s.feed.inBand x) + 4 * flag (!f.inputLost)
  let back := if f.reported = .backoff then (f.backoffEnd - s.gt + 999) / 1000 else 0
  let clean := if f.phase = .on then min 60000 ((s.gt - f.cleanSince) / 1000) else 0
  i1 f.reported.code ++ i1 flags ++ i2 sh ++ i4 f.vinMv ++ i4 f.vbusMv ++ i4s (f.iDa * 100) ++ i4 back
    ++ i1 (f.window s.gt).length ++ zeros 3 ++ i4 f.trips ++ i4 clean

/-- `FEED_STATUS` (05 R140). -/
def bodyFeedStatus (_c : Ctx) (s : State) : Answer :=
  let left := match s.thyme.minOffEnd with
    | some t => (t - s.gt + 999) / 1000
    | none => 0
  okay (s.feedEntry 0 ++ s.feedEntry 1 ++ i4 left ++ i4 0) s

/-- The feed opens into FORCED_OFF (05 R113, R141). -/
def Feed.force (f : Feed) : Feed := { (if f.live then f.opened .off else f) with forced := true, forceDue := false }

/-- `FEED_SWITCH` with action FORCE_OFF: a feed in INRUSH opens at the next CLK_TICK (05 R139-R141). -/
def bodyFeedSwitchForceOff (feed : U8) (_c : Ctx) (s : State) : Answer :=
  let x := feed.toNat
  let tray := s.thyme.reported
  let busy := tray == .poweringUp || tray == .on || tray == .maintenance || tray == .poweringDown
  check [(decide (2 ≤ x), .badArg),
    ((s.feedAt (otherFeed x)).phase != .on && busy, .stateConflict)] s fun _ =>
      let s := s.onFeed x fun f => { (if f.phase = .inrush then { f with forceDue := true } else f.force) with forceGt := some s.gt }
      let s := if (s.feedAt x).forceDue then s else s.onFeeds FeedState.shareOff
      okay [] (s.feedsSettle.mirrored .tray)

/-- `FEED_SWITCH` with action AUTO (05 R141, 07 R203): a FORCE_OFF of the same tick wins (01 R29), and what it leaves may be an input loss (05 R134). -/
def State.feedAuto (s : State) (x : Nat) : State :=
  if (s.feedAt x).forceGt = some s.gt then s else s.onFeed x fun f => { f with forced := false, forceDue := false }

/-- The FORCE_OFF that waited takes effect, and the comparators are armed by the state of their feeds (05 R120, R139). -/
def Feed.ticked (f : Feed) (cmpMv : Nat) : Feed :=
  let f := if f.forceDue then f.force else f
  { f with armed := f.live, cmpMv := cmpMv }

/-- `BREAKER_CURVE_WRITE` (05 R119, R139-R141). -/
def bodyBreakerCurveWrite (feed : U8) (backoff cmp : U16) (curve : List CurvePoint) (_c : Ctx) (s : State) : Answer :=
  let x := feed.toNat
  let lim := nth s.sage.limits.feeds x
  check [(decide (2 ≤ x) || !validCurve curve || backoff == 0 || decide (600 < backoff.toNat), .badArg),
    (!curveWithin curve lim.envelope || decide (lim.cmpCeil < cmp.toNat), .limitExceeded)] s fun _ =>
      let b : BreakerSettings := { curve := curve, backoffS := backoff.toNat, cmpA := cmp.toNat }
      let s := s.onFeed x fun f => { f with breaker := b }
      let s := (s.onFeeds fun c => { c with stored := c.stored.set x (some b) }).saveSettings
      okay [] (s.event .feed 0x030C 0 x [])

/-- `BREAKER_CURVE_READ` (05 R140). -/
def bodyBreakerCurveRead (feed : U8) (_c : Ctx) (s : State) : Answer :=
  check [(decide (2 ≤ feed.toNat), .badArg)] s fun _ =>
    let b := (s.feedAt feed.toNat).breaker
    let lim := nth s.sage.limits.feeds feed.toNat
    okay (i1 0 ++ i2 b.backoffS ++ i2 b.cmpA ++ i2 0 ++ curveBytes b.curve ++ i1 0 ++ curveBytes lim.envelope ++ i2 lim.cmpCeil ++ i2 0) s

/-- `FEED_LOCKOUT_CLEAR` (05 R126, R141). -/
def bodyFeedLockoutClear (feed : U8) (_c : Ctx) (s : State) : Answer :=
  let x := feed.toNat
  check [(decide (2 ≤ x), .badArg), ((s.feedAt x).phase != .lockout, .stateConflict)] s fun _ =>
    let b := (s.feedAt x).breaker.backoffS
    let s := s.onFeed x fun f => { f with phase := .backoff, retries := [], backoffEnd := s.gt + secs b }
    let s := s.onFeeds fun c => c.rewrite (fun r => r.feed == x && r.status == .lockout)
      fun r => { r with status := .unresolved, retries := 0, backoffS := b }
    okay [] ((s.event .feed 0x030D 0 x []).feedsSettle)

/-- Insert by rising `rec_seq`. -/
def insertTrip (r : TripRecord) : List TripRecord → List TripRecord
  | [] => [r]
  | q :: qs => if r.recSeq < q.recSeq then r :: q :: qs else q :: insertTrip r qs

/-- `TRIP_RECORDS_READ` (05 R140). -/
def bodyTripRecordsRead (first : U32) (count : U8) (_c : Ctx) (s : State) : Answer :=
  check [(count == 0 || decide (15 < count.toNat), .badArg)] s fun _ =>
    let rs := (s.feed.present.map Prod.snd).foldr insertTrip []
    okay (((rs.filter fun r => decide (first.toNat ≤ r.recSeq)).take count.toNat).map TripRecord.bytes).flatten s

end Sys2Proof.Machine
end

