-- ==== Sys2Proof/Machine/Programs.lean ====
section
/-! DEFINITION. Program sets: the staged image, the step fields and the checks of the loader and of SEQ_PROGRAM_LOAD (06 R144-R148, R158, R171). -/

namespace Sys2Proof.Machine

open Sys2Proof

/-- A step's `idx`, `sel`, `prog`, `code`, `mark` or `tgt` byte: bits [55:48]. -/
def stepIdx (w : Nat) : Nat := bits w 55 48
/-- `cnt` of ENABLE and VSET. -/
def stepCnt (w : Nat) : Nat := bits w 47 44
/-- `tgt` of a condition step. -/
def stepTgt (w : Nat) : Nat := bits w 35 24
/-- `tmo`, `stagger`: bits [23:0]. -/
def stepTmo (w : Nat) : Nat := bits w 23 0
/-- The relative bit. -/
def stepRel (w : Nat) : Bool := bit w 59
/-- `val` of ENABLE and PG, `neg` of a condition step. -/
def stepVal (w : Nat) : Bool := bit w 58
/-- `tj` of a condition step. -/
def stepTj (w : Nat) : Bool := bit w 57

/-- An operand, resolved for an instance (06 R148). -/
def resolve (w base inst mul : Nat) : Nat := if stepRel w then base + inst * mul else base

/-- The selectors that take no operand (06 R152). -/
def bareSelector (sel : Nat) : Bool := [0, 4, 5, 6, 0x0C, 0x0D].contains sel

/-- The operands of a condition step, resolved (06 R148, R152). -/
def condOperands (w inst stride : Nat) : List Nat :=
  let sel := stepIdx w
  (List.range (bits w 39 36 + 1)).map fun i => resolve w (bits w 47 40 + i) inst (if 1 ≤ sel ∧ sel ≤ 3 then stride else 1)

/-- The targets of an ENABLE step, resolved (06 R148). -/
def enableTargets (w inst stride : Nat) : List EnableTarget :=
  (List.range (stepCnt w + 1)).map fun i =>
    match bits w 57 56 with
    | 0 => .rail (resolve w (stepIdx w + i) inst stride)
    | 1 => .branch (resolve w (stepIdx w + i) inst 1)
    | _ => .accReset (resolve w (stepIdx w + i) inst 1)

/-- The rails of a VSET step, resolved. -/
def vsetRails (w inst stride : Nat) : List Nat := (List.range (stepCnt w + 1)).map fun i => resolve w (stepIdx w + i) inst stride

/-- A target lies in a permitted set (07 R196). -/
def permitted (p : BitVec 256) : EnableTarget → Bool
  | .rail c => decide (c < 192) && p.getLsbD c
  | .branch b => decide (b < 12) && p.getLsbD (192 + b)
  | .accReset n => decide (n < 8) && p.getLsbD (204 + n)

/-! The staged image (06 R171) -/

/-- The program set of a staged image. -/
def ProgramSet.ofImage (m : Mem) : ProgramSet :=
  { dir := (List.range 32).map fun i => BitVec.ofNat 64 (m.num (8 * i) 8)
    trayUp := m.num 256 1, leak := m.num 257 1, inputLoss := m.num 258 1
    accUp := (List.range 8).map fun i => m.num (264 + i) 1
    store := (List.range 4096).filterMap fun i =>
      let w := m.num (512 + 8 * i) 8
      if w = 0 then none else some (i, BitVec.ofNat 64 w) }

/-- The RSVD bytes of a staged image are zero: of the role table, and from it to offset 512. -/
def imageRsvdZero (m : Mem) : Bool := m.all fun c => !(decide (259 ≤ c.1 ∧ c.1 < 264) || decide (272 ≤ c.1 ∧ c.1 < 512))

/-! The checks (06 R158) -/

/-- The store index lies in a program. -/
def ProgramSet.has (p : ProgramSet) (id i : Nat) : Bool := decide (p.first id ≤ i ∧ i < p.first id + p.len id)

/-- The store indices of a program. -/
def ProgramSet.indices (p : ProgramSet) (id : Nat) : List Nat := (List.range (p.len id)).map (· + p.first id)

/-- The program IDs in use. -/
def ProgramSet.used (p : ProgramSet) : List Nat := (List.range 32).filter fun id => p.kind id != 0

/-- The programs that call a SUB. -/
def ProgramSet.callers (p : ProgramSet) (sub : Nat) : List Nat :=
  p.used.filter fun id => (p.indices id).any fun i => stepOp (p.word i) == 7 && stepIdx (p.word i) == sub

/-- The programs under whose rules a program's steps stand: itself, or a SUB's callers. -/
def ProgramSet.roots (p : ProgramSet) (id : Nat) : List Nat := if p.kind id = 5 then p.callers id else [id]

/-- A program of an accelerator. -/
def ProgramSet.isAcc (p : ProgramSet) (id : Nat) : Bool := p.kind id == 3 || p.kind id == 4

/-- The instances and stride under which a program's steps are resolved (06 R158), with the program whose permitted set holds. -/
def ProgramSet.runsOf (p : ProgramSet) (id : Nat) : List (Nat × Nat × Nat) :=
  ((p.roots id).map fun r => if p.isAcc r then (List.range 8).map fun n => (r, n, p.stride r) else [(r, 0, p.stride r)]).flatten

/-- The directory entry is valid (06 R145). -/
def ProgramSet.entryOk (p : ProgramSet) (id : Nat) : Bool :=
  let k := p.kind id
  k == 0 || (decide (k ≤ 6) && decide (1 ≤ p.len id) && decide (p.first id + p.len id ≤ 4096) && bits (p.entry id) 21 16 == 0
    && decide (p.stride id ≤ 191) && (p.isAcc id || p.stride id == 0) && (k == 1 || k == 3 || p.mirror id == 0) && decide (1 ≤ p.maxMs id))

/-- Two programs overlap. -/
def ProgramSet.overlap (p : ProgramSet) (a b : Nat) : Bool :=
  decide (p.first a < p.first b + p.len b ∧ p.first b < p.first a + p.len a)

/-- A condition step's selector and operands are well formed. -/
def condOk (w : Nat) : Bool :=
  decide (stepIdx w ≤ 0x0D) && !bit w 56
    && (!bareSelector (stepIdx w) || (bits w 47 36 == 0 && !stepRel w))

/-- A step's opcode, RSVD fields and field values (06 R147-R157). -/
def stepWellFormed (w : Nat) : Bool :=
  match stepOp w with
  | 1 => bits w 43 0 == 0 && bits w 57 56 != 3
  | 2 => bits w 57 56 == 0 && bits w 43 16 == 0
  | 3 => bits w 59 32 == 0 && decide (1 ≤ bits w 31 0 ∧ bits w 31 0 ≤ 60000000)
  | 4 => condOk w && decide (1 ≤ stepTmo w)
  | 5 => condOk w && stepTmo w == 0
  | 6 => condOk w && stepTmo w == 0 && !stepTj w
  | 7 => bits w 59 56 == 0 && bits w 55 53 == 0 && bits w 47 0 == 0
  | 8 => bits w 59 56 == 0 && bits w 47 36 == 0 && bits w 23 0 == 0
  | 9 => bits w 57 56 == 0 && bits w 47 24 == 0 && decide (stepIdx w ≤ 8) && (stepVal w == decide (1 ≤ stepTmo w))
  | 10 => bits w 59 58 != 3 && bits w 57 56 == 0 && bits w 47 32 == 0 && decide (0x80 ≤ stepIdx w)
  | 11 => bits w 59 57 == 0 && bits w 55 48 == 0 && bits w 39 24 == 0
  | 12 => bits w 59 0 == 0
  | 13 => bits w 59 56 == 0 && bits w 47 0 == 0
  | _ => false

/-- The operand of a condition lies in its class's range and names no unused rail channel. -/
def operandOk (map : List RailMap) (sel x : Nat) : Bool :=
  match sel with
  | 1 | 2 | 3 => decide (x < 192) && (nth map x).ctrl != 0
  | 7 => decide (x < 10)
  | 8 | 9 | 10 => decide (x < 8)
  | 11 => decide (x < 16)
  | _ => true

/-- An ENABLE target lies in its class's range and names no unused rail channel. -/
def targetOk (map : List RailMap) : EnableTarget → Bool
  | .rail c => decide (c < 192) && (nth map c).ctrl != 0
  | .branch b => decide (b < 12) && b != 9
  | .accReset n => decide (n < 8)

/-- The resolved targets and operands of a step lie in their ranges (06 R158). -/
def stepTargetsOk (map : List RailMap) (w inst stride : Nat) : Bool :=
  match stepOp w with
  | 1 => (enableTargets w inst stride).all (targetOk map)
  | 2 => (vsetRails w inst stride).all fun c => targetOk map (.rail c)
  | 4 | 5 | 6 => bareSelector (stepIdx w) || (condOperands w inst stride).all (operandOk map (stepIdx w))
  | 9 => stepIdx w == 8 || decide (resolve w (stepIdx w) inst 1 < 8)
  | _ => true

/-- The rules of a program's kind on one of its steps (06 R158): where MIRROR, LAUNCH and PG may stand, and `rel` in ACC programs. -/
def ProgramSet.kindOk (p : ProgramSet) (root w : Nat) : Bool :=
  let k := p.kind root
  let rel := stepRel w || (match stepOp w with
    | 1 | 2 | 9 => false
    | 4 | 5 | 6 => bareSelector (stepIdx w)
    | _ => true)
  (!p.isAcc root || rel)
    && (match stepOp w with
      | 8 => k == 1 || k == 3
      | 11 => (k == 1 || k == 2) && root != p.leak && root != p.inputLoss
      | 9 => if stepIdx w < 8 then k == 3 || k == 4 else k == 1 || k == 2
      | _ => true)

/-- The rules on jumps, calls and mirror entries of one step of a program (06 R158). -/
def ProgramSet.flowOk (p : ProgramSet) (id i w : Nat) : Bool :=
  match stepOp w with
  | 4 | 5 => !stepTj w || p.has id (stepTgt w)
  | 6 => p.has id (stepTgt w)
  | 7 => p.kind id != 5 && p.kind (stepIdx w) == 5
  | 8 => p.kind id != 5 && p.has (p.mirror id) (stepTgt w)
      && (p.indices id).all fun j => j == i || stepOp (p.word j) != 8 || stepIdx (p.word j) != stepIdx w
  | 11 => p.kind id != 5
  | _ => true

/-- A step of a program breaks a rule that answers BAD_ARG. -/
def ProgramSet.stepBad (p : ProgramSet) (map : List RailMap) (id i : Nat) : Bool :=
  let w := p.word i
  let last := i + 1 == p.first id + p.len id
  !(stepWellFormed w && p.flowOk id i w
    && (!last || stepOp w == 12 || stepOp w == 13 || (stepOp w == 6 && stepIdx w == 0))
    && (!(i == p.first id && (p.kind id == 1 || p.kind id == 3)) || stepOp w == 8)
    && (p.roots id).all (fun r => p.kindOk r w)
    && (p.runsOf id).all fun r => stepTargetsOk map w r.2.1 r.2.2)

/-- A step of a program breaks a rule that answers LIMIT_EXCEEDED (06 R158). -/
def ProgramSet.stepBeyond (p : ProgramSet) (lim : LimitBlock) (id i : Nat) : Bool :=
  let w := p.word i
  (p.runsOf id).any fun r =>
    match stepOp w with
    | 1 => (enableTargets w r.2.1 r.2.2).any fun t => !permitted (nth lim.permit r.1) t
    | 2 => (vsetRails w r.2.1 r.2.2).any fun c => decide ((nth lim.rails c).vsetMax < bits w 15 0)
    | _ => false

/-- The rules on the set as a whole: directory, overlaps, mirror kinds and roles (06 R145, R146, R158). -/
def ProgramSet.setOk (p : ProgramSet) (minOffMs : Nat) : Bool :=
  (List.range 32).all p.entryOk
    && p.used.all (fun a => p.used.all fun b => a == b || !p.overlap a b)
    && p.used.all (fun a => (p.kind a != 1 || p.kind (p.mirror a) == 2) && (p.kind a != 3 || p.kind (p.mirror a) == 4))
    && decide (p.trayUp < 32) && p.kind p.trayUp == 1
    && decide (p.leak < 32) && p.kind p.leak == 2 && decide (p.maxMs p.leak ≤ 50)
    && decide (p.inputLoss < 32) && p.kind p.inputLoss == 2 && decide (p.maxMs p.inputLoss ≤ minOffMs)
    && p.accUp.all fun a => a == 255 || (decide (a < 32) && p.kind a == 3)

/-- The lowest store index at which a rule on steps fails. -/
def ProgramSet.firstStep (p : ProgramSet) (bad : Nat → Nat → Bool) : Option Nat :=
  (((p.used.filter p.entryOk).map fun id => (p.indices id).filter (bad id)).flatten).foldl (fun b i =>
    match b with
    | none => some i
    | some j => some (min i j)) none

/-- The BAD_ARG checks of a set: the `detail` of the first that fails (06 R158). -/
def ProgramSet.badDetail (p : ProgramSet) (map : List RailMap) (minOffMs : Nat) : Option Nat :=
  match p.firstStep (p.stepBad map) with
  | some i => some i
  | none => if p.setOk minOffMs then none else some 0xFFFF

/-- The LIMIT_EXCEEDED checks of a set. -/
def ProgramSet.limitDetail (p : ProgramSet) (lim : LimitBlock) : Option Nat := p.firstStep (p.stepBeyond lim)

end Sys2Proof.Machine
end

