-- ==== Sys2Proof/Machine/Thyme.lean ====
section
/-! DEFINITION. Thyme: starting, unwinding and ending programs, emergency programs, aborts, the steps and their conditions (06). -/

namespace Sys2Proof.Machine

open Sys2Proof

/-- The instance of a context: accelerator n, and 0 for the tray (06 R148). -/
def instOf (k : Nat) : Nat := k - 1
/-- The stride of the program that a context runs (06 R148). -/
def State.strideOf (s : State) (k : Nat) : Nat :=
  match (s.ctx k).prog with
  | some p => s.thyme.set.stride p
  | none => 0

/-! Starting programs (06 R160, R161) -/

/-- Every accelerator that is up, on or going down enters ACC_DOWN with its power-good dropped and its reset low (06 R163). -/
def State.accsDown (s : State) : State :=
  (List.range 8).foldl (fun s n =>
    if s.acc n = .up ∨ s.acc n = .on ∨ s.acc n = .down then
      let s := s.setAcc n .down
      (s.onThyme fun t => { t with pwrok := t.pwrok &&& ~~~(1#8 <<< n) }).onSage fun g => { g with accReset := g.accReset &&& ~~~(1#8 <<< n) }
    else s) s

/-- What the first tick of a program changes, by its kind (06 R160, R163, 07 R201). -/
def State.enterKind (s : State) (k : Nat) : State :=
  match s.runKind k with
  | 1 => (s.onThyme fun t => { t with tray := .poweringUp }).setDemand
  | 2 =>
    let s := (s.dropMargins).onThyme fun t => { t with tray := .poweringDown }
    if s.thyme.emergency.isSome then s.accsDown else s
  | 3 => s.setAcc (k - 1) .up
  | 4 => (s.dropMargins).setAcc (k - 1) .down
  | _ => s

/-- The first tick of a program: its state change and its event (06 R160, R161, R175). -/
def State.firstTick (s : State) (k : Nat) : State :=
  match (s.ctx k).starting with
  | none => s
  | some how =>
    let s := (s.onCtx k fun c => { c with starting := none, progTick := s.gt }).enterKind k
    let c := s.ctx k
    let s := match how, c.mark with
      | .mirrorOff, some (m, e) => (s.event .thyme 0x0204 0 k (i1 k ++ i1 m ++ i2 e)).traced 35 k (m + 256 * e)
      | .mirrorAbort, some (m, e) => (s.event .thyme 0x0201 0 k (i1 k ++ i1 (c.prog.getD 255) ++ i2 c.idx)).traced 35 k (m + 256 * e)
      | _, _ => s.event .thyme 0x0201 0 k (i1 k ++ i1 (c.prog.getD 255) ++ i2 c.idx)
    (s.mirrored .tray).mirrored .thyme

/-- Start a program in this tick. -/
def State.startNow (s : State) (k prog idx : Nat) : State := (s.begin k prog idx s.gt .fresh).firstTick k

/-- Start a program: in this tick, or in the next where the context has ended a program in this one (06 R142, R168). -/
def State.startIn (s : State) (k prog idx : Nat) : State :=
  if (s.ctx k).endTick = some s.gt then s.begin k prog idx (s.gt + 1) .fresh else s.startNow k prog idx

/-- The mirror program of a power-up program, from the last completed mark's `entry` (06 R161, R165). -/
def State.toMirror (s : State) (k : Nat) (how : StartKind) : State :=
  let c := s.ctx k
  let m := s.thyme.set.mirror (c.prog.getD 0)
  let entry := match c.mark with
    | some (_, e) => e
    | none => s.thyme.set.first m
  s.begin k m entry (s.gt + 1) how

/-- The tray power-down program (06 R146). -/
def State.trayDownProg (s : State) : Nat := s.thyme.set.mirror s.thyme.set.trayUp

/-! Emergency programs (06 R163) -/

/-- A context whose step has completed gives way to an emergency program: its enables pass to context T. -/
def State.giveWay (s : State) (k : Nat) : State :=
  let held := if k = 0 then (s.ctx 0).held else (s.ctx 0).held ++ (s.ctx k).held
  ((s.stop k).onCtx 0 fun c => { c with held := held }).emergencyStart

/-! The end of a step -/

/-- The current step waits for time, a condition, a qualification or launches: R161 completes it at once. -/
def State.waitsFreely (s : State) (k : Nat) : Bool :=
  (s.ctx k).inStep && [3, 4, 9, 11].contains (stepOp (s.word k))

/-- A step of a context has completed; `next` is the index of the next one. An off request or an emergency redirects here (06 R161, R163, R172). -/
def State.stepDone (s : State) (k next : Nat) : State :=
  let c := s.ctx k
  let s :=
    if s.thyme.emergencyDue.isSome then s.giveWay k
    else if c.offTaken then
      if s.runKind k = 6 then
        let p := s.trayDownProg
        (s.stop k).begin 0 p (s.thyme.set.first p) (s.gt + 1) .fresh
      else s.toMirror k .mirrorOff
    else s.onCtx k fun c => { c with idx := next, inStep := false, stepTick := s.gt + 1, launches := [], busWait := [], resumed := false }
  s.mirrored .thyme

/-- An off request reaches a running context: its current step completes by R161. -/
def State.takeOff (s : State) (k : Nat) : State :=
  let c := s.ctx k
  if c.prog.isNone || c.unwinding then s
  else if c.inStep && !s.waitsFreely k || (!c.inStep && decide (c.stepTick ≤ s.gt)) then
    s.onCtx k fun c => { c with offTaken := true }
  else (s.onCtx k fun c => { c with offTaken := true }).stepDone k c.idx

/-- Every accelerator context that runs a power-up program follows the rule of R161 (06 R161). -/
def State.takeOffAccs (s : State) : State :=
  (List.range 8).foldl (fun s n => if s.runKind (n + 1) = 3 then s.takeOff (n + 1) else s) s

/-- Cancel what waits: pending ons, deferred power-ups and requests not yet taken (06 R162). -/
def State.cancelPending (s : State) : State :=
  s.onThyme fun t => { t with
    deferredUp := false, requests := t.requests.filter fun r => r.1 == .trayOff
    ctxs := t.ctxs.map fun c => ({ c with pendOn := false } : ThymeCtx)
    accMinOffEnd := List.replicate 8 none }

/-- An emergency program becomes due: every context completes its current step by R161 and stops (06 R163). It is never replaced. -/
def State.emergencyIsDue (s : State) (kind : EmergencyKind) : State :=
  if !s.serves || s.thyme.emergencyDue.isSome || s.thyme.emergency.isSome then s
  else
    let stands := (List.range 8).foldl (fun (a : BitVec 8) n =>
      if s.runs (n + 1) ∧ (s.ctx (n + 1)).after = .toFault then a ||| (1#8 <<< n) else a) 0
    let s := s.cancelPending.onThyme fun t => { t with emergencyDue := some kind, accAbortStands := stands }
    let s := (List.range 9).foldl (fun s k =>
      let c := s.ctx k
      if c.prog.isSome && (s.waitsFreely k || (!c.inStep && decide (s.gt < c.stepTick))) then s.giveWay k else s) s
    s.emergencyStart

/-! The end of a program -/

/-- The enables of branches B0-B8, B10 and B11 still granted on, as a permitted set (06 R163, 07 R196). -/
def State.leftovers (s : State) : BitVec 256 :=
  let rails := (List.range 192).foldl (fun (a : BitVec 256) c =>
    let r := s.rail c
    if r.granted ∧ r.used ∧ r.map.branch ≠ 9 then a ||| (1#256 <<< c) else a) 0
  rails ||| ((s.sage.branches &&& ~~~(1#12 <<< 9)).zeroExtend 256 <<< 192)

/-- A rail's enable is switched off by the arbiter: its pin, or an OPERATION write on its bus (06 R149). -/
def State.railOff (s : State) (c : Nat) (owner : WriteOwner) : State :=
  let r := s.rail c
  if !r.granted then s
  else
    let s := s.onRail c Rail.goesOff
    match r.map.pmBus with
    | some b => s.busWrite b { rail := c, kind := .operation false, owner := owner }
    | none => s

/-- Pull low what is still on at the END of an emergency program, or of the power-down after a stopped USER program (06 R163, R172). -/
def State.sweep (s : State) (prog : Nat) : State :=
  let left := s.leftovers
  if left = 0 then s
  else
    let s := (List.range 192).foldl (fun s c => if left.getLsbD c then s.railOff c .sage else s) s
    let s := s.onSage fun g => { g with branches := g.branches &&& (1#12 <<< 9) }
    (s.event .thyme 0x0209 2 prog (i1 prog ++ leBytes 32 left.toNat)).mirrored .grants

/-- The tray power-down program has ended (05 R114, R135, 06 R163, R165). -/
def State.trayDownEnd (s : State) (toFault : Bool) : State :=
  let em := s.thyme.emergency
  let s := s.clearDemand
  let s :=
    if em.isSome then
      (List.range 8).foldl (fun s n =>
        if s.acc n = .down then s.setAcc n (if s.thyme.accAbortStands.getLsbD n then .fault else .off) else s) s
    else s
  let s := s.onThyme fun t => { t with emergency := none, leakAfter := false, userStopped := false, accAbortStands := 0, afterInputLoss := false }
  if toFault then s.onThyme fun t => { t with latchFault := true, tray := .standby, minOffEnd := none, ctxs := t.ctxs.map fun c => ({ c with pendOn := false } : ThymeCtx) }
  else s.onThyme fun t => { t with tray := .poweringDown, minOffEnd := some (s.gt + ms s.feed.minOffMs), afterInputLoss := em == some .inputLoss && !t.latchLeak }

/-- What the END of a program changes, by its kind (06 R160, R162, R165); ACC_FAULT is left by its clear alone (00 R13). -/
def State.endKind (s : State) (k kind : Nat) (c : ThymeCtx) : State :=
  match kind with
  | 1 => s.onThyme fun t => { t with tray := .on }
  | 2 =>
    let s := if s.thyme.emergency.isSome ∨ s.thyme.userStopped then s.sweep (c.prog.getD 0) else s
    s.trayDownEnd (c.after == .toFault)
  | 3 => if s.acc (k - 1) = .fault then s else s.setAcc (k - 1) .on
  | 4 =>
    let s := if s.acc (k - 1) = .fault then s else s.setAcc (k - 1) (if c.after = .toFault then .fault else .off)
    if c.pendOn ∧ c.after ≠ .toFault then
      s.onThyme fun t => { t with accMinOffEnd := t.accMinOffEnd.set (k - 1) (some (s.gt + ms t.accMinOffMs)) }
    else s.onCtx k fun c => { c with pendOn := false }
  | _ => s

/-- END of a program that is no SUB (06 R153, R160, R168). -/
def State.progEnd (s : State) (k : Nat) : State :=
  let c := s.ctx k
  let kind := s.runKind k
  let p := c.prog.getD 0
  let s := (s.stop k).endKind k kind c
  let s := s.event .thyme 0x0202 0 k (i1 k ++ i1 p ++ i4 (s.gt - c.progTick))
  let s :=
    if s.thyme.emergencyDue.isSome then
      let held := if k = 0 then c.held else (s.ctx 0).held ++ c.held
      (s.onCtx 0 fun t => { t with held := held }).emergencyStart
    else if c.offTaken then
      if kind = 1 ∨ kind = 3 then
        let m := s.thyme.set.mirror p
        s.begin k m (s.thyme.set.first m) (s.gt + 1) .fresh
      else if kind = 6 then
        let d := s.trayDownProg
        s.begin 0 d (s.thyme.set.first d) (s.gt + 1) .fresh
      else s
    else s
  (s.mirrored .tray).mirrored .thyme

/-! Aborts (06 R165) -/

/-- Abort the program of a context with a cause other than an immediate-off's (06 R165). A USER program that a tray off request is stopping gives way to the power-down all the same (R170). -/
def State.abort (s : State) (k cause code : Nat) : State :=
  let kind := s.runKind k
  if cause = 1 then s.abortSage (if 0 < k ∧ s.sage.holdBranch.getLsbD (k - 1) then k - 1 else 15) k
  else
    let s := s.abortEvent k cause code
    let s := match kind with
      | 1 =>
        if s.thyme.emergencyDue.isSome then s.giveWay k
        else
          let s := s.takeOffAccs
          s.toMirror k .mirrorAbort
      | 3 =>
        if s.thyme.emergencyDue.isSome then
          (s.onThyme fun t => { t with accAbortStands := t.accAbortStands ||| (1#8 <<< (k - 1)) }).giveWay k
        else s.toMirror k .mirrorAbort
      | 2 =>
        let s := s.stopAll 15
        (s.onThyme fun t => { t with emergency := none, emergencyDue := none, leakAfter := false }).immediateOff 14 165 .fault
      | 4 => (s.stop k).immediateOff (k - 1) 165 .fault
      | _ =>
        if kind = 6 ∧ s.thyme.emergencyDue.isSome then s.giveWay k
        else if kind = 6 ∧ (s.ctx k).offTaken then
          let d := s.trayDownProg
          (s.stop k).begin 0 d (s.thyme.set.first d) (s.gt + 1) .fresh
        else s.stop k
    (s.mirrored .tray).mirrored .thyme

/-! Conditions (06 R152) -/

/-- A fan or pump turns at or above its `min_rpm`. -/
def Mover.turns (m : Mover) : Bool := !m.used || decide (m.minRpm ≤ m.rpm)

/-- Every used leak zone and float reads DRY (10 R278). -/
def State.allDry (s : State) : Bool :=
  (List.range 10).all fun z => !s.cool.zonesUsed.getLsbD z || (nth s.cool.zones z).grade == .dry

/-- COOLING_READY (10 R278). -/
def State.coolingReady (s : State) : Bool :=
  let c := s.cool
  c.fans.all Mover.turns && !s.thyme.latchLeak && s.allDry
    && (s.straps.coolMode
      || (c.pumps.all Mover.turns && ((List.range 4).all fun v => !(nth c.valves v).used || s.netHigh (97 + v))
        && decide (100 * c.flowMin ≤ c.flow) && c.press.all fun p => decide (c.pMin ≤ p ∧ p ≤ c.pMax)))

/-- The voltage of a rail lies at or between its warning levels (06 R152). -/
def Rail.inWindow (r : Rail) : Bool := decide (r.lev.uvWarn ≤ r.vMv ∧ r.vMv ≤ r.lev.ovWarn)

/-- Flags as a bit vector, the first in bit 0. -/
def bitsOf (w : Nat) (l : List Bool) : BitVec w := BitVec.ofNat w (packBits l)

/-- The values that conditions read, as they stand now; a rail that is stuck low or reports a mode other than LINEAR16 counts as one that has not started (06 R152; 07 R181, R203). -/
def State.condView (s : State) : CondView :=
  let ok := s.sage.rails.mapIdx fun c r => !r.wrongMode && !s.railStuck c
  { railPg := bitsOf 192 (List.zipWith (fun r b => r.pg && b) s.sage.rails ok)
    inWindow := bitsOf 192 (List.zipWith (fun r b => r.inWindow && b) s.sage.rails ok)
    discharged := bitsOf 192 (s.sage.rails.map fun r => decide (r.vMv < r.lev.dis))
    feedsOn := s.feedsOn
    cooling := s.coolingReady
    links := bitsOf 10 (s.link.ports.map fun p => p.phase == .linkUp)
    accIdle := bitsOf 8 ((List.range 8).map fun n => !s.runs (n + 1))
    accOn := bitsOf 8 (s.thyme.accs.map fun a => a == .on)
    noTrip := ~~~s.pins.tripLow
    noAlert := ~~~s.op.alertLow
    dry := s.allDry
    partner := s.pair.alive }

/-- A condition on one operand (06 R152). -/
def CondView.on (v : CondView) (sel x : Nat) : Bool :=
  match sel with
  | 1 => v.railPg.getLsbD x
  | 2 => v.inWindow.getLsbD x
  | 3 => v.discharged.getLsbD x
  | 7 => v.links.getLsbD x
  | 8 => v.accIdle.getLsbD x
  | 9 => v.accOn.getLsbD x
  | 10 => v.noTrip.getLsbD x
  | 11 => v.noAlert.getLsbD x
  | _ => false

/-- The condition of a WAITFOR, CHECK or JUMP step, by the values at the end of the tick before (06 R151, R152). -/
def State.cond (s : State) (k : Nat) : Bool :=
  let w := s.word k
  let b := match stepIdx w with
    | 0 => true
    | 4 => decide (1 ≤ s.thyme.view.feedsOn)
    | 5 => s.thyme.view.feedsOn == 2
    | 6 => s.thyme.view.cooling
    | 12 => s.thyme.view.dry
    | 13 => s.thyme.view.partner
    | sel => (condOperands w (instOf k) (s.strideOf k)).all (s.thyme.view.on sel)
  b != stepVal w

/-! Steps -/

/-- A context has a step to start: it has completed the step before, and the tick has come; a tray mirror program after an abort waits for the accelerator contexts (06 R143, R165). -/
def State.stepDue (s : State) (k : Nat) : Bool :=
  let c := s.ctx k
  c.prog.isSome && !c.inStep && decide (c.stepTick ≤ s.gt)
    && !(k == 0 && c.starting == some .mirrorAbort && (List.range 8).any fun n => s.runs (n + 1))

/-- A step may start in this tick: it is due, the contexts before this one have none due, in the order T, A0 to A7, and this governor executes steps (06 R142, R143, R167). -/
def State.mayStart (s : State) (k op : Nat) : Bool :=
  decide (k < 9) && s.serves && s.stepDue k && stepOp (s.word k) == op && (List.range k).all fun j => !s.stepDue j

/-- Start a step: the first tick's effects, trace point 32, and its own effect (06 R143). -/
def State.startStep (s : State) (k op : Nat) (run : State → State) : State :=
  if !s.mayStart k op then s
  else
    let s := s.firstTick k
    let s := s.traced 32 k ((s.ctx k).idx + 4096 * op)
    run (s.onCtx k fun c => { c with inStep := true, stepTick := s.gt, launches := [], busWait := [] })

/-- The context waits in a step of an opcode. -/
def State.waits (s : State) (k op : Nat) : Bool :=
  decide (k < 9) && s.serves && (s.ctx k).prog.isSome && (s.ctx k).inStep && stepOp (s.word k) == op

/-- The current step completes and the next follows. -/
def State.next (s : State) (k : Nat) : State := s.stepDone k ((s.ctx k).idx + 1)

/-- An off request or an emergency waits for the current step's completion. -/
def State.cut (s : State) (k : Nat) : Bool := (s.ctx k).offTaken || s.thyme.emergencyDue.isSome

/-- Switch one enable target; an off of this tick wins over an on (01 R29, 06 R142, R149, 07 R188); ACC_RESET_N stays low in ACC_OFF and ACC_FAULT (03 R78). -/
def State.switch (s : State) (k : Nat) (on : Bool) (t : EnableTarget) : State :=
  let s := if on then s else s.onThyme fun h => { h with offsNow := t :: h.offsNow }
  if on && s.thyme.offsNow.contains t then s
  else
    match t with
    | .rail c =>
      let r := s.rail c
      if r.granted = on then s
      else if on then
        let s := s.onRail c fun r => { r with granted := true, pollFails := 0 }
        match r.map.pmBus with
        | some b => (s.busWrite b { rail := c, kind := .operation true, owner := .thyme k }).onCtx k fun x => { x with busWait := c :: x.busWait }
        | none => s
      else
        let s := s.railOff c (.thyme k)
        if r.map.pmBus.isSome then s.onCtx k fun x => { x with busWait := c :: x.busWait } else s
    | .branch b => s.onSage fun g => { g with branches := if on then g.branches ||| (1#12 <<< b) else g.branches &&& ~~~(1#12 <<< b) }
    | .accReset n =>
      let up := on && s.acc n != .off && s.acc n != .fault
      s.onSage fun g => { g with accReset := if up then g.accReset ||| (1#8 <<< n) else g.accReset &&& ~~~(1#8 <<< n) }

/-- The enables that a context holds after an ENABLE (06 R165). -/
def heldAfter (held ts : List EnableTarget) (on : Bool) : List EnableTarget :=
  let rest := held.filter fun h => !ts.contains h
  if on then rest ++ ts else rest

/-- The permitted set of the program that a context runs (07 R196). -/
def State.permitOf (s : State) (k : Nat) : BitVec 256 :=
  match (s.ctx k).prog with
  | some p => nth s.sage.limits.permit p
  | none => 0

/-- `ENABLE` (06 R149, R159, R165, 07 R194). -/
def execEnable (ctx : U8) (s : State) : Host.Outcome State Fault Refusal :=
  let k := ctx.toNat
  .next (s.startStep k 1 fun s =>
    let w := s.word k
    let on := stepVal w
    let ts := enableTargets w (instOf k) (s.strideOf k)
    if ts.any fun t => !permitted (s.permitOf k) t then s.abort k 6 0
    else if on && ts.any s.heldOff then s.abort k 1 0
    else
      let s := ts.foldl (fun s t => s.switch k on t) s
      let s := (s.onCtx k fun c => { c with held := heldAfter c.held ts on }).mirrored .grants
      if (s.ctx k).busWait = [] then s.next k else s)

/-- `VSET` (06 R150, R159, 07 R198). -/
def execVset (ctx : U8) (s : State) : Host.Outcome State Fault Refusal :=
  let k := ctx.toNat
  .next (s.startStep k 2 fun s =>
    let w := s.word k
    let mv := bits w 15 0
    let rails := vsetRails w (instOf k) (s.strideOf k)
    if rails.any fun c => !permitted (s.permitOf k) (.rail c) then s.abort k 6 0
    else
      let s := rails.foldl (fun s c =>
        let m := (s.rail c).map
        match (if stepVal w then some (12 + m.avs % 8) else m.pmBus) with
        | some b => ((s.onRail c fun r => { r with nominal := some (min mv (s.railLimit c).vsetMax) }).writeSetpoint c mv (some b) (.thyme k)).onCtx k fun x => { x with busWait := c :: x.busWait }
        | none => s) s
      if (s.ctx k).busWait = [] then s.next k else s)

/-- `WAIT` (06 R143): n µs from tick t complete in tick t + n - 1. -/
def execWait (ctx : U8) (s : State) : Host.Outcome State Fault Refusal :=
  let k := ctx.toNat
  .next (s.startStep k 3 fun s => if s.cut k ∨ bits (s.word k) 31 0 ≤ 1 then s.next k else s)

/-- `WAIT_EXPIRY`: the time of a WAIT has passed (06 R143). -/
def execWaitExpiry (ctx : U8) (s : State) : Host.Outcome State Fault Refusal :=
  let k := ctx.toNat
  .next (if s.waits k 3 ∧ (s.ctx k).stepTick + bits (s.word k) 31 0 ≤ s.gt + 1 then s.next k else s)

/-- `WAITFOR` (06 R151). -/
def execWaitfor (ctx : U8) (s : State) : Host.Outcome State Fault Refusal :=
  let k := ctx.toNat
  .next (s.startStep k 4 fun s => if s.cut k || s.cond k then s.next k else s)

/-- `WAITFOR_CONDITION_MET`: the condition holds in a tick up to the timeout's, that one included (06 R151, R168). -/
def execWaitforConditionMet (ctx : U8) (s : State) : Host.Outcome State Fault Refusal :=
  let k := ctx.toNat
  .next (if s.waits k 4 ∧ s.cond k ∧ s.gt ≤ (s.ctx k).stepTick + stepTmo (s.word k) then s.next k else s)

/-- `WAITFOR_TIMEOUT`: the condition has held in none of the ticks up to the timeout (06 R151). -/
def execWaitforTimeout (ctx : U8) (s : State) : Host.Outcome State Fault Refusal :=
  let k := ctx.toNat
  let w := s.word k
  .next (if s.waits k 4 ∧ !s.cond k ∧ (s.ctx k).stepTick + stepTmo w ≤ s.gt then
    if stepTj w then s.stepDone k (stepTgt w) else s.abort k 2 0
  else s)

/-- `CHECK` (06 R151). -/
def execCheck (ctx : U8) (s : State) : Host.Outcome State Fault Refusal :=
  let k := ctx.toNat
  .next (s.startStep k 5 fun s =>
    if s.cond k then s.next k else if stepTj (s.word k) then s.stepDone k (stepTgt (s.word k)) else s.abort k 3 0)

/-- `JUMP` (06 R151). -/
def execJump (ctx : U8) (s : State) : Host.Outcome State Fault Refusal :=
  let k := ctx.toNat
  .next (s.startStep k 6 fun s => if s.cond k then s.stepDone k (stepTgt (s.word k)) else s.next k)

/-- `CALL` (06 R153). -/
def execCall (ctx : U8) (s : State) : Host.Outcome State Fault Refusal :=
  let k := ctx.toNat
  .next (s.startStep k 7 fun s =>
    let i := (s.ctx k).idx
    let first := s.thyme.set.first (stepIdx (s.word k) % 32)
    (s.onCtx k fun c => { c with ret := some (i + 1) }).stepDone k first)

/-- `MIRROR` (06 R154). -/
def execMirror (ctx : U8) (s : State) : Host.Outcome State Fault Refusal :=
  let k := ctx.toNat
  .next (s.startStep k 8 fun s =>
    let w := s.word k
    (s.onCtx k fun c => { c with mark := some (stepIdx w, stepTgt w) }).next k)

/-- The target of a PG step, resolved: 0 to 7 an ACC_PWROK, 8 TRAY_PG (06 R148). -/
def State.pgTarget (s : State) (k : Nat) : Nat := resolve (s.word k) (stepIdx (s.word k)) (instOf k) 1

/-- A rail in the scope of a PG target (06 R155). -/
def Rail.inPgScope (r : Rail) (t : Nat) : Bool := r.used && (if t < 8 then r.map.branch == t else r.map.trayRail)

/-- The first rail in the scope of a PG target whose fault filter runs (06 R155). -/
def State.pgBlocker (s : State) (t : Nat) : Option Nat :=
  (List.range 192).find? fun c => (s.rail c).inPgScope t && (s.rail c).running

/-- A PG target is asserted. -/
def State.pgHigh (s : State) (t : Nat) : Bool := if t < 8 then s.thyme.pwrok.getLsbD t else s.thyme.trayPg

/-- Assert or deassert a PG target (06 R155). -/
def State.setPg (s : State) (k t : Nat) (on : Bool) : State :=
  let s := s.onThyme fun h =>
    if t < 8 then { h with pwrok := if on then h.pwrok ||| (1#8 <<< t) else h.pwrok &&& ~~~(1#8 <<< t) }
    else { h with trayPg := on }
  (s.traced 34 k (t + 256 * flag on)).mirrored .grants

/-- `PG` (06 R155, R161): a step that a takeover starts again completes where its target is already asserted (R167). -/
def execPg (ctx : U8) (s : State) : Host.Outcome State Fault Refusal :=
  let k := ctx.toNat
  .next (s.startStep k 9 fun s =>
    let t := s.pgTarget k
    if !stepVal (s.word k) then (s.setPg k t false).next k
    else if (s.pgHigh t && (s.ctx k).resumed) || s.cut k then s.next k
    else
      match s.pgBlocker t with
      | none => (s.setPg k t true).next k
      | some c => s.traced 33 c t)

/-- `PG_ASSERT_QUALIFIED`: the first qualified tick of a waiting PG step (06 R155). -/
def execPgAssertQualified (ctx : U8) (s : State) : Host.Outcome State Fault Refusal :=
  let k := ctx.toNat
  let t := s.pgTarget k
  .next (if s.waits k 9 ∧ s.pgBlocker t = none ∧ s.gt ≤ (s.ctx k).stepTick + stepTmo (s.word k) then (s.setPg k t true).next k else s)

/-- `PG_TIMEOUT`: no tick up to the timeout was qualified (06 R155). -/
def execPgTimeout (ctx : U8) (s : State) : Host.Outcome State Fault Refusal :=
  let k := ctx.toNat
  .next (if s.waits k 9 ∧ (s.pgBlocker (s.pgTarget k)).isSome ∧ (s.ctx k).stepTick + stepTmo (s.word k) ≤ s.gt then s.abort k 4 0 else s)

/-- `EVENT` (06 R175, EVENT). -/
def execEvent (ctx : U8) (s : State) : Host.Outcome State Fault Refusal :=
  let k := ctx.toNat
  .next (s.startStep k 10 fun s =>
    let w := s.word k
    (s.event .thyme (0x0200 + stepIdx w) (bits w 59 58) k (i1 k ++ i2 (s.ctx k).idx ++ i4 (bits w 31 0))).next k)

/-- An accelerator is eligible for a launch (06 R157). -/
def State.eligible (s : State) (down : Bool) (n : Nat) : Bool :=
  nth s.thyme.set.accUp n != 255 && !s.runs (n + 1) && s.acc n == (if down then .on else .off)

/-- Launch an accelerator's program (06 R157, R160). -/
def State.launch (s : State) (down : Bool) (n : Nat) : State :=
  let up := nth s.thyme.set.accUp n
  let p := if down then s.thyme.set.mirror up else up
  (s.startIn (n + 1) p (s.thyme.set.first p)).traced 37 n p

/-- The turns of a launch list that have come (06 R157). -/
def State.takeTurns (s : State) (k : Nat) : State :=
  let w := s.word k
  let down := bit w 56
  let due := (s.ctx k).launches.filter fun t => decide (t.2 ≤ s.gt)
  let s := s.onCtx k fun c => { c with launches := c.launches.filter fun t => decide (s.gt < t.2) }
  let s := due.foldl (fun s t => if s.eligible down t.1 then s.launch down t.1 else s) s
  if (s.ctx k).launches = [] then s.next k else s

/-- `LAUNCH` (06 R157, R161). -/
def execLaunch (ctx : U8) (s : State) : Host.Outcome State Fault Refusal :=
  let k := ctx.toNat
  .next (s.startStep k 11 fun s =>
    if s.cut k then s.next k
    else
      let w := s.word k
      let ns := indices 8 fun n => bit w (40 + n) && s.eligible (bit w 56) n
      let turns := ns.mapIdx fun i n => (n, s.gt + i * stepTmo w)
      (s.onCtx k fun c => { c with launches := turns }).takeTurns k)

/-- `LAUNCH_TURN`: the turn of the next accelerator of the launch list comes (06 R157). -/
def execLaunchTurn (acc : U8) (s : State) : Host.Outcome State Fault Refusal :=
  .next (if s.waits 0 11 ∧ (s.ctx 0).launches.any fun t => t.1 == acc.toNat && decide (t.2 ≤ s.gt) then s.takeTurns 0 else s)

/-- `END` (06 R153, R160). -/
def execEndStep (ctx : U8) (s : State) : Host.Outcome State Fault Refusal :=
  let k := ctx.toNat
  .next (s.startStep k 12 fun s =>
    match (s.ctx k).ret with
    | some r => (s.onCtx k fun c => { c with ret := none }).stepDone k r
    | none => s.progEnd k)

/-- `ABORT` (06 R153, R165). -/
def execAbort (ctx : U8) (s : State) : Host.Outcome State Fault Refusal :=
  let k := ctx.toNat
  .next (s.startStep k 13 fun s => s.abort k 8 (stepIdx (s.word k)))

/-- The END of a context's program is due to execute. -/
def State.endDue (s : State) (k : Nat) : Bool := s.stepDue k && stepOp (s.word k) == 12 && (s.ctx k).ret.isNone

/-- `PROGRAM_TIME_EXPIRY`: `max_ms` has passed since the program's first tick, before the tick of its END (06 R165, R168). -/
def execProgramTimeExpiry (ctx : U8) (s : State) : Host.Outcome State Fault Refusal :=
  let k := ctx.toNat
  let c := s.ctx k
  .next (match c.prog with
    | some p => if k < 9 ∧ s.serves ∧ c.starting = none ∧ c.progTick + ms (s.thyme.set.maxMs p) ≤ s.gt ∧ !s.endDue k then s.abort k 7 0 else s
    | none => s)

/-! Requests (06 R160-R164, R170) -/

/-- A tray power-up in STANDBY is decided by the feeds; one that is deferred now records event 0x0206 (05 R137, 06 R175). -/
def State.trayUpNow (s : State) : State :=
  if s.thyme.reported ≠ .standby || s.runs 0 || s.thyme.emergencyDue.isSome then s
  else if s.feed.feeds.any fun f => f.reported == .off then s.startIn 0 s.thyme.set.trayUp (s.thyme.set.first s.thyme.set.trayUp)
  else if s.feed.feeds.all fun f => f.reported == .lockout || f.reported == .forcedOff then s
  else (s.onThyme fun t => { t with deferredUp := true }).event .fp1 0x0206 0 0 (i1 0)

/-- A tray off request takes effect (06 R161, R170, R172). -/
def State.trayOffNow (s : State) : State :=
  match s.thyme.reported with
  | .poweringUp =>
    s.takeOffAccs.takeOff 0
  | .on | .maintenance =>
    if s.thyme.emergencyDue.isSome then s
    else if s.runKind 0 = 6 then (s.onThyme fun t => { t with userStopped := true }).takeOffAccs.takeOff 0
    else if s.runs 0 then s
    else s.takeOffAccs.startIn 0 s.trayDownProg (s.thyme.set.first s.trayDownProg)
  | _ => s

/-- The tray is powered: ON or MAINTENANCE. -/
def State.trayPowered (s : State) : Bool := s.thyme.reported == .on || s.thyme.reported == .maintenance

/-- An accelerator request takes effect (06 R160, R161, R170). -/
def State.accRequestNow (s : State) (n : Nat) (on : Bool) : State :=
  let up := nth s.thyme.set.accUp n
  let free := s.trayPowered && !s.runs (n + 1) && s.thyme.emergencyDue.isNone && up != 255
  if on then
    if free && s.acc n == .off && !s.runs 0 then s.startIn (n + 1) up (s.thyme.set.first up) else s
  else if s.runKind (n + 1) = 3 then s.takeOff (n + 1)
  else if free && s.acc n == .on then
    let m := s.thyme.set.mirror up
    s.startIn (n + 1) m (s.thyme.set.first m)
  else s

/-- An accepted tray on waits while a USER program holds context T in STANDBY (06 R142, R170; log entry 29). -/
def State.waitsForT (s : State) (req : PowerRequest) : Bool := req == .trayOn && s.thyme.reported == .standby && s.runKind 0 == 6

/-- `POWER_REQUEST_TAKE_EFFECT`: an accepted request acts one tick later (06 R160). -/
def execPowerRequestTakeEffect (req : PowerRequest) (s : State) : Host.Outcome State Fault Refusal :=
  .next (match s.thyme.requests.find? (fun r => s.serves && !s.waitsForT req && r.1 == req && decide (r.2 ≤ s.gt)) with
    | none => s
    | some r =>
      let s := s.onThyme fun t => { t with requests := t.requests.erase r }
      match req with
      | .trayOn => (s.traced 38 0 1).trayUpNow.mirrored .thyme
      | .trayOff => (s.traced 38 0 2).trayOffNow.mirrored .thyme
      | .accOn n => if n < 8 then ((s.traced 38 (n + 1) 1).accRequestNow n true).mirrored .thyme else s
      | .accOff n => if n < 8 then ((s.traced 38 (n + 1) 2).accRequestNow n false).mirrored .thyme else s)

/-- A request accepted in this tick takes effect in the next (06 R160). -/
def State.request (s : State) (r : PowerRequest) : State :=
  (s.onThyme fun t => { t with requests := t.requests ++ [(r, s.gt + 1)] }).mirrored .thyme

/-- `MIN_OFF_TIME_END`: the tray enters STANDBY; a pending on, or AUTO_ON after an input loss, starts a power-up (05 R135, 06 R162, R164). -/
def execMinOffTimeEnd (s : State) : Host.Outcome State Fault Refusal :=
  .next (match s.thyme.minOffEnd with
    | some t =>
      if t ≤ s.gt ∧ s.serves then
        let up := !s.thyme.latched && ((s.ctx 0).pendOn || (s.thyme.autoOn && s.thyme.afterInputLoss))
        let s := (s.onThyme fun t => { t with minOffEnd := none, afterInputLoss := false, tray := .standby }).onCtx 0 fun c => { c with pendOn := false }
        (if up then s.request .trayOn else s).mirrored .tray
      else s
    | none => s)

/-- `ACC_MIN_OFF_TIME_END`: the pending on of an accelerator starts its power-up in the next tick (06 R162). -/
def execAccMinOffTimeEnd (acc : U8) (s : State) : Host.Outcome State Fault Refusal :=
  let n := acc.toNat
  .next (match nth s.thyme.accMinOffEnd n with
    | some t =>
      if t ≤ s.gt ∧ s.serves then
        let pend := (s.ctx (n + 1)).pendOn
        let s := (s.onThyme fun t => { t with accMinOffEnd := t.accMinOffEnd.set n none }).onCtx (n + 1) fun c => { c with pendOn := false }
        if pend then s.request (.accOn n) else s
      else s
    | none => s)

/-! Input loss (05 R132-R134, 11 R309, 07 R180) -/

/-- The energy of each feed since the last ledger second boundary, up to now, and the `cp_seq` of that boundary's checkpoint, which may still have to be written (11 R309, R318). -/
def LedgerState.sinceBoundary (l : LedgerState) : Nat × List Int :=
  let behind := l.l / 1000 - l.second
  let whole := if behind = 0 then l.feedSince else
    let ticks := l.queue.drop (l.queue.length - l.l % 1000)
    l.feedSince.mapIdx fun i _ => sumInt (ticks.map fun t => nth t.feed i)
  (l.cpSeq + behind, whole.mapIdx fun i e => e + drawNj (nth l.fineFeed i) 32000000)

/-- The journal port writes the power-loss entry (11 R309, R311). -/
def State.powerLossEntry (s : State) : State :=
  let l := s.ledger
  if l.journal = .normal ∧ l.inSession then
    let (cp, e) := l.sinceBoundary
    let e : PowerLoss := { lsess := l.lsess, cpSeq := cp, tick := l.l, eaNj := nth e 0, ebNj := nth e 1 }
    { s with ledger := { l with dev := { l.dev with powerLoss := some e } } }.traced 153 0 l.l
  else s

/-- An input loss where one exists and is not yet recorded: the demand is set, no feed is in ON, and every feed that is not in INRUSH is in LOST (05 R134). -/
def State.inputLossNow (s : State) : State :=
  if s.feed.demand && s.feedsOn == 0 && !s.feed.inputLoss && s.feed.feeds.all fun f => f.phase == .inrush || f.reported == .lost then
    let tray := s.thyme.reported
    let s := (s.onFeeds fun c => { c with inputLoss := true }).powerLossEntry
    let s := if tray = .poweringUp ∨ tray = .on ∨ tray = .maintenance then s.emergencyIsDue .inputLoss else s
    (s.event .feed 0x0307 4 0 []).traced 54 0 tray.code
  else s

/-- `BACKOFF_END` (05 R123): to OFF, or to LOST where the input is not qualified; FAST_OFF is released. -/
def execBackoffEnd (feed : U8) (s : State) : Host.Outcome State Fault Refusal :=
  let x := feed.toNat
  let f := s.feedAt x
  .next (if x < 2 ∧ f.phase = .backoff ∧ f.backoffEnd ≤ s.gt then
    (s.onFeed x fun f => { f with phase := if f.inputLost then .lost else .off, fastOff := false }).feedsSettle.inputLossNow
  else s)

/-- `FEED_SWITCH` with action AUTO (05 R134, R137, R141). -/
def bodyFeedSwitchAuto (feed : U8) (_c : Ctx) (s : State) : Answer :=
  check [(decide (2 ≤ feed.toNat), .badArg)] s fun _ => okay [] ((s.feedAuto feed.toNat).feedsSettle.inputLossNow.mirrored .tray)

/-- After a feed is lost: an input loss, or the outcome of R124 and R125, when no feed is left in ON with the demand set (05 R133, R134). -/
def State.afterLoss (s : State) : State :=
  if !s.feed.demand || s.feedsOn != 0 then s
  else if s.feed.feeds.any fun f => f.reported == .backoff || f.reported == .lockout then s.immediateOff 14 124 .fault
  else s.inputLossNow

/-- A feed is lost: no trip, no record (05 R133). `cause` 0 is the input voltage, 1 a reverse current. -/
def State.loseFeed (s : State) (x cause : Nat) : State :=
  let f := s.feedAt x
  let s := s.onFeed x fun f => { (if f.live then f.opened .lost else if f.phase = .off then { f with phase := .lost } else f) with
    inputLost := true, lossRun := 0, inRangeSince := none, fastOff := f.fastOff || cause == 1 }
  let s := if f.live then s.onFeeds FeedState.shareOff else s
  let sev := if s.feedsOn ≠ 0 ∨ !s.feed.demand then 2 else 4
  let s := if f.live then s.afterLoss else s
  ((s.event .feed 0x0305 sev x (i1 cause ++ zeros 3 ++ i4 f.vinMv)).traced 51 x f.vinMv).feedsSettle

/-- `FEED_LOSS` (05 R133): 16 samples out of range; a trip of the same sample comes first (05 R139). -/
def execFeedLoss (feed : U8) (s : State) : Host.Outcome State Fault Refusal :=
  let f := s.feedAt feed.toNat
  .next (if feed.toNat < 2 ∧ !f.inputLost ∧ 16 ≤ f.lossRun ∧ f.due = 0 then s.loseFeed feed.toNat 0 else s)

/-- `REVERSE_CURRENT_OPEN` (05 R132): four samples below the reverse threshold. -/
def execReverseCurrentOpen (feed : U8) (s : State) : Host.Outcome State Fault Refusal :=
  let f := s.feedAt feed.toNat
  .next (if feed.toNat < 2 ∧ f.live ∧ 4 ≤ f.reverseRun ∧ f.due = 0 then s.loseFeed feed.toNat 1 else s)

/-- `LOW_BUS_IMMEDIATE_OFF` (05 R134): both bus voltages low for four samples before the power-down of an input loss has ended, begun or still due. -/
def execLowBusImmediateOff (s : State) : Host.Outcome State Fault Refusal :=
  .next (if s.feed.inputLoss ∧ (s.runKind 0 = 2 ∨ s.thyme.emergencyDue.isSome) ∧ s.feed.feeds.all (fun f => decide (4 ≤ f.lowBusRun)) then
    let runs := s.runKind 0 = 2
    let p := (s.ctx 0).prog.getD 0
    let t := (s.ctx 0).progTick
    let s := (List.range 9).foldl (fun s k => s.stop k) s
    let s := s.onThyme fun t => { t with emergency := if t.emergencyDue.isSome then t.emergencyDue else t.emergency, emergencyDue := none }
    let s := s.immediateOff 14 134 .unlatched
    (if runs then s.event .thyme 0x0202 0 0 (i1 0 ++ i1 p ++ i4 (s.gt - t)) else s).trayDownEnd false
  else s)

/-- The widest severity of a converter's failure (07 R180). -/
def worstScope (l : List (Option Nat)) : Nat := (l.map faultSeverity).foldl max 2

/-- `CONVERTER_FAILURE` (07 R180): its channels produce no samples, the scopes of its rails go off, and a feed that it carries counts as lost. -/
def execConverterFailure (adc : U8) (s : State) : Host.Outcome State Fault Refusal :=
  let a := adc.toNat
  .next (if a < 8 ∧ s.sage.everLocked ∧ !s.sage.adcFailed.getLsbD a then
    let s := s.onSage fun g => { g with adcFailed := g.adcFailed ||| (1#8 <<< a) }
    let rs := indices 192 fun c => let m := (s.rail c).map
      (s.rail c).used && ((decide (m.vSrc < 128) && m.vSrc / 16 == a) || (decide (m.iSrc < 128) && m.iSrc / 16 == a))
    let scopes := rs.map fun c => (s.rail c).faultScope
    let s := scopes.eraseDups.foldl (fun s o => match o with
      | some n => s.immediateOff n 180 .fault
      | none => s) s
    let s := s.event .monitor 0x010A (worstScope scopes) a (i1 a)
    if a < 2 ∧ !(s.feedAt a).inputLost then s.loseFeed a 0 else s
  else s)

end Sys2Proof.Machine
end

