-- ==== Sys2Proof/Machine/Sequencer.lean ====
section
/-! DEFINITION. The commands of group 0x02: power requests, program loading, clears, policy and mode (06 R169-R174). -/

namespace Sys2Proof.Machine

open Sys2Proof

/-- The state to which a program set's checks refer: rail maps of the channels. -/
def State.railMaps (s : State) : List RailMap := s.sage.rails.map Rail.map

/-- Whole seconds that remain to a GT, rounded up. -/
def State.secsLeft (s : State) (t : Nat) : Nat := (t - s.gt + 999999) / 1000000

/-- The `detail` of a deferred power-up: the shortest back-off remaining in s, 0xFFFF with none (05 R137). -/
def State.deferDetail (s : State) : Nat :=
  (s.feed.feeds.filter fun f => f.reported == .backoff).foldl (fun d f => min d (min 0xFFFF (s.secsLeft f.backoffEnd))) 0xFFFF

/-- An on request is deferred: event 0x0206 (06 R175). -/
def State.deferred (s : State) (k detail : Nat) : Answer :=
  ({ status := .deferred, detail := detail }, (s.event .fp1 0x0206 0 k (i1 k)).mirrored .thyme)

/-- `TRAY_POWER` with action on (06 R162, R170, 05 R137). -/
def bodyTrayPowerOn (_c : Ctx) (s : State) : Answer :=
  match s.thyme.reported with
  | .off => refuse .stateConflict s
  | .standby =>
    if s.feed.feeds.any fun f => f.reported == .off then accepted (s.request .trayOn)
    else if s.feed.feeds.all fun f => f.reported == .lockout || f.reported == .forcedOff then refuse .stateConflict s
    else
      let d := s.deferDetail
      (s.onThyme fun t => { t with deferredUp := true }).deferred 0 d
  | .poweringDown =>
    let d := match s.thyme.minOffEnd with
      | some t => if s.runs 0 then 0xFFFF else s.secsLeft t
      | none => 0xFFFF
    (s.onCtx 0 fun c => { c with pendOn := true }).deferred 0 d
  | .poweringUp | .on | .maintenance => okay [] s
  | .faultOff | .thermalOff | .leakOff => refuse .emergencyActive s

/-- A tray off request cancels a pending on (06 R162). -/
def State.cancelTrayOn (s : State) : State :=
  (s.onThyme fun t => { t with deferredUp := false, requests := t.requests.filter fun r => r.1 != .trayOn }).onCtx 0 fun c => { c with pendOn := false }

/-- `TRAY_POWER` with action off, and the flow-low power-down, which acts as it (06 R168, R170, 10 R277). -/
def State.trayOff (s : State) : Answer :=
  let s := s.cancelTrayOn
  match s.thyme.reported with
  | .poweringUp | .on | .maintenance =>
    if (s.ctx 0).offTaken || (s.ctx 0).unwinding || s.runKind 0 == 2 || s.thyme.requests.any fun r => r.1 == .trayOff then okay [] s else accepted (s.request .trayOff)
  | _ => okay [] (s.mirrored .thyme)

/-- `TRAY_POWER` with action off. -/
def bodyTrayPowerOff (_c : Ctx) (s : State) : Answer := s.trayOff

/-- Accelerator requests need a powered tray and an idle context T (06 R170). -/
def State.accBarred (s : State) : Bool := !s.trayPowered || s.runs 0

/-- An accelerator's pending on is cancelled (06 R162). -/
def State.cancelAccOn (s : State) (n : Nat) : State :=
  (s.onThyme fun t => { t with accMinOffEnd := t.accMinOffEnd.set n none, requests := t.requests.filter fun r => r.1 != .accOn n }).onCtx (n + 1)
    fun c => { c with pendOn := false }

/-- `ACC_POWER` with action on (06 R162, R170). -/
def bodyAccPowerOn (acc : U8) (_c : Ctx) (s : State) : Answer :=
  let n := acc.toNat
  check [(decide (7 < n), .badArg), (s.accBarred, .stateConflict)] s fun _ =>
    match s.acc n with
    | .off => if nth s.thyme.set.accUp n = 255 then refuse .stateConflict s else accepted ((s.cancelAccOn n).request (.accOn n))
    | .down => (s.onCtx (n + 1) fun c => { c with pendOn := true }).deferred (n + 1) 0
    | .up | .on => okay [] s
    | .fault => refuse .stateConflict s

/-- `ACC_POWER` with action off (06 R162, R170). -/
def bodyAccPowerOff (acc : U8) (_c : Ctx) (s : State) : Answer :=
  let n := acc.toNat
  check [(decide (7 < n), .badArg), (s.accBarred, .stateConflict)] s fun _ =>
    let s := s.cancelAccOn n
    if s.acc n = .up ∨ s.acc n = .on then
      if (s.ctx (n + 1)).offTaken || (s.ctx (n + 1)).unwinding || s.runKind (n + 1) == 4 || s.thyme.requests.any fun r => r.1 == .accOff n then okay [] s else accepted (s.request (.accOff n))
    else okay [] (s.mirrored .thyme)

/-- `ACC_POWER` with action reset: ACC_RESET_N is held low for 1 ms (03 R78, 06 R170). -/
def bodyAccPowerReset (acc : U8) (c : Ctx) (s : State) : Answer :=
  let n := acc.toNat
  check [(decide (7 < n), .badArg), (s.acc n != .on, .stateConflict)] s fun _ =>
    let s := s.onThyme fun t => { t with resetAction := t.resetAction.set n (some (s.gt + ms 1, c.port)) }
    accepted ((s.onSage fun g => { g with accReset := g.accReset &&& ~~~(1#8 <<< n) }).mirrored .grants)

/-- A context entry of `SEQ_STATUS` (06 R169). -/
def State.ctxEntry (s : State) (k : Nat) : List Byte :=
  let c := s.ctx k
  let pend := c.pendOn || (k == 0 && s.thyme.deferredUp)
  let st := if c.prog.isSome then (if c.unwinding then 2 else 1) else if pend then 3 else 0
  let run := c.prog.isSome
  i1 st ++ i1 (if k = 0 then s.thyme.reported.code else (s.acc (k - 1)).code) ++ i1 (c.prog.getD 255)
    ++ i1 (match c.mark with | some (m, _) => m | none => 255) ++ i2 (if run then c.idx else 0) ++ i1 c.abortCause ++ i1 c.abortCode
    ++ i4 (if run then s.gt - c.stepTick else 0) ++ i4 (if run then (s.gt - c.progTick) / 1000 else 0)

/-- `SEQ_STATUS` (06 R169). -/
def bodySeqStatus (_c : Ctx) (s : State) : Answer :=
  okay (i1 s.thyme.reported.code ++ ib s.thyme.autoOn ++ ib ((s.ctx 0).pendOn || s.thyme.deferredUp) ++ i1 0
    ++ ((List.range 9).map s.ctxEntry).flatten) s

/-! Program loading (06 R171) -/

/-- `SEQ_PROGRAM_LOAD`, phase BEGIN. -/
def bodySeqProgramLoadBegin (_c : Ctx) (s : State) : Answer := okay [] (s.onThyme fun t => { t with staging := some [] })

/-- `SEQ_PROGRAM_LOAD`, phase DATA. -/
def bodySeqProgramLoadData (offset : U32) (data : List Byte) (_c : Ctx) (s : State) : Answer :=
  check [(decide (33280 < offset.toNat + data.length), .badArg), (s.thyme.staging.isNone, .stateConflict)] s fun _ =>
    okay [] (s.onThyme fun t => { t with staging := t.staging.map fun m => m.writeBytes offset.toNat data })

/-- Install a program set (06 R144, R175). -/
def State.install (s : State) (p : ProgramSet) (source : Nat) : State :=
  ((s.onThyme fun t => { t with set := p, loaded := true }).event .fp1 0x0205 0 source (i1 source)).mirrored .thyme

/-- `SEQ_PROGRAM_LOAD`, phase COMMIT: the checks of R158 in the order of R54 (06 R158, R168, R171). -/
def bodySeqProgramLoadCommit (c : Ctx) (s : State) : Answer :=
  match s.thyme.staging with
  | none => refuse .stateConflict s
  | some m =>
    let p := ProgramSet.ofImage m
    match (if imageRsvdZero m then p.badDetail s.railMaps s.feed.minOffMs else some 0xFFFF) with
    | some d => ({ status := .badArg, detail := d }, s)
    | none =>
      if !s.allIdle then refuse .stateConflict s
      else
        match p.limitDetail s.sage.limits with
        | some d => ({ status := .limitExceeded, detail := d }, s)
        | none => okay [] ((s.install p (c.port + 1)).onThyme fun t => { t with staging := none })

/-- `SEQ_START` (06 R172). -/
def bodySeqStart (prog : U8) (_c : Ctx) (s : State) : Answer :=
  let p := prog.toNat
  let st := s.thyme.reported
  check [(decide (32 ≤ p) || s.thyme.set.kind p != 6, .badArg),
    (!(st == .standby || st == .maintenance) || !s.allIdle || s.thyme.emergencyDue.isSome, .stateConflict)] s fun _ =>
      accepted ((s.begin 0 p (s.thyme.set.first p) (s.gt + 1) .fresh).mirrored .thyme)

/-! Clears, policy and mode (06 R173, R174) -/

/-- What follows a latch's release: with no latch left the tray is in its underlying state and, in STANDBY, the demand is cleared (00 R12, 05 R114, 10 R280). -/
def State.latchReleased (s : State) : State :=
  (if s.thyme.latched ∨ s.thyme.minOffEnd.isSome then s else s.clearDemand).mirrored .tray

/-- `TRAY_FAULT_CLEAR` (06 R173). -/
def bodyTrayFaultClear (c : Ctx) (s : State) : Answer :=
  if !s.thyme.latchFault then okay [] s
  else if !s.allIdle || s.sage.rails.any (fun r => r.used && r.running) || !(s.feed.feeds.any fun f => f.reported == .on || f.reported == .off) then
    refuse .stateConflict s
  else
    let s := (s.onThyme fun t => { t with latchFault := false }).onSage fun g => { g with holdFault := false }
    okay [] (s.latchReleased.event .fp1 0x0207 0 c.port (i1 c.port))

/-- `ACC_FAULT_CLEAR` (06 R173). -/
def bodyAccFaultClear (acc : U8) (c : Ctx) (s : State) : Answer :=
  let n := acc.toNat
  check [(decide (7 < n), .badArg)] s fun _ =>
    if s.acc n ≠ .fault then okay [] s
    else if s.sage.rails.any (fun r => r.used && r.map.branch == n && r.running) || s.pins.tripLow.getLsbD n then refuse .stateConflict s
    else
      let s := (s.setAcc n .off).onSage fun g => { g with holdBranch := g.holdBranch &&& ~~~(1#8 <<< n) }
      okay [] ((s.event .fp1 0x0208 0 n (i1 n ++ i1 c.port)).mirrored .tray)

/-- `RESTART_POLICY_SET` (06 R164, R174). -/
def bodyRestartPolicySet (policy : U8) (_c : Ctx) (s : State) : Answer :=
  check [(decide (1 < policy.toNat), .badArg)] s fun _ =>
    okay [] ((s.onThyme fun t => { t with autoOn := policy == 1 }).saveSettings.mirrored .thyme)

/-- `MODE_SET` to ON: margins are restored (06 R174, 07 R201). -/
def bodyModeSetOn (c : Ctx) (s : State) : Answer :=
  check [(!s.trayPowered, .stateConflict)] s fun _ =>
    let s := (s.restoreMargins.onThyme fun t => { t with tray := .on }).mirrored .tray
    if s.marginWaits then ({ forwarded := true }, s.onSage fun g => { g with restores := g.restores ++ [{ port := c.port, session := c.se.id, reqId := c.reqId }] })
    else okay [] s

/-- `MODE_SET` to MAINTENANCE (06 R174). -/
def bodyModeSetMaintenance (_c : Ctx) (s : State) : Answer :=
  check [(!s.trayPowered, .stateConflict)] s fun _ =>
    okay [] ((s.onThyme fun t => { t with tray := .maintenance }).mirrored .tray)

end Sys2Proof.Machine
end

