-- ==== Sys2Proof/Machine/Skv.lean ====
section
/-! DEFINITION. The link layer of the SKV ports and of MIR: flits, credits, replay, retrains, and sending a message to a package (13 R362-R369, R384, 15 R409). -/

namespace Sys2Proof.Machine

open Sys2Proof

/-! Ports by number: 0 to 9 are SKV0 to SKV9, 10 is MIR (log entry 8) -/

/-- A port. -/
def State.skv (s : State) (n : Nat) : SkvPort := if n = 10 then s.pair.mir else nth s.link.ports n

/-- Change a port. -/
def State.onSkv (s : State) (n : Nat) (f : SkvPort → SkvPort) : State :=
  if n = 10 then { s with pair := { s.pair with mir := f s.pair.mir } }
  else { s with link := { s.link with ports := modAt s.link.ports n f } }

/-- The port has been trained and not gone down: flits pass. -/
def SkvPort.trained (p : SkvPort) : Bool := p.phase == .up || p.phase == .linkUp

/-- The governor's receive credits of classes 1 to 7 (13 R367). -/
def receiveCredits : List Nat := [256, 64, 64, 32, 128, 16, 16]

/-- Flits that a message occupies: one at least, 59 bytes each (13 R362). -/
def flitsOf (len : Nat) : Nat := max 1 ((len + 58) / 59)

/-- The 64 bytes of a numbered flit (13 R362). -/
def Flit.bytes (f : Flit) : List Byte :=
  let b := i1 (f.cls + 8 * flag f.first + 16 * flag f.last) ++ fit 59 f.payload
  b ++ i4 (crc32 (b ++ i2 f.seq)).toNat

/-- The 64 bytes of a LINK flit, not numbered (13 R362, R365). -/
def linkFlit (nak : Bool) (ack : Nat) (credits : List Nat) : List Byte :=
  ({ first := true, last := true, payload := i1 (flag nak) ++ i2 ack ++ (credits.map i1).flatten } : Flit).bytes

/-- Send a LINK flit (13 R365). -/
def SkvPort.sendLink (p : SkvPort) (nak : Bool) (credits : List Nat) : SkvPort :=
  let ack := (p.rxSeq + 4095) % 4096
  { p with tx := p.tx + 1, linkSent := p.linkSent ++ [(nak, ack, credits)], wire := p.wire ++ [linkFlit nak ack credits] }

/-- Send every unacknowledged flit again, in order (13 R365). -/
def SkvPort.resend (p : SkvPort) : SkvPort := { p with tx := p.tx + p.replay.length, wire := p.wire ++ p.replay.map Flit.bytes }

/-! Sending -/

/-- The message that a class sends next: one begun goes on, then a CMD message of types 6 to 8, then the oldest (13 R362, R384). -/
def SkvPort.nextOf (p : SkvPort) (cls : Nat) : Option SkvMsg :=
  let mine := p.txq.filter fun m => m.cls == cls
  match mine.find? fun m => decide (0 < m.off) with
  | some m => some m
  | none =>
    match (if cls = 5 then mine.find? fun m => decide (6 ≤ (m.body.headD 0).toNat ∧ (m.body.headD 0).toNat ≤ 8) else none) with
    | some m => some m
    | none => mine.head?

/-- The message whose flit goes next, with its class: strict priority SYNC, MGMT, then CMD and IMG by weighted rounds, each class only with a credit (13 R367, R384). -/
def SkvPort.pick (p : SkvPort) (wCmd wImg : Nat) : Option SkvMsg :=
  let can := fun cls => if 0 < nth p.credits (cls - 1) then p.nextOf cls else none
  let shared := if p.round % (wCmd + wImg) < wCmd then [5, 6] else [6, 5]
  ([1, 7] ++ shared ++ [2, 3, 4]).findSome? can

/-- Send one flit of a message (13 R362, R365, R367). -/
def SkvPort.sendFlit (p : SkvPort) (m : SkvMsg) (gt : Nat) : SkvPort :=
  let last := decide (m.body.length ≤ m.off + 59)
  let f : Flit := { seq := p.txSeq, cls := m.cls, first := m.off == 0, last := last, payload := (m.body.drop m.off).take 59 }
  let txq := if last then p.txq.erase m else p.txq.map fun x => if x = m then { m with off := m.off + 59 } else x
  { p with
    txq := txq
    txSeq := (p.txSeq + 1) % 4096
    ackGt := if p.replay = [] then gt else p.ackGt
    replay := p.replay ++ [f]
    wire := p.wire ++ [f.bytes]
    tx := p.tx + 1
    credits := modAt p.credits (m.cls - 1) (· - 1)
    unacked := if last then p.unacked ++ [(p.txSeq, m)] else p.unacked
    sent := if last then p.sent ++ [{ m with off := 0 }] else p.sent
    round := if last ∧ (m.cls = 5 ∨ m.cls = 6) then p.round + 1 else p.round }

/-- Send what credits and the 512-flit window let leave, one flit at a time. -/
def SkvPort.pumped (gt wCmd wImg : Nat) : Nat → SkvPort → SkvPort
  | 0, p => p
  | fuel + 1, p =>
    if p.trained && p.retrain.isNone && decide (p.replay.length < 512) then
      match p.pick wCmd wImg with
      | some m => SkvPort.pumped gt wCmd wImg fuel (p.sendFlit m gt)
      | none => p
    else p

/-- Send what waits at a port (13 R384). -/
def State.pump (s : State) (n : Nat) : State :=
  s.onSkv n (SkvPort.pumped s.gt (nth s.link.weights 0) (nth s.link.weights 1) 512)

/-- Put a message on a port of this governor (13 R364). -/
def State.portSend (s : State) (n cls : Nat) (body : List Byte) : State :=
  (s.onSkv n fun p => if p.phase = .unused then p else { p with txq := p.txq ++ [({ cls := cls, body := body } : SkvMsg)] }).pump n

/-- The OWNER reaches a package through the STANDBY (13 R369). -/
def State.throughPartner (s : State) (n : Nat) : Bool := s.isOwner && s.pair.alive && (s.skv n).phase == .partnerPath

/-- Send a message to a package: on its port, or on the partner path while the OWNER's link to it is down (13 R364, R369). -/
def State.skvSend (s : State) (n cls : Nat) (body : List Byte) : State :=
  if s.throughPartner n && (cls == 1 || cls == 5 || cls == 6) then s.mirOut (.path n cls body) else s.portSend n cls body

/-- The header of a CMD message with its body (13 R380). -/
def cmdMessage (type queue seq : Nat) (body : List Byte) : List Byte := i1 type ++ i1 queue ++ i2 body.length ++ i4 seq ++ body

/-- The version of the running firmware, zero before an image runs. -/
def State.fwVersion (s : State) : Nat := s.runningManifest.version

/-- The governor's capability message (13 R368). -/
def State.ownCapability (s : State) : List Byte :=
  i4 0x5843474C ++ i1 1 ++ i1 0 ++ i1 2 ++ i1 0 ++ i1 0 ++ i1 s.position ++ i2 0
    ++ i4 s.fwVersion ++ serialBytes s.sec.serial ++ (receiveCredits.map i2).flatten ++ i2 0 ++ i4 3 ++ zeros 12

/-- The role message (13 R369). -/
def State.roleMessage (s : State) : List Byte := i1 (flag s.isOwner) ++ zeros 7

/-- The role message at a change of role, on every port at LINK_UP (13 R369). -/
def State.sendRole (s : State) : State :=
  (indices 10 fun n => (s.skv n).phase == .linkUp).foldl (fun s n => s.portSend n 7 s.roleMessage) s

/-! Receiving -/

/-- A message of a class arrives whole: its flits are counted, acknowledged, and their credits returned once it is routed (13 R365, R367). -/
def State.received (s : State) (n cls len : Nat) : State :=
  let k := flitsOf len
  if !(s.skv n).trained then s
  else s.onSkv n fun p =>
    { p with rx := p.rx + k, rxSeq := (p.rxSeq + k) % 4096, discarding := false }.sendLink false ((List.replicate 7 0).set (cls - 1) k)

/-- A message can arrive from a package: its port passes flits, or the STANDBY forwards what the package sends (13 R369). -/
def State.hears (s : State) (n : Nat) : Bool := decide (n < 10) && ((s.skv n).trained || s.throughPartner n)

/-- Count a report or flit that the port discards (13 R368, R370, R371). -/
def State.dropReport (s : State) (n : Nat) : State := s.onSkv n fun p => { p with discarded := satAdd 32 p.discarded 1 }

/-- Acknowledged flits leave the replay buffer (13 R365): `ack` is the last flit received in order. -/
def SkvPort.acknowledged (p : SkvPort) (ack gt : Nat) : SkvPort :=
  if p.replay.any fun f => f.seq == ack then
    let n := (p.replay.findIdx fun f => f.seq == ack) + 1
    let gone := (p.replay.take n).map Flit.seq
    { p with replay := p.replay.drop n, unacked := p.unacked.filter (fun u => !gone.contains u.1), ackGt := gt, stuck := 0 }
  else p

/-- Replay from the flit after the acknowledged one; the eighth replay without progress retrains (13 R365, R366). -/
def State.replayPort (s : State) (n : Nat) : State :=
  let p := s.skv n
  match p.replay with
  | [] => s
  | f :: _ =>
    let s := s.onSkv n fun p => { p.resend with replays := satAdd 32 p.replays 1, ackGt := s.gt, stuck := p.stuck + 1 }
    s.traced 224 n f.seq

/-- Start a retrain: sequences, buffers and credits stay (13 R366). Causes: 1 replays without progress, 2 command. -/
def State.retrainPort (s : State) (n cause : Nat) : State :=
  let s := s.onSkv n fun p => { p with retrain := some s.gt, retrains := satAdd 32 p.retrains 1, stuck := 0 }
  s.traced 225 n cause

/-- The entries of a queue that a link did not acknowledge are delivered again (13 R372, R381). -/
def HostQueue.resumeAfter (q : HostQueue) (p : SkvPort) : HostQueue :=
  let mine := (p.unacked.map Prod.snd ++ p.txq).filter fun m =>
    m.cls == 5 && (m.body.headD 0).toNat == 1 && (m.body.getD 1 0).toNat == q.num
  let first := (mine.map fun m => ofLe ((m.body.drop 4).take 4)).foldl min (q.delivered + 1)
  { q with delivered := first - 1 }

/-- A port whose link has gone down: both replay buffers and all credits are discarded; sync messages that the link did not acknowledge are kept for LINK_UP (13 R366, R372). -/
def SkvPort.fallen (p : SkvPort) (phase : PortPhase) : SkvPort :=
  let keep := ((p.unacked.map Prod.snd ++ p.txq).filter fun m => m.cls == 1).map fun m => ({ m with off := 0 } : SkvMsg)
  { p with
    phase := phase, retrain := none, replay := [], unacked := [], txq := keep
    credits := List.replicate 7 0, toReturn := List.replicate 7 0, txSeq := 0, rxSeq := 0, discarding := false, stuck := 0 }

end Sys2Proof.Machine
end

