-- ==== Sys2Proof/Machine/OpPoint.lean ====
section
/-! DEFINITION. Operating point and power capping: the P-state table, the combined ceiling, the cap loop, step-targeted changes with their voltages, the alert throttle, and the commands of group 0x04 (08 R208-R229). -/

namespace Sys2Proof.Machine

open Sys2Proof

/-- Change the operating point part. -/
def State.onOp (s : State) (f : OpState → OpState) : State := { s with op := f s.op }

/-! The P-state table (08 R208, R209) -/

/-- An accelerator section from its bytes. -/
def AccSection.ofImage (m : Mem) (a : Nat) : AccSection :=
  { kind := (m.read a).toNat, fastest := (m.read (a + 1)).toNat
    rail := (List.range 8).map fun d => (m.read (a + 8 + d)).toNat
    vMv := (List.range 32).map fun p => (List.range 8).map fun d => m.num (a + 16 + 16 * p + 2 * d) 2 }

/-- A table from its image. -/
def PTable.ofImage (m : Mem) : PTable :=
  { settleUs := m.num 6 2
    fMhz := (List.range 32).map fun p => m.num (16 + 8 * p) 2
    pw := (List.range 32).map fun p => m.num (18 + 8 * p) 2
    acc := (List.range 8).map fun n => AccSection.ofImage m (272 + 528 * n) }

/-- Voltage of a die at a P-state. -/
def AccSection.volt (a : AccSection) (p d : Nat) : Nat := nth (nth a.vMv p) d
/-- Core rail of a die. -/
def AccSection.railOf (a : AccSection) (d : Nat) : Nat := a.rail.getD d 255
/-- The section of an accelerator. -/
def PTable.sec (t : PTable) (n : Nat) : AccSection := nth t.acc n

/-- A rail byte that breaks R209: no AVSBus setpoint, named in an earlier section, or a die that a package of kind 2 lacks. -/
def PTable.badRail (t : PTable) (map : List RailMap) (n d : Nat) : Bool :=
  let a := t.sec n
  let c := a.railOf d
  c != 255 && (decide (192 ≤ c) || !(nth map c).avsSet || (nth map c).ctrl == 0 || (a.kind == 2 && decide (4 ≤ d))
    || (List.range n).any fun j => (t.sec j).rail.contains c)

/-- The offsets of the bytes of a table at which R209 is broken, apart from `vset_max_mv`. -/
def PTable.badOffsets (t : PTable) (map : List RailMap) (accUp : List Nat) : List Nat :=
  (if t.settleUs < 10 ∨ 2000 < t.settleUs then [6] else [])
    ++ ((List.range 32).map fun p =>
      (if 0 < p ∧ nth t.fMhz (p - 1) ≤ nth t.fMhz p then [16 + 8 * p] else [])
        ++ (if (p = 0 ∧ nth t.pw 0 ≠ 1024) ∨ (0 < p ∧ nth t.pw (p - 1) < nth t.pw p) then [18 + 8 * p] else [])).flatten
    ++ ((List.range 8).map fun n =>
      let a := t.sec n
      let base := 272 + 528 * n
      (if 2 < a.kind ∨ (a.kind = 0) ≠ (nth accUp n = 255) then [base] else [])
        ++ (if a.kind ≠ 0 ∧ 31 < a.fastest then [base + 1] else [])
        ++ ((indices 8 fun d => t.badRail map n d).map (base + 8 + ·))
        ++ (if a.kind = 0 then [] else ((List.range 31).map fun p => (indices 8 fun d => a.railOf d != 255 && decide (a.volt p d < a.volt (p + 1) d)).map
                (base + 32 + 16 * p + 2 * ·)).flatten)).flatten

/-- The offsets of voltages above the highest setpoint of their rail (08 R209, 07 R195). -/
def PTable.overOffsets (t : PTable) (lim : LimitBlock) : List Nat :=
  ((List.range 8).map fun n =>
    let a := t.sec n
    if a.kind = 0 then [] else
      ((List.range 32).map fun p => (indices 8 fun d => a.railOf d != 255 && decide ((nth lim.rails (a.railOf d)).vsetMax < a.volt p d)).map
        (272 + 528 * n + 16 + 16 * p + 2 * ·)).flatten).flatten

/-- The least of a list of offsets. -/
def leastOf (l : List Nat) : Option Nat :=
  match l with
  | [] => none
  | x :: xs => some (xs.foldl min x)

/-- The table is valid under R209. -/
def PTable.valid (t : PTable) (map : List RailMap) (accUp : List Nat) (lim : LimitBlock) : Bool :=
  t.badOffsets map accUp == [] && t.overOffsets lim == []

/-- The offsets of the bytes of an image whose magic, format or reserved fields are wrong (08 P-state table, R16). -/
def tableFormOffsets (m : Mem) : List Nat :=
  let want : List (Nat × Nat) := [(0, 0x4C), (1, 0x47), (2, 0x50), (3, 0x53), (4, 1), (5, 0)]
  let rsvd := (List.range 8).map (8 + ·)
    ++ ((List.range 32).map fun p => (List.range 4).map (20 + 8 * p + ·)).flatten
    ++ ((List.range 8).map fun n => (List.range 6).map (274 + 528 * n + ·)).flatten
  (want.filter fun w => (m.read w.1).toNat != w.2).map Prod.fst ++ rsvd.filter fun a => m.read a != 0

/-! Packages and groups (08 R218) -/

/-- The packages in ACC_ON. -/
def State.onSet (s : State) : BitVec 8 := (List.range 8).foldl (fun (a : BitVec 8) n => if s.acc n = .on then a ||| (1#8 <<< n) else a) 0

/-- The members of a set of packages. -/
def members (b : BitVec 8) : List Nat := indices 8 b.getLsbD

/-- The packages of a job: those with a die among its participants. -/
def Job.pkgs (j : Job) : BitVec 8 :=
  (List.range 8).foldl (fun (a : BitVec 8) n => if (List.range 8).any fun d => j.parts.getLsbD (8 * n + d) then a ||| (1#8 <<< n) else a) 0

/-- The packages that an open job with a member of the set adds to it, in ACC_ON or not. -/
def State.joined (s : State) (g : BitVec 8) : BitVec 8 :=
  s.sync.jobs.foldl (fun g j => if j.pkgs &&& g = 0 then g else g ||| j.pkgs) g

/-- The frequency group of a package in ACC_ON (08 R218): the packages in ACC_ON of its chain of open jobs, each of which shares a package with the next. -/
def State.groupOf (s : State) (n : Nat) : BitVec 8 := (List.range 8).foldl (fun g _ => s.joined g) (1#8 <<< n) &&& s.onSet

/-- The frequency groups, lowest package first. -/
def State.groups (s : State) : List (BitVec 8) :=
  ((members s.onSet).filter fun n => (members (s.groupOf n)).headD n == n).map s.groupOf

/-- The highest step reported by a die of a group since its package entered ACC_ON (08 R218). -/
def State.groupStep (s : State) (g : BitVec 8) : Option Nat :=
  ((members g).map fun n => (List.range 8).filterMap fun d => (nth s.link.dies (8 * n + d)).step).flatten.foldl
    (fun best x => some (max (best.getD 0) x)) none

/-- A group belongs to an open job. -/
def State.inJob (s : State) (g : BitVec 8) : Bool := s.sync.jobs.any fun j => j.pkgs &&& g != 0

/-- Unapplied changes of a group. -/
def State.unapplied (s : State) (g : BitVec 8) : Nat := countIf (fun (a : ArmedChange) => a.pkgs &&& g != 0) s.op.armed

/-- Some group holds four unapplied changes (08 R220). -/
def State.groupsFull (s : State) : Bool := s.groups.any fun g => decide (4 ≤ s.unapplied g)

/-! Voltages (08 R222) -/

/-- The P-states that the voltages of a package must cover. -/
def State.cover (s : State) (n : Nat) : List Nat :=
  let g := s.groupOf n
  let due := if s.op.entering = 0 then [] else s.op.lastSent.toList
  let rel := match s.op.throttle with
    | .volts => [s.op.ceil]
    | _ => []
  (members g).map (nth s.op.applied ·) ++ ((s.op.armed.filter fun a => a.pkgs &&& g != 0).map ArmedChange.p)
    ++ due ++ rel ++ (s.op.faster.map FasterChange.p).toList

/-- The voltage that each core rail of the packages in ACC_ON must have. -/
def State.railNeeds (s : State) : List (Nat × Nat) :=
  (members s.onSet).foldl (fun acc n =>
    let a := s.op.table.sec n
    let ps := s.cover n
    (List.range 8).foldl (fun acc d =>
      if a.kind = 0 ∨ a.railOf d = 255 then acc
      else put acc (a.railOf d) (max (look acc (a.railOf d)) ((ps.map fun p => a.volt p d).foldl max 0))) acc) []

/-- The setpoint last asked of a rail: a held move, else its nominal. -/
def State.asked (s : State) (c : Nat) : Nat :=
  match s.op.heldMoves.find? fun m => m.1 == c with
  | some m => m.2
  | none => (s.rail c).nominal.getD 0

/-- Issue a P-state move of a rail: its new nominal, with its margin steps, clamped, the clamp counted in event 0x0102 (08 R222, 07 R200, 01 R30). -/
def State.issueMove (s : State) (c mv : Nat) : State :=
  let r := s.rail c
  let out := if r.margin = 0 then mv else marginMv mv r.margin
  let most := (s.railLimit c).vsetMax
  let s := if most < out then s.event .arbiter 0x0102 0 0 [] else s
  ((s.onRail c fun r => { r with nominal := some mv }).writeSetpoint c out r.map.setBus .pstate).traced 70 c (min out most)

/-- Move a rail, or hold the move while a program owns it (01 R31). -/
def State.moveRail (s : State) (c mv : Nat) : State :=
  let up := decide (s.asked c < mv)
  let s := s.onOp fun o => { o with raises := if up then c :: o.raises.filter (· != c) else o.raises }
  if s.owned c then s.onOp fun o => { o with heldMoves := put (o.heldMoves.filter fun m => m.1 != c) c mv }
  else s.issueMove c mv

/-- Bring every core rail to what R222 asks. -/
def State.moveVolts (s : State) : State :=
  (s.railNeeds.filter fun m => s.asked m.1 != m.2).foldl (fun s m => s.moveRail m.1 m.2) s

/-- The first tick after a program ends issues the moves held for its rails (01 R31). -/
def State.releaseMoves (s : State) : State :=
  (s.op.heldMoves.filter fun m => !s.owned m.1).foldl (fun s m =>
    (s.onOp fun o => { o with heldMoves := o.heldMoves.filter fun x => x.1 != m.1 }).issueMove m.1 m.2) s

/-- Every raise is acknowledged and `settle_us` has passed since (08 R222). -/
def State.settled (s : State) : Bool :=
  s.op.raises == [] && match s.op.raiseAckGt with
    | some t => s.since t s.op.table.settleUs
    | none => true

/-! Sending changes (08 R218-R224) -/

/-- The body of a change message (08 P-state change message). -/
def State.changeBody (s : State) (a : ArmedChange) : List Byte :=
  i4 a.seq ++ i1 a.p ++ i1 (packBits [a.immediate, a.atRelease, a.atRelease]) ++ i2 (nth s.op.table.fMhz a.p) ++ i8 a.target

/-- Send a change to packages (08 R219). -/
def State.sendTo (s : State) (a : ArmedChange) (pkgs : BitVec 8) : State :=
  (members pkgs).foldl (fun s n => s.skvSend n 5 (cmdMessage 6 0 0 (s.changeBody a))) s

/-- Send a change and hold it until its packages have applied it. -/
def State.launchChange (s : State) (a : ArmedChange) : State :=
  let s := s.onOp fun o => { o with armed := o.armed ++ [a] }
  (s.sendTo a a.pkgs).traced 65 ((members a.pkgs).headD 0) (a.seq + 2 ^ 32 * a.p)

/-- The next change sequence, with the change that it names (08 R219). -/
def State.nextChange (s : State) (p : Nat) : Nat × State :=
  let n := (s.op.chgSeq + 1) % 2 ^ 32
  (n, s.onOp fun o => { o with chgSeq := n, history := o.history ++ [(n, p)] })

/-- The change of one group: immediate for a lone package outside a job or a group without a reported step, else targeted two steps above the highest report (08 R218). -/
def State.groupChange (s : State) (seq p : Nat) (g : BitVec 8) : ArmedChange :=
  let step := s.groupStep g
  let lone := (members g).length == 1 && !s.inJob g
  if lone ∨ step = none then { seq := seq, p := p, immediate := true, pkgs := g }
  else { seq := seq, p := p, target := step.getD 0 + 2, pkgs := g }

/-- Send the combined ceiling as a change to every package in ACC_ON (08 R219). -/
def State.sendChange (s : State) (p : Nat) : State :=
  let (seq, s) := s.nextChange p
  let s := s.groups.foldl (fun s g => s.launchChange (s.groupChange seq p g)) s
  (s.onOp fun o => { o with lastSent := some p, waiting := none, faster := none }).mirrored .op

/-- Send again every change that its packages have not all acknowledged (08 R224). -/
def State.resendChanges (s : State) : State :=
  (s.op.armed.filter fun a => a.pkgs &&& ~~~a.acked != 0).foldl (fun s a => s.sendTo a a.pkgs) s

/-- Send again to one package every change that it has not acknowledged (13 R372). -/
def State.resendChangesTo (s : State) (n : Nat) : State :=
  (s.op.armed.filter fun a => a.pkgs.getLsbD n && !a.acked.getLsbD n).foldl (fun s a => s.sendTo a (1#8 <<< n)) s

/-- TRAY_SLOW_N is low. -/
def State.traySlow (s : State) : Bool := s.op.slow || s.op.slowNet

/-- CAPL may send changes: it runs, at the OWNER, with TRAY_SLOW_N high (08 R224, R225). -/
def State.maySend (s : State) : Bool := s.isOwner && !s.traySlow && !s.restarting 4

/-- Act on the combined ceiling (08 R210, R219, R220, R222, R225). -/
def State.decideChange (s : State) : State :=
  let c := s.op.ceil
  if s.onSet = 0 then s.onOp fun o => { o with lastSent := some c, faster := none, waiting := none }
  else if !s.maySend then s
  else
    let s := match s.op.faster with
      | some f => if f.p = c then s else s.onOp fun o => { o with faster := none }
      | none => s
    if s.op.lastSent = some c then (s.onOp fun o => { o with waiting := none }).moveVolts
    else if s.groupsFull then s.onOp fun o => { o with waiting := some c }
    else if s.op.lastSent.any (· < c) then s.sendChange c
    else if s.op.faster.isSome then s
    else
      let s := (s.onOp fun o => { o with faster := some { p := c } }).moveVolts
      let s := s.onOp fun o => { o with faster := some { p := c, waiting := o.raises } }
      if s.settled then s.sendChange c else s

/-- `FASTER_CHANGE_SEND`: the voltages stand and have settled (08 R222). -/
def execFasterChangeSend (s : State) : Host.Outcome State Fault Refusal :=
  .next (match s.op.faster with
    | some f => if s.maySend && s.settled && decide (f.p = s.op.ceil) && !s.groupsFull then s.sendChange f.p else s
    | none => s)

/-- The P-state that a sequence names: the latest change at or below it. -/
def OpState.named (o : OpState) (seq : Nat) : Option Nat :=
  ((o.history.filter fun h => seqLe h.1 seq).getLast?).map Prod.snd

/-- Put the P-state in force (08 R210): the latest change that every package in ACC_ON has applied, the ceiling while none is in ACC_ON. -/
def State.putInForce (s : State) : State :=
  let on := members s.onSet
  let p :=
    if on = [] then s.op.ceil
    else
      let seqs := on.map fun n => nth s.op.appliedSeq n
      match (seqs.all Option.isSome, (seqs.filterMap id)) with
      | (true, x :: xs) => (s.op.named (xs.foldl (fun a b => if seqLe a b then a else b) x)).getD s.op.pNow
      | _ => s.op.pNow
  if p = s.op.pNow then s
  else ({ s.onOp fun o => { o with pNow := p } with phase := { s.phase with pChanged := true } }).mirrored .op

/-- Changes that no report can name any more are forgotten. -/
def OpState.pruned (o : OpState) (on : BitVec 8) : OpState :=
  let seqs := (members on).map fun n => nth o.appliedSeq n
  match (seqs.all Option.isSome, (seqs.filterMap id)) with
  | (true, x :: xs) =>
    let low := xs.foldl (fun a b => if seqLe a b then a else b) x
    let old := o.history.filter fun h => seqLe h.1 low
    { o with history := (old.drop (old.length - 1)) ++ o.history.filter fun h => !seqLe h.1 low }
  | _ => o

/-- A package's report that it has applied a change (08 R222, 13 R370). -/
def State.appliedReport (s : State) (n seq : Nat) : State :=
  let mine := s.op.armed.filter fun a => a.pkgs.getLsbD n && !a.applied.getLsbD n && seqLe a.seq seq
  if mine = [] then s
  else
    let s := mine.foldl (fun s a => s.traced 67 n (a.seq + 2 ^ 32 * a.p)) s
    let s := s.onOp fun o => { o with
      applied := o.applied.set n ((o.named seq).getD (nth o.applied n))
      appliedSeq := o.appliedSeq.set n (some seq)
      armed := (o.armed.map fun a => if mine.contains a then { a with applied := a.applied ||| (1#8 <<< n) } else a).filter fun a => a.pkgs &&& ~~~a.applied != 0 }
    let s := (s.putInForce).onOp fun o => o.pruned s.onSet
    (if s.isOwner then s.moveVolts else s).mirrored .op

/-- `PSTATE_ACK`: a package acknowledges a change; 0 ARMED, 1 LATE, 2 APPLIED, 3 DUPLICATE (08 R219-R221, R224). -/
def execPstateAck (pkg : U8) (seq : U32) (kind : U8) (step : U64) (s : State) : Host.Outcome State Fault Refusal :=
  let n := pkg.toNat
  .next (if decide (n < 8) && s.hears n then
    let s := s.received n 5 24
    match s.op.armed.find? fun a => a.seq == seq.toNat && a.pkgs.getLsbD n with
    | none => s
    | some a =>
      let a' : ArmedChange := { a with acked := a.acked ||| (1#8 <<< n) }
      let s := s.onOp fun o => { o with armed := o.armed.map fun x => if x = a then a' else x }
      let s := if kind = 0 ∧ a'.pkgs &&& ~~~a'.acked = 0 then s.traced 66 ((members a.pkgs).headD 0) a.target else s
      let s := if kind = 1 then
          (s.event .fp1 0x0403 1 n (i1 n ++ i8 a.seq ++ i8 a.target ++ i8 step.toNat)).traced 72 n step.toNat
        else s
      s.mirrored .op
  else s)

/-! Budgets (08 R217) -/

/-- The branch budget in force: the lowest of `CAP_SET` and the phase engine's request, at its bound (01 R29, 08 R217). -/
def State.budgetOf (s : State) (b : Nat) : Nat :=
  let top := nth s.sage.limits.budgetMax b
  let own := min top (nth s.op.budget b)
  match nth s.op.pe (2 + b) with
  | some v => min own v.toNat
  | none => own

/-- Send the budgets that the packages in ACC_ON do not have yet (08 R217). -/
def State.sendBudgets (s : State) : State :=
  ((members s.onSet).filter fun n => nth s.op.budgetSent n != s.budgetOf n).foldl (fun s n =>
    let b := s.budgetOf n
    ((s.onOp fun o => { o with budgetSent := o.budgetSent.set n b }).skvSend n 5 (cmdMessage 8 0 0 (i4 b))).traced 71 n b) s

/-! The cap loop (08 R213-R216) -/

/-- A division of the cap loop; by zero it is a free value (log entry 1). -/
def capDiv (a b : Int) : Int := if b = 0 then Config.freeQuotient a b else Int.tdiv a b

/-- Input power of a feed, mW. -/
def State.feedMeas (s : State) (x : Nat) : Int := Int.tdiv ((s.feedAt x).vinMv * (s.feedAt x).iDa) 10

/-- A feed is in ON. -/
def State.feedOn (s : State) (x : Nat) : Bool := (s.feedAt x).phase == .on

/-- The cap of a feed in the loop: with one feed in ON the single-feed current limit bounds it (05 R138, 08 R212). -/
def State.loopCapA (s : State) (x : Nat) : Nat :=
  let cap := nth s.op.feedCapA x
  let env := (nth s.sage.limits.feeds x).envelope
  let single := ((s.feedAt x).cfg.singleA).getD (nth env 7).iA
  if s.feedsOn = 1 then min cap single else cap

/-- The limits of the feeds in ON, mW. -/
def State.feedLimits (s : State) : List (Nat × Int) :=
  ([0, 1].filter s.feedOn).map fun x => (x, Int.tdiv ((s.loopCapA x : Int) * (s.feedAt x).vinMv * (1024 - s.op.guard)) 1024)

/-- The tray limit, mW. -/
def State.trayLimit (s : State) : Int := Int.tdiv ((s.op.trayCapW : Int) * 1000 * (1024 - s.op.guard)) 1024

/-- The prediction at a P-state (08 R215). -/
def State.predict (s : State) (c : Nat) : Int :=
  let scal := sumInt s.op.adj
  (s.op.trayAdj - scal) + capDiv (scal * ((nth s.op.table.pw c : Nat) : Int)) ((nth s.op.table.pw s.op.pNow : Nat) : Int)

/-- The first limit that a prediction exceeds: 0 tray, 1 feed A, 2 feed B (08 R215). -/
def State.exceeded (s : State) (pred : Int) : Option Nat :=
  if s.trayLimit < pred then some 0
  else if 0 < s.op.trayAdj then
    (s.feedLimits.find? fun l => decide (l.2 < Int.tdiv (pred * s.feedMeas l.1) s.op.trayAdj)).map fun l => l.1 + 1
  else none

/-- The needed P-state q (08 R215). -/
def State.neededP (s : State) : Nat :=
  ((List.range 32).find? fun c => decide (s.sage.limits.fastestP ≤ c) && (s.exceeded (s.predict c)).isNone).getD 31

/-- `cap_ceil` and `up` after a tick with q (08 R215). -/
def OpState.follow (o : OpState) (q : Nat) : OpState :=
  if o.capCeil < q then { o with capCeil := q, up := 0 }
  else if q < o.capCeil then
    if 4 ≤ o.up + 1 then { o with capCeil := o.capCeil - 1, up := 0 } else { o with up := o.up + 1 }
  else { o with up := 0 }

/-- The measures of a control tick (08 R213). -/
def OpState.measured (o : OpState) (feedIn : Int) : OpState :=
  let adj := (List.range 8).map fun n =>
    if 5 ≤ nth o.tAct n then Int.tdiv (Int.tdiv (nth o.eAct n) 1000000000) ((nth o.tAct n : Nat) : Int) else nth o.adj n
  let meas := (List.range 12).map fun n => Int.tdiv (Int.tdiv (nth o.eAll n) 1000000000) 50
  { o with adj := adj, meas := meas, trayAdj := feedIn + (sumInt adj - sumInt (meas.take 8)) }

/-- The sums of the control tick in progress begin again. -/
def OpState.newTick (o : OpState) (gt : Nat) : OpState :=
  { o with
    iHist := (List.range 12).map fun b => (nth o.iAcc b :: nth o.iHist b).take 20
    iAcc := List.replicate 12 0, eAll := List.replicate 12 0, eAct := List.replicate 8 0
    tAct := List.replicate 8 0, tWait := List.replicate 8 0, ctlGt := some gt }

/-- The mean branch current over the last 20 control ticks, mA, once 20 have passed (08 R217). -/
def OpState.meanMa (o : OpState) (b : Nat) : Option Int :=
  let h := nth o.iHist b
  if h.length = 20 then some (Int.tdiv (sumInt h) 1000000) else none

/-- A branch exceeds its budget by more than 2 % (08 R217). -/
def State.overBudget (s : State) (b : Nat) : Option Int :=
  match s.op.meanMa b with
  | some m => if (s.budgetOf b : Int) * 102 < m * 100 then some m else none
  | none => none

/-- The branch budget check of a control tick (08 R217). -/
def State.budgetCheck (s : State) : State :=
  let bad := ((List.range 12).filter fun b => b != 9).filterMap fun b => (s.overBudget b).map fun m => (b, m)
  let s := bad.foldl (fun s x => s.event .fp1 0x0406 1 x.1 (i1 x.1 ++ i4s x.2 ++ i4 (s.budgetOf x.1))) s
  s.onOp fun o => { o with slower := bad != [] }

/-- The cap loop (08 R215, R216); a new `cap_ceil` or `up` goes over the mirror link (08 R224). -/
def State.capLoop (s : State) : State :=
  let q := s.neededP
  let pred31 := s.predict 31
  let unmet := if q = 31 then s.exceeded pred31 else none
  let q := if s.op.slower then min 31 (q + 1) else q
  let was := (s.op.capCeil, s.op.up)
  let s := s.onOp fun o => { o.follow q with
    unmet := if unmet.isSome then o.unmet + 1 else 0
    unmetGt := if unmet.isSome then o.unmetGt else none
    unmetCap := unmet.getD 0 }
  let s := s.onOp fun o => { o with predMw := s.predict o.capCeil }
  if (s.op.capCeil, s.op.up) = was then s else s.mirrored .op

/-- `CAP_UNMET`: 400 control ticks with the prediction at P31 above a limit, then once per second (08 R216). -/
def execCapUnmet (s : State) : Host.Outcome State Fault Refusal :=
  let due := match s.op.unmetGt with
    | none => true
    | some t => s.since t (secs 1)
  .next (if decide (400 ≤ s.op.unmet) && due && s.isOwner && !s.restarting 4 then
    let cap := if s.op.unmetCap = 0 then s.op.trayCapW else s.loopCapA (s.op.unmetCap - 1)
    (s.onOp fun o => { o with unmetGt := some s.gt }).event .fp1 0x0407 2 0 (i4 cap ++ i4s (s.predict 31))
  else s)

/-! The combined ceiling (08 R210, R211) -/

/-- The slowest preferred P-state among the phases reported by dies of packages in ACC_ON (08 R211). -/
def State.preferred (s : State) : Nat :=
  ((members s.onSet).map fun n => (List.range 8).filterMap fun d =>
    match (nth s.link.dies (8 * n + d)).phase with
    | some ph => let p := s.op.pref.getD ph 255; if p = 255 then none else some p
    | none => none).flatten.foldl max 0

/-- The six contributors, in the order of the table. -/
def State.contributors (s : State) : List Nat :=
  let cap := ((List.range 8).filter fun n => s.acc n == .on || s.acc n == .up).map fun n => (s.op.table.sec n).fastest
  let pe := match nth s.op.pe 0 with
    | some v => v.toNat
    | none => 0
  [s.sage.limits.fastestP, cap.foldl max 0, s.preferred, s.op.capCeil, pe, max s.cool.th s.cool.partnerTh]

/-- Form the combined ceiling (08 R210). -/
def State.formCeiling (s : State) : State :=
  let cs := s.contributors
  let c := min 31 (cs.foldl max 0)
  let changed := c != s.op.ceil
  let s := s.onOp fun o => { o with contrib := cs, ceil := c, classCeil := if s.traySlow then 31 else c }
  if changed then (s.traced 64 (cs.findIdx fun x => min 31 x == c) (c + 256 * s.op.capCeil)).mirrored .op else s

/-- CAPL runs here: at the OWNER, with its component up (01 R27, 08 R224). -/
def State.caplRuns (s : State) : Bool := s.isOwner && !s.restarting 4

/-- The measures of the control tick just ended, and the sums of the new one (08 R213). -/
def State.measureTick (s : State) : State :=
  let s := if s.isOwner then s.onOp fun o => o.measured (s.feedMeas 0 + s.feedMeas 1) else s
  { s.onOp fun o => o.newTick s.gt with phase := { s.phase with waits := s.op.tWait } }

/-- What CAPL does at a control tick boundary (08 R210-R220). -/
def State.caplTick (s : State) : State :=
  let s := if s.op.resendDue ∧ s.isOwner then (s.onOp fun o => { o with resendDue := false }).resendChanges else s
  if s.caplRuns then ((s.onOp fun o => { o with pe := s.phase.latched }).capLoop.budgetCheck.formCeiling.putInForce).decideChange else s

/-! The alert throttle (08 R225, R226) -/

/-- `VR_ALERT_FALL`: a low of 20 ns or longer on an alert line; an enabled line pulls TRAY_SLOW_N (08 R225). -/
def execVrAlertFall (line : U8) (s : State) : Host.Outcome State Fault Refusal :=
  let k := line.toNat
  .next (if k < 16 then
    let s := s.onOp fun o => { o with alertLow := o.alertLow ||| (1#16 <<< k) }
    if !s.op.alertMask.getLsbD k then s
    else
      let fresh := !s.op.slow
      let s := { s with upd := { s.upd with lastAlert := some s.gt } }
      let s := s.onOp fun o => { o with
        throttle := .waitHigh, highSince := none, faster := none, slow := true, slowNet := true
        slowGt := if fresh then s.gt else o.slowGt
        alertSay := if fresh ∨ o.alertSay ≠ 0 then o.alertSay ||| (1#16 <<< k) else 0 }
      { s with phase := { s.phase with slowInTick := true } }
  else s)

/-- Send the change of the release to every package in ACC_ON (08 R226 step 3). -/
def State.sendRelease (s : State) : State :=
  let p := s.op.ceil
  let (seq, s) := s.nextChange p
  let a : ArmedChange := { seq := seq, p := p, immediate := true, atRelease := true, pkgs := s.onSet }
  let s := s.onOp fun o => { o with armed := [], throttle := .acks seq, lastSent := some p, waiting := none }
  (if a.pkgs = 0 then s else s.launchChange a).mirrored .op

/-- Step 2 of the release: the voltages of the ceiling now held; once they stand, acknowledged and settled, step 3 sends that ceiling (08 R226, R222). -/
def State.releaseStep (s : State) : State :=
  let s := s.moveVolts
  if s.settled then s.sendRelease else s

/-- `THROTTLE_RELEASE_START`: every enabled alert line has read high for 1,000 ticks (08 R226 steps 1 and 2). -/
def execThrottleReleaseStart (s : State) : Host.Outcome State Fault Refusal :=
  let due := match s.op.highSince with
    | some t => s.since t 999
    | none => false
  .next (if s.op.throttle == .waitHigh && due then
    if !s.isOwner then s.throttleEnds else
      (s.onOp fun o => { o with throttle := .volts }).releaseStep
  else s)

/-- `THROTTLE_RELEASE`: every package in ACC_ON has acknowledged; TRAY_SLOW_N is released (08 R226 step 4). -/
def execThrottleRelease (s : State) : Host.Outcome State Fault Refusal :=
  .next (match s.op.throttle with
    | .acks seq =>
      let a := s.op.armed.find? fun a => a.seq == seq
      let waitFor : BitVec 8 := match a with
        | some a => a.pkgs &&& ~~~a.acked &&& s.onSet
        | none => 0
      if s.isOwner && waitFor == 0 then s.throttleEnds else s
    | _ => s)

/-- What each tick does for the operating point: pins, held moves, budgets, the change of a package that entered ACC_ON, and the release sequence (08 R217, R223-R226). -/
def State.opTick (s : State) (slowLow : Bool) (alertLow : BitVec 16) : State :=
  let low := slowLow || s.op.slow
  let calm := alertLow &&& s.op.alertMask == 0
  let s := s.onOp fun o => { o with
    slowNet := low, alertLow := alertLow
    slowUs := if low then satAdd 32 o.slowUs 1 else o.slowUs
    classCeil := if low then 31 else o.ceil
    highSince := if calm then some (o.highSince.getD s.gt) else none }
  let s := if low then { s with phase := { s.phase with slowInTick := true } } else s
  let s := if s.op.alertSay = 0 then s
    else
      let t := (s.event .arbiter 0x0401 1 0 (i2 s.op.alertSay.toNat)).onOp fun o => { o with alertSay := 0 }
      t.tracedAt s.op.slowGt 68 ((indices 16 s.op.alertSay.getLsbD).headD 0) s.op.alertSay.toNat
  if !s.isOwner then s
  else
    let s := s.releaseMoves.sendBudgets
    let s := if s.op.entering = 0 ∨ s.restarting 4 then s
      else
        let s := s.moveVolts
        if s.settled then
          let p := s.op.lastSent.getD s.op.ceil
          let s := (members (s.op.entering &&& s.onSet)).foldl (fun s n =>
            let (seq, s) := s.nextChange p
            s.launchChange { seq := seq, p := p, immediate := true, pkgs := 1#8 <<< n }) s
          (s.onOp fun o => { o with entering := 0 }).mirrored .op
        else s
    if s.op.throttle = .volts then s.releaseStep else s

/-! The commands of group 0x04 (08 R228) -/

/-- `PSTATE_TABLE_LOAD`, phase BEGIN. -/
def bodyPstateTableLoadBegin (_c : Ctx) (s : State) : Answer := okay [] (s.onOp fun o => { o with staging := some [] })

/-- `PSTATE_TABLE_LOAD`, phase DATA. -/
def bodyPstateTableLoadData (offset : U32) (data : List Byte) (_c : Ctx) (s : State) : Answer :=
  check [(decide (4496 < offset.toNat + data.length), .badArg), (s.op.staging.isNone, .stateConflict)] s fun _ =>
    okay [] (s.onOp fun o => { o with staging := o.staging.map fun m => m.writeBytes offset.toNat data })

/-- Install a P-state table (08 R228, R229); source 0 is the configuration block. -/
def State.installTable (s : State) (t : PTable) (source port : Nat) : State :=
  (s.onOp fun o => { o with table := t }).event .fp1 0x0404 0 source (i1 source ++ i1 port)

/-- `PSTATE_TABLE_LOAD`, phase COMMIT (08 R209, R227, R228). -/
def bodyPstateTableLoadCommit (c : Ctx) (s : State) : Answer :=
  match s.op.staging with
  | none => refuse .stateConflict s
  | some m =>
    let t := PTable.ofImage m
    match leastOf (tableFormOffsets m ++ t.badOffsets s.railMaps s.thyme.set.accUp) with
    | some d => ({ status := .badArg, detail := d }, s)
    | none =>
      let st := s.thyme.reported
      if !(st == .standby || st == .maintenance) || s.op.armed != [] then refuse .stateConflict s
      else
        match leastOf (t.overOffsets s.sage.limits) with
        | some d => ({ status := .limitExceeded, detail := d }, s)
        | none =>
          let s := (s.installTable t 1 c.port).onOp fun o => { o with staging := none }
          okay [] (if st = .maintenance then s.railNeeds.foldl (fun s x => s.moveRail x.1 x.2) s else s)

/-- `PREF_POINT_SET` (08 R211, R228). -/
def bodyPrefPointSet (first : U8) (count : U16) (points : List U8) (c : Ctx) (s : State) : Answer :=
  let f := first.toNat
  let n := count.toNat
  check [(n == 0 || decide (256 < f + n) || points.length != n || points.any (fun p => decide (31 < p.toNat) && p != 255), .badArg)] s fun _ =>
    let s := s.onOp fun o => { o with pref := o.pref.take f ++ points.map BitVec.toNat ++ o.pref.drop (f + n) }
    okay [] ((s.event .fp1 0x0408 0 c.port (i1 c.port ++ i1 f ++ i1 (f + n - 1))).mirrored .op)

/-- The caps in force, in the layout of the request; branch 9 reads zero. -/
def State.capBytes (s : State) : List Byte :=
  i4 s.op.trayCapW ++ i2 (nth s.op.feedCapA 0) ++ i2 (nth s.op.feedCapA 1) ++ i2 s.op.guard ++ i2 0 ++ ((s.op.budget.set 9 0).map i4).flatten

/-- `CAP_SET` (08 R212, R228). -/
def bodyCapSet (tray : U32) (feedA feedB guard : U16) (budgets : List U32) (c : Ctx) (s : State) : Answer :=
  let lim := s.sage.limits
  let top := fun x => (nth (nth lim.feeds x).envelope 7).iA
  check [(decide (tray.toNat < 1000) || decide (feedA.toNat < 10) || decide (feedB.toNat < 10) || decide (102 < guard.toNat)
      || budgets.length != 12 || budgets.getD 9 0 != 0, .badArg),
    (decide (lim.trayCapMaxW < tray.toNat) || decide (top 0 < feedA.toNat) || decide (top 1 < feedB.toNat)
      || (List.range 12).any (fun b => decide (nth lim.budgetMax b < (budgets.getD b 0).toNat)), .limitExceeded)] s fun _ =>
      let s := s.onOp fun o => { o with
        trayCapW := tray.toNat, feedCapA := [feedA.toNat, feedB.toNat], guard := guard.toNat
        budget := (List.range 12).map fun b => if budgets.getD b 0 = 0 then nth lim.budgetMax b else (budgets.getD b 0).toNat }
      let s := (s.event .fp1 0x0405 0 c.port (i1 c.port)).mirrored .op
      okay s.capBytes s

/-- `OPPOINT_STATUS` (08 OPPOINT_STATUS response). -/
def bodyOppointStatus (_c : Ctx) (s : State) : Answer :=
  let o := s.op
  let releasing := o.throttle != .none && o.throttle != .waitHigh
  okay (i1 o.pNow ++ i1 o.ceil ++ (o.contrib.map i1).flatten ++ i1 (packBits [s.traySlow, releasing, o.faster.isSome])
    ++ i1 ((s.groups.map s.unapplied).foldl max 0) ++ i2 o.alertLow.toNat ++ i4 o.chgSeq ++ i8s o.trayAdj ++ i8s o.predMw
    ++ ((List.range 8).map fun n => i4s (nth o.meas n) ++ i4s (nth o.adj n)).flatten ++ i4 o.slowUs) s

end Sys2Proof.Machine
end

