-- ==== Sys2Proof/Machine/Cooling.lean ====
section
/-! DEFINITION. Cooling, thermal supervision and leaks: readings and their confirmations, the thermal ceiling, the fan and pump loops, flow and pressure, leak grades, and the commands of group 0x06 (10 R262-R286). -/

namespace Sys2Proof.Machine

open Sys2Proof

/-- Change the cooling part. -/
def State.onCool (s : State) (f : CoolState → CoolState) : State := { s with cool := f s.cool }
/-- A sensor. -/
def State.sensor (s : State) (i : Nat) : Sensor := nth s.cool.sensors i
/-- Change a sensor. -/
def State.onSensor (s : State) (i : Nat) (f : Sensor → Sensor) : State := { s with cool := { s.cool with sensors := modAt s.cool.sensors i f } }
/-- Change a leak zone or float. -/
def State.onZone (s : State) (z : Nat) (f : LeakZone → LeakZone) : State := { s with cool := { s.cool with zones := modAt s.cool.zones z f } }
/-- Liquid with fan assist (R262). -/
def State.liquid (s : State) : Bool := !s.straps.coolMode
/-- Branch B8 is on. -/
def State.coolBranch (s : State) : Bool := s.sage.branches.getLsbD 8

/-! Readings and thermal states (R263-R271) -/

/-- The group of a sensor (R263). -/
def sensorGroup (i : Nat) : Nat := if i < 64 then 0 else if i < 256 then 1 else if i < 320 then 2 else i - 317
/-- The level entry of a sensor's group (R265). -/
def State.levelOf (s : State) (i : Nat) : ThermLevel := nth s.cool.levels (sensorGroup i)
/-- The reading period of a sensor, µs (R263). -/
def periodOf (i : Nat) : Nat := if 256 ≤ i ∧ i < 320 then 10000 else 1000

/-- Count one more reading of a run, or end the run. -/
def run (b : Bool) (n : Nat) : Nat := if b then min 31 (n + 1) else 0

/-- A reading counts toward the entries and exits (R266). -/
def Sensor.count (x : Sensor) (l : ThermLevel) (v : Int) : Sensor :=
  { x with
    x := some v
    nWarn := run (decide (l.warn ≤ v)) x.nWarn
    nThr := run (decide (l.throttle ≤ v)) x.nThr
    nCrit := run (decide (l.critical ≤ v)) x.nCrit
    nExitT := run (decide (v < l.throttle - l.hyst)) x.nExitT
    nExitW := run (decide (v < l.warn - l.hyst)) x.nExitW }

/-- One reading of an active sensor (R264, R266). -/
def State.reading (s : State) (i : Nat) (v : Int) : State :=
  if i < 344 ∧ s.sensorActive i then
    s.onSensor i fun x => { (x.refreshed true s.gt).count (s.levelOf i) v with gt := s.gt, stale := false }
  else s

/-- `TEMPERATURE_READING` (R263, R266): a coolant point reads the mean of the monitor samples of its ms, truncated; every other sensor one value, its latest. -/
def execTemperatureReading (sensor : U16) (xs : List Int) (s : State) : Host.Outcome State Fault Refusal :=
  let i := sensor.toNat
  .next (match xs with
    | [] => s
    | x :: _ => if 336 ≤ i then s.reading i (Int.tdiv (sumInt xs) xs.length) else s.reading i (xs.getLastD x))

/-- Put a sensor into a thermal state: trace point 128. -/
def State.toPhase (s : State) (i : Nat) (p : SensorPhase) : State :=
  let x := s.sensor i
  (s.traced 128 i (x.phase.code + 16 * p.code + 65536 * reading16 x.x)).onSensor i fun x => { x with phase := p }

/-- `THERMAL_WARN` (R266). -/
def execThermalWarn (sensor : U16) (s : State) : Host.Outcome State Fault Refusal :=
  let i := sensor.toNat
  let x := s.sensor i
  .next (if i < 344 ∧ x.active ∧ x.phase = .normal ∧ (s.levelOf i).count ≤ x.nWarn then
    (s.toPhase i .warn).event .sage 0x0601 1 i []
  else s)

/-- Entry into ENFORCED (R267, R269). -/
def State.enforce (s : State) (i : Nat) : State :=
  ((s.toPhase i .enforced).onSensor i fun x => { x with grace := none }).event .sage 0x0603 2 i []

/-- `THERMAL_ADVISORY`: the grace timer starts; within 10 s of leaving ENFORCED the sensor enters it again at once (R266, R267). -/
def execThermalAdvisory (sensor : U16) (s : State) : Host.Outcome State Fault Refusal :=
  let i := sensor.toNat
  let x := s.sensor i
  .next (if i < 344 ∧ x.active ∧ (x.phase = .normal ∨ x.phase = .warn) ∧ (s.levelOf i).count ≤ x.nThr then
    let s := ((s.toPhase i .advisory).onSensor i fun x => { x with grace := some s.gt }).event .sage 0x0602 1 i []
    match x.leftEnf with
    | some t => if s.gt < t + secs 10 then s.enforce i else s
    | none => s
  else s)

/-- `GRACE_EXPIRY` (R267). -/
def execGraceExpiry (sensor : U16) (s : State) : Host.Outcome State Fault Refusal :=
  let i := sensor.toNat
  let x := s.sensor i
  .next (match x.grace with
    | some t => if i < 344 ∧ x.active ∧ x.phase = .advisory ∧ t + ms s.cool.graceMs ≤ s.gt then s.enforce i else s
    | none => s)

/-- `THERMAL_EXIT` (R266, R267). -/
def execThermalExit (sensor : U16) (s : State) : Host.Outcome State Fault Refusal :=
  let i := sensor.toNat
  let x := s.sensor i
  let n := (s.levelOf i).count
  .next (if ¬ (i < 344 ∧ x.active) then s
  else if (x.phase = .advisory ∨ x.phase = .enforced) ∧ n ≤ x.nExitT then
    ((s.toPhase i .warn).onSensor i fun y => { y with grace := none, leftEnf := if x.phase = .enforced then some s.gt else y.leftEnf }).event .sage 0x0604 0 i []
  else if x.phase = .warn ∧ n ≤ x.nExitW then (s.toPhase i .normal).event .sage 0x0604 0 i []
  else s)

/-- `THERMAL_CRITICAL`: the tray-scope immediate-off with the thermal latch (R270). -/
def execThermalCritical (sensor : U16) (s : State) : Host.Outcome State Fault Refusal :=
  let i := sensor.toNat
  let x := s.sensor i
  .next (if i < 344 ∧ x.active ∧ 0 < x.nCrit ∧ (s.levelOf i).count ≤ x.nCrit then
    let s := (s.onSensor i fun x => { x with nCrit := 0 }).immediateOff 15 270 .thermal
    let s := (s.event .sage 0x0605 4 i (i2 i ++ i4s (x.x.getD 0))).traced 130 i (reading16 x.x)
    if s.isOwner then s else s.mirOut (.notice false i)
  else s)

/-- `SENSOR_STALE`: ten periods without a reading; until the next one the sensor is treated as reading its throttle level (R264). -/
def execSensorStale (sensor : U16) (s : State) : Host.Outcome State Fault Refusal :=
  let i := sensor.toNat
  let x := s.sensor i
  .next (if i < 344 ∧ x.active ∧ !x.stale ∧ s.since x.gt (10 * periodOf i) then
    let s := s.onSensor i fun x => { x.count (s.levelOf i) (s.levelOf i).throttle with stale := true }
    (s.event .sage 0x060A 2 i []).traced 136 i 10
  else s)

/-- `ACC_THERMTRIP`: the branch goes off and the accelerator to ACC_FAULT (R271, 07 R191); the pin of a package without a program is ignored (18 R488). -/
def execAccThermtrip (acc : U8) (s : State) : Host.Outcome State Fault Refusal :=
  let n := acc.toNat
  .next (if n < 8 ∧ nth s.thyme.set.accUp n ≠ 255 then
    let dies := (List.range 8).map fun d => (s.sensor (8 * n + d)).x
    let hbm := (List.range 24).map fun d => (s.sensor (64 + 24 * n + d)).x
    let s := { s with pins := { s.pins with tripLow := s.pins.tripLow ||| (1#8 <<< n) } }
    (s.immediateOff n 191 .fault).event .sage 0x0606 3 n ((dies ++ hbm).map fun x => i4s (x.getD 0)).flatten
  else s)

/-! The thermal ceiling (R268) -/

/-- Some sensor is ENFORCED. -/
def CoolState.enforced (c : CoolState) : Bool := c.sensors.any fun x => x.phase == .enforced

/-- Some ENFORCED sensor reads at or above its throttle level. -/
def State.hot (s : State) : Bool :=
  (List.range 344).any fun i =>
    let x := s.sensor i
    x.phase == .enforced && (match x.x with | some v => decide ((s.levelOf i).throttle ≤ v) | none => false)

/-- Form th at a control tick boundary (R268); while flow is low it stays at 31 (R277). -/
def CoolState.formTh (c : CoolState) (p : Nat) (hot : Bool) : CoolState :=
  if c.flowLow.isSome then c
  else
    let enf := c.enforced
    let k := if enf != c.wasEnforced then 0 else c.k
    let (k, th) :=
      if enf then
        if !c.wasEnforced then (k, min 31 (max c.th (p + 1)))
        else if k + 1 = 100 then (0, if hot then min 31 (c.th + 1) else c.th)
        else (k + 1, c.th)
      else if 0 < c.th then
        if k + 1 = 2000 then (0, c.th - 1) else (k + 1, c.th)
      else (k, c.th)
    { c with k := k, th := th, wasEnforced := enf }

/-- Change th, with trace point 129. -/
def State.thTraced (s : State) (old : Nat) : State := if s.cool.th = old then s else s.traced 129 0 (s.cool.th + 256 * s.op.pNow)

/-- Sage forms th once per control tick boundary. -/
def State.thermalTick (s : State) : State :=
  if s.gt % 50 = 0 ∧ s.cool.thermGt ≠ some s.gt then
    (s.onCool fun c => { c.formTh s.op.pNow s.hot with thermGt := some s.gt }).thTraced s.cool.th
  else s

/-- `THERMAL_ENFORCE_STEP`: the boundary at which k reaches 100 with a sensor enforced (R268). -/
def execThermalEnforceStep (s : State) : Host.Outcome State Fault Refusal :=
  .next (if s.cool.enforced ∧ s.cool.wasEnforced ∧ s.cool.k = 99 then s.thermalTick else s)

/-- `THERMAL_RELAX_STEP`: the boundary at which k reaches 2,000 with none enforced (R268). -/
def execThermalRelaxStep (s : State) : Host.Outcome State Fault Refusal :=
  .next (if !s.cool.enforced ∧ !s.cool.wasEnforced ∧ s.cool.k = 1999 ∧ 0 < s.cool.th then s.thermalTick else s)

/-! Loops, fans, pumps and valves (R273-R276) -/

/-- The mean of readings, truncated. -/
def meanOf (l : List Int) : Option Int := if l = [] then none else some (Int.tdiv (sumInt l) l.length)
/-- The highest of readings. -/
def highest (l : List Int) : Option Int :=
  match l with
  | [] => none
  | x :: xs => some (xs.foldl max x)

/-- The readings of the coolant points of a role. -/
def State.coolant (s : State) (role : Nat) : List Int :=
  (indices 8 fun p => nth s.cool.roles p == role && (s.sensor (336 + p)).active).filterMap fun p => (s.sensor (336 + p)).x

/-- The controlled value of the pump loop (R273). -/
def State.pumpValue (s : State) : Option Int :=
  match meanOf (s.coolant 2), meanOf (s.coolant 1) with
  | some o, some i => some (o - i)
  | _, _ => none

/-- The controlled value of the fan loop (R273). -/
def State.fanValue (s : State) : Option Int :=
  if s.liquid then
    highest (((List.range 80).map (· + 256)).filterMap fun i =>
      let x := s.sensor i
      if x.active then x.x.map fun v => v - (s.levelOf i).warn else none)
  else
    highest ((List.range 344).filterMap fun i =>
      let x := s.sensor i
      if x.active then x.x.map fun v => v - (s.levelOf i).throttle else none)

/-- One evaluation of a loop (R273). -/
def CoolLoop.eval (l : CoolLoop) (x : Option Int) : CoolLoop :=
  match x with
  | none => { l with integ := 0, request := none }
  | some x =>
    let e := x - l.target
    let integ := min (l.iMax : Int) (max (-(l.iMax : Int)) (l.integ + e))
    let d := (l.d0 : Int) + Int.tdiv (l.kp * e + l.ki * integ) 1024
    { l with integ := integ, request := some (min 100 (max 0 d)).toNat }

/-- Trace point 131: a loop's duty changed by 5 % or more. -/
def State.loopTraced (s : State) (which : Nat) (old new : Option Nat) : State :=
  let a := old.getD 0
  let b := new.getD 0
  if a + 5 ≤ b ∨ b + 5 ≤ a then s.traced 131 which b else s

/-- COOL's loops (R273). -/
def State.runLoops (s : State) : State :=
  let oldF := s.cool.fanLoop.request
  let oldP := s.cool.pumpLoop.request
  let s := s.onCool fun c => { c with fanLoop := c.fanLoop.eval s.fanValue, pumpLoop := if s.liquid then c.pumpLoop.eval s.pumpValue else c.pumpLoop }
  ((s.loopTraced 0 oldF s.cool.fanLoop.request).loopTraced 1 oldP s.cool.pumpLoop.request).mirrored .cool

/-- What the tach windows say of a fan or pump (R275). -/
def Mover.timed (m : Mover) (gt : Nat) : Mover :=
  { m with
    slowSince := if m.used && decide (30 ≤ m.duty) && decide (m.rpm < m.minRpm) then some (m.slowSince.getD gt) else none
    fastSince := if m.used && decide (m.minRpm ≤ m.rpm) then some (m.fastSince.getD gt) else none }

/-- New tach counts, at the end of a 500 ms window (R275). -/
def withPulses (l : List Mover) (pulses : List Nat) : List Mover := l.mapIdx fun i m => { m with pulses := pulses.getD i m.pulses }

/-- Flow in 0.01 L/min of the pulses that each configured meter counted in 100 ms (R277). -/
def CoolState.flowOf (c : CoolState) (pulses : List Nat) : Nat :=
  ((indices 4 c.metersUsed.getLsbD).map fun m => nth pulses m * 60000 / nth c.kFactor m).foldl (· + ·) 0

/-- The highest duty granted to a pump. -/
def CoolState.pumpDuty (c : CoolState) : Nat := ((c.pumps.filter Mover.used).map Mover.duty).foldl max 0

/-- Flow and pressure are supervised (R277). -/
def State.supervised (s : State) : Bool := s.liquid && s.coolBranch && decide (30 ≤ s.cool.pumpDuty)

/-- The flow is below `flow_min`. -/
def CoolState.flowShort (c : CoolState) : Bool := decide (c.flow < 100 * c.flowMin)

/-- A pressure is out of range. -/
def CoolState.pressOut (c : CoolState) (i : Nat) : Bool := decide (nth c.press i < c.pMin) || decide (c.pMax < nth c.press i)

/-- The low-flow state ends; k starts again (R277). -/
def CoolState.flowEnd (c : CoolState) : CoolState := { c with flowLow := none, flowLowSince := none, flowOkSince := none, flowPd := false, k := 0 }

/-- The means of the pressure samples of the ms that ends, truncated; a channel without a sample keeps its value (R277). -/
def CoolState.pressMeans (c : CoolState) : CoolState :=
  { c with
    press := c.press.mapIdx fun i p => let a := nth c.pressAcc i; if a.2 = 0 then p else a.1 / a.2
    pressAcc := [(0, 0), (0, 0)] }

/-- Gather the pressure samples of a tick; at the end of each ms their means are the new readings. Air-only mode ignores the inputs (R262, R277). -/
def State.pressTick (s : State) (press : List (List Nat)) : State :=
  if s.liquid then
    let s := s.onCool fun c => { c with pressAcc := c.pressAcc.mapIdx fun i a => let l := nth press i; (l.foldl (· + ·) a.1, a.2 + l.length) }
    if s.gt % 1000 = 0 then s.onCool CoolState.pressMeans else s
  else s

/-- The timers of flow and pressure (R277). -/
def State.superviseFlow (s : State) : State :=
  if s.supervised then
    s.onCool fun c => { c with
      flowLowSince := if c.flowShort then some (c.flowLowSince.getD s.gt) else none
      flowOkSince := if c.flowShort then none else some (c.flowOkSince.getD s.gt)
      pressSince := [0, 1].map fun i => if c.pressOut i then some ((nth c.pressSince i).getD s.gt) else none
      pressSaid := [0, 1].map fun i => c.pressOut i && nth c.pressSaid i }
  else if s.cool.flowLow.isSome ∨ s.cool.flowLowSince.isSome ∨ s.cool.flowOkSince.isSome then
    s.onCool fun c => { (if c.flowLow.isSome then c.flowEnd else { c with flowLowSince := none, flowOkSince := none }) with pressSince := [none, none], pressSaid := [false, false] }
  else s.onCool fun c => { c with pressSince := [none, none], pressSaid := [false, false] }

/-- `COOLING_LOOP`, every 10 ms (R273, R275, R277). The tach counts are those of 500 ms windows, of FAN_TACH 7 to 0 and 15 to 8 and of the pumps; the flow counts those of 100 ms windows. -/
def execCoolingLoop (fansLow : List Nat) (fansHigh : List Nat) (pumpPulses : List Nat) (flowPulses : List Nat) (s : State) : Host.Outcome State Fault Refusal :=
  .next (if s.gt % 10000 = 0 ∧ s.cool.loopGt ≠ some s.gt ∧ s.sage.everLocked then
    let s := s.onCool fun c => { c with loopGt := some s.gt }
    let s := if s.gt % 500000 = 0 then s.onCool fun c => { c with fans := withPulses c.fans (fansLow ++ fansHigh), pumps := if s.liquid then withPulses c.pumps pumpPulses else c.pumps } else s
    let s := s.onCool fun c => { c with fans := c.fans.map fun m => m.timed s.gt, pumps := if s.liquid then c.pumps.map fun m => m.timed s.gt else c.pumps }
    let s := if s.liquid ∧ s.gt % 100000 = 0 then
        let s := s.onCool fun c => { c with flow := c.flowOf flowPulses }
        if s.supervised ∧ s.cool.flowShort then s.traced 135 0 s.cool.flow else s
      else s
    let s := s.superviseFlow
    if s.isOwner ∧ s.firmwareRuns ∧ !s.restarting 5 then s.runLoops else s
  else s)

/-- A fan or a pump. -/
def State.mover (s : State) (pump : Bool) (k : Nat) : Mover := if pump then nth s.cool.pumps k else nth s.cool.fans k

/-- Mark a fan or pump as failed or recovered: event 0x060B and trace point 132 (R275). -/
def State.setFailed (s : State) (pump : Bool) (k : Nat) (failed : Bool) : State :=
  let n := k + 16 * flag pump
  let m := s.mover pump k
  let s := s.onCool fun c =>
    if pump then { c with pumps := modAt c.pumps k fun m => { m with failed := failed } }
    else { c with fans := modAt c.fans k fun m => { m with failed := failed } }
  (s.event .fp1 0x060B (if failed then 2 else 0) n []).traced 132 n m.rpm

/-- `FAN_FAILURE` (R275). -/
def execFanFailure (pump : Bool) (index : U8) (s : State) : Host.Outcome State Fault Refusal :=
  let m := s.mover pump index.toNat
  .next (match m.slowSince with
    | some t => if !m.failed ∧ s.since t (secs 2) ∧ !s.restarting 5 then s.setFailed pump index.toNat true else s
    | none => s)

/-- `FAN_RECOVERY` (R275). -/
def execFanRecovery (pump : Bool) (index : U8) (s : State) : Host.Outcome State Fault Refusal :=
  let m := s.mover pump index.toNat
  .next (match m.fastSince with
    | some t => if m.failed ∧ s.since t (secs 2) ∧ !s.restarting 5 then s.setFailed pump index.toNat false else s
    | none => s)

/-- `FLOW_LOW`: one second below `flow_min` holds th at 31 (R277). -/
def execFlowLow (s : State) : Host.Outcome State Fault Refusal :=
  .next (match s.cool.flowLowSince with
    | some t =>
      if s.cool.flowLow.isNone ∧ s.since t (secs 1) then
        ((s.onCool fun c => { c with flowLow := some s.gt, th := 31 }).thTraced s.cool.th).event .fp1 0x060C 3 0 []
      else s
    | none => s)

/-- `FLOW_LOW_POWER_DOWN`: a further five seconds (R277). -/
def execFlowLowPowerDown (s : State) : Host.Outcome State Fault Refusal :=
  .next (match s.cool.flowLowSince, s.cool.flowLow with
    | some l, some t =>
      if s.isOwner ∧ !s.cool.flowPd ∧ s.since (max l t) (secs 5) ∧ !s.restarting 5 then
        (s.onCool fun c => { c with flowPd := true }).trayOff.2.event .fp1 0x060C 4 0 []
      else s
    | _, _ => s)

/-- `FLOW_RECOVERY` (R277). -/
def execFlowRecovery (s : State) : Host.Outcome State Fault Refusal :=
  .next (match s.cool.flowOkSince with
    | some t => if s.cool.flowLow.isSome ∧ s.since t (secs 1) then s.onCool fun c => { c.flowEnd with flowOkSince := some t } else s
    | none => s)

/-- `PRESSURE_OUT_OF_RANGE` (R277). -/
def execPressureOutOfRange (point : U8) (s : State) : Host.Outcome State Fault Refusal :=
  let i := point.toNat
  .next (match nth s.cool.pressSince i with
    | some t =>
      if i < 2 ∧ !nth s.cool.pressSaid i ∧ s.since t (secs 1) then
        (s.onCool fun c => { c with pressSaid := c.pressSaid.set i true }).event .fp1 0x060D 2 i []
      else s
    | none => s)

/-! What each tick does (R266, R269, R274, R276) -/

/-- The duty granted to a fan or pump: the highest request, clamped from below to its floor and from above to 100 % (R274). -/
def Mover.granted (m : Mover) (loop : Option Nat) (ff : Option Int) (enforced failed : Bool) (floor : Nat) : Mover :=
  if !m.used then m
  else
    let own := match m.override with
      | some v => v
      | none => loop.getD 0
    let top := max (max own ((ff.getD 0).toNat)) (if enforced || failed then 100 else 0)
    { m with duty := min 100 (max floor top) }

/-- The duties of a class. -/
def grantAll (l : List Mover) (loop : Option Nat) (ff : Option Int) (enforced : Bool) (floors : List Nat) : List Mover :=
  let failed := l.any fun m => m.used && m.failed
  l.mapIdx fun i m => m.granted loop ff enforced failed (nth floors i)

/-- The OWNER drives the PWM outputs, the STANDBY releases them; a governor without a role leaves them as they are (01 R19; R282). -/
def State.pwmTick (s : State) : State :=
  match s.pair.role with
  | .owner => s.onCool fun c => { c with pwmDriven := true }
  | .standby => s.onCool fun c => { c with pwmDriven := false }
  | .undecided => s

/-- The duty that a fan or pump sees from this governor's output: released, the board pulls it to 100 % (R282). -/
def CoolState.pwm (c : CoolState) (m : Mover) : Nat := if c.pwmDriven then m.duty else 100

/-- The arbiter's duty class (01 R29; R269, R274). -/
def State.dutyTick (s : State) : State :=
  let s := s.pwmTick
  if !s.cool.pwmDriven then s
  else
    let enf := s.cool.enforced
    let lim := s.sage.limits
    let c := s.cool
    let fans := grantAll c.fans c.fanLoop.request (nth s.op.pe 14) enf lim.fanFloor
    let pumps := if s.liquid then grantAll c.pumps c.pumpLoop.request (nth s.op.pe 15) enf lim.pumpFloor else c.pumps
    let changed := decide (fans ≠ c.fans) || decide (pumps ≠ c.pumps)
    let s := s.onCool fun c => { c with fans := fans, pumps := pumps }
    if changed then s.mirrored .grants else s

/-- The valve class: closed wins (R276, R280, R282). The STANDBY follows the OWNER's drive while the pair mirrors, and releases nothing more otherwise (15 R415, R416). -/
def State.valveTick (s : State) : State :=
  let asks := s.firmwareRuns && !s.restarting 5
  let s := s.onCool fun c => { c with valves := c.valves.mapIdx fun i v =>
    let r := if asks then v.used && s.liquid && s.coolBranch else v.request
    let open_ :=
      if s.pair.role ≠ .standby then v.used && s.liquid && r && !v.override
      else if s.pair.mstate = .mirroring then s.pair.mirNets.getLsbD (97 + i)
      else v.released
    { v with request := r, released := open_ && !c.valveHold } }
  (List.range 4).foldl (fun s v =>
    let h := s.netHigh (97 + v)
    if (nth s.cool.valves v).netHigh = h then s
    else (s.onCool fun c => { c with valves := modAt c.valves v fun x => { x with netHigh := h } }).traced 134 v (flag h)) s

/-- A stale sensor is treated as reading its throttle level, once per period (R264). -/
def State.staleTick (s : State) : State :=
  s.onCool fun c =>
    { c with sensors := c.sensors.mapIdx fun i x =>
      if x.stale && decide ((s.gt - x.gt) % periodOf i = 0) then x.count (s.levelOf i) (s.levelOf i).throttle else x }

/-- Cooling in one tick. -/
def State.coolTick (s : State) (press : List (List Nat)) : State := (((s.refreshSensors.staleTick.dutyTick.valveTick).pressTick press).superviseFlow)

/-! Leaks (R279-R282) -/

/-- The grade of a zone or float as a number (R284). -/
def LeakGrade.code : LeakGrade → Nat
  | .dry => 0 | .wet => 1 | .confirmed => 2 | .opened => 3

/-- The grade that a reading gives (R279, 18 R480): a rope by its voltage, a float low for wet. -/
def LeakZone.gradeOf (x : LeakZone) (z mv : Nat) : LeakGrade :=
  let before := if x.grade = .confirmed then .wet else x.grade
  if 8 ≤ z then (if mv = 0 then .wet else .dry)
  else if mv < 450 then .wet
  else if mv < 600 then (if x.seen then before else .opened)
  else if mv ≤ 1200 then .dry
  else if mv ≤ 1350 then (if x.seen then before else .opened)
  else .opened

/-- `LEAK_READING` (R279). -/
def execLeakReading (zone : U8) (mv : U16) (s : State) : Host.Outcome State Fault Refusal :=
  let z := zone.toNat
  let x := nth s.cool.zones z
  .next (if z < 10 ∧ s.cool.zonesUsed.getLsbD z then
    let g := x.gradeOf z mv.toNat
    let new := if g = .wet ∧ x.grade = .confirmed then .confirmed else g
    let s := if g ≠ .wet ∧ 0 < x.wetRun ∧ x.wetRun < 200 then s.event .monitor 0x0607 1 z (i4 x.wetRun) else s
    let s := if g = .opened ∧ (x.grade ≠ .opened ∨ !x.seen) then s.event .monitor 0x0607 2 z (i4 0) else s
    let s := if new ≠ x.grade then s.traced 133 z new.code else s
    s.onZone z fun x => { x with
      grade := new, seen := true
      wetRun := if g = .wet then x.wetRun + 1 else 0
      drySince := if g = .dry then some (x.drySince.getD s.gt) else none }
  else s)

/-- What a confirmed leak does to valves and latch, which cancels what waits and every automatic power-up (06 R162, R164), and the program that the tray state calls for unless an earlier leak has called for it (R280). -/
def State.leakActs (s : State) (first : Bool) : State :=
  let tray := s.thyme.reported
  let powered := tray == .poweringUp || tray == .on || tray == .maintenance
  let running := tray == .poweringDown && (s.runKind 0 == 2 || s.thyme.emergencyDue.isSome || s.thyme.emergency.isSome)
  let s := (s.onThyme fun t => { t with latchLeak := true, leakAfter := t.leakAfter || (first && (powered || running)), afterInputLoss := false }).cancelPending.onCool fun c => { c with valveHold := true }
  if first ∧ (powered ∨ running) then s.emergencyIsDue .leak else s

/-- A confirmed leak (R280). -/
def State.leakConfirmed (s : State) (z : Nat) : State :=
  ((s.leakActs !s.thyme.latchLeak).event .monitor 0x0608 4 z (i1 z)).mirrored .tray

/-- `LEAK_CONFIRM`: 200 WET readings (R279, R280); a STANDBY tells the OWNER (R282). -/
def execLeakConfirm (zone : U8) (s : State) : Host.Outcome State Fault Refusal :=
  let z := zone.toNat
  let x := nth s.cool.zones z
  .next (if z < 10 ∧ s.cool.zonesUsed.getLsbD z ∧ x.grade = .wet ∧ 200 ≤ x.wetRun then
    let s := ((s.onZone z fun x => { x with grade := .confirmed }).traced 133 z 2).leakConfirmed z
    if s.isOwner then s else s.mirOut (.notice true z)
  else s)

/-- `PARTNER_CONFIRMATION_NOTICE`: the OWNER acts as if it had confirmed itself (R282). -/
def execPartnerConfirmationNotice (leak : Bool) (source : U16) (s : State) : Host.Outcome State Fault Refusal :=
  .next (if !s.isOwner then s
  else if leak then s.leakConfirmed source.toNat
  else ((s.immediateOff 15 282 .thermal).event .sage 0x0605 4 source.toNat (i2 source.toNat ++ i4s 0)))

/-! The commands of group 0x06 (R284) -/

/-- The hottest reading of a class, zero without one. -/
def State.hottestOf (s : State) (first count : Nat) : Int := (highest ((List.range count).filterMap fun i => (s.sensor (first + i)).x)).getD 0

/-- The bytes of a pump. -/
def Mover.pumpBytes (m : Mover) : List Byte := i1 m.duty ++ ib m.failed ++ i2 m.rpm

/-- `COOL_STATUS` (R284). -/
def bodyCoolStatus (_c : Ctx) (s : State) : Answer :=
  let c := s.cool
  let overridden := c.fans.any (fun m => m.override.isSome) || c.pumps.any (fun m => m.override.isSome) || c.valves.any Valve.override
  let ph := fun p => countIf (fun (x : Sensor) => x.phase == p) c.sensors
  let graces := c.sensors.filterMap fun x => x.grace.map fun t => (s.gt - t) / 1000
  okay (i1 (flag s.straps.coolMode) ++ i1 (packBits [s.coolingReady, s.thyme.latchLeak, s.thyme.latchThermal, c.flowLow.isSome, overridden])
    ++ i1 c.th ++ i1 (ph .enforced) ++ i2 (ph .advisory) ++ i1 (c.fanLoop.request.getD 0) ++ i1 (c.pumpLoop.request.getD 0)
    ++ (c.fans.map fun m => i1 m.duty ++ ib m.failed).flatten ++ (c.fans.map fun m => i2 m.rpm).flatten
    ++ (c.pumps.map Mover.pumpBytes).flatten ++ ((List.range 4).map fun v => ib (s.netHigh (97 + v))).flatten
    ++ i4 c.flow ++ (c.press.map i2).flatten ++ (c.zones.map fun z => i1 z.grade.code).flatten ++ i2 0
    ++ ([s.hottestOf 0 64, s.hottestOf 64 192, s.hottestOf 256 64, s.hottestOf 320 16, s.hottestOf 336 8].map (leBytesS 2)).flatten
    ++ i2 (graces.foldl max 0) ++ i4 0) s

/-- A level entry is valid (R265). -/
def ThermLevel.valid (l : ThermLevel) : Bool :=
  decide (l.warn < l.throttle ∧ l.throttle < l.critical) && decide (l.hyst ≤ 100) && decide (1 ≤ l.count ∧ l.count ≤ 16)

/-- No level is above that of the configuration block (R265). -/
def ThermLevel.within (l m : ThermLevel) : Bool := decide (l.warn ≤ m.warn ∧ l.throttle ≤ m.throttle ∧ l.critical ≤ m.critical)

/-- Record an accepted setting: event 0x060E with the port (R284). -/
def State.coolSet (s : State) (port : Nat) : State := (s.event .fp1 0x060E 0 port (i1 port)).mirrored .cool

/-- `THERMAL_LEVELS_SET` (R265, R284). -/
def bodyThermalLevelsSet (first : U8) (count : U8) (levels : List ThermLevel) (c : Ctx) (s : State) : Answer :=
  let f := first.toNat
  let n := count.toNat
  check [(n == 0 || decide (27 < n) || decide (27 < f + n) || !levels.all ThermLevel.valid, .badArg),
    ((List.range n).any (fun i => !(nth levels i).within (nth s.cool.cfgLevels (f + i))), .limitExceeded)] s fun _ =>
    okay [] ((s.onCool fun k => { k with levels := k.levels.mapIdx fun i l => if f ≤ i ∧ i < f + n then nth levels (i - f) else l }).coolSet c.port)

/-- `GRACE_SET` (R267). -/
def bodyGraceSet (ms : U32) (c : Ctx) (s : State) : Answer :=
  check [(decide (ms.toNat < 100 ∨ 30000 < ms.toNat), .badArg)] s fun _ =>
    okay [] ((s.onCool fun k => { k with graceMs := ms.toNat }).coolSet c.port)

/-- The zones and floats that have not read DRY for the last second. -/
def State.notDry (s : State) : BitVec 16 :=
  (List.range 10).foldl (fun (a : BitVec 16) z =>
    let dry := match (nth s.cool.zones z).drySince with
      | some t => s.since t (secs 1)
      | none => false
    if s.cool.zonesUsed.getLsbD z && !dry then a ||| (1#16 <<< z) else a) 0

/-- `LEAK_CLEAR` (R281). -/
def bodyLeakClear (c : Ctx) (s : State) : Answer :=
  if !s.thyme.latchLeak then okay [] s
  else
    let wet := s.notDry
    if wet ≠ 0 ∨ s.thyme.leakAfter then
      ({ status := .stateConflict, detail := wet.toNat + (if s.thyme.leakAfter then 2 ^ 15 else 0) }, s)
    else
      let s := (s.onThyme fun t => { t with latchLeak := false }).onCool fun k => { k with valveHold := false }
      okay [] (s.latchReleased.event .fp1 0x0609 0 c.port (i1 c.port))

/-- Set or end overrides of a class (R274). -/
def setOverrides (l : List Mover) (index : Nat) (v : Option Nat) : List Mover :=
  l.mapIdx fun i m => if index = 255 ∨ i = index then { m with override := v } else m

/-- `COOL_OVERRIDE` (R274, R284). -/
def bodyCoolOverride (target : U8) (index : U8) (value : U8) (c : Ctx) (s : State) : Answer :=
  let t := target.toNat
  let k := index.toNat
  let v := value.toNat
  let n := if t = 0 then 16 else 4
  let floors := if t = 0 then s.sage.limits.fanFloor else s.sage.limits.pumpFloor
  check [(decide (2 < t) || (k != 255 && decide (n ≤ k)) || (v != 255 && decide ((if t = 2 then 0 else 100) < v)), .badArg),
    (t != 0 && s.straps.coolMode, .stateConflict),
    (t != 2 && v != 255 && (List.range n).any (fun i => (k == 255 || i == k) && decide (v < nth floors i)), .limitExceeded)] s fun _ =>
    let o := if v = 255 then none else some v
    okay [] ((s.onCool fun x =>
      if t = 0 then { x with fans := setOverrides x.fans k o }
      else if t = 1 then { x with pumps := setOverrides x.pumps k o }
      else { x with valves := x.valves.mapIdx fun i y => if k = 255 ∨ i = k then { y with override := o.isSome } else y }).coolSet c.port)

/-- Every override ends: the release of `SEM_COOL` (02 R61). -/
def State.endOverrides (s : State) : State :=
  (s.onCool fun c => { c with
    fans := setOverrides c.fans 255 none, pumps := setOverrides c.pumps 255 none
    valves := c.valves.map fun v => { v with override := false } }).mirrored .cool

/-- The cooling settings of the configuration block in force; levels and grace time last until a power-on reset (R283). -/
def CoolState.configured (c : CoolState) (g : CoolConfig) (fresh : Bool) : CoolState :=
  { c with
    usedCfg := g.used, cfgLevels := g.levels, zonesUsed := g.zones, metersUsed := g.meters, kFactor := g.kFactor, roles := g.roles
    flowMin := g.flowMin, pMin := g.pMin, pMax := g.pMax
    levels := if fresh then g.levels else c.levels
    graceMs := if fresh then g.graceMs else c.graceMs
    fans := c.fans.mapIdx fun i m => { m with used := (nth g.fans i).1, minRpm := (nth g.fans i).2 }
    pumps := c.pumps.mapIdx fun i m => { m with used := (nth g.pumps i).1, minRpm := (nth g.pumps i).2 }
    valves := c.valves.mapIdx fun i v => { v with used := g.valves.getLsbD i }
    fanLoop := { g.fanLoop with integ := c.fanLoop.integ, request := c.fanLoop.request }
    pumpLoop := { g.pumpLoop with integ := c.pumpLoop.integ, request := c.pumpLoop.request } }

end Sys2Proof.Machine
end

