-- ==== Sys2Proof/Machine/ConfigCheck.lean ====
section
/-! DEFINITION. The loader's checks of a configuration block's values: every rule that fails a block under R92 (04 R92). -/

namespace Sys2Proof.Machine

open Sys2Proof

/-- A number lies in a range. -/
def inBounds (lo v hi : Nat) : Bool := decide (lo ≤ v ∧ v ≤ hi)

/-- No number of a list stands in it twice. -/
def allDifferent : List Nat → Bool
  | [] => true
  | x :: xs => !xs.contains x && allDifferent xs

/-- magic, fmt and the RSVD fields of a limit block are right (07 R195, R197). -/
def LimitBlock.wellFormed (l : LimitBlock) : Bool := l.magic == 0x424C474C && l.fmt == 1 && l.rsvdZero

/-- The checks of a limit block (07 R197). -/
def LimitBlock.valid (l : LimitBlock) : Bool :=
  l.wellFormed && l.feeds.all (fun f => validCurve f.envelope) && l.rails.all (fun r => decide (r.marginSpan ≤ 20))
    && decide (500 ≤ l.minOffFloorMs) && l.permit.all fun p => !p.getLsbD 201

/-- A monitor channel that carries a feed (07 R177). -/
def feedChannel (c : Nat) : Bool := [0, 1, 2, 16, 17, 18].contains c

/-- An entry of a rail map breaks no rule of its own (07 R177). -/
def RailMap.valid (m : RailMap) : Bool :=
  m.ctrl == 0 ||
    (!feedChannel m.vSrc && !feedChannel m.iSrc && !(decide (2 ≤ m.ctrl) && m.vSrc == 255 && m.pgSrc != 255)
      && decide (m.branch ≤ 11) && !(m.branch == 9 && m.trayRail))

/-- The checks of a rail map (07 R177). -/
def railMapValid (l : List RailMap) : Bool :=
  let used := l.filter fun m => m.ctrl != 0
  l.all RailMap.valid && allDifferent ((used.filter fun m => m.ctrl == 1).map (·.en)) && allDifferent ((used.filter fun m => m.pgSrc != 255).map (·.pgSrc))

/-- The level entries of the rails in use (07 R186). -/
def railLevelsValid (map : List RailMap) (lev : List RailLevels) (lim : LimitBlock) : Bool :=
  (List.range 192).all fun c => (nth map c).ctrl == 0 || ((nth lev c).valid && (nth lev c).within (nth lim.rails c))

/-- The settings of one feed (05 R117, R132, R133, R138, R504). -/
def FeedSettings.valid (f : FeedSettings) (l : FeedLimits) : Bool :=
  inBounds 1000 f.vinFsMv 65535 && inBounds 1000 f.vbusFsMv 65535 && inBounds 1 f.iFsDa 65535 && inBounds 0 f.iZero 4095 && inBounds 1 f.cmpUvPerA 1800000
    && inBounds 100 f.soaPowerW (min 20000 l.soaPowerCeil) && inBounds 1 f.soaCount 255 && inBounds 1 f.soaEnergyJ (min 100 l.soaEnergyCeil)
    && inBounds 1 f.inrushMaxMs (min 100 l.inrushMaxCeil) && inBounds 1 f.reverseA 200 && inBounds 100 f.returnMs 60000
    && f.singleA.all fun a => inBounds 10 a (nth l.envelope 7).iA

/-- Breaker settings lie within the envelope of a feed (05 R119). -/
def BreakerSettings.within (b : BreakerSettings) (l : FeedLimits) : Bool :=
  validCurve b.curve && curveWithin b.curve l.envelope && inBounds 1 b.backoffS 600 && decide (b.cmpA ≤ l.cmpCeil)

/-- A loop's settings (10 R283). -/
def CoolLoop.valid (l : CoolLoop) (lo hi : Int) : Bool :=
  decide (lo ≤ l.target ∧ l.target ≤ hi) && decide (l.kp ≤ 8192) && decide (l.ki ≤ 1024) && decide (l.d0 ≤ 100) && decide (l.iMax ≤ 1000000)

/-- The cooling section (10 R265, R283). -/
def CoolConfig.valid (c : CoolConfig) : Bool :=
  c.levels.all ThermLevel.valid && inBounds 100 c.graceMs 30000 && c.pumpLoop.valid 20 300 && c.fanLoop.valid (-500) 0
    && c.fans.all (fun f => inBounds 100 f.2 30000) && c.pumps.all (fun f => inBounds 100 f.2 30000) && c.kFactor.all (fun k => inBounds 1 k 65535)
    && inBounds 1 c.flowMin 1000 && decide (c.pMin ≤ 1000) && decide (c.pMax ≤ 1000) && c.roles.all fun r => decide (r ≤ 2)

/-- The DDR5 configuration: at most 32 GiB (18 R486). -/
def ddrValid (d : Nat × Nat × Nat) : Bool :=
  (d.1 == 4 || d.1 == 8) && (d.2.1 == 16 || d.2.1 == 24) && inBounds 1 d.2.2 2 && decide (64 / d.1 * d.2.1 * d.2.2 ≤ 8 * 32)

/-- The values of a configuration block pass the loader's checks (04 R92). -/
def ConfigBlock.valid (c : ConfigBlock) : Bool :=
  c.limits.valid && railMapValid c.railMap && railLevelsValid c.railMap c.railLevels c.limits
    && c.programs.badDetail c.railMap c.minOffMs == none && c.programs.limitDetail c.limits == none
    && (List.range 2).all (fun x => (nth c.feeds x).valid (nth c.limits.feeds x) && (nth c.breakers x).within (nth c.limits.feeds x))
    && inBounds 1 c.kShare 64 && inBounds (max 500 c.limits.minOffFloorMs) c.minOffMs 60000 && inBounds 100 c.accMinOffMs 10000
    && c.pTable.valid c.railMap c.programs.accUp c.limits && inBounds 1 c.kp 8 && inBounds 1 c.kd 8 && inBounds 64 c.decisionMib 8192
    && c.cool.valid && inBounds 1024 c.eth.base 65528 && inBounds (2 ^ 20) c.spillBytes (2 ^ 30) && inBounds (2 ^ 20) c.partnerBytes (256 * 2 ^ 20)
    && ddrValid c.ddr && c.ideality.all fun k => inBounds 1000 k 1050

end Sys2Proof.Machine
end

