-- ==== Sys2Proof/Machine/SyncHub.lean ====
section
/-! DEFINITION. The sync hub: addresses, words, counter pairs, barriers, watches, parking, sequence windows, strict mode, hangs and memory errors, and the cross-tray tree (12 R319-R354). -/

namespace Sys2Proof.Machine

open Sys2Proof

/-- Change the hub. -/
def State.onSync (s : State) (f : SyncState → SyncState) : State := { s with sync := f s.sync }

/-! Addresses (R319, R320) -/

/-- What an address names. -/
inductive SyncTarget where
  | word (i : Nat) | pair (i : Nat) | barrier (i : Nat) | handle (i : Nat) | channel (i : Nat) | remote (home : Nat) | bad
  deriving DecidableEq, Repr, Inhabited

/-- The space of an address. -/
def spaceOf (a : BitVec 64) : Nat := bits a.toNat 63 60
/-- The home tray of an address. -/
def homeOf (a : BitVec 64) : Nat := bits a.toNat 59 43
/-- The index of an address. -/
def indexOf (a : BitVec 64) : Nat := bits a.toNat 23 0
/-- The space and index that name an object of this tray. -/
def objKey (a : BitVec 64) : Nat × Nat := (spaceOf a, indexOf a)

/-- The object of an address (R320). -/
def SyncState.target (y : SyncState) (a : BitVec 64) : SyncTarget :=
  let i := indexOf a
  let h := homeOf a
  if bits a.toNat 42 24 ≠ 0 then .bad
  else
    match spaceOf a with
    | 0 => if 524288 ≤ i then .bad else if h = y.tray then .word i else if y.node.isSome then .remote h else .bad
    | 1 => if 4096 ≤ i then .bad else if h = y.tray then .pair i else if y.node.isSome then .remote h else .bad
    | 2 => if i < 64 ∧ h = y.tray then .barrier i else .bad
    | 3 => if i < 65536 ∧ h = y.tray then .handle i else .bad
    | 4 => if i < 16 ∧ h = 0 then .channel i else .bad
    | _ => .bad

/-- A word. -/
def SyncState.word (y : SyncState) (i : Nat) : SyncWord := look y.words i
/-- A counter pair. -/
def SyncState.pair (y : SyncState) (i : Nat) : SyncPair := look y.pairs i
/-- A barrier engine. -/
def SyncState.barrier (y : SyncState) (i : Nat) : Barrier := nth y.barriers i
/-- Replace a word. -/
def SyncState.setWord (y : SyncState) (i : Nat) (w : SyncWord) : SyncState := { y with words := put y.words i w }
/-- Replace a pair. -/
def SyncState.setPair (y : SyncState) (i : Nat) (p : SyncPair) : SyncState := { y with pairs := put y.pairs i p }
/-- Replace an engine. -/
def SyncState.setBarrier (y : SyncState) (i : Nat) (b : Barrier) : SyncState := { y with barriers := y.barriers.set i b }

/-! Operations (R322-R324) -/

/-- The operation code. -/
def SyncOp.code (o : SyncOp) : Nat := bits o.op.toNat 3 0
/-- `nowait`. -/
def SyncOp.nowait (o : SyncOp) : Bool := o.op.getLsbD 4
/-- `peek`. -/
def SyncOp.peek (o : SyncOp) : Bool := o.op.getLsbD 5
/-- The operation with a given code. -/
def SyncOp.withCode (o : SyncOp) (c : Nat) : SyncOp := { o with op := (o.op &&& 0xF0#8) ||| BitVec.ofNat 8 c }
/-- A turn or ticket in the second operand (R345). -/
def SyncOp.ticket (o : SyncOp) : BitVec 8 := o.arg.truncate 8

/-- The participant as which an operation acts: 71 for one from another tray (R353). -/
def SyncOrigin.who (o : SyncOrigin) : Nat := if o.tray.isSome then 71 else o.src

/-- The message itself is sound (R322). -/
def SyncOp.formed (o : SyncOp) : Bool :=
  decide (1 ≤ o.code ∧ o.code ≤ 12) && decide (bits o.op.toNat 7 6 = 0) && (!o.peek || o.code == 8)
    && !(o.nowait && [4, 5, 6, 10, 11, 12].contains o.code)

/-- The operation applies to the space of its target (R324); watches are never remote (R353). -/
def SyncOp.fits (o : SyncOp) (t : SyncTarget) : Bool :=
  match t with
  | .word _ => [1, 2, 3, 4, 5, 6, 10, 12].contains o.code
  | .pair _ => [4, 7, 8, 10, 12].contains o.code
  | .barrier _ => [4, 9, 10, 12].contains o.code
  | .handle _ => [11, 12].contains o.code
  | .channel _ => o.code == 4
  | .remote _ => if spaceOf o.addr = 0 then [1, 2, 3, 4, 5, 6, 12].contains o.code else [4, 7, 8, 12].contains o.code
  | .bad => false

/-- An operation of another tray acts on a word or a pair, and sets no watch (R353). -/
def SyncOp.remotable (o : SyncOp) : SyncTarget → Bool
  | .word _ | .pair _ => o.code != 10
  | _ => false

/-- A job holds an object (R336). -/
def Job.owns (j : Job) : SyncTarget → Bool
  | .word i => decide (j.wFirst ≤ i ∧ i < j.wFirst + j.wCount)
  | .pair i => decide (j.pFirst ≤ i ∧ i < j.pFirst + j.pCount)
  | .barrier i => j.engines.getLsbD i
  | _ => false

/-- The open job of an object. -/
def SyncState.jobOf (y : SyncState) (t : SyncTarget) : Option Job := y.jobs.find? fun j => j.owns t

/-- The watch of a handle. -/
def SyncState.watch (y : SyncState) (h : Nat) : Option Watch := y.watches.find? fun w => w.handle == h

/-- Watches that a job holds. -/
def SyncState.watchesOf (y : SyncState) (j : Job) : Nat := countIf (fun w => j.owns (y.target w.addr)) y.watches

/-- The object is poisoned (R349). -/
def SyncState.poisoned (y : SyncState) : SyncTarget → Bool
  | .word i => (y.word i).poison
  | .pair i => (y.pair i).poison
  | .barrier i => (y.barrier i).poison
  | _ => false

/-- A waiting operation can complete now (R324, R345). -/
def SyncState.ready (y : SyncState) (strict : Bool) (o : SyncOp) : Bool :=
  match y.target o.addr with
  | .word i =>
    let w := y.word i
    match o.code with
    | 1 => w.full && (!strict || w.fillTurn == o.ticket + 1)
    | 2 => w.full && (!strict || w.takeTurn == o.ticket)
    | 3 => !w.full && (!strict || w.fillTurn == o.ticket)
    | _ => true
  | .pair i =>
    let p := y.pair i
    match o.code with
    | 7 => decide (p.p.toNat + o.val.toNat ≤ p.cap + p.c.toNat)
    | 8 => decide (p.c.toNat + o.val.toNat ≤ p.p.toNat)
    | _ => true
  | _ => true

/-- Operations are parked on an object. -/
def SyncState.waiting (y : SyncState) (a : BitVec 64) : Bool := y.parked.any fun p => objKey p.op.addr == objKey a

/-- The mask that a STORE writes to an engine (R324). -/
def SyncOp.mask (o : SyncOp) : BitVec 72 := (o.val.zeroExtend 72) ||| ((o.ticket.zeroExtend 72) <<< 64)

/-- The condition of a WATCH belongs to its space (R334). -/
def condFits (cond : Nat) : SyncTarget → Bool
  | .word _ => decide (cond ≤ 2)
  | .pair _ => cond == 3 || cond == 4
  | .barrier _ => cond == 5
  | _ => false

/-- Strict mode refuses the operation (R345). -/
def SyncState.strictBars (y : SyncState) (who : Nat) (o : SyncOp) (t : SyncTarget) : Bool :=
  o.code == 12 || (o.nowait && [1, 2, 3, 7, 8].contains o.code) ||
    (match t with
    | .word i => (o.code == 4 && ((y.word i).full || (y.word i).fillTurn != o.ticket)) || (o.code == 5 && (y.word i).full)
    | .pair i =>
      (o.code == 7 && (match (y.pair i).prodOwner with | some w => w != who | none => false))
        || (o.code == 8 && (match (y.pair i).consOwner with | some w => w != who | none => false))
    | _ => false)

/-- The operation, once accepted, waits (R325, R330). -/
def SyncState.parks (y : SyncState) (strict : Bool) (who : Nat) (o : SyncOp) (t : SyncTarget) : Bool :=
  if o.nowait || y.poisoned t then false
  else
    match t with
    | .barrier i => o.code == 9 && ((y.barrier i).arrived ||| (1#72 <<< who)) != (y.barrier i).mask
    | _ => !y.ready strict o

/-- The participant may not act on the object (R330, R334, R336). -/
def SyncState.denies (y : SyncState) (who : Nat) (o : SyncOp) (t : SyncTarget) : Bool :=
  let outside := fun t => match y.jobOf t with
    | some j => !j.parts.getLsbD who
    | none => true
  match t with
  | .barrier i => outside t || (o.code == 9 && !(y.barrier i).mask.getLsbD who)
  | .handle h => match y.watch h with
    | some w => outside (y.target w.addr) || (o.code == 11 && w.src != who)
    | none => false
  | .channel _ => false
  | _ => outside t

/-- An operand value is out of its range (R329, R332, R334). -/
def SyncState.badOperand (y : SyncState) (o : SyncOp) (t : SyncTarget) : Bool :=
  let n := o.val.toNat
  match t with
  | .pair _ => ([4, 7, 8].contains o.code && decide (n = 0 ∨ 65535 < n)) || (o.code == 10 && (!condFits (bits o.arg.toNat 7 0) t || bits o.arg.toNat 31 9 != 0))
  | .barrier i =>
    if o.code = 4 then
      let parts := match y.jobOf t with
        | some j => j.parts
        | none => 0
      o.mask == 0 || (o.mask &&& ~~~parts) != 0 || (o.mask.getLsbD 71 && (y.barrier i).tree.isNone)
    else o.code == 10 && (!condFits (bits o.arg.toNat 7 0) t || bits o.arg.toNat 31 9 != 0)
  | .word _ => o.code == 10 && (!condFits (bits o.arg.toNat 7 0) t || bits o.arg.toNat 31 9 != 0)
  | _ => false

/-- The state refuses the operation (R324, R325, R330). -/
def SyncState.conflicts (y : SyncState) (strict : Bool) (who : Nat) (o : SyncOp) (t : SyncTarget) : Bool :=
  (o.nowait && [1, 2, 3, 8].contains o.code && !y.poisoned t && !y.ready strict o) ||
    (match t with
    | .pair i => o.code == 4 && ((y.pair i).p != (y.pair i).c || y.waiting o.addr)
    | .barrier i =>
      let b := y.barrier i
      (o.code == 4 && b.arrived != 0) || (o.code == 9 && (b.gen != o.arg.truncate 32 || b.arrived.getLsbD who))
    | .handle h => (y.watch h).isNone
    | _ => false)

/-- The first refusal of an operation on an object of this tray, in the order of R326 from step 3. -/
def SyncState.refusal (y : SyncState) (strict : Bool) (who : Nat) (o : SyncOp) (t : SyncTarget) : Option Status :=
  let above := match t with
    | .pair i => (o.code == 7 || o.code == 8) && decide ((y.pair i).cap < o.val.toNat)
    | _ => false
  let full := match t with
    | .pair _ => o.code == 7 && o.nowait && !y.poisoned t && !y.ready strict o
    | _ => false
  let quota := o.code == 10 && (decide (65536 ≤ y.watches.length) || (match y.jobOf t with
    | some j => decide (j.quota ≤ y.watchesOf j)
    | none => true))
  let conflict := y.conflicts strict who o t
  if y.denies who o t then some .denied
  else if strict && y.strictBars who o t then some .strictMode
  else if y.badOperand o t then some .badArg
  else if quota || (!above && !full && !conflict && y.parks strict who o t && decide (16384 ≤ y.parked.length)) then some .noResource
  else if above || full then some .limitExceeded
  else if conflict then some .stateConflict
  else if y.poisoned t then some .integrityFail
  else none

/-! Windows (R340, R341, R353) -/

/-- The window of a source: of a participant here, or of a source of another tray. -/
def SyncState.win (y : SyncState) (o : SyncOrigin) : SourceWindow :=
  match o.tray with
  | none => nth y.wins o.src
  | some t => match y.remotes.find? fun r => r.tray == t && r.src == o.src with
    | some r => r.win
    | none => {}

/-- Change the window of a source. -/
def SyncState.onWin (y : SyncState) (o : SyncOrigin) (f : SourceWindow → SourceWindow) : SyncState :=
  match o.tray with
  | none => { y with wins := modAt y.wins o.src f }
  | some t => { y with remotes := y.remotes.map fun r => if r.tray = t ∧ r.src = o.src then { r with win := f r.win } else r }

/-- What a window makes of a sequence (R341). -/
inductive WindowVerdict where
  | fresh (win : SourceWindow) | duplicate (r : SyncReply) | outside
  deriving DecidableEq, Repr, Inhabited

/-- Judge a sequence. -/
def SourceWindow.judge (w : SourceWindow) (q : BitVec 32) : WindowVerdict :=
  if w.restart then .fresh { w with h := q, restart := false, seen := [] }
  else if (w.h - q).toNat < 256 then
    match w.seen.find? fun e => e.seq == q with
    | some e => .duplicate e.reply
    | none => .fresh w
  else if (q - w.h).toNat ≤ 256 then .fresh { w with h := q, seen := w.seen.filter fun e => decide ((q - e.seq).toNat < 256) }
  else .outside

/-- Keep the reply of an applied sequence. -/
def SourceWindow.note (w : SourceWindow) (q : BitVec 32) (r : SyncReply) : SourceWindow :=
  { w with seen := { seq := q, reply := r } :: w.seen.filter fun e => e.seq != q }

/-! Messages that leave the hub (R323, R335, R343) -/

/-- The 24 bytes of a reply. -/
def SyncReply.bytes (r : SyncReply) : List Byte := i1 r.op.toNat ++ i1 r.status.code ++ i2 r.fepoch.toNat ++ leBytes 4 r.seq.toNat ++ i8 r.val.toNat ++ i8 r.aux.toNat
/-- The 24 bytes of a notification. -/
def Notification.bytes (n : Notification) : List Byte :=
  i1 n.kind ++ i1 n.cond ++ i2 n.fepoch.toNat ++ leBytes 4 n.handle ++ leBytes 4 n.cookie.toNat ++ leBytes 4 n.fire.toNat ++ i8 n.val.toNat

/-- The 25-byte entry of a hub message for a die: its number and the kind, then the message (13 R363). -/
def SyncOut.entry : SyncOut → List Byte
  | .reply dest r => i1 (dest.src % 8) ++ r.bytes
  | .notify dest n => i1 (dest % 8 + 128) ++ n.bytes

/-- The 25-byte entry of a hub message for a host context (13 R377). -/
def SyncOut.hostEntry : SyncOut → List Byte
  | .reply _ r => i1 0 ++ r.bytes
  | .notify _ n => i1 1 ++ n.bytes

/-- A host-path frame from the governor under a key: the header authenticated, the body encrypted (13 R376). `cls` is 0 sync, 1 queue, 2 image. -/
def HostKeyState.frame (k : HostKeyState) (cls typ ctx count fseq : Nat) (body : List Byte) : List Byte :=
  let head := i4 0x4648474C ++ i1 typ ++ i1 ctx ++ i1 count ++ i1 0 ++ i8 fseq ++ i2 body.length ++ i2 0
  head ++ Config.gcmSeal (leBytes 32 k.key.toNat) (i1 cls ++ i1 ctx ++ i1 1 ++ i1 0 ++ beBytes 8 fseq) head body

/-- The frame class of an outgoing frame, whether it comes from the tray address, and its UDP payload where it is a host-path frame (13 R375-R377, R379, R380, R382). -/
def LinkState.carries (l : LinkState) : EthOut → Option Nat × Bool × List Byte
  | .tree _ | .treeAck _ _ => (some 0, true, [])
  | .syncFrame ctx fseq es => (some 1, true, (nth l.ctxKeys (ctx - 64)).frame 0 2 ctx es.length fseq (es.map SyncOut.hostEntry).flatten)
  | .queueAck q fseq a c st => (some 4, true, (nth l.queueKeys q).frame 1 4 q 1 fseq (i4 a ++ i4 c ++ i1 st.code))
  | .completions q fseq es => (some 4, true, (nth l.queueKeys q).frame 1 5 q es.length fseq (es.map fun e => i4 e.cseq ++ i2 e.data.length ++ i2 0 ++ e.data).flatten)
  | .imageAck b fseq got => (some 6, true, (nth l.imageKeys b).frame 2 7 b 1 fseq (i4 got))
  | .arpReply tray | .neighbourAdvert tray _ | .echoReply _ tray _ => (none, tray, [])
  | .gratuitousArp => (none, true, [])

/-- The port, marks and tag with which a frame leaves (13 R374, R375). -/
def State.ethHead (s : State) (f : EthOut) : EthHead :=
  let (cls, tray, body) := s.link.carries f
  match cls with
  | some c =>
    let (pcp, dscp) := nth s.cfg.eth.marks c
    { cls := some c, port := s.cfg.eth.base + [5, 2, 0, 1, 3, 6, 4].getD c 0, tray := tray, vid := s.cfg.eth.vid, pcp := pcp, dscp := dscp, body := body }
  | none => { tray := tray, vid := s.cfg.eth.vid }

/-- Put a frame on Ethernet. -/
def State.ethOut (s : State) (f : EthOut) : State :=
  { s with link := { s.link with ethSent := s.link.ethSent ++ [f], ethHeads := s.link.ethHeads ++ [s.ethHead f] } }

/-- Send a sync frame to a bound host context (13 R376, R377). -/
def State.toHostCtx (s : State) (ctx : Nat) (o : SyncOut) : State :=
  let k := nth s.link.ctxKeys (ctx - 64)
  if !k.bound then s
  else
    let s := { s with link := { s.link with ctxKeys := modAt s.link.ctxKeys (ctx - 64) fun k => { k with tx := k.tx + 1 } } }
    s.ethOut (.syncFrame ctx (k.tx + 1) [o])

/-- Send a tree frame to a neighbour under its hop number (R351). -/
def State.treeSend (s : State) (nbr : Nat) (body : TreeBody) : State :=
  let f : TreeFrame := { nbr := nbr, hop := nth s.sync.hopTx nbr, body := body, gt := s.gt }
  let s := s.onSync fun y => { y with hopTx := modAt y.hopTx nbr fun h => (h + 1) % 2 ^ 32, treeOut := y.treeOut ++ [f] }
  s.ethOut (.tree f)

/-- First tray of each child's subtree with its size (R350). -/
def TreeNode.ranges (n : TreeNode) : List (Nat × Nat) :=
  (n.children.foldl (fun (acc : List (Nat × Nat) × Nat) c => (acc.1 ++ [(acc.2, c.trays)], acc.2 + c.trays)) ([], n.tray + 1)).1

/-- The neighbour toward a tray: a child whose subtree holds it, else the parent; none at the root (R353). -/
def TreeNode.hopTo (n : TreeNode) (t : Nat) : Option Nat :=
  match n.ranges.findIdx? fun r => decide (r.1 ≤ t ∧ t < r.1 + r.2) with
  | some i => some (i + 1)
  | none => if n.parent = 0 then none else some 0

/-- Send a message to a die; it counts as issued until the link has acknowledged it (R344). -/
def State.toDie (s : State) (die : Nat) (o : SyncOut) : State :=
  let s := s.skvSend (die / 8) 1 o.entry
  if s.throughPartner (die / 8) then s else s.onSync fun y => { y with issued := y.issued ++ [o] }

/-- Let a message leave toward its receiver. -/
def State.leave (s : State) (o : SyncOut) : State :=
  let s := s.onSync fun y => { y with sent := y.sent ++ [o] }
  match o with
  | .reply dest r =>
    match dest.tray with
    | some t => match s.sync.node.bind fun n => n.hopTo t with
      | some nbr => s.treeSend nbr (.remoteReply t dest.src r)
      | none => s
    | none => if dest.src < 64 then s.toDie dest.src o else if dest.src < 71 then s.toHostCtx dest.src o else s
  | .notify dest _ => if dest < 64 then s.toDie dest o else if dest < 71 then s.toHostCtx dest o else s

/-- Replies wait for the partner's acknowledgement while the pair mirrors (R343). -/
def State.holding (s : State) : Bool := s.pair.mstate == .mirroring

/-- Issue a message of the state change in progress: it leaves at once, or after the acknowledgement of the record that the change sends. -/
def State.issue (s : State) (o : SyncOut) : State :=
  if s.holding then s.onSync fun y => { y with held := y.held ++ [((s.pair.mseqSent + 1) % 2 ^ 32, o)] } else s.leave o

/-- Issue a message that follows from no new change: it leaves behind what is held. -/
def State.issueAgain (s : State) (o : SyncOut) : State :=
  if s.holding ∧ s.sync.held ≠ [] then s.onSync fun y => { y with held := y.held ++ [(s.pair.mseqSent, o)] } else s.leave o

/-- The argument of the hub's trace points (R359). -/
def SyncOp.traceArg (o : SyncOp) : Nat := o.fepoch.toNat + 2 ^ 16 * o.seq.toNat + 2 ^ 48 * o.code

/-- The reply to an operation. -/
def SyncOp.reply (o : SyncOp) (st : Status) (val aux : BitVec 64) : SyncReply :=
  { op := o.op, status := st, fepoch := o.fepoch, seq := o.seq, val := if st = .ok then val else 0, aux := if st = .ok then aux else 0 }

/-- Answer an operation and keep the answer in its window. -/
def State.answer (s : State) (from_ : SyncOrigin) (o : SyncOp) (st : Status) (val aux : BitVec 64) : State :=
  let r := o.reply st val aux
  let s := s.onSync fun y => y.onWin from_ fun w => w.note o.seq r
  let s := if st = .ok ∨ st = .accepted then s else (s.onSync fun y => { y with refused := satAdd 32 y.refused 1 }).traced 181 from_.who (o.traceArg + 2 ^ 56 * st.code)
  s.issue (.reply from_ r)

/-! Watches (R334, R335) -/

/-- Fire one watch. -/
def State.fireOne (s : State) (w : Watch) (val : BitVec 64) (o : SyncOp) : State :=
  let n := w.fire + 1
  let s := s.onSync fun y =>
    { y with
      watches :=
        if w.persist then y.watches.map (fun x => if x.handle = w.handle then { x with fire := n } else x)
        else y.watches.filter fun x => x.handle != w.handle }
  let s := s.traced 184 w.src (o.fepoch.toNat + 2 ^ 16 * o.seq.toNat)
  s.issue (.notify w.src { kind := 1, cond := w.cond, fepoch := o.fepoch, handle := w.handle, cookie := w.cookie, fire := n, val := val })

/-- Fire the watches of an object among some on the conditions that occurred, in handle order (R335, R345). -/
def State.fireFor (s : State) (mine : Watch → Bool) (a : BitVec 64) (conds : List Nat) (val : BitVec 64) (o : SyncOp) : State :=
  (s.sync.watches.filter fun w => objKey w.addr == objKey a && conds.contains w.cond && mine w).foldl (fun s w => s.fireOne w val o) s

/-- Fire the watches of an object on the conditions that occurred. -/
def State.fire (s : State) (a : BitVec 64) (conds : List Nat) (val : BitVec 64) (o : SyncOp) : State := s.fireFor (fun _ => true) a conds val o

/-! Effects (R324, R340, R345) -/

/-- Note a posting operation on its object and in its source's fence epoch (R340, R347). -/
def State.posted (s : State) (from_ : SyncOrigin) (o : SyncOp) : State :=
  let same := (s.sync.win from_).epoch == some o.fepoch
  let s := s.onSync fun y =>
    let y := y.onWin from_ fun w => { w with epoch := some o.fepoch, noAdv := if same then satAdd 32 w.noAdv 1 else w.noAdv }
    { y with posts := { addr := o.addr, src := from_.who, seq := o.seq, fepoch := o.fepoch } :: y.posts.filter fun p => objKey p.addr != objKey o.addr }
  if same then s.traced 177 from_.who o.traceArg else s

/-- What an effect leaves: results, the conditions that occurred with their value, and whether a full/empty bit or count changed. -/
structure Effect where
  /-- first result -/
  val : BitVec 64 := 0
  /-- second result -/
  aux : BitVec 64 := 0
  /-- watch conditions that occurred (R334) -/
  conds : List Nat := []
  /-- value for the notifications (R335) -/
  seen : BitVec 64 := 0
  /-- the operation posts (R340) -/
  posts : Bool := false
  /-- parked operations are served (R327) -/
  serves : Bool := false
  deriving DecidableEq, Repr, Inhabited

/-- A bit as a word. -/
def bitWord (b : Bool) : BitVec 64 := BitVec.ofNat 64 (flag b)

/-- Conditions of a word that goes from one full/empty bit to another. -/
def fullConds (was now wrote : Bool) : List Nat :=
  (if wrote then [2] else []) ++ (if was = now then [] else if now then [0] else [1])

/-- The effect of an operation on a word (R324, R345). -/
def SyncWord.effect (w : SyncWord) (strict : Bool) (o : SyncOp) : SyncWord × Effect :=
  let turn := fun (b : BitVec 8) => if strict then b + 1 else b
  let after := fun (v : SyncWord) (x y : BitVec 64) (wrote : Bool) =>
    (v, ({ val := x, aux := y, conds := fullConds w.full v.full wrote, seen := v.val, posts := wrote, serves := w.full != v.full } : Effect))
  let old := if strict then 0 else w.val
  let oldBit := if strict then 0 else bitWord w.full
  match o.code with
  | 1 => after w w.val 0 false
  | 2 => after { w with full := false, takeTurn := turn w.takeTurn } w.val 0 false
  | 3 => after { w with val := o.val, full := true, fillTurn := turn w.fillTurn } 0 0 true
  | 4 => after { w with val := o.val, full := true, fillTurn := turn w.fillTurn } old oldBit true
  | 5 => after { w with val := o.val, full := false } old oldBit true
  | 6 => after { w with val := w.val + o.val } old oldBit true
  | _ => after w w.val (bitWord w.full ||| (w.takeTurn.zeroExtend 64 <<< 8) ||| (w.fillTurn.zeroExtend 64 <<< 16)) false

/-- The effect of an operation on a pair (R324, R329). -/
def SyncPair.effect (p : SyncPair) (o : SyncOp) : SyncPair × Effect :=
  match o.code with
  | 4 => ({ p with cap := o.val.toNat }, { val := BitVec.ofNat 64 p.cap, posts := true })
  | 7 =>
    let p' := { p with p := p.p + o.val }
    (p', { val := p.p, aux := p.c, conds := [3], seen := p'.p, posts := true, serves := true })
  | 8 =>
    if o.peek then (p, { val := p.c, aux := p.p })
    else
      let p' := { p with c := p.c + o.val }
      (p', { val := p.c, aux := p.p, conds := [4], seen := p'.c, posts := true, serves := true })
  | _ => (p, { val := p.p, aux := p.c })

/-- In strict mode an accepted PADV or CADV makes its source the owner of that side (R345). -/
def SyncPair.claim (p : SyncPair) (strict : Bool) (who : Nat) (o : SyncOp) : SyncPair :=
  { p with
    prodOwner := if strict ∧ o.code = 7 then some who else p.prodOwner
    consOwner := if strict ∧ o.code = 8 then some who else p.consOwner }

/-- The owner of a side that an accepted operation claims. -/
def SyncState.claims (y : SyncState) (strict : Bool) (who : Nat) (o : SyncOp) : SyncState :=
  match y.target o.addr with
  | .pair i => let p := (y.pair i).claim strict who o; if p = y.pair i then y else y.setPair i p
  | _ => y

/-- Apply an operation to its word or pair, or read an engine or handle: the hub after it and what it leaves. -/
def SyncState.effect (y : SyncState) (strict : Bool) (o : SyncOp) : SyncState × Effect :=
  match y.target o.addr with
  | .word i => let (w, e) := (y.word i).effect strict o; (if w = y.word i then y else y.setWord i w, e)
  | .pair i => let (p, e) := (y.pair i).effect o; (if p = y.pair i then y else y.setPair i p, e)
  | .barrier i =>
    let b := y.barrier i
    if o.code = 4 then (y.setBarrier i { b with mask := o.mask }, { val := b.mask.truncate 64, aux := (b.mask >>> 64).truncate 64, posts := true })
    else (y, { val := b.arrived.truncate 64, aux := ((b.arrived >>> 64).truncate 64) ||| (b.gen.zeroExtend 64 <<< 16) })
  | .handle h =>
    match y.watch h with
    | some w =>
      if o.code = 11 then ({ y with watches := y.watches.filter fun x => x.handle != h }, { val := w.fire.zeroExtend 64 })
      else (y, { val := w.addr, aux := BitVec.ofNat 64 (w.cond + 256 * flag w.persist) ||| (w.fire.zeroExtend 64 <<< 32) })
    | none => (y, {})
  | _ => (y, {})

/-- Two addresses name one object. -/
def sameObject (a b : BitVec 64) : Bool := objKey a == objKey b && homeOf a == homeOf b

/-- The present hang of an object ends (R347). -/
def SyncState.progressed (y : SyncState) (a : BitVec 64) : SyncState := { y with hung := y.hung.filter fun h => !sameObject h a }

/-- Complete an operation: effect, reply, then the watches that fire (R323, R335). -/
def State.complete (s : State) (from_ : SyncOrigin) (o : SyncOp) : State × Bool :=
  let (y, e) := s.sync.effect s.repro.strict o
  let s := { s with sync := y.progressed o.addr }
  let s := if e.posts then s.posted from_ o else s
  let s := s.answer from_ o .ok e.val e.aux
  (s.fire o.addr e.conds e.seen o, e.serves)

/-- The oldest parked operation on an object that can complete (R327). -/
def State.servable (s : State) (a : BitVec 64) : Option Parked :=
  s.sync.parked.find? fun p => objKey p.op.addr == objKey a && p.op.code != 9 && s.sync.ready s.repro.strict p.op

/-- Serve the operations parked on an object until none can complete (R327). -/
def State.serve (a : BitVec 64) : Nat → State → State
  | 0, s => s
  | fuel + 1, s =>
    match s.servable a with
    | none => s
    | some p =>
      let s := s.onSync fun y => { y with parked := y.parked.erase p }
      let s := s.traced 179 p.origin.who p.op.traceArg
      State.serve a fuel (s.complete p.origin p.op).1

/-- Serve an object. -/
def State.serveAll (s : State) (a : BitVec 64) : State := State.serve a (s.sync.parked.length + 1) s

/-! Barriers (R330, R331, R352) -/

/-- Release an engine: generation, arrived set, completions, watches (R331); in strict mode the completions and notifications of each participant leave in ascending participant order (R345). `last` is the operation that completed the set. -/
def State.releaseEngine (s : State) (i : Nat) (last : SyncOp) (lastWho : Nat) : State :=
  let b := s.sync.barrier i
  let mine := s.sync.parked.filter fun p => s.sync.target p.op.addr == .barrier i && p.op.code == 9
  let gen := b.gen + 1
  let s := s.onSync fun y =>
    ({ y.setBarrier i { b with gen := gen, arrived := 0, since := none } with
      parked := y.parked.filter fun p => !(y.target p.op.addr == .barrier i && p.op.code == 9) } : SyncState).progressed last.addr
  let s := s.traced 183 lastWho (last.traceArg + 2 ^ 48 * i)
  let finish := fun (s : State) (p : Parked) =>
    ((if p.origin.who = lastWho then s else s.traced 179 p.origin.who p.op.traceArg).posted p.origin p.op).answer p.origin p.op .ok (b.gen.zeroExtend 64) (gen.zeroExtend 64)
  if s.repro.strict then
    (List.range 72).foldl (fun s k => ((mine.filter fun p => p.origin.who == k).foldl finish s).fireFor (fun w => w.src == k) last.addr [5] (gen.zeroExtend 64) last) s
  else (mine.foldl finish s).fire last.addr [5] (gen.zeroExtend 64) last

/-- The address of an engine of this tray. -/
def SyncState.engineAddr (y : SyncState) (i : Nat) : BitVec 64 := BitVec.ofNat 64 (2 * 2 ^ 60 + y.tray * 2 ^ 43 + i)

/-- Send RELEASE of a round to every child. -/
def State.releaseChildren (s : State) (barrier round : Nat) : State :=
  match s.sync.node with
  | some n => (List.range n.children.length).foldl (fun s c => s.treeSend (c + 1) (.release barrier round)) s
  | none => s

/-- Change the state of a tree barrier: of one bound here, or of one for which frames are held until its binding (R352). -/
def SyncState.onTree (y : SyncState) (num : Nat) (f : TreeBarrier → TreeBarrier) : SyncState :=
  let upd := fun (t : TreeBarrier) => if t.num = num then f t else t
  if 63 < num then y
  else if y.treeBars.any fun t => t.num == num then { y with treeBars := y.treeBars.map upd }
  else if y.treeEarly.any fun t => t.num == num then { y with treeEarly := y.treeEarly.map upd }
  else { y with treeEarly := y.treeEarly ++ [f { num := num }] }

/-- A bound tree barrier counts itself ready when every local participant has arrived; with an UP of every child it sends UP, or starts the release at the root (R352). -/
def State.treeReady (s : State) (num : Nat) : State :=
  match s.sync.node, s.sync.treeBars.find? fun t => t.num == num with
  | some n, some t =>
    let b := s.sync.barrier t.engine
    let own : BitVec 72 := ~~~(1#72 <<< 71)
    let ready := (b.arrived &&& own) == (b.mask &&& own)
    let below := (List.range n.children.length).all fun c => t.ups.contains (c, t.round)
    if ready && below && !t.upSent then
      let s := s.onSync fun y => y.onTree num fun t => { t with upSent := true }
      if n.parent = 0 then s.onSync fun y => y.onTree num fun t => { t with releases := t.round :: t.releases }
      else (s.treeSend 0 (.up num t.round)).traced 197 num t.round
    else s
  | _, _ => s

/-- A RELEASE of the round sets bit 71, the engine releases, and RELEASE goes to the children; the next round begins (R352). -/
def State.treeRelease (s : State) (num : Nat) : State :=
  match s.sync.treeBars.find? fun t => t.num == num with
  | some t =>
    if t.upSent ∧ t.releases.contains t.round then
      let s := s.onSync fun y => (y.setBarrier t.engine { y.barrier t.engine with arrived := (y.barrier t.engine).arrived ||| (1#72 <<< 71) }).onTree num fun t =>
        { t with round := t.round + 1, upSent := false, ups := t.ups.filter fun u => u.2 != t.round, releases := t.releases.filter fun r => r != t.round }
      let s := s.releaseEngine t.engine { op := 9, src := 71, addr := s.sync.engineAddr t.engine } 71
      (s.releaseChildren num t.round).treeReady num
    else s
  | none => s

/-- Run a bound tree barrier's rule (R352). -/
def State.treeStep (s : State) (num : Nat) : State := if s.sync.node.isSome then (s.treeReady num).treeRelease num else s

/-- Record an arrival and release or park (R330, R331). -/
def State.arrive (s : State) (from_ : SyncOrigin) (o : SyncOp) (i : Nat) : State :=
  let b := s.sync.barrier i
  let arrived := b.arrived ||| (1#72 <<< from_.who)
  let s := s.onSync fun y => y.setBarrier i { b with arrived := arrived, since := some (b.since.getD s.gt) }
  let s := s.traced 182 from_.who (o.traceArg + 2 ^ 48 * i)
  if arrived = b.mask then
    let p : Parked := { op := o, origin := from_, gt := s.gt }
    (s.onSync fun y => { y with parked := y.parked ++ [p] }).releaseEngine i o from_.who
  else
    let s := if o.nowait then (s.posted from_ o).answer from_ o .ok (b.gen.zeroExtend 64) (b.gen.zeroExtend 64)
      else
        let s := s.onSync fun y => { y with parked := y.parked ++ [{ op := o, origin := from_, gt := s.gt }] }
        (s.answer from_ o .accepted 0 0).traced 178 from_.who o.traceArg
    match b.tree with
    | some num => s.treeStep num
    | none => s

/-! Watches set and channels (R334, R354) -/

/-- The lowest free handle. -/
def SyncState.freeHandle (y : SyncState) : Nat := ((List.range (y.watches.length + 1)).find? fun h => !y.watches.any fun w => w.handle == h).getD 0

/-- Insert a watch in handle order. -/
def insertWatch (w : Watch) : List Watch → List Watch
  | [] => [w]
  | x :: l => if w.handle < x.handle then w :: x :: l else x :: insertWatch w l

/-- Set a watch: its reply, then the notification of a condition that holds at once (R334). -/
def State.setWatch (s : State) (from_ : SyncOrigin) (o : SyncOp) : State :=
  let h := s.sync.freeHandle
  let w : Watch := { handle := h, src := from_.who, addr := o.addr, cond := bits o.arg.toNat 7 0, persist := o.arg.getLsbD 8, cookie := (o.arg >>> 32).truncate 32 }
  let s := s.onSync fun y => { y with watches := insertWatch w y.watches }
  let s := s.answer from_ o .ok (BitVec.ofNat 64 h) 0
  match s.sync.target o.addr with
  | .word i =>
    let v := s.sync.word i
    if (w.cond = 0 ∧ v.full) ∨ (w.cond = 1 ∧ !v.full) then s.fireOne w v.val o else s
  | _ => s

/-- Send a broadcast to every child. -/
def State.broadcastDown (s : State) (channel round : Nat) (val : BitVec 64) (fepoch : BitVec 16) : State :=
  match s.sync.node with
  | some n => (List.range n.children.length).foldl (fun s c => s.treeSend (c + 1) (.broadcast channel round val true fepoch)) s
  | none => s

/-- The object waits for the partner's copy (R349). -/
def SyncState.underRepair (y : SyncState) (a : BitVec 64) : Bool := y.repairs.any fun r => objKey r.1 == objKey a

/-- A STORE by participant 71 to a word of this tray: applied, held for a repair, or discarded where the hub refuses it; no reply leaves (R349, R354). -/
def State.storeAs71 (s : State) (i : Nat) (o : SyncOp) : State :=
  if s.sync.underRepair o.addr then s.onSync fun y => { y with repairs := y.repairs ++ [(o.addr, some { op := o, origin := { src := 71 }, gt := s.gt })] }
  else if (s.sync.refusal s.repro.strict 71 o (.word i)).isSome then s
  else
    let (y, e) := s.sync.effect s.repro.strict o
    let s := ({ s with sync := { y.progressed o.addr with applied := y.applied + 1 } }.posted { src := 71 } o).traced 186 71 o.traceArg
    let s := s.fire o.addr e.conds e.seen o
    if e.serves then s.serveAll o.addr else s

/-- Apply a broadcast to the bound word as a STORE by participant 71; a tray that has not bound the channel discards it (R354). -/
def State.applyBroadcast (s : State) (channel : Nat) (val : BitVec 64) (fepoch : BitVec 16) : State :=
  match nth s.sync.channels channel with
  | none => s
  | some i => s.storeAs71 i { op := 4, src := 71, fepoch := fepoch, addr := BitVec.ofNat 64 (s.sync.tray * 2 ^ 43 + i), val := val }

/-- A broadcast reaches the root or is issued there: it goes down to every tray under its round (R354). -/
def State.rootBroadcast (s : State) (channel : Nat) (val : BitVec 64) (fepoch : BitVec 16) : State :=
  let r := nth s.sync.bcRound channel
  let s := s.onSync fun y => { y with bcRound := y.bcRound.set channel ((r + 1) % 2 ^ 32) }
  (s.broadcastDown channel r val fepoch).applyBroadcast channel val fepoch

/-- A broadcast issued here (R354). -/
def State.storeChannel (s : State) (channel : Nat) (val : BitVec 64) (fepoch : BitVec 16) : State :=
  match s.sync.node with
  | some n => if n.parent = 0 then s.rootBroadcast channel val fepoch else s.treeSend 0 (.broadcast channel 0 val false fepoch)
  | none => s.rootBroadcast channel val fepoch

/-! Intake (R326, R341) -/

/-- A new operation on an object of this tray, past its window. -/
def State.runOp (s : State) (from_ : SyncOrigin) (o : SyncOp) : State :=
  let t := s.sync.target o.addr
  match s.sync.refusal s.repro.strict from_.who o t with
  | some st => s.answer from_ o st 0 0
  | none =>
    let s := s.onSync fun y => { y.claims s.repro.strict from_.who o with applied := y.applied + 1 }
    let s := s.traced (if from_.tray.isSome then 186 else 176) from_.who o.traceArg
    match t, o.code with
    | .barrier i, 9 => s.arrive from_ o i
    | .channel c, _ => ((s.answer from_ o .ok 0 0).posted from_ o).storeChannel c o.val o.fepoch
    | _, 10 => s.setWatch from_ o
    | _, _ =>
      if s.sync.ready s.repro.strict o then
        let (s, serves) := s.complete from_ o
        if serves then s.serveAll o.addr else s
      else
        let s := s.onSync fun y => { y with parked := y.parked ++ [{ op := o, origin := from_, gt := s.gt }] }
        (s.answer from_ o .accepted 0 0).traced 178 from_.who o.traceArg

/-- Forward an operation toward its home tray (R353). -/
def State.forwardOp (s : State) (nbr home origin : Nat) (o : SyncOp) : State := s.treeSend nbr (.remote home origin o)

/-- A new operation of a source of this tray: applied here, held for a repair, or sent to its home tray (R349, R353). -/
def State.takeOp (s : State) (from_ : SyncOrigin) (o : SyncOp) : State :=
  let t := s.sync.target o.addr
  if !o.formed || !o.fits t || (from_.tray.isSome && !o.remotable t) then s.answer from_ o .badArg 0 0
  else
    match t with
    | .remote h =>
      match s.sync.node.bind fun n => n.hopTo h with
      | some nbr =>
        let s := s.onSync fun y => { y.onWin from_ fun w => w.note o.seq (o.reply .accepted 0 0) with remoteOut := y.remoteOut ++ [{ src := from_.src, seq := o.seq, addr := o.addr, gt := s.gt }] }
        (s.forwardOp nbr h s.sync.tray o).traced 185 from_.who o.traceArg
      | none => s.answer from_ o .badArg 0 0
    | _ =>
      if s.sync.underRepair o.addr then
        if s.sync.repairs.any (fun r => r.2.any fun p => p.origin == from_ && p.op.seq == o.seq) then s
        else s.onSync fun y => { y with repairs := y.repairs ++ [(o.addr, some { op := o, origin := from_, gt := s.gt })] }
      else s.runOp from_ o

/-- Judge an operation by its source's window, then take it (R341). -/
def State.throughWindow (s : State) (from_ : SyncOrigin) (o : SyncOp) : State :=
  let w := s.sync.win from_
  match w.judge o.seq with
  | .duplicate r =>
    let s := (s.onSync fun y => { y with dups := y.dups + 1 }).traced 180 from_.who o.traceArg
    s.issueAgain (.reply from_ r)
  | .outside =>
    let s := (s.event .hub 0x0806 1 from_.who (i1 from_.who ++ i8 o.seq.toNat ++ i8 w.h.toNat)).onSync fun y => { y with refused := satAdd 32 y.refused 1 }
    (s.traced 181 from_.who (o.traceArg + 2 ^ 56 * Status.stateConflict.code)).issueAgain (.reply from_ (o.reply .stateConflict 0 0))
  | .fresh w' =>
    let s := if w.restart then s.traced 201 from_.who w'.h.toNat else s
    ((s.onSync fun y => y.onWin from_ fun _ => w').takeOp from_ o).mirrored .hub

/-- An operation arrives from a participant of this tray (R322, R326). -/
def State.syncArrival (s : State) (src : Nat) (o : SyncOp) : State :=
  let from_ : SyncOrigin := { src := src }
  if s.sync.awaitCopy then s
  else if o.src ≠ src then s.issueAgain (.reply from_ (o.reply .badArg 0 0))
  else if s.isOwner then s.throughWindow from_ o
  else match (s.sync.win from_).judge o.seq with
    | .duplicate r => s.issueAgain (.reply from_ r)
    | _ => s.issueAgain (.reply from_ (o.reply (if o.formed && o.fits (s.sync.target o.addr) then .notOwner else .badArg) 0 0))

/-- A die is present in its package's capability message. -/
def State.diePresent (s : State) (i : Nat) : Bool :=
  match (nth s.link.ports (i / 8)).cap with
  | some c => c.dies.getLsbD (i % 8)
  | none => false

/-- A sync operation reaches the hub: a die's over its package's link, a host context's while it is bound. -/
def State.syncIntake (s : State) (src : Nat) (o : SyncOp) : State :=
  if src < 64 then (if s.hears (src / 8) && s.diePresent src then (s.received (src / 8) 1 32).syncArrival src o else s)
  else if src < 71 then (if (nth s.link.ctxKeys (src - 64)).bound then s.syncArrival src o else s)
  else s

/-- `READFE` (R324). -/
def execReadfe (src : U8) (op : SyncOp) (s : State) : Host.Outcome State Fault Refusal := .next (s.syncIntake src.toNat (op.withCode 1))
/-- `TAKE` (R324). -/
def execTake (src : U8) (op : SyncOp) (s : State) : Host.Outcome State Fault Refusal := .next (s.syncIntake src.toNat (op.withCode 2))
/-- `FILL` (R324). -/
def execFill (src : U8) (op : SyncOp) (s : State) : Host.Outcome State Fault Refusal := .next (s.syncIntake src.toNat (op.withCode 3))
/-- `STORE` (R324). -/
def execStore (src : U8) (op : SyncOp) (s : State) : Host.Outcome State Fault Refusal := .next (s.syncIntake src.toNat (op.withCode 4))
/-- `CLEAR` (R324). -/
def execClear (src : U8) (op : SyncOp) (s : State) : Host.Outcome State Fault Refusal := .next (s.syncIntake src.toNat (op.withCode 5))
/-- `ADD` (R324). -/
def execAdd (src : U8) (op : SyncOp) (s : State) : Host.Outcome State Fault Refusal := .next (s.syncIntake src.toNat (op.withCode 6))
/-- `PADV` (R329). -/
def execPadv (src : U8) (op : SyncOp) (s : State) : Host.Outcome State Fault Refusal := .next (s.syncIntake src.toNat (op.withCode 7))
/-- `CADV` (R329). -/
def execCadv (src : U8) (op : SyncOp) (s : State) : Host.Outcome State Fault Refusal := .next (s.syncIntake src.toNat (op.withCode 8))
/-- `ARRIVE` (R330). -/
def execArrive (src : U8) (op : SyncOp) (s : State) : Host.Outcome State Fault Refusal := .next (s.syncIntake src.toNat (op.withCode 9))
/-- `WATCH` (R334). -/
def execWatch (src : U8) (op : SyncOp) (s : State) : Host.Outcome State Fault Refusal := .next (s.syncIntake src.toNat (op.withCode 10))
/-- `UNWATCH` (R334). -/
def execUnwatch (src : U8) (op : SyncOp) (s : State) : Host.Outcome State Fault Refusal := .next (s.syncIntake src.toNat (op.withCode 11))
/-- `READ` (R324). -/
def execRead (src : U8) (op : SyncOp) (s : State) : Host.Outcome State Fault Refusal := .next (s.syncIntake src.toNat (op.withCode 12))

/-- Every present die of a package has a blocking ARRIVE parked (R333). -/
def State.pkgWaits (s : State) (n : Nat) : Bool :=
  let dies := (List.range 8).filter fun d => s.diePresent (8 * n + d)
  dies ≠ [] && dies.all fun d => s.sync.parked.any fun p => p.origin.tray.isNone && p.op.src == 8 * n + d && p.op.code == 9

/-! Hangs (R347) -/

/-- An object is hung: for kind 1 an operation has been parked on it or is outstanding at its home tray, for kind 2 a barrier has held arrivals, for the timeout (R347, R351). -/
def State.hangKind (s : State) (a : BitVec 64) : Option Nat :=
  let long := fun t => s.since t (secs s.sync.hangS)
  if s.sync.parked.any (fun p => sameObject p.op.addr a && long p.gt) || s.sync.remoteOut.any (fun r => sameObject r.addr a && long r.gt) then some 1
  else
    match s.sync.target a with
    | .barrier i => match (s.sync.barrier i).since with
      | some t => if s.since t (secs s.sync.hangS) then some 2 else none
      | none => none
    | _ => none

/-- The participants waiting on an object or arrived at it. -/
def State.hangWho (s : State) (a : BitVec 64) (kind : Nat) : BitVec 72 :=
  if kind = 1 then
    ((s.sync.parked.filter fun p => sameObject p.op.addr a).map (fun p => p.origin.who) ++ (s.sync.remoteOut.filter fun r => sameObject r.addr a).map RemoteOut.src).foldl
      (fun (m : BitVec 72) k => m ||| (1#72 <<< k)) 0
  else match s.sync.target a with
    | .barrier i => (s.sync.barrier i).arrived
    | _ => 0

/-- The last posting operation on an object. -/
def SyncState.lastPost (y : SyncState) (a : BitVec 64) : LastPost := (y.posts.find? fun p => sameObject p.addr a).getD { addr := a }

/-- `HANG_TIMEOUT` (R347). -/
def execHangTimeout (addr : U64) (s : State) : Host.Outcome State Fault Refusal :=
  .next (match (if s.isOwner then s.hangKind addr else none) with
    | some k =>
      if s.sync.hung.any (fun h => sameObject h addr) then s
      else
        let l := s.sync.lastPost addr
        let s := s.onSync fun y => { y with hung := y.hung ++ [addr] }
        (s.event .hub 0x0804 1 k (i8 addr.toNat ++ i1 k ++ leBytes 9 (s.hangWho addr k).toNat ++ i1 l.src ++ i8 l.seq.toNat ++ i2 l.fepoch.toNat)).traced 194 k addr.toNat
    | none => s)

/-! Memory errors (R349) -/

/-- Poison an object: operations parked on it complete with `INTEGRITY_FAIL`. -/
def State.poisonObject (s : State) (a : BitVec 64) : State :=
  let s := s.onSync fun y => match y.target a with
    | .word i => y.setWord i { y.word i with poison := true }
    | .pair i => y.setPair i { y.pair i with poison := true }
    | .barrier i => y.setBarrier i { y.barrier i with poison := true }
    | _ => y
  let mine := s.sync.parked.filter fun p => objKey p.op.addr == objKey a
  let s := s.onSync fun y => { y with parked := y.parked.filter fun p => objKey p.op.addr != objKey a }
  let s := mine.foldl (fun s p => (s.traced 179 p.origin.who p.op.traceArg).answer p.origin p.op .integrityFail 0 0) s
  s.event .hub 0x0805 3 0 (i8 a.toNat ++ i1 1)

/-- `SYNC_SCRUB`: `bad` is 0 for a sound word, 1 for a corrected error, 2 for an uncorrectable one (R349). -/
def execSyncScrub (index : U32) (bad : U8) (s : State) : Host.Outcome State Fault Refusal :=
  let i := index.toNat
  let a := BitVec.ofNat 64 (s.sync.tray * 2 ^ 43 + i)
  .next (if 524288 ≤ i then s
  else
    let s := s.onSync fun y => { y with scrub := (i + 1) % 524288 }
    if bad = 0 then s
    else if bad = 1 then (s.onSync fun y => { y with eccCorr := satAdd 32 y.eccCorr 1 }).traced 195 (i % 4) a.toNat
    else
      let s := (s.onSync fun y => { y with eccUnc := satAdd 32 y.eccUnc 1 }).traced 196 (i % 4) a.toNat
      if s.pair.mstate = .mirroring then s.onSync fun y => { y with repairs := y.repairs ++ [(a, none)] }
      else (s.poisonObject a).mirrored .hub)

/-- An operation that waited for a repair proceeds (R349). -/
def State.resumeOp (s : State) (p : Parked) : State :=
  match p.origin == { src := 71 }, s.sync.target p.op.addr with
  | true, .word i => s.storeAs71 i p.op
  | _, _ => s.runOp p.origin p.op

/-- `SYNC_OBJECT_REPAIRED`: the partner's copy arrives, or none does; the waiting operations proceed (R349). -/
def execSyncObjectRepaired (addr : U64) (content : SyncContent) (s : State) : Host.Outcome State Fault Refusal :=
  .next (if !s.sync.underRepair addr then s
  else
    let ops := (s.sync.repairs.filter fun r => objKey r.1 == objKey addr).filterMap Prod.snd
    let s := s.onSync fun y => { y with repairs := y.repairs.filter fun r => objKey r.1 != objKey addr }
    let s := match content, s.sync.target addr with
      | .word w, .word i => (s.onSync fun y => y.setWord i w).event .hub 0x0805 1 0 (i8 addr.toNat ++ i1 0)
      | .pair p, .pair i => (s.onSync fun y => y.setPair i p).event .hub 0x0805 1 0 (i8 addr.toNat ++ i1 0)
      | .barrier b, .barrier i => (s.onSync fun y => y.setBarrier i b).event .hub 0x0805 1 0 (i8 addr.toNat ++ i1 0)
      | _, _ => s.poisonObject addr
    (ops.foldl (fun s p => s.resumeOp p) s).mirrored .hub)

/-! The cross-tray tree (R350-R354) -/

/-- A tree frame reaches the OWNER and is the next of its neighbour: it is taken and acknowledged; an earlier one is acknowledged again (R351). -/
def State.treeHop (s : State) (nbr hop : Nat) (k : State → State) : State :=
  match s.sync.node with
  | none => s
  | some n =>
    if !s.isOwner ∨ nbr > n.children.length ∨ (nbr = 0 ∧ n.parent = 0) then s
    else
      let next := nth s.sync.hopRx nbr
      if hop = next then
        let s := s.onSync fun y => { y with hopRx := y.hopRx.set nbr ((hop + 1) % 2 ^ 32) }
        (k (s.ethOut (.treeAck nbr hop))).mirrored .hub
      else if seqLe hop next then s.ethOut (.treeAck nbr hop)
      else s

/-- `TREE_UP` (R352). -/
def execTreeUp (child : U8) (hop : U32) (barrier : U8) (round : U32) (s : State) : Host.Outcome State Fault Refusal :=
  .next (s.treeHop (child.toNat + 1) hop.toNat fun s =>
    (s.onSync fun y => y.onTree barrier.toNat fun t => { t with ups := t.ups ++ [(child.toNat, round.toNat)] }).treeStep barrier.toNat)

/-- `TREE_RELEASE` from the parent (R352). -/
def execTreeRelease (hop : U32) (barrier : U8) (round : U32) (s : State) : Host.Outcome State Fault Refusal :=
  .next (s.treeHop 0 hop.toNat fun s =>
    let s := s.traced 198 barrier.toNat round.toNat
    (s.onSync fun y => y.onTree barrier.toNat fun t => { t with releases := t.releases ++ [round.toNat] }).treeStep barrier.toNat)

/-- An operation of another tray at its home: its window, in a table of 4,096 entries (R353). -/
def State.remoteArrival (s : State) (origin : Nat) (o : SyncOp) : State :=
  let from_ : SyncOrigin := { tray := some origin, src := o.src }
  let known := s.sync.remotes.any fun r => r.tray == origin && r.src == o.src
  if !known && decide (4096 ≤ s.sync.remotes.length) then
    (s.event .hub 0x080A 2 origin (leBytes 4 origin ++ i1 o.src)).issueAgain (.reply from_ (o.reply .noResource 0 0))
  else
    let s := s.onSync fun y =>
      { y with
        remotes :=
          if known then y.remotes.map (fun r => if r.tray = origin ∧ r.src = o.src then { r with gt := s.gt } else r)
          else y.remotes ++ [{ tray := origin, src := o.src, gt := s.gt }] }
    s.throughWindow from_ o

/-- `REMOTE_OPERATION` (R353). -/
def execRemoteOperation (nbr : U8) (hop : U32) (home : U32) (origin : U32) (op : SyncOp) (s : State) : Host.Outcome State Fault Refusal :=
  .next (s.treeHop nbr.toNat hop.toNat fun s =>
    if home.toNat = s.sync.tray then (if s.sync.awaitCopy then s else s.remoteArrival origin.toNat op)
    else match s.sync.node.bind fun n => n.hopTo home.toNat with
      | some x => s.forwardOp x home.toNat origin.toNat op
      | none => s.leave (.reply { tray := some origin.toNat, src := op.src } (op.reply .badArg 0 0)))

/-- `REMOTE_OPERATION_REPLY`: forwarded, or the end of the operation at its origin tray (R353). -/
def execRemoteOperationReply (nbr : U8) (hop : U32) (origin : U32) (src : U8) (rep : SyncReply) (s : State) : Host.Outcome State Fault Refusal :=
  .next (s.treeHop nbr.toNat hop.toNat fun s =>
    if origin.toNat = s.sync.tray then
      let from_ : SyncOrigin := { src := src.toNat }
      match s.sync.remoteOut.find? fun r => r.src == src.toNat && r.seq == rep.seq with
      | none => s
      | some r =>
        let s := s.onSync fun y => y.onWin from_ fun w => w.note rep.seq rep
        let s := if rep.status = .accepted then s else s.onSync fun y => { y.progressed r.addr with remoteOut := y.remoteOut.filter fun x => x != r }
        s.issue (.reply from_ rep)
    else match s.sync.node.bind fun n => n.hopTo origin.toNat with
      | some x => s.treeSend x (.remoteReply origin.toNat src.toNat rep)
      | none => s)

/-- `TREE_BROADCAST`: up to the root, or down from the parent, each round once (R354). -/
def execTreeBroadcast (nbr : U8) (hop : U32) (channel : U8) (round : U32) (val : U64) (fepoch : U16) (s : State) : Host.Outcome State Fault Refusal :=
  let c := channel.toNat
  .next (if 16 ≤ c then s
  else s.treeHop nbr.toNat hop.toNat fun s =>
    let s := s.traced 199 c round.toNat
    if nbr.toNat = 0 then
      if seqLe (nth s.sync.bcRound c) round.toNat then
        let s := s.onSync fun y => { y with bcRound := y.bcRound.set c ((round.toNat + 1) % 2 ^ 32) }
        (s.broadcastDown c round.toNat val fepoch).applyBroadcast c val fepoch
      else s
    else s.storeChannel c val fepoch)

/-- `TREE_FRAME_ACK`: the frame is done; a lost neighbour is regained (R351). -/
def execTreeFrameAck (nbr : U8) (hop : U32) (s : State) : Host.Outcome State Fault Refusal :=
  let n := nbr.toNat
  .next (if s.isOwner && s.sync.treeOut.any (fun f => f.nbr == n && f.hop == hop.toNat) then
    let s := s.onSync fun y => { y with treeOut := y.treeOut.filter fun f => !(f.nbr == n && f.hop == hop.toNat) }
    let s := if s.sync.lost.contains n then (s.onSync fun y => { y with lost := y.lost.filter fun k => k != n }).event .hub 0x0808 0 n (i1 n ++ i1 0) else s
    s.mirrored .hub
  else s)

/-- `TREE_RESEND_TIMEOUT`: after 20 µs, or 10 ms at a lost neighbour (R351). -/
def execTreeResendTimeout (nbr : U8) (hop : U32) (s : State) : Host.Outcome State Fault Refusal :=
  .next (match s.sync.treeOut.find? fun f => f.nbr == nbr.toNat && f.hop == hop.toNat with
    | some f =>
      if s.isOwner ∧ s.since f.gt (if s.sync.lost.contains f.nbr then 10000 else 20) ∧ (f.resends < 50 ∨ s.sync.lost.contains f.nbr) then
        let g := { f with gt := s.gt, resends := f.resends + 1 }
        (s.onSync fun y => { y with treeOut := y.treeOut.map fun x => if x = f then g else x }).ethOut (.tree g)
      else s
    | none => s)

/-- `TREE_NEIGHBOUR_LOST`: fifty resends have failed (R351). -/
def execTreeNeighbourLost (nbr : U8) (s : State) : Host.Outcome State Fault Refusal :=
  let n := nbr.toNat
  .next (if s.isOwner ∧ !s.sync.lost.contains n ∧ s.sync.treeOut.any (fun f => f.nbr == n && decide (50 ≤ f.resends)) then
    (s.onSync fun y => { y with lost := y.lost ++ [n] }).event .hub 0x0808 2 n (i1 n ++ i1 0)
  else s)

/-- `REMOTE_WINDOW_EXPIRY`: ten seconds without an operation free an entry (R353). -/
def execRemoteWindowExpiry (tray : U32) (src : U8) (s : State) : Host.Outcome State Fault Refusal :=
  .next (if s.isOwner && s.sync.remotes.any (fun r => r.tray == tray.toNat && r.src == src.toNat && s.since r.gt (secs 10)) then
    (s.onSync fun y => { y with remotes := y.remotes.filter fun r => !(r.tray == tray.toNat && r.src == src.toNat) }).mirrored .hub
  else s)

end Sys2Proof.Machine
end

