-- ==== Sys2Proof/Machine/Links.lean ====
section
/-! DEFINITION. The link layer's happenings, training and LINK_UP, and the reports of the packages (13 R361-R372, R387, 14 R396). -/

namespace Sys2Proof.Machine

open Sys2Proof

/-! States of a port (R385) -/

/-- The states of a port as numbers (13 SKV entry). -/
def PortPhase.code : PortPhase → Nat
  | .unused => 0 | .training => 1 | .up => 2 | .linkUp => 3 | .down => 4 | .partnerPath => 5

/-- Put a port into a state: trace point 226, or 231 for the partner path (R386). -/
def State.portTo (s : State) (n : Nat) (ph : PortPhase) : State :=
  let old := (s.skv n).phase
  let s := s.onSkv n fun p => { p with phase := ph }
  s.traced (if ph = .partnerPath ∨ old = .partnerPath then 231 else 226) n ph.code

/-- MIR passes messages. -/
def State.mirTrained (s : State) : Bool := s.pair.mir.trained

/-- Packages whose link to the OWNER is down go over the STANDBY while it can forward (R369). -/
def State.refreshPaths (s : State) : State :=
  let want : PortPhase := if s.isOwner && s.pair.alive && s.mirTrained then .partnerPath else .down
  (indices 8 fun n => ((s.skv n).phase == .down || (s.skv n).phase == .partnerPath) && (s.skv n).phase != want).foldl (fun s n => s.portTo n want) s

/-! Image pushes that end (R383, R387) -/

/-- An IMG message: kind 1 BEGIN, 2 DATA, 3 END, 4 ABORT, 5 DONE, then the push ID; the spec gives no layout. -/
def imgMessage (kind push : Nat) (body : List Byte) : List Byte := i1 kind ++ zeros 3 ++ i4 push ++ body

/-- A package is done with a push: it leaves the mask, and a push without packages is over. -/
def LinkState.pushLeaves (l : LinkState) (push n : Nat) : LinkState :=
  { l with pushes := (l.pushes.map fun p => if p.id = push then p.without n else p).filter fun p => p.mask != 0 }

/-- Put the overlay that a package has taken in force, or go on to its next overlay (14 R398, R399). -/
def State.substDone (s : State) (push n : Nat) (ok : Bool) : State :=
  match s.repro.pushing.find? fun p => p.1 == push && p.2.pkg == n with
  | none => s
  | some (_, x) =>
    let s := { s with repro := { s.repro with pushing := s.repro.pushing.filter fun p => p.1 != push } }
    if !ok then ({ s with repro := s.repro.failPush x }.substEvent x 2).mirrored .repro
    else if s.repro.inForce.contains x then { s with repro := { s.repro with overlays := modAt s.repro.overlays n (·.drop 1) } }
    else ({ s with repro := { s.repro with inForce := s.repro.inForce ++ [x] } }.saveSettings.substEvent x 0).mirrored .repro

/-- A push to one package ends: event 0x0907, and what waits for it (R383, 14 R398). -/
def State.pushEnds (s : State) (push n : Nat) (ok : Bool) : State :=
  let s := { s with link := s.link.pushLeaves push n }
  let s := s.event .fp3 0x0907 (if ok then 0 else 2) n []
  s.substDone push n ok

/-- The pushes to a package whose link goes down fail there (R387). -/
def State.failPushes (s : State) (n : Nat) : State :=
  (s.link.pushes.filter fun p => p.mask.getLsbD n).foldl (fun s p => s.pushEnds p.id n false) s

/-! Link layer (R362-R367) -/

/-- The hub's messages that the link of a package has acknowledged, when its port comes to `p`, are issued no more (12 R344). -/
def State.delivered (s : State) (n : Nat) (p : SkvPort) : State :=
  let gone := ((s.skv n).unacked.filter fun u => u.2.cls == 1 && !p.unacked.contains u).map fun u => u.2.body
  let left := gone.foldl (fun l b => l.eraseP fun o => o.toPkg n && o.entry == b) s.sync.issued
  if left = s.sync.issued then s else (s.onSync fun y => { y with issued := left }).mirrored .hub

/-- `LINK_FLIT`: acknowledgement, credits, and a replay at a NAK (R365, R367, 15 R409). -/
def execLinkFlit (port : U8) (nak : Bool) (ack : BitVec 12) (credits : List Nat) (s : State) : Host.Outcome State Fault Refusal :=
  let n := port.toNat
  .next (if decide (n ≤ 10) && (s.skv n).trained then
    let s := s.delivered n ((s.skv n).acknowledged ack.toNat s.gt)
    let s := s.onSkv n fun p =>
      let p := p.acknowledged ack.toNat s.gt
      { p with rx := p.rx + 1, credits := (List.range 7).map fun i => nth p.credits i + credits.getD i 0 }
    (if nak then s.replayPort n else s).pump n
  else s)

/-- `FLIT_CRC_FAIL`: the flit and every later numbered one are discarded, and a NAK goes out (R365). -/
def execFlitCrcFail (port : U8) (s : State) : Host.Outcome State Fault Refusal :=
  let n := port.toNat
  .next (if decide (n ≤ 10) && (s.skv n).trained then
    s.onSkv n fun p => { p with rx := p.rx + 1, crcErr := satAdd 32 p.crcErr 1, discarding := true }.sendLink true (List.replicate 7 0)
  else s)

/-- `REPLAY_TIMEOUT`: 2 µs without progress of the acknowledgement (R365). -/
def execReplayTimeout (port : U8) (s : State) : Host.Outcome State Fault Refusal :=
  let n := port.toNat
  let p := s.skv n
  .next (if decide (n ≤ 10) && p.trained && p.retrain.isNone && p.replay != [] && s.since p.ackGt 2 && decide (p.stuck < 8) then s.replayPort n else s)

/-- `RETRAIN`: eight replays of the same flit made no progress (R366). -/
def execRetrain (port : U8) (s : State) : Host.Outcome State Fault Refusal :=
  let n := port.toNat
  let p := s.skv n
  .next (if decide (n ≤ 10) && p.trained && p.retrain.isNone && decide (8 ≤ p.stuck) then (s.retrainPort n 1).event .hostSwitch 0x0903 1 n [] else s)

/-- A link goes down: buffers and credits go, queue entries not acknowledged will be delivered again, pushes to the package fail (R366, R369, R372, R387). -/
def State.linkDown (s : State) (n : Nat) : State :=
  let p := s.skv n
  let s : State := { s with link := { s.link with queues := s.link.queues.map fun (q : HostQueue) => if q.port = n then q.resumeAfter p else q } }
  let s := s.onSkv n fun p => p.fallen p.phase
  let s := s.portTo n .down
  let s := s.event (if n = 10 then .mirror else .hostSwitch) 0x0902 (if n < 8 ∧ s.acc n = .on then 3 else 1) n []
  (s.failPushes n).refreshPaths

/-- `RETRAIN_TIMEOUT`: a retrain has not ended within 100 ms (R366). -/
def execRetrainTimeout (port : U8) (s : State) : Host.Outcome State Fault Refusal :=
  let n := port.toNat
  .next (match (s.skv n).retrain with
    | some t => if n ≤ 10 ∧ s.since t (ms 100) then s.linkDown n else s
    | none => s)

/-- `LINK_TRAINING_COMPLETE`: a port that has trained sends its capability message; one that has retrained goes on with its replay (R361, R366, R368, 15 R409). -/
def execLinkTrainingComplete (port : U8) (gen : U8) (s : State) : Host.Outcome State Fault Refusal :=
  let n := port.toNat
  let p := s.skv n
  .next (if 10 < n ∨ p.phase = .unused ∨ s.clk.coreInReset then s
  else if p.retrain.isSome then
    (s.onSkv n fun p => { p.resend with retrain := none, ackGt := s.gt }).pump n
  else if p.trained then s
  else
    let g := if n = 10 then 2 else if gen = 1 ∨ (n < 8 ∧ (s.op.table.sec n).kind = 2) then 1 else 2
    let s := s.onSkv n fun p => { p with gen := g, credits := [0, 0, 0, 0, 0, 0, 4], txSeq := 0, rxSeq := 0 }
    let s := s.portTo n .up
    let s := if n < 8 ∧ (s.op.table.sec n).kind = 1 ∧ g = 1 then s.event .hostSwitch 0x0905 2 n [] else s
    if n = 10 then
      let s := s.portTo 10 .linkUp
      (s.mirOut (.straps s.straps.slotId.toNat s.straps.coolMode s.straps.pairSel s.runningManifest.mirrorProto)).refreshPaths
    else s.portSend n 7 s.ownCapability)

/-! Queue delivery (R380, 14 R399) -/

/-- A package's queues are served: ACC_ON or an expansion port up, at LINK_UP or through the STANDBY, and no overlay of it outstanding. -/
def State.servesQueues (s : State) (n : Nat) : Bool :=
  s.isOwner && (if n < 8 then s.acc n == .on && nth s.repro.overlays n == [] && !s.repro.pushing.any (fun p => p.2.pkg == n && s.repro.inForce.contains p.2) else true)
    && ((s.skv n).phase == .linkUp || s.throughPartner n) && !(decide (n < 8) && s.repro.unknown.getLsbD n)

/-- Deliver the accepted entries of a queue in order, each with its doorbell (R380). -/
def State.deliver (s : State) (q : HostQueue) : State :=
  if !s.servesQueues q.port ∨ q.detached then s
  else
    let due := q.entries.filter fun e => decide (q.delivered < e.qseq)
    let s := due.foldl (fun s e =>
      let s := (s.skvSend q.port 5 (cmdMessage 1 q.num e.qseq e.data)).traced 227 q.num e.qseq
      if e.ring then s.skvSend q.port 5 (cmdMessage 2 q.num e.qseq []) else s) s
    let top := due.foldl (fun a e => max a e.qseq) q.delivered
    { s with link := { s.link with queues := s.link.queues.map fun x => if x.num = q.num then { x with delivered := top } else x } }

/-- Deliver what every queue holds. -/
def State.deliverAll (s : State) : State := s.link.queues.foldl (fun s q => s.deliver q) s

/-! Capability and LINK_UP (R368, R369, R372) -/

/-- The 64 bytes of a capability message as received. -/
def Capability.bytes (c : Capability) : List Byte :=
  i4 c.magic ++ i1 c.fmt ++ i1 c.role ++ i1 c.gen ++ i1 c.kind ++ i1 c.dies.toNat ++ i1 c.pos ++ i2 c.rsvd.toNat
    ++ i4 c.fw ++ serialBytes c.serial ++ ((List.range 7).map fun i => i2 (nth c.credits i)).flatten ++ i2 (bits c.rsvd.toNat 31 16)
    ++ i4 c.features.toNat ++ leBytes 3 c.hbm.toNat ++ leBytes 9 (c.rsvd.toNat / 2 ^ 32)

/-- The message is a capability message of the known format. -/
def Capability.wellFormed (c : Capability) : Bool := c.magic == 0x5843474C && c.fmt == 1

/-- A capability message brings a port to LINK_UP (R368). -/
def State.capOk (s : State) (n : Nat) (c : Capability) : Bool :=
  c.wellFormed && (if n < 8 then c.kind == (s.op.table.sec n).kind else c.kind == 3 && (s.skv n).expansion)
    && (c.kind != 1 || c.dies == 0xFF) && (c.kind != 2 || c.dies == 0x0F) && (List.range 7).all fun i => decide (4 ≤ nth c.credits i)

/-- A port reaches LINK_UP: event 0x0901, role message, and what the link still owes the package (R368, R369, R372). -/
def State.linkUp (s : State) (n : Nat) (c : Capability) : State :=
  let s := s.onSkv n fun p => { p with cap := some c, credits := (List.range 7).map fun i => if i = 6 then nth c.credits 6 - (4 - nth p.credits 6) else nth c.credits i }
  let s := s.portTo n .linkUp
  let s := s.event .hostSwitch 0x0901 0 n (i1 n ++ i1 (s.skv n).gen)
  let s := s.portSend n 7 s.roleMessage
  let s := if s.isOwner && decide (n < 8) then s.resendChangesTo n else s
  let s := if n < 8 then s.onOp fun o => { o with budgetSent := o.budgetSent.set n 0 } else s
  (s.refreshSensors.pump n).deliverAll

/-- A capability message of a package or expansion module (R368). -/
def State.capability (s : State) (n : Nat) (c : Capability) : State :=
  let s := s.received n 7 64
  if s.capOk n c then s.linkUp n c
  else
    let s := if c.wellFormed then (s.onSkv n fun p => { p with cap := some c }).refreshSensors else s
    let s := if (s.skv n).phase = .linkUp then s.portTo n .up else s
    s.event .hostSwitch 0x0904 2 n (c.bytes ++ s.ownCapability)

/-! Reports (R370, R371) -/

/-- Capture a checkpoint of a job's open record at a step entry (14 R396). -/
def ReplayRecord.capture (r : ReplayRecord) (c : ReplayCheckpoint) : ReplayRecord :=
  if r.bind.interval ≠ 0 ∧ r.stepOpen < c.step ∧ c.step % r.bind.interval = 0 ∧ !r.cps.any (fun k => k.step == c.step) then
    if r.cps.length < 32 then { r with cps := r.cps ++ [c] } else { r with flags := r.flags ||| 8 }
  else r

/-- A record is open: its job has not closed. -/
def ReplayRecord.isOpen (r : ReplayRecord) : Bool := !r.flags.getLsbD 4

/-- A die enters a step: the record of each open job that holds it may capture a checkpoint (14 R396, R403). -/
def State.stepEntry (s : State) (part step : Nat) : State :=
  let mine := (s.sync.jobs.filter fun j => j.parts.getLsbD part).map Job.num
  let slow := s.traySlow
  let c : ReplayCheckpoint := { step := step, gt := s.gt, pstate := if slow then 31 else s.op.pNow, slow := slow, lsess := s.ledger.lsess, chgSeq := s.op.chgSeq, ltick := s.ledger.l }
  let rs := s.repro.records.map fun r => if mine.contains r.job ∧ r.isOpen then r.capture c else r
  if rs = s.repro.records then s else { s with repro := { s.repro with records := rs } }.mirrored .repro

/-- `PHASE_REPORT` (R370, 08 R218, R222). -/
def execPhaseReport (pkg : U8) (rep : PhaseReport) (s : State) : Host.Outcome State Fault Refusal :=
  let n := pkg.toNat
  let i := rep.part.toNat
  .next (if n < 10 ∧ s.hears n then
    let s := s.received n 3 24
    let late := match (nth s.link.dies i).rseq with
      | some r => decide (rep.rseq.toNat ≤ r)
      | none => false
    if 8 ≤ n ∨ 64 ≤ i ∨ i / 8 ≠ n ∨ late = true then s.dropReport n
    else
      let d : DiePhase := { rseq := some rep.rseq.toNat, phase := some rep.phase.toNat, step := some rep.step.toNat, chgSeq := rep.chgSeq.toNat }
      let s := { s with link := { s.link with dies := s.link.dies.set i d, topStep := max s.link.topStep rep.step.toNat } }
      let s := s.appliedReport n rep.chgSeq.toNat
      if rep.flags.getLsbD 0 then s.stepEntry i rep.step.toNat else s
  else s)

/-- `TEMPERATURE_REPORT` (R371, 10 R264). -/
def execTemperatureReport (pkg : U8) (rep : TempReport) (s : State) : Host.Outcome State Fault Refusal :=
  let n := pkg.toNat
  .next (if n < 10 ∧ s.hears n then
    let s := s.received n 4 80
    if rep.pkg ≠ pkg ∨ 8 ≤ n then s.dropReport n
    else
      let words := (List.range 8).map (fun d => (8 * n + d, rep.die.getD d 0x8000)) ++ (List.range 24).map (fun k => (64 + 24 * n + k, rep.hbm.getD k 0x8000))
      (words.filter fun w => w.2 != 0x8000).foldl (fun s w => s.reading w.1 w.2.toInt) s
  else s)

/-! The partner path at the STANDBY (R369) -/

/-- `PARTNER_PATH_MESSAGE`: the STANDBY forwards a package's SYNC, CMD or IMG message to the OWNER over MIR (R369). -/
def execPartnerPathMessage (pkg : U8) (cls : U8) (body : List Byte) (s : State) : Host.Outcome State Fault Refusal :=
  let n := pkg.toNat
  .next (if s.pair.role = .standby ∧ n < 8 ∧ (s.skv n).trained ∧ (cls = 1 ∨ cls = 5 ∨ cls = 6) ∧ s.mirTrained then
    (s.received n cls.toNat body.length).mirOut (.path n cls.toNat body)
  else s)

/-! Commands of the links (R385) -/

/-- `LINK_RETRAIN` (R366, R385). -/
def bodyLinkRetrain (link : U8) (_c : Ctx) (s : State) : Answer :=
  let n := link.toNat
  check [(decide (10 < n), .badArg), (n != 10 && !(s.skv n).trained, .stateConflict)] s fun _ =>
    if n = 10 then okay [] s
    else if (s.skv n).retrain.isSome then okay [] s
    else okay [] (s.retrainPort n 2)

/-- `BW_SHARE_SET` (R384). -/
def bodyBwShareSet (weights : List U8) (_c : Ctx) (s : State) : Answer :=
  check [(weights.length != 5 || weights.any (fun w => w == 0 || decide (15 < w.toNat)), .badArg)] s fun _ =>
    okay [] { s with link := { s.link with weights := weights.map BitVec.toNat } }

/-- The SKV entry of a port (R385). -/
def SkvPort.entry (p : SkvPort) : List Byte :=
  let c := p.cap.getD {}
  i1 p.phase.code ++ i1 p.gen ++ i1 c.kind ++ i1 c.dies.toNat ++ i4 p.replays ++ i4 p.retrains ++ i4 p.crcErr ++ i8 p.rx ++ i8 p.tx

/-- `LINK_STATUS` (R385). -/
def bodyLinkStatus (_c : Ctx) (s : State) : Answer :=
  let l := s.link
  okay (i1 l.ethMode ++ i1 l.media ++ i1 (packBits [l.trayAddr, l.jumbo]) ++ i1 0 ++ i4 l.dropped ++ i8 l.fecCorr ++ i8 l.fecUnc ++ i4 l.authFail ++ i4 0
    ++ (l.ports.map SkvPort.entry).flatten) s

end Sys2Proof.Machine
end

