-- ==== Sys2Proof/Machine/Verify.lean ====
section
/-! DEFINITION. Verification of manifests and objects against the anchor (04 R88-R90, R97, R101). -/

namespace Sys2Proof.Machine

open Sys2Proof

/-- The adopted anchor header (04 R91). -/
def State.anchor (s : State) : AnchorHeader :=
  match s.sec.anchor with
  | some k => nth s.sec.anchors k
  | none => {}

/-- The customer key hash in force, if a key is enrolled (04 R89). -/
def AnchorHeader.custKey (a : AnchorHeader) : Option (BitVec 384) := if a.ckEnrolled then some a.ckHash else none

/-- The magic, format and RSVD fields of a manifest are as R89 asks. -/
def Manifest.wellFormed (m : Manifest) : Bool := m.magic == 0x464D474C && m.fmt == 1 && m.rsvd == 0

/-- Blocks that the place of a manifest type holds; the rule bounds loader copies, slots and configuration blocks (04 R86). -/
def typeHolds (type blocks : Nat) : Bool :=
  match type with
  | 1 => decide (blocks ≤ FlashArea.slotA.blocks)
  | 2 => decide (blocks ≤ FlashArea.loader0.blocks)
  | 3 => decide (blocks ≤ FlashArea.cfg0.blocks)
  | _ => true

/-- A manifest verifies for a place of one type under a customer key (04 R89, R97). -/
def Manifest.verifies (m : Manifest) (type : Nat) (key : Option (BitVec 384)) : Bool :=
  m.wellFormed && m.type == type && m.vendorKeyOk && m.vendorSigOk && decide (m.floor ≤ m.version)
    && match key with
      | some k => m.custSig && m.custKeyHash == k && m.custSigOk
      | none => true

/-- Every block hashes to its entry (04 R90). -/
def ObjectImage.blocksGood (o : ObjectImage) : Bool := o.blocksOk.length == o.man.nblocks && o.blocksOk.all id

/-- An object verifies in its place (04 R86, R90). -/
def ObjectImage.verifies (o : ObjectImage) (type : Nat) (key : Option (BitVec 384)) : Bool :=
  o.man.verifies type key && typeHolds type o.man.nblocks && o.blocksGood && o.imageOk

/-- The first block that fails; the number of blocks where the complete copy fails. -/
def ObjectImage.badBlock (o : ObjectImage) : Nat := o.blocksOk.findIdx fun b => !b

/-- A failed load is recorded as event 0x0C07 (04 R101). -/
def State.loadFailed (s : State) (port : EvPort) (o : ObjectImage) (block : Nat) : State :=
  s.event port 0x0C07 2 0 (digestBytes o.man.digest ++ i4 block)

/-! Slots (04 R88) -/

/-- The state words (04 State words). -/
def wordErased : StateWord := 0xFFFFFFFF
/-- Blocks are being written. -/
def wordWriting : StateWord := 0xFFFFFF00
/-- Every block has been read back. -/
def wordWritten : StateWord := 0xFFFF0000
/-- The slot has been fully verified. -/
def wordValid : StateWord := 0xFF000000
/-- The slot is retired. -/
def wordRetired : StateWord := 0

/-- A word whose byte 3 is not 0xFF reads as RETIRED. -/
def Slot.retired (x : Slot) : Bool := x.state.toNat / 2 ^ 24 != 255

/-- A slot is bootable (04 R88). -/
def Slot.bootable (x : Slot) : Bool := x.state == wordValid && x.genCheck == ~~~x.generation && x.generation != 0xFFFFFFFF

/-! The update plan (16 R439, R446) -/

/-- Steps of the plan remain (16 R439). -/
def UpdatePlan.open_ (p : UpdatePlan) : Bool := p.loader || p.models != [] || p.programs || p.accs != []

/-- The state is PLAN while steps remain and nothing else is under way (16 R446). -/
def UpdateState.settled (u : UpdateState) : UpdateState :=
  { u with phase := if u.plan.open_ ∧ u.phase = .idle then .planRunning else if !u.plan.open_ ∧ u.phase = .planRunning then .idle else u.phase }

end Sys2Proof.Machine
end

