-- ==== Sys2Proof/Machine/HostPath.lean ====
section
/-! DEFINITION. Ethernet, host-path frames, host queues and image buffers with their pushes (13 R373-R383, R385, R386). -/

namespace Sys2Proof.Machine

open Sys2Proof

/-- Change the link part. -/
def State.onLink (s : State) (f : LinkState → LinkState) : State := { s with link := f s.link }

/-! Ethernet (R373, R374, R386) -/

/-- `ETHERNET_LINK_CHANGE`: 0 down, 1 to 4 the mode the port trains at, among the permitted ones (R373, R386). -/
def execEthernetLinkChange (mode : U8) (s : State) : Host.Outcome State Fault Refusal :=
  let m := mode.toNat
  .next (if 4 < m ∨ m = s.link.ethMode ∨ (m ≠ 0 ∧ !s.cfg.eth.modes.getLsbD (m - 1)) ∨ s.clk.coreInReset then s
  else (s.onLink fun l => { l with ethMode := m }).event .hostSwitch 0x0906 (if m = 0 then 1 else 0) m (i1 m))

/-- `FEC_UNCORRECTABLE_BURST`: more than 1,000 uncorrectable codewords in 1 s (R386). -/
def execFecUncorrectableBurst (count : U32) (s : State) : Host.Outcome State Fault Refusal :=
  .next (if count.toNat ≤ 1000 ∨ s.clk.coreInReset then s
  else (s.onLink fun l => { l with fecUnc := l.fecUnc + count.toNat }).event .hostSwitch 0x090A 1 0 (i4 count.toNat))

/-- An incoming frame that the port discards (R374); a port in reset sees none. -/
def State.frameDropped (s : State) : State := if s.clk.coreInReset then s else s.onLink fun l => { l with dropped := satAdd 32 l.dropped 1 }

/-- `ETHERNET_FRAME_DISCARD`: a fragment, another IP protocol or another UDP port (R374). -/
def execEthernetFrameDiscard (_reason : U8) (s : State) : Host.Outcome State Fault Refusal := .next s.frameDropped

/-- The tray address is this governor's to answer for (R374). -/
def State.answersTray (s : State) : Bool := s.isOwner && s.link.trayAddr

/-- `ARP_REQUEST` (R374). -/
def execArpRequest (ip : U32) (s : State) : Host.Outcome State Fault Refusal :=
  .next (if s.clk.coreInReset then s
  else if ip.toNat = s.cfg.eth.own.2.1 then s.ethOut (.arpReply false)
  else if s.answersTray ∧ ip.toNat = s.cfg.eth.tray.2.1 then s.ethOut (.arpReply true)
  else s)

/-- `NEIGHBOUR_SOLICITATION` (R374). -/
def execNeighbourSolicitation (ip : BitVec 128) (s : State) : Host.Outcome State Fault Refusal :=
  .next (if s.clk.coreInReset then s
  else if ip.toNat = s.cfg.eth.own.2.2 then s.ethOut (.neighbourAdvert false true)
  else if s.answersTray ∧ ip.toNat = s.cfg.eth.tray.2.2 then s.ethOut (.neighbourAdvert true true)
  else s)

/-- `ICMP_ECHO_REQUEST` (R374). -/
def execIcmpEchoRequest (v6 : Bool) (ip : BitVec 128) (payload : List Byte) (s : State) : Host.Outcome State Fault Refusal :=
  let at_ := fun (a : Nat × Nat × Nat) => if v6 then a.2.2 else a.2.1
  .next (if s.clk.coreInReset then s
  else if ip.toNat = at_ s.cfg.eth.own then s.ethOut (.echoReply v6 false payload)
  else if s.answersTray ∧ ip.toNat = at_ s.cfg.eth.tray then s.ethOut (.echoReply v6 true payload)
  else s)

/-! Host-path frames (R376) -/

/-- The key of a class and index: 0 host contexts, 1 queues, 2 image buffers. -/
def LinkState.hostKey (l : LinkState) (cls i : Nat) : HostKeyState :=
  match cls with
  | 0 => nth l.ctxKeys i
  | 1 => nth l.queueKeys i
  | _ => nth l.imageKeys i

/-- Change the key of a class and index. -/
def LinkState.onHostKey (l : LinkState) (cls i : Nat) (f : HostKeyState → HostKeyState) : LinkState :=
  match cls with
  | 0 => { l with ctxKeys := modAt l.ctxKeys i f }
  | 1 => { l with queueKeys := modAt l.queueKeys i f }
  | _ => { l with imageKeys := modAt l.imageKeys i f }

/-- Magic, type, class and length of a frame are those of its kind (R376); `len` is the length of the body it carries. -/
def HostFrame.formed (f : HostFrame) (cls typ len : Nat) : Bool :=
  f.magic == 0x4648474C && f.typ.toNat == typ && f.cls.toNat == cls && f.len.toNat == len

/-- Body bytes of a frame of queue entries: `cack`, then each entry at an 8-byte boundary (R379). -/
def queueFrameLen (es : List QueueEntry) : Nat := es.foldl (fun n e => (n + 7) / 8 * 8 + 8 + e.data.length) 4

/-- Why a well-formed frame is discarded: 2 key, 3 tag, 4 sequence. -/
def HostKeyState.refuses (k : HostKeyState) (f : HostFrame) : Option Nat :=
  let n := f.fseq.toNat
  if !k.bound then some 2
  else if !f.tagOk then some 3
  else match k.high with
    | some h => if k.seen.contains n ∨ n + 1024 ≤ h then some 4 else none
    | none => none

/-- Note an accepted frame sequence. -/
def HostKeyState.noted (k : HostKeyState) (n : Nat) : HostKeyState :=
  let h := max n (k.high.getD 0)
  { k with high := some h, seen := (n :: k.seen).filter fun x => decide (h < x + 1024) }

/-- Discard a host-path frame: counted, trace point 230 (R376, R386). Causes: 1 form, 2 key, 3 tag, 4 sequence. -/
def State.hostDiscard (s : State) (cls i cause : Nat) : State :=
  if s.clk.coreInReset then s else
  let s := s.frameDropped.traced 230 cls cause
  if cause = 3 then
    s.onLink fun l => { (l.onHostKey cls i fun k => { k with fails := s.gt :: k.fails.filter fun t => decide (s.gt < t + secs 1) }) with authFail := satAdd 32 l.authFail 1 }
  else s

/-- Take a host-path frame, or discard it without reply (R376). -/
def State.hostFrame (s : State) (cls typ i : Nat) (f : HostFrame) (len : Nat) (k : State → State) : State :=
  if s.clk.coreInReset then s
  else if !f.formed cls typ len then s.hostDiscard cls i 1
  else match (s.link.hostKey cls i).refuses f with
  | some cause => s.hostDiscard cls i cause
  | none => k (s.onLink fun l => l.onHostKey cls i fun x => x.noted f.fseq.toNat)

/-- `HOST_TAG_FAIL_BURST`: more than 64 tag failures on one key within 1 s (R376). -/
def execHostTagFailBurst (cls : U8) (index : U8) (s : State) : Host.Outcome State Fault Refusal :=
  let recent := ((s.link.hostKey cls.toNat index.toNat).fails.filter fun t => decide (s.gt < t + secs 1)).length
  .next (if 64 < recent then
    (s.onLink fun l => l.onHostKey cls.toNat index.toNat fun k => { k with fails := [] }).event .hostSwitch 0x0908 1 index.toNat []
  else s)

/-- The next frame sequence of a key in the governor's direction. -/
def State.nextFseq (s : State) (cls i : Nat) : Nat × State :=
  let n := (s.link.hostKey cls i).tx + 1
  (n, s.onLink fun l => l.onHostKey cls i fun k => { k with tx := n })

/-- `HOST_SYNC_FRAME`: 1 to 32 operations, applied in body order (R377). -/
def execHostSyncFrame (ctx : U8) (f : HostFrame) (ops : List SyncOp) (s : State) : Host.Outcome State Fault Refusal :=
  let c := ctx.toNat
  .next (if c < 64 ∨ 70 < c ∨ ops = [] ∨ 32 < ops.length then s.hostDiscard 0 0 1
  else s.hostFrame 0 1 (c - 64) f (32 * ops.length) fun s => (ops.foldl (fun s o => s.syncArrival c o) s).mirrored .host)

/-! Host queues (R378-R381) -/

/-- A queue. -/
def State.queue (s : State) (q : Nat) : Option HostQueue := s.link.queues.find? fun x => x.num == q

/-- Change a queue. -/
def State.onQueue (s : State) (q : Nat) (f : HostQueue → HostQueue) : State :=
  s.onLink fun l => { l with queues := l.queues.map fun x => if x.num = q then f x else x }

/-- Put a queue in number order. -/
def insertQueue (q : HostQueue) : List HostQueue → List HostQueue
  | [] => [q]
  | x :: l => if q.num < x.num then q :: x :: l else x :: insertQueue q l

/-- Hold a queue answer for the mirror acknowledgement, or send it (R379). -/
def State.answerFrame (s : State) (o : EthOut) : State :=
  if s.holding then s.onLink fun l => { l with heldAcks := l.heldAcks ++ [(s.pair.mseqSent, o)] } else s.ethOut o

/-- Take one entry: the queue after it, and the refusal that stops the frame (R379). -/
def HostQueue.take (q : HostQueue) (e : QueueEntry) : HostQueue × Bool :=
  if e.qseq = q.a + 1 then
    if e.qseq ≤ q.depth + q.c then ({ q with a := e.qseq, entries := q.entries ++ [e] }, false) else (q, true)
  else (q, false)

/-- Take the entries of a frame until one is refused. -/
def HostQueue.takeAll (q : HostQueue) : List QueueEntry → HostQueue × Status
  | [] => (q, .ok)
  | e :: es =>
    match q.take e with
    | (q, true) => (q, .noResource)
    | (q, false) => q.takeAll es

/-- `QUEUE_ENTRIES_FRAME` (R379, R380). -/
def execQueueEntriesFrame (queue : U8) (f : HostFrame) (cack : U32) (entries : List QueueEntry) (s : State) : Host.Outcome State Fault Refusal :=
  let n := queue.toNat
  .next (if 64 ≤ n ∨ !s.isOwner then s.hostDiscard 1 n 2
  else match s.queue n with
    | none => s.hostDiscard 1 n 2
    | some q =>
      if entries.any (fun e => decide (q.entryBytes < e.data.length)) then s.hostDiscard 1 n 1
      else s.hostFrame 1 3 n f (queueFrameLen entries) fun s =>
        let (q', st) := if q.detached then (q, Status.stateConflict) else q.takeAll entries
        let relay := decide (q.cack < cack.toNat) && !q.detached
        let q' := if relay then { q' with cack := cack.toNat, comps := q'.comps.filter fun c => decide (cack.toNat < c.cseq) } else q'
        let s := s.onQueue n fun _ => q'
        let s := if relay then s.skvSend q.port 5 (cmdMessage 5 n cack.toNat []) else s
        let s := s.mirrored .host
        let (k, s) := s.nextFseq 1 n
        (s.answerFrame (.queueAck n k q'.a q'.c st)).deliver q')

/-- `CONSUMED_COUNT`: entries up to the count are consumed and leave the queue (R379, R380). -/
def execConsumedCount (port : U8) (queue : U8) (count : U32) (s : State) : Host.Outcome State Fault Refusal :=
  let n := port.toNat
  let k := count.toNat
  .next (if n < 10 ∧ s.hears n then
    let s := s.received n 5 8
    match s.queue queue.toNat with
    | some q =>
      if q.port = n ∧ !q.detached ∧ q.c < k ∧ k ≤ q.delivered then
        ((s.onQueue q.num fun q => { q with c := k, entries := q.entries.filter fun e => decide (k < e.qseq) }).mirrored .host).deliverAll
      else s
    | none => s
  else s)

/-- Send completions to the host in one frame (R380). -/
def State.sendCompletions (s : State) (q : Nat) (cs : List QueueCompletion) : State :=
  let (k, s) := s.nextFseq 1 q
  s.ethOut (.completions q k cs)

/-- `COMPLETION`: a completion is kept and forwarded; one beyond the depth is discarded and counted (R380). -/
def execCompletion (port : U8) (queue : U8) (cseq : U32) (data : List Byte) (s : State) : Host.Outcome State Fault Refusal :=
  let n := port.toNat
  let k := cseq.toNat
  .next (if n < 10 ∧ s.hears n then
    let s := s.received n 5 (8 + data.length)
    match s.queue queue.toNat with
    | some q =>
      if q.port ≠ n ∨ q.detached ∨ k ≤ q.cack ∨ q.comps.any (fun c => c.cseq == k) then s
      else if q.depth ≤ q.comps.length ∨ 1024 < data.length then s.onLink fun l => { l with compDropped := satAdd 32 l.compDropped 1 }
      else
        let c : QueueCompletion := { cseq := k, data := data, gt := s.gt }
        let s := (s.onQueue q.num fun q => { q with comps := q.comps ++ [c] }).mirrored .host
        (s.traced 228 q.num k).sendCompletions q.num [c]
    | none => s
  else s)

/-- `COMPLETION_RESEND`: completions that the host has not acknowledged for 1 ms (R380). -/
def execCompletionResend (queue : U8) (s : State) : Host.Outcome State Fault Refusal :=
  .next (match s.queue queue.toNat with
    | some q =>
      let due := q.comps.filter fun c => s.since c.gt (ms 1)
      if due = [] ∨ !s.isOwner then s
      else
        let s := s.onQueue q.num fun q => { q with comps := q.comps.map fun c => if due.contains c then { c with gt := s.gt } else c }
        s.sendCompletions q.num due
    | none => s)

/-- The port is fitted and used. -/
def State.portFitted (s : State) (n : Nat) : Bool := (s.skv n).phase != .unused && (decide (8 ≤ n) || (s.op.table.sec n).kind != 0)

/-- `HOSTQ_CREATE` (R378, R385). -/
def bodyHostqCreate (queue : U8) (toPort : U8) (depth entryBytes : U16) (key : BitVec 256) (_c : Ctx) (s : State) : Answer :=
  let q := queue.toNat
  let n := toPort.toNat
  let used := (s.link.queues.map fun x => x.depth * x.entryBytes).foldl (· + ·) (depth.toNat * entryBytes.toNat)
  check [(decide (63 < q ∨ 9 < n ∨ depth.toNat < 16 ∨ 4096 < depth.toNat ∨ entryBytes.toNat < 64 ∨ 4096 < entryBytes.toNat), .badArg),
    ((s.queue q).isSome || !s.portFitted n, .stateConflict), (decide (256 * 2 ^ 20 < used), .noResource)] s fun _ =>
    let x : HostQueue := { num := q, port := n, depth := depth.toNat, entryBytes := entryBytes.toNat }
    let s := s.onLink fun l => { (l.onHostKey 1 q fun _ => { bound := true, key := key }) with queues := insertQueue x l.queues }
    okay [] ((s.event .fp3 0x090B 0 q (i1 q ++ i1 n)).mirrored .host)

/-- `HOSTQ_DELETE` (R381, R385). -/
def bodyHostqDelete (queue : U8) (_c : Ctx) (s : State) : Answer :=
  match (if 63 < queue.toNat then none else s.queue queue.toNat) with
  | none => refuse (if 63 < queue.toNat then .badArg else .stateConflict) s
  | some q =>
    let s := s.onLink fun l => { (l.onHostKey 1 q.num fun _ => {}) with queues := l.queues.filter fun x => x.num != q.num }
    okay (i4 q.entries.length ++ i4 q.comps.length) ((s.event .fp3 0x090B 0 q.num (i1 q.num ++ i1 q.port)).mirrored .host)

/-! Image buffers (R382) -/

/-- Add a byte range to a rising list of disjoint ranges, joining those that touch. -/
def addRange (a b : Nat) : List (Nat × Nat) → List (Nat × Nat)
  | [] => if a < b then [(a, b)] else []
  | (x, y) :: l =>
    if b < x then (if a < b then (a, b) :: (x, y) :: l else (x, y) :: l)
    else if y < a then (x, y) :: addRange a b l
    else addRange (min a x) (max b y) l

/-- Bytes held without a gap from offset 0. -/
def contiguous : List (Nat × Nat) → Nat
  | (0, b) :: _ => b
  | _ => 0

/-- `IMAGE_DATA_FRAME`: data land at their offset; `obj` is what the verifier finds in the buffer after the write (R382). -/
def execImageDataFrame (buffer : U8) (f : HostFrame) (offset : U32) (data : List Byte) (obj : ObjectImage) (s : State) : Host.Outcome State Fault Refusal :=
  let b := buffer.toNat
  .next (if 7 < b ∨ !s.isOwner then s.hostDiscard 2 b 2
  else match nth s.link.buffers b with
    | none => s.hostDiscard 2 b 2
    | some x =>
      if x.size < offset.toNat + data.length then s.hostDiscard 2 b 1
      else s.hostFrame 2 6 b f (4 + data.length) fun s =>
        let x' : ImageBuffer := { x with ranges := addRange offset.toNat (offset.toNat + data.length) x.ranges, content := x.content.writeBytes offset.toNat data, obj := obj }
        let s := (s.onLink fun l => { l with buffers := l.buffers.set b (some x') }).mirrored .host
        let (k, s) := s.nextFseq 2 b
        s.ethOut (.imageAck b k (contiguous x'.ranges)))

/-- `IMAGE_PUSH`, open (R382, R385). -/
def bodyImagePushOpen (buffer : U8) (_mask _source : U8) (size : U32) (key : BitVec 256) (_c : Ctx) (s : State) : Answer :=
  let b := buffer.toNat
  check [(decide (7 < b ∨ size.toNat < 65536 ∨ 96 * 2 ^ 20 < size.toNat), .badArg)] s fun _ =>
    let s := s.onLink fun l => { (l.onHostKey 2 b fun _ => { bound := true, key := key }) with buffers := l.buffers.set b (some { size := size.toNat }) }
    okay [] (s.mirrored .host)

/-! Image pushes (R383) -/

/-- The object of a source: 0 the store at an offset, 1 a buffer. -/
def State.imageSource (s : State) (source buffer offset : Nat) : Option (ObjectImage × Option Mem) :=
  if source = 0 then (s.link.store.find? fun o => o.1 == offset).map fun o => (o.2, none)
  else (nth s.link.buffers buffer).map fun b => (b.obj, some b.content)

/-- Two byte ranges meet. -/
def meets (a la b lb : Nat) : Bool := decide (a < b + lb ∧ b < a + la)

/-- The bytes that an object takes: its manifest and its blocks. -/
def ObjectImage.span (o : ObjectImage) : Nat := 65536 + 65536 * o.man.nblocks

/-- An installed object of an update lies over a range of the store (16 R432). -/
def State.updateOverlaps (s : State) (offset len : Nat) : Bool :=
  s.upd.objects.any fun o => o.target == 4 && meets offset len o.storeOff (65536 * o.nBlk)

/-- A package can take a push: ACC_ON at LINK_UP, none in progress (R383). -/
def State.pushable (s : State) (n : Nat) : Bool :=
  s.acc n == .on && (s.skv n).phase == .linkUp && !s.link.pushes.any fun p => p.mask.getLsbD n

/-- Start a push: BEGIN to every package of the mask (R383). -/
def State.startPush (s : State) (mask : BitVec 8) (obj : ObjectImage) (content : Option Mem) (overlay : Bool) : Nat × State :=
  let id := (s.link.pushId + 1) % 2 ^ 32
  let p : ImagePush := { id := id, mask := mask, obj := obj, content := content, overlay := overlay }
  let s := s.onLink fun l => { l with pushId := id, pushes := l.pushes ++ [p] }
  (id, (members mask).foldl (fun s n => s.skvSend n 6 (imgMessage 1 id (digestBytes obj.man.digest))) s)

/-- The range checks of a source. -/
def sourceBad (source buffer offset : Nat) : Bool := decide (1 < source ∨ (source = 1 ∧ 7 < buffer) ∨ (source = 0 ∧ 0x03000000 ≤ offset))

/-- An image verifies for a push: manifest of its type under R89, at most 1,350 blocks (R382, R383). -/
def State.imageVerifies (s : State) (o : ObjectImage) (types : List Nat) : Bool :=
  types.any (fun t => o.man.verifies t s.anchor.custKey) && decide (o.man.nblocks ≤ 1350)

/-- `IMAGE_PUSH`, push (R383, R385, 16 R432). -/
def bodyImagePushStart (buffer mask source : U8) (offset : U32) (_c : Ctx) (s : State) : Answer :=
  check [(sourceBad source.toNat buffer.toNat offset.toNat || mask == 0, .badArg), ((members mask).any (fun n => !s.pushable n), .stateConflict)] s fun _ =>
    match s.imageSource source.toNat buffer.toNat offset.toNat with
    | none => refuse (if source = 0 then .integrityFail else .stateConflict) s
    | some (o, content) =>
      check [(source == 0 && s.updateOverlaps offset.toNat o.span, .stateConflict)] s fun _ =>
        if !s.imageVerifies o [5, 6] then refuse .integrityFail (s.loadFailed .fp3 o o.badBlock)
        else
          let (id, s) := s.startPush mask o content false
          ({ status := .accepted, payload := i4 id }, s.mirrored .host)

/-- Send ABORT for a push to packages (R383). -/
def State.abortPush (s : State) (p : ImagePush) (mask : BitVec 8) : State :=
  (members (p.mask &&& mask)).foldl (fun s n => (s.skvSend n 6 (imgMessage 4 p.id [])).pushEnds p.id n false) s

/-- `IMAGE_PUSH`, abort (R383, R385). -/
def bodyImagePushAbort (_buffer mask _source : U8) (_offset : U32) (_c : Ctx) (s : State) : Answer :=
  check [(mask == 0, .badArg)] s fun _ => okay [] ((s.link.pushes.foldl (fun s p => s.abortPush p mask) s).mirrored .host)

/-- The sixteen 4,096-byte pieces of a block (R383). -/
def ImagePush.pieces (p : ImagePush) : List (List Byte) :=
  (List.range 16).map fun k =>
    match p.content with
    | some m => m.readBytes (65536 + 65536 * p.next + 4096 * k) 4096
    | none => fit 4096 (Config.imageBytes p.obj.man.digest p.next k)

/-- Send a block to every package of a push, each piece to every package, then END after the last (R383). -/
def State.sendBlock (s : State) (p : ImagePush) : State :=
  let s := (p.pieces.mapIdx fun k d => (k, d)).foldl (fun s x =>
    (members p.mask).foldl (fun s n => s.skvSend n 6 (imgMessage 2 p.id (i2 p.next ++ i1 x.1 ++ i1 0 ++ x.2))) s) s
  let s := s.traced 229 p.mask.toNat p.next
  let last := decide (p.obj.man.nblocks ≤ p.next + 1)
  let s := s.onLink fun l => { l with pushes := l.pushes.map fun x => if x.id = p.id then { x with next := x.next + 1, ended := last } else x }
  if last then (members p.mask).foldl (fun s n => s.skvSend n 6 (imgMessage 3 p.id (digestBytes p.obj.man.imageDigest))) s else s

/-- A block of a push fails its hash: ABORT to every package, and the failure of R101 (R383). -/
def State.badPushBlock (s : State) (p : ImagePush) : State := (s.loadFailed .fp3 p.obj p.next).abortPush p 255

/-- `IMAGE_BLOCK_SEND`: the next block of a push, once it matches its hash (R383, 04 R101). -/
def execImageBlockSend (push : U32) (s : State) : Host.Outcome State Fault Refusal :=
  .next (match s.link.pushes.find? fun p => p.id == push.toNat && !p.ended with
    | none => s
    | some p =>
      if !s.isOwner then s
      else if p.obj.man.nblocks ≤ p.next then
        let s := s.onLink fun l => { l with pushes := l.pushes.map fun x => if x.id = p.id then { x with ended := true } else x }
        (members p.mask).foldl (fun s n => s.skvSend n 6 (imgMessage 3 p.id (digestBytes p.obj.man.imageDigest))) s
      else if nth p.obj.blocksOk p.next then s.sendBlock p
      else s.badPushBlock p)

/-- Start the overlay pushes of packages that are in ACC_ON at LINK_UP (14 R399). -/
def State.pushOverlays (s : State) : State :=
  (indices 8 fun n => nth s.repro.overlays n != [] && s.isOwner && !s.restarting 11 && s.pushable n).foldl (fun s n =>
    match nth s.repro.overlays n with
    | x :: _ =>
      if s.imageVerifies x.obj [6] then
        let (id, s) := s.startPush (1#8 <<< n) x.obj x.content true
        { s with repro := { s.repro with pushing := s.repro.pushing ++ [(id, x)] } }
      else ({ s with repro := s.repro.failPush x }.loadFailed .fp3 x.obj x.obj.badBlock).substEvent x 2
    | [] => s) s

end Sys2Proof.Machine
end

