-- ==== Sys2Proof/Machine/Ledger.lean ====
section
/-! DEFINITION. The energy ledger: metering draws, attribution, accounts, records, the journal, signing and export, and the commands of group 0x07 (11 R287-R318). -/

namespace Sys2Proof.Machine

open Sys2Proof

/-! Metering (R288) -/

/-- A code converted by a channel's calibration, truncated toward zero: µV or µA. -/
def Calib.value (c : Calib) (code : Int) (q : Nat) : Int := Int.tdiv ((code - c.offset) * c.gain) (2 ^ q : Nat)

/-- The samples of one microsecond: one of each branch, and those of the feeds that end in it. -/
def LedgerState.sampled (l : LedgerState) (branch : List (Int × Int)) (feeds : List (List (Int × Int))) : LedgerState :=
  let cal := fun k => nth l.cfg.calib k
  { l with
    fineBranch := l.fineBranch.mapIdx fun n f =>
      let x := nth branch n
      f + (cal (4 + 2 * n)).value x.1 16 * (cal (5 + 2 * n)).value x.2 16
    fineFeed := l.fineFeed.mapIdx fun k f =>
      (nth feeds k).foldl (fun f x => f + (cal (2 * k)).value x.1 24 * (cal (2 * k + 1)).value x.2 24) f }

/-! Attribution (R294) -/

/-- Credits by account key. -/
abbrev Credits := List (Nat × Int)

/-- Add to an account's credit. -/
def Credits.add (c : Credits) (key : Nat) (v : Int) : Credits := put c key (look c key + v)

/-- The split of an energy over weights in ascending account order: `done` and `cum` so far. -/
def splitFrom (e : Int) (total : Nat) : Int → Nat → List (Nat × Nat) → Credits → Credits
  | _, _, [], c => c
  | done, cum, (key, v) :: w, c =>
    if v = 0 then splitFrom e total done cum w c
    else
      let upto := (e * ((cum + v : Nat) : Int)) / ((total : Nat) : Int)
      splitFrom e total upto (cum + v) w (c.add key (upto - done))

/-- Sum of weights. -/
def weightSum (w : List (Nat × Nat)) : Nat := (w.map Prod.snd).foldl (· + ·) 0

/-- Split an energy over weights. -/
def splitOver (e : Int) (w : List (Nat × Nat)) (c : Credits) : Credits := splitFrom e (weightSum w) 0 0 w c

/-- The credits of one tick, before overflow (R294). -/
def TickWork.credits (t : TickWork) (ohSpread resSpread : Bool) : Credits :=
  let c := (List.range 8).foldl (fun (c : Credits) n =>
    let e := nth t.branch n
    let w := nth t.w n
    if weightSum w = 0 then c.add 0 e else splitOver e w c) []
  let poolOh := nth t.branch 8 + nth t.branch 9 + nth t.branch 10 + nth t.branch 11
  let poolRes := sumInt t.feed - sumInt t.branch
  let base := c.filterMap fun x => if x.1 < keyOverhead ∧ 0 < x.2 then some (x.1, x.2.toNat) else none
  let c := if ohSpread ∧ 0 < weightSum base then splitOver poolOh base c else c.add keyOverhead poolOh
  if resSpread ∧ 0 < poolRes ∧ 0 < weightSum base then splitOver poolRes base c else c.add keyResidual poolRes

/-- Move the tag credits of a tick to the overflow account (R294, R308). -/
def Credits.overflowed (c : Credits) : Credits :=
  let tag := (c.filterMap fun x => if x.1 < keyOverhead then some x.2 else none)
  Credits.add (c.filter fun x => decide (keyOverhead ≤ x.1)) keyOverflow (sumInt tag)

/-- Credit an account, noting an overflow within its interval. -/
def Account.credited (a : Account) (v : Int) (ovf : Bool) : Account :=
  { a with c := a.c + v, flags := if ovf then a.flags ||| 4#8 else a.flags }

/-- Apply a tick's credits and feed input to the accounts (R294). -/
def LedgerState.apply (l : LedgerState) (c : Credits) (eIn : Int) : LedgerState :=
  { l with
    accounts := l.accounts.map fun a => a.credited (look c a.slot) l.ovf
    overhead := l.overhead.credited (look c keyOverhead) l.ovf
    residual := l.residual.credited (look c keyResidual) l.ovf
    overflow := l.overflow.credited (look c keyOverflow) l.ovf
    total := l.total.credited eIn l.ovf }

/-- The next tick that ATTR attributes. -/
def LedgerState.next (l : LedgerState) : Nat := l.l - l.queue.length

/-- The boundary of a completed second is still to be worked off. -/
def LedgerState.boundaryDue (l : LedgerState) : Bool := l.inSession && decide (l.second < l.next / 1000)

/-- A tick's weights by account, in account order, as the accounts stand when it is attributed (R292-R294, R297). -/
def TickWork.resolved (t : TickWork) (l : LedgerState) : TickWork :=
  { t with w := t.w.map fun w => w.foldl (fun a e => addWeight a (l.keyOf e.1) e.2) [] }

/-- Attribute one queued tick; tick 0 also credits what was metered before it and what the restore names (R290, R310). -/
def State.attribute (s : State) (t : TickWork) : State :=
  let l := s.ledger
  let k := l.next
  let c := (t.resolved l).credits l.cfg.ohSpread l.cfg.resSpread
  let extra := if k = 0 then l.uncredited + (match l.dueRestore with | some (_, e, _) => e | none => 0) else 0
  let c := if l.ovf then Credits.overflowed c else c
  let c := if extra = 0 then c else c.add keyResidual extra
  let s := s.onLedger fun l => { (l.apply c (sumInt t.feed + extra)) with queue := l.queue.drop 1, uncredited := if k = 0 then 0 else l.uncredited }
  s.traced 146 0 k

/-- Attribute what waits, in tick order, up to a second boundary that is not worked off (R27, R298). -/
def State.attributeAll (s : State) : State :=
  s.ledger.queue.foldl (fun s t => if s.ledger.boundaryDue then s else s.attribute t) s

/-- ATTR runs: its component serves and the firmware runs. -/
def State.attrRuns (s : State) : Bool := s.firmwareRuns && !s.restarting 7

/-- Draw a tick's energy at its boundary (R288, R290). -/
def State.drawTick (s : State) : State :=
  let s := (List.range 8).foldl (fun s n => s.settlePkg n) s
  let l := s.ledger
  let ef := l.fineFeed.map fun f => drawNj f 32000000
  let eb := l.fineBranch.map fun f => drawNj f 1000000000
  let work : TickWork := { feed := ef, branch := eb, w := l.w }
  s.onLedger fun l =>
    let l := { l with
      tickGt := some s.gt
      fineFeed := l.fineFeed.mapIdx fun i f => f - nth ef i * 32000000
      fineBranch := l.fineBranch.mapIdx fun i f => f - nth eb i * 1000000000
      w := List.replicate 8 []
      fallbackMs := if s.clk.source == ClockSource.oscInt then l.fallbackMs + 1 else l.fallbackMs }
    if l.inSession then
      { l with queue := l.queue ++ [work], l := l.l + 1, feedSince := l.feedSince.mapIdx fun i f => f + nth ef i }
    else
      { l with
        uncredited := l.uncredited + sumInt ef, feedSince := l.feedSince.mapIdx fun i f => f + nth ef i
        inSession := l.begun, l := 0, queue := [] }

/-- `LEDGER_TICK` at a GT multiple of 1,000 µs (R290, R294); the STANDBY follows the OWNER's markers (R314). -/
def execLedgerTick (s : State) : Host.Outcome State Fault Refusal :=
  .next (if s.gt % 1000 = 0 ∧ s.ledger.tickGt ≠ some s.gt ∧ s.pair.role ≠ .standby then
    let s := s.drawTick
    (if s.attrRuns then s.attributeAll else s).mirrored .ledger
  else s)

/-- `LEDGER_TICK_MARKER`: the STANDBY applies the credits and latches its own accumulators (R314). -/
def execLedgerTickMarker (marker : TickMarker) (s : State) : Host.Outcome State Fault Refusal :=
  .next (if s.pair.role = .standby ∧ s.mirrors then
    let s := s.drawTick
    s.onLedger fun l => { (l.apply marker.credits (look marker.credits keyTotal)) with l := marker.l.toNat + 1, queue := [], inSession := true, begun := true }
  else s)

/-! Tag reports (R291, R292) -/

/-- `TAG_REPORT` (R292). -/
def execTagReport (pkg : U8) (rep : TagReport) (s : State) : Host.Outcome State Fault Refusal :=
  let n := pkg.toNat
  let i := rep.part.toNat
  .next (if 8 ≤ n then (if s.hears n then (s.received n 2 64).dropReport n else s)
  else if s.hears n then
    let s := s.received n 2 64
    let old := (nth s.ledger.dies i).rseq
    let late := match old with
      | some r => decide (rep.rseq.toNat ≤ r)
      | none => false
    if decide (64 ≤ i) || i / 8 != n || late then (s.onLedger fun l => { l with discarded := satAdd 32 l.discarded 1 }).traced 145 i rep.rseq.toNat
    else
      let ent := (rep.ent.take rep.n.toNat).map fun e => (e.1.toNat, e.2.toNat)
      let s := (s.settleDie i).onLedger fun l => { l with
        dies := modAt l.dies i fun d => { d with report := some { ent := ent, gt := s.gt }, rseq := some rep.rseq.toNat, staleSaid := false } }
      let s := if s.acc n = .on then s.noteUnopened ent else s
      s.traced 144 i ((ent.head?.map Prod.fst).getD 0)
  else s)

/-- `DIE_STALE` (R292). -/
def execDieStale (die : U8) (s : State) : Host.Outcome State Fault Refusal :=
  let i := die.toNat
  .next (match (nth s.ledger.dies i).report with
    | some r =>
      if i < 64 ∧ s.acc (i / 8) = .on ∧ s.since r.gt 4000 ∧ !(nth s.ledger.dies i).staleSaid then
        let s := s.onLedger fun l => { l with dies := modAt l.dies i fun d => { d with staleSaid := true } }
        (s.event .metering 0x0704 1 i []).traced 147 i (s.gt - r.gt)
      else s
    | none => s)

/-! Records (R299-R304) -/

/-- Sub-µJ floor of a credit (R300). -/
def totalUj (c : Int) : Int := c / 1000

/-- The ledger settings block (R289). -/
def LedgerSettings.bytes (g : LedgerSettings) : List Byte :=
  i2 g.interimS ++ ib g.ohSpread ++ ib g.resSpread ++ i2 g.wStale ++ i2 g.wOff
    ++ (g.calib.map fun c => leBytesS 4 c.offset ++ leBytes 4 c.gain).flatten

/-- The epoch digest of settings (R289). -/
def LedgerSettings.digest (g : LedgerSettings) : List Byte := digestBytes (Config.sha384 g.bytes)

/-- The body of a record: bytes 0 to 175 (R299). -/
def LedgerRecord.bytes (r : LedgerRecord) (slotId : Nat) : List Byte :=
  [0x4C, 0x47, 0x4C, 0x52] ++ i2 1 ++ i1 r.kind ++ i1 r.cls ++ i8 r.recSeq ++ i8 r.tag ++ i1 slotId ++ i1 r.flags.toNat
    ++ i2 r.lsess ++ i2 r.epoch ++ i2 (r.c - totalUj r.c * 1000).toNat ++ i8 r.tickFirst ++ i8 r.tickLast
    ++ i8s r.eUj ++ i8s (totalUj r.c) ++ leBytes 4 r.aux ++ zeros 12 ++ fit 48 r.epochDigest ++ fit 48 r.prevHash

/-- The hash that binds a body into the chain (R299). -/
def LedgerRecord.hash (r : LedgerRecord) (slotId : Nat) : List Byte := digestBytes (Config.sha384 (r.bytes slotId))

/-- The policy bits of a record's flags (Record flags). -/
def LedgerSettings.policyBits (g : LedgerSettings) : BitVec 8 := BitVec.ofNat 8 (flag g.ohSpread + 2 * flag g.resSpread)

/-- The settings and epoch under which a record is formed. -/
structure EpochView where
  /-- epoch number (R289) -/
  epoch : Nat := 0
  /-- settings in force (R289) -/
  cfg : LedgerSettings := {}
  deriving DecidableEq, Repr, Inhabited

/-- Journal a record's entry: the next `rec_seq`, chained (R298, R299, R303). -/
def State.form (s : State) (v : EpochView) (kind cls : Nat) (flags : BitVec 8) (tag tf tl : Nat) (c eUj : Int) (aux : Nat) : State :=
  let l := s.ledger
  let r : LedgerRecord := {
    kind := kind, cls := cls, flags := flags ||| v.cfg.policyBits, lsess := l.lsess, epoch := v.epoch, recSeq := l.head
    tag := tag, tickFirst := tf, tickLast := tl, c := c, eUj := eUj, aux := aux
    epochDigest := v.cfg.digest, prevHash := l.chainHead }
  s.onLedger fun l => { l with
    head := l.head + 1, chainHead := r.hash s.straps.slotId.toNat
    dev := { l.dev with ring := l.dev.ring ++ [r], erased := false } }

/-! The journal (R302-R308) -/

/-- The areas of the journal device (11 R302). -/
inductive JournalArea where
  | trips | header0 | header1 | powerLoss | checkpoint0 | checkpoint1 | reserved | slots0 | slots1 | ring
  deriving DecidableEq, Repr, Inhabited

/-- Offset and size of an area on a device of a size in bytes (R302). -/
def JournalArea.place (size : Nat) : JournalArea → Nat × Nat
  | .trips => (0x0000, 4096)
  | .header0 => (0x1000, 4096)
  | .header1 => (0x2000, 4096)
  | .powerLoss => (0x3000, 4096)
  | .checkpoint0 => (0x4000, 4096)
  | .checkpoint1 => (0x5000, 4096)
  | .reserved => (0x6000, 40960)
  | .slots0 => (0x10000, 3 * size / 16)
  | .slots1 => (0x10000 + 3 * size / 16, 3 * size / 16)
  | .ring => (0x10000 + 3 * size / 8, 5 * size / 8 - 65536)

/-- Bytes of the device. -/
def JournalDevice.size (d : JournalDevice) : Nat := d.sizeMbit * 131072

/-- Write the header: the copy not in force, with the next generation (R304). -/
def JournalDevice.writeHeader (d : JournalDevice) (h : JournalHeader) : JournalDevice := { d with header := { h with gen := d.header.gen + 1 }, oldHeader := d.header }

/-- The journal entry of a record (R303). -/
def LedgerRecord.entry (r : LedgerRecord) : List Byte :=
  let b := i1 r.kind ++ i1 r.cls ++ i1 r.flags.toNat ++ i1 0 ++ i2 r.lsess ++ i2 r.epoch ++ i8 r.recSeq ++ i8 r.tag
    ++ leBytes 6 (r.tickFirst % 2 ^ 48) ++ leBytes 6 (r.tickLast % 2 ^ 48) ++ leBytesS 12 r.c ++ i8s r.eUj ++ leBytes 4 r.aux
  b ++ leBytes 4 (crc32 b).toNat

/-- The journal header (R304). -/
def JournalHeader.bytes (h : JournalHeader) : List Byte :=
  let b := fit 4048 ([0x4C, 0x47, 0x4A, 0x48] ++ i2 1 ++ i2 h.sizeMbit ++ i4 h.gen ++ i2 h.lsess ++ i2 0 ++ i8 h.baseSeq ++ fit 48 h.baseHash
    ++ (h.epochs.map fun e => i2 e.1 ++ i2 0 ++ fit 48 e.2).flatten)
  b ++ digestBytes (Config.sha384 b)

/-- A checkpoint slot: tag, C and `from_s` (R305). -/
def Account.slotBytes (a : Account) (tag : Nat) : List Byte := i8 tag ++ leBytesS 12 a.c ++ i4 a.fromS

/-- The checkpoint slots of a device with N slots; a free one holds a tag of all ones (R305). -/
def Checkpoint.slotArea (c : Checkpoint) (n : Nat) : List Byte :=
  ((List.range n).map fun k => match c.slots.find? fun a => a.slot == k && a.phase != .openPending with
    | some a => a.slotBytes a.tag
    | none => i8 (2 ^ 64 - 1) ++ leBytesS 12 0 ++ i4 0).flatten

/-- The checkpoint header (R305). -/
def Checkpoint.bytes (c : Checkpoint) (n : Nat) : List Byte :=
  let open_ := countIf (fun (a : Account) => a.slot != 0 && a.phase != .openPending) c.slots
  let b := fit 4048 ([0x4C, 0x47, 0x43, 0x50] ++ i2 c.lsess ++ i2 c.epoch ++ i8 c.cpSeq ++ i4 c.second ++ i4 open_ ++ i8 c.headSeq ++ fit 48 c.chainHead
    ++ leBytesS 12 c.fNj ++ ib c.ovf ++ zeros 3 ++ ((c.specials.take 3).map fun a => a.slotBytes 0).flatten ++ digestBytes (Config.sha384 (c.slotArea n)))
  b ++ digestBytes (Config.sha384 b)

/-- The power-loss entry (R309). -/
def PowerLoss.bytes (e : PowerLoss) : List Byte :=
  let b := [0x4C, 0x47, 0x50, 0x4C] ++ i2 e.lsess ++ i2 0 ++ i8 e.cpSeq ++ i8 e.tick ++ i8s e.eaNj ++ i8s e.ebNj ++ zeros 20
  b ++ leBytes 4 (crc32 b).toNat

/-- Entries of the ring (R302). -/
def LedgerState.entries (l : LedgerState) : Nat := (JournalArea.ring.place l.dev.size).2 / 64
/-- Tag slots (R296). -/
def LedgerState.slots (l : LedgerState) : Nat := l.dev.size / 128

/-- The header copy that holds a generation, and the checkpoint and slot copy that holds a checkpoint: they are written in turn (R304, R305). -/
def copyOf (n : Nat) : Nat := n % 2

/-- What the journal device holds outside the trip area, byte for byte: offset and bytes of each header, checkpoint, slot copy, entry and of the power-loss entry (R302-R305, R309). -/
def JournalDevice.holds (d : JournalDevice) : List (Nat × List Byte) :=
  let at_ := fun (a : JournalArea) => (a.place d.size).1
  let n := d.size / 128
  let e := (JournalArea.ring.place d.size).2 / 64
  let heads := ([d.header, d.oldHeader].filter JournalHeader.valid).map fun h => (at_ (if copyOf h.gen = 0 then .header0 else .header1), h.bytes)
  let cps := (d.cps.filter Checkpoint.valid).flatMap fun c =>
    if copyOf c.cpSeq = 0 then [(at_ .checkpoint0, c.bytes n), (at_ .slots0, c.slotArea n)] else [(at_ .checkpoint1, c.bytes n), (at_ .slots1, c.slotArea n)]
  let loss := match d.powerLoss with
    | some p => [(at_ .powerLoss, p.bytes)]
    | none => []
  heads ++ cps ++ loss ++ d.ring.map fun r => (at_ .ring + 64 * (r.recSeq % e), r.entry)
/-- Free entries (R308). -/
def LedgerState.freeEntries (l : LedgerState) : Nat := l.entries - (l.head - l.dev.header.baseSeq)
/-- Open tag accounts, the idle account not counted (R296). -/
def LedgerState.openCount (l : LedgerState) : Nat := countIf (fun a => a.slot != 0 && a.phase != .openPending) l.accounts
/-- Device records and those of the special accounts may be written (R308). -/
def LedgerState.room (l : LedgerState) : Bool := decide (l.openCount < l.freeEntries)

/-- An account after its record. -/
def Account.recorded (a : Account) (second : Nat) : Account :=
  { a with fromS := second, lastUj := totalUj a.c, lastC := a.c, flags := 0 }

/-- An account whose record is deferred (flag bit 7). -/
def Account.deferred (a : Account) : Account := { a with flags := a.flags ||| 0x80#8 }

/-- Whether a record of an account is due: at an interim boundary or deferred, with credit since the last (R298). -/
def Account.due (a : Account) (interim : Bool) : Bool := (interim || a.flags.getLsbD 7) && a.c != a.lastC

/-- Form a record of an account that ends at a second boundary. -/
def State.formAccount (s : State) (v : EpochView) (a : Account) (kind cls second aux : Nat) : State :=
  s.form v kind cls a.flags (if cls = 0 then a.tag else 0) (1000 * a.fromS) (1000 * second - 1) a.c (totalUj a.c - a.lastUj) aux

/-- Put an account back. -/
def LedgerState.putAccount (l : LedgerState) (a : Account) : LedgerState :=
  { l with accounts := l.accounts.map fun b => if b.slot = a.slot then a else b }

/-- A tag account at a second boundary: its CLOSE or INTERIM record (R298, R308). -/
def State.tagBoundary (s : State) (v : EpochView) (journal interim : Bool) (second : Nat) (a : Account) : State :=
  if a.phase = .closePending ∧ a.effective ≤ second then
    let seq := s.ledger.head
    let s := if journal then s.formAccount v a 2 0 second a.slot else s
    let s := s.onLedger fun l => { l with accounts := l.accounts.filter fun b => b.slot != a.slot }
    s.event .fp2 0x0702 0 a.slot (i8 a.tag ++ i8 seq ++ i1 a.port)
  else if a.phase ≠ .openPending ∧ a.due interim ∧ journal ∧ !s.ledger.ovf then
    if s.ledger.room then (s.formAccount v a 1 0 second a.slot).onLedger fun l => l.putAccount (a.recorded second)
    else s.onLedger fun l => l.putAccount a.deferred
  else s

/-- A special account at a second boundary (R298, R308). -/
def State.specialBoundary (s : State) (v : EpochView) (interim : Bool) (second cls aux : Nat) (get : LedgerState → Account) (set : LedgerState → Account → LedgerState) : State :=
  let a := get s.ledger
  if a.due interim then
    if s.ledger.room then (s.formAccount v a 1 cls second aux).onLedger fun l => set l (a.recorded second)
    else s.onLedger fun l => set l a.deferred
  else s

/-- The TOTAL record (R298). -/
def State.totalBoundary (s : State) (v : EpochView) (interim : Bool) (second : Nat) : State :=
  let a := s.ledger.total
  if interim || a.flags.getLsbD 7 then
    if s.ledger.room then (s.formAccount v a 4 4 second s.ledger.openCount).onLedger fun l => { l with total := a.recorded second }
    else s.onLedger fun l => { l with total := a.deferred }
  else s

/-- An opening at a second boundary (R297, R298). -/
def State.openBoundary (s : State) (v : EpochView) (journal : Bool) (second : Nat) (a : Account) : State :=
  if a.phase ≠ .openPending ∨ second < a.effective then s
  else
    let s := s.onLedger fun l => l.putAccount { a with phase := .open_, fromS := second, c := 0, lastC := 0, lastUj := 0, flags := 0 }
    let s := if journal then s.form v 3 0 0 a.tag (1000 * second) (1000 * second) 0 0 a.slot else s
    s.event .fp2 0x0701 0 a.slot (i8 a.tag ++ i1 a.slot ++ i1 a.port)

/-- Overflow entry and exit (R308). -/
def State.overflowBoundary (s : State) : State :=
  let l := s.ledger
  if !l.ovf ∧ l.freeEntries < l.openCount then
    ((s.onLedger fun l => { l with ovf := true }).event .fp2 0x0705 2 0 []).traced 152 0 l.freeEntries
  else if l.ovf ∧ l.openCount + 1024 ≤ l.freeEntries then
    ((s.onLedger fun l => { l with ovf := false }).event .fp2 0x0706 0 0 []).traced 152 0 l.freeEntries
  else s

/-- Settings that take effect at a boundary form a new epoch (R289, R316). -/
def State.epochBoundary (s : State) (second : Nat) : State :=
  match (if s.ledger.nextCfgAt ≤ second then s.ledger.nextCfg else none) with
  | none => s
  | some (g, port) =>
    let old := s.ledger.epoch
    let e := (old + 1) % 65536
    let s := s.onLedger fun l => { l with
      cfg := g, epoch := e, nextCfg := none, dueEpochs := l.dueEpochs ++ [(old, e, g)]
      dev := l.dev.writeHeader { l.dev.header with epochs := ((e, g.digest) :: l.dev.header.epochs).take 64 } }
    s.event .fp2 0x0707 0 e (i2 e ++ i1 port)

/-- Mark an account whose interval spans an epoch change (Record flags). -/
def Account.spans (a : Account) (second : Nat) : Account := if a.fromS < second then { a with flags := a.flags ||| 0x10#8 } else a

/-- RESTORE and EPOCH records; a RESTORE record stands under the epoch of its tick 0, an EPOCH record under the epoch that it begins (R298, R299, R310). -/
def State.deviceBoundary (s : State) (v : EpochView) (second : Nat) : State :=
  let s := match s.ledger.dueRestore with
    | some (kind, e, unknown, aux) =>
      if s.ledger.room then
        (s.form v kind 4 (if unknown then 0x40#8 else 0) 0 0 0 e (totalUj e) aux).onLedger fun l => { l with dueRestore := none }
      else s
    | none => s
  s.ledger.dueEpochs.foldl (fun s d =>
    if s.ledger.room then (s.form { epoch := d.2.1, cfg := d.2.2 } 6 4 0 0 (1000 * second) (1000 * second) 0 0 d.1).onLedger fun l => { l with dueEpochs := l.dueEpochs.drop 1 }
    else s) s

/-- The checkpoint of a boundary (R305). -/
def State.writeCheckpoint (s : State) (second : Nat) : State :=
  let l := s.ledger
  let seq := l.cpSeq + 1
  let c : Checkpoint := {
    valid := true, lsess := l.lsess, epoch := l.epoch, cpSeq := seq, second := second, headSeq := l.head, chainHead := l.chainHead
    fNj := l.total.c, ovf := l.ovf, specials := [l.overhead, l.residual, l.overflow, l.total], slots := l.accounts }
  (s.onLedger fun l => { l with cpSeq := seq, dev := { l.dev with cps := (c :: l.dev.cps).take 2 } }).traced 149 0 seq

/-- Release the entries from a `rec_seq` onward to signing (R306, R312). -/
def State.release (s : State) (first : Nat) : State :=
  s.onLedger fun l => { l with unsigned_ := l.unsigned_ ++ (l.dev.ring.filter fun r => decide (first ≤ r.recSeq)).map fun r => (r, s.gt) }

/-- The work of a ledger second boundary, in the order of R298, R306 and R308. -/
def State.boundary (s : State) (second : Nat) : State :=
  let journal := s.ledger.journal == .normal
  let h0 := s.ledger.head
  let old : EpochView := { epoch := s.ledger.epoch, cfg := s.ledger.cfg }
  let interim := second % s.ledger.cfg.interimS == 0
  let s := if journal then s.overflowBoundary else s
  let s := s.epochBoundary second
  let changed := s.ledger.epoch != old.epoch
  let s := if journal then s.deviceBoundary old second else s
  let s := s.ledger.accounts.foldl (fun s a => s.tagBoundary old journal interim second a) s
  let s := if journal then
      let s := s.specialBoundary old interim second 1 0xFFFFFFFD (fun l => l.overhead) (fun l a => { l with overhead := a })
      let s := s.specialBoundary old interim second 2 0xFFFFFFFE (fun l => l.residual) (fun l a => { l with residual := a })
      let s := s.specialBoundary old interim second 3 0xFFFFFFFF (fun l => l.overflow) (fun l a => { l with overflow := a })
      s.totalBoundary old interim second
    else s
  let now : EpochView := { epoch := s.ledger.epoch, cfg := s.ledger.cfg }
  let s := s.ledger.accounts.foldl (fun s a => s.openBoundary now journal second a) s
  let s := if changed then s.onLedger fun l => { l with
      accounts := l.accounts.map fun a => a.spans second, overhead := l.overhead.spans second, residual := l.residual.spans second
      overflow := l.overflow.spans second, total := l.total.spans second } else s
  let s := if journal then
      let n := s.ledger.head - h0
      let s := if n = 0 then s else s.traced 148 0 (n + 2 ^ 32 * second)
      (s.writeCheckpoint second).release h0
    else s
  s.onLedger fun l => { l with
    second := second, unopened := [], fallbackMs := 0
    feedSince := l.feedSince.mapIdx fun i _ => sumInt (l.queue.map fun t => nth t.feed i) }

/-- The journal has failed at the read-back of an entry after its rewrite: event 0x070C S3; no record is formed until the next power-on reset (R311). -/
def State.journalFails (s : State) : State :=
  if s.ledger.journal = .normal then (s.onLedger fun l => { l with journal := .failed }).event .fp2 0x070C 3 0 [] else s

/-- `LEDGER_SECOND_BOUNDARY`: once the second's last tick is attributed (R298, R306). The journal fails where an entry reads back wrong after its rewrite too (R311). -/
def execLedgerSecondBoundary (s : State) : Host.Outcome State Fault Refusal :=
  .next (if s.pair.role ≠ .standby ∧ s.ledger.boundaryDue ∧ s.attrRuns ∧ !s.restarting 8 then
    let s := if s.ledger.badReads then s.journalFails else s
    (s.boundary (s.ledger.second + 1)).attributeAll.mirrored .ledger
  else s)

/-! Signing and export (R301, R312, R313) -/

/-- A serial in hex digits, lower case (log entry 56). -/
def serialHex (serial : BitVec 128) : List Byte :=
  (serialBytes serial).flatMap fun (b : Byte) => [b.toNat / 16, b.toNat % 16].map fun d => BitVec.ofNat 8 (if d < 10 then 48 + d else 87 + d)

/-- The fixed content of the certificates that IDK issues for AK (1) and LK (2): subject, serial number, validity and key usage (04 R106). -/
def certContent (serial : BitVec 128) (key : Nat) : List (List Byte) :=
  [ascii (if key = 1 then "LNS-G8 AK" else "LNS-G8 LK") ++ serialHex serial, i1 key ++ serialBytes serial,
   ascii "20000101000000Z", ascii "99991231235959Z", ascii "digitalSignature"]

/-- The certificate of AK or LK of a device (04 R106). -/
def keyCertificate (serial : BitVec 128) (key : Nat) : List Byte := Config.certificate (certContent serial key) serial key

/-- The 384 bytes of a signed record (R299). -/
def SignedRecord.bytes (r : SignedRecord) (slotId : Nat) : List Byte :=
  r.body.bytes slotId ++ serialBytes r.serial ++ digestBytes (Config.sha384 (keyCertificate r.serial 2)) ++ i8 r.gtSigned ++ zeros 40 ++ fit 96 r.sig

/-- Sign a record with LK (R301). -/
def State.signedRecord (s : State) (r : LedgerRecord) : SignedRecord :=
  let x : SignedRecord := { body := r, serial := s.sec.serial, gtSigned := s.gt }
  { x with sig := s.sign 2 (((x.bytes s.straps.slotId.toNat).take 288)) }

/-- `RECORD_SIGNED` (R312, R313). -/
def execRecordSigned (s : State) : Host.Outcome State Fault Refusal :=
  .next (match s.ledger.unsigned_ with
    | (r, _) :: rest =>
      if s.isOwner ∧ s.firmwareRuns ∧ !s.restarting 9 then
        let x := s.signedRecord r
        let still := match rest with
          | (_, t) :: _ => decide (t + secs 60 < s.gt)
          | [] => false
        let s := s.onLedger fun l => { l with unsigned_ := rest, export_ := l.export_ ++ [x], backlogSaid := l.backlogSaid && still }
        s.traced 150 (r.recSeq % 2) r.recSeq
      else s
    | [] => s)

/-- `SIGNING_BACKLOG` (R312). -/
def execSigningBacklog (s : State) : Host.Outcome State Fault Refusal :=
  .next (match s.ledger.unsigned_ with
    | (_, t) :: _ =>
      if !s.ledger.backlogSaid ∧ t + secs 60 < s.gt then (s.onLedger fun l => { l with backlogSaid := true }).event .fp2 0x070A 1 0 []
      else s
    | [] => s)

/-! Genesis and restore (R310, R311) -/

/-- Begin a genesis: header, empty checkpoint, session 0 and a GENESIS record (R311). -/
def State.genesis (s : State) : State :=
  let g := s.ledger.cfg
  let s := s.onLedger fun l => { l with
    epoch := 0, lsess := 0, head := 0, chainHead := List.replicate 48 0, cpSeq := 0, unsigned_ := [], export_ := []
    accounts := [{}], overhead := {}, residual := {}, overflow := {}, total := {}, ovf := false, dueEpochs := [], dueRestore := none
    dev := { l.dev with
      erased := false, powerLoss := none, ring := [], cps := [], oldHeader := l.dev.header
      header := { valid := true, sizeMbit := l.dev.sizeMbit, gen := l.dev.header.gen + 1, epochs := [(0, g.digest)], baseHash := List.replicate 48 0 } } }
  let s := s.form { epoch := 0, cfg := g } 7 4 0 0 0 0 0 0 s.ledger.dev.sizeMbit
  let s := s.onLedger fun l =>
    let c : Checkpoint := { valid := true, headSeq := l.head, chainHead := l.chainHead, specials := [{}, {}, {}, {}], slots := [{}] }
    { l with dev := { l.dev with cps := [c] } }
  (s.release 0).event .fp2 0x070D 0 0 (i4 s.ledger.dev.sizeMbit)

/-- An account at a restore: a pending close is cancelled, `from_s` is 0 and the interval holds a restore (R297, R310). -/
def Account.restored (a : Account) : Account := { a with phase := .open_, fromS := 0, flags := a.flags ||| 8#8 }

/-- Restore from the journal (R310). `por` holds after a power-on reset. -/
def State.restoreFrom (s : State) (c : Checkpoint) (por : Bool) : State :=
  let l := s.ledger
  let known : Int × Bool :=
    if por then
      match l.dev.powerLoss with
      | some e => if e.cpSeq = c.cpSeq then (e.eaNj + e.ebNj, false) else (0, true)
      | none => (0, true)
    else (sumInt l.feedSince, false)
  let fallback := if por then 0 else min 65535 l.fallbackMs
  let prior := ((l.dev.header.epochs.find? fun e => e.1 == c.epoch).map Prod.snd).getD []
  let same := prior == l.cfg.digest
  let epoch := if same then c.epoch else (c.epoch + 1) % 65536
  let ring := l.dev.ring.filter fun r => decide (r.recSeq < c.headSeq)
  let kept := if por then [] else l.export_.filter fun r => decide (r.body.recSeq < c.headSeq)
  let todo := ring.filter fun r => decide (l.dev.header.baseSeq ≤ r.recSeq) && !kept.any fun x => x.body.recSeq == r.recSeq
  let s := s.onLedger fun l => { l with
    epoch := epoch, lsess := (l.dev.header.lsess + 1) % 65536, head := c.headSeq, chainHead := c.chainHead, cpSeq := c.cpSeq
    accounts := (c.slots.filter fun a => a.phase != .openPending).map Account.restored
    overhead := (nth c.specials 0).restored, residual := (nth c.specials 1).restored, overflow := (nth c.specials 2).restored
    total := { (nth c.specials 3).restored with c := c.fNj }
    ovf := c.ovf, dueRestore := some (5, known.1, known.2, c.cpSeq % 65536 + 65536 * fallback)
    dueEpochs := if same then [] else [(c.epoch, epoch, l.cfg)]
    unsigned_ := todo.map fun r => (r, s.gt), export_ := kept
    feedSince := if por ∧ !known.2 then (match l.dev.powerLoss with
      | some e => [nth l.feedSince 0 + e.eaNj, nth l.feedSince 1 + e.ebNj]
      | none => l.feedSince) else l.feedSince
    dev := { l.dev with
      powerLoss := none, ring := ring, cps := [c], oldHeader := l.dev.header
      header := { l.dev.header with
        gen := l.dev.header.gen + 1, lsess := (l.dev.header.lsess + 1) % 65536
        epochs := if same then l.dev.header.epochs else ((epoch, l.cfg.digest) :: l.dev.header.epochs).take 64 } } }
  s.event .fp2 0x0708 (if known.2 then 2 else 1) 0 (i8 c.cpSeq ++ i8s known.1)

/-- The newest valid checkpoint. -/
def JournalDevice.checkpoint (d : JournalDevice) : Option Checkpoint :=
  (d.cps.filter Checkpoint.valid).foldl (fun a c => match a with
    | none => some c
    | some b => if b.cpSeq < c.cpSeq then some c else some b) none

/-- The ledger begins a session at a start: a restore, or a genesis on a device that is erased, invalid or of another size (R310, R311, 18 R484). -/
def State.ledgerStart (s : State) (por : Bool) : State :=
  let s := s.onLedger fun l => { l with
    inSession := false, begun := true, l := 0, second := 0, queue := [], w := List.replicate 8 [], nextCfg := none
    uncredited := if por then l.uncredited else 0, dies := List.replicate 64 { upTo := s.gt } }
  let l := s.ledger
  let s :=
    if l.dev.sizeMbit = 0 then (s.onLedger fun l => { l with journal := .absent }).event .fp2 0x070C 3 0 []
    else if l.dev.erased then s.genesis
    else
      match l.dev.header.valid && l.dev.header.sizeMbit == l.dev.sizeMbit, l.dev.checkpoint with
      | true, some c => s.restoreFrom c por
      | _, _ => s.genesis.event .fp2 0x070B 3 0 []
  s.onLedger fun l => { l with fallbackMs := if por then 0 else l.fallbackMs }

/-! The commands of group 0x07 (R316) -/

/-- The `rec_seq` of the first record not signed (R307). -/
def LedgerState.firstUnsigned (l : LedgerState) : Nat :=
  match l.unsigned_ with
  | (r, _) :: _ => r.recSeq
  | [] => l.head

/-- The epoch table would lose the oldest unreclaimed record's epoch (R316). -/
def LedgerState.epochsFull (l : LedgerState) : Bool :=
  match l.dev.ring.find? fun r => decide (l.dev.header.baseSeq ≤ r.recSeq) with
  | some r => decide (64 ≤ l.dev.header.epochs.length) && (match l.dev.header.epochs.getLast? with | some e => e.1 == r.epoch | none => false)
  | none => false

/-- The second at which a change accepted now takes effect: the first boundary after the tick in progress (R297). -/
def LedgerState.effective (l : LedgerState) : Nat := l.l / 1000 + 1

/-- Settings for the next boundary: those already waiting, or those in force. -/
def LedgerState.pendingCfg (l : LedgerState) : LedgerSettings :=
  match l.nextCfg with
  | some (g, _) => g
  | none => l.cfg

/-- `LEDGER_CFG_SET` (R295, R316). -/
def bodyLedgerCfgSet (interim : U16) (oh : U8) (res : U8) (wStale : U16) (wOff : U16) (c : Ctx) (s : State) : Answer :=
  let n := interim.toNat
  check [(n == 0 || decide (3600 < n) || decide (1 < oh.toNat) || decide (1 < res.toNat) || wStale == 0, .badArg), (s.ledger.epochsFull, .noResource)] s fun _ =>
    let g := { s.ledger.pendingCfg with interimS := n, ohSpread := oh == 1, resSpread := res == 1, wStale := wStale.toNat, wOff := wOff.toNat }
    okay (i2 ((s.ledger.epoch + 1) % 65536) ++ i2 0) ((s.onLedger fun l => { l with nextCfg := some (g, c.port), nextCfgAt := l.effective }).mirrored .ledger)

/-- `CALIBRATION_SET` (R289, R316). -/
def bodyCalibrationSet (first : U8) (count : U8) (entries : List Calib) (c : Ctx) (s : State) : Answer :=
  let f := first.toNat
  let n := count.toNat
  check [(n == 0 || decide (24 < n) || decide (24 < f + n), .badArg), (s.ledger.epochsFull, .noResource)] s fun _ =>
    let p := s.ledger.pendingCfg
    let g := { p with calib := p.calib.mapIdx fun i x => if f + 4 ≤ i ∧ i < f + 4 + n then nth entries (i - f - 4) else x }
    okay [] ((s.onLedger fun l => { l with nextCfg := some (g, c.port), nextCfgAt := l.effective }).mirrored .ledger)

/-- Insert an account in slot order. -/
def insertAccount (a : Account) : List Account → List Account
  | [] => [a]
  | b :: l => if a.slot < b.slot then a :: b :: l else b :: insertAccount a l

/-- `ACCOUNT_OPEN` (R296, R297, R308). -/
def bodyAccountOpen (tag : U64) (c : Ctx) (s : State) : Answer :=
  let l := s.ledger
  let pay := fun (slot : Nat) => i4 slot ++ i4 l.effective
  check [(tag == 0 || tag == BitVec.allOnes 64, .badArg)] s fun _ =>
    match l.accounts.find? fun a => a.tag == tag.toNat && a.slot != 0 with
    | some a => if a.phase = .closePending then refuse .stateConflict s else okay (i4 a.slot ++ i4 a.effective) s
    | none =>
      if l.ovf then refuse .noResource s
      else
        match (List.range l.slots).find? fun k => !l.accounts.any fun a => a.slot == k with
        | none => refuse .noResource s
        | some k =>
          let s := s.onLedger fun l => { l with accounts := insertAccount { slot := k, tag := tag.toNat, phase := .openPending, port := c.port, effective := l.effective } l.accounts }
          ({ status := .accepted, payload := pay k }, s.mirrored .ledger)

/-- `ACCOUNT_CLOSE` (R297). -/
def bodyAccountClose (tag : U64) (c : Ctx) (s : State) : Answer :=
  let l := s.ledger
  let pay := i4 l.effective ++ i4 0
  check [(tag == 0, .badArg)] s fun _ =>
    match l.accounts.find? fun a => a.tag == tag.toNat && a.slot != 0 with
    | none => refuse .stateConflict s
    | some a =>
      match a.phase with
      | .openPending => okay pay ((s.onLedger fun l => { l with accounts := l.accounts.filter fun b => b.slot != a.slot }).mirrored .ledger)
      | .closePending => ({ status := .accepted, payload := i4 a.effective ++ i4 0 }, s)
      | .open_ =>
        ({ status := .accepted, payload := pay }, (s.onLedger fun l => l.putAccount { a with phase := .closePending, port := c.port, effective := l.effective }).mirrored .ledger)

/-- The state of an account as `ACCOUNT_READ` names it. -/
def AccountPhase.code : AccountPhase → Nat
  | .openPending => 1 | .open_ => 2 | .closePending => 3

/-- The payload of `ACCOUNT_READ` for an account. -/
def Account.bytes (a : Account) (slot : Nat) : List Byte := i1 a.phase.code ++ zeros 3 ++ i4 slot ++ i4 a.fromS ++ i4 0 ++ leBytesS 12 a.c ++ i4 0

/-- `ACCOUNT_READ` (R316). -/
def bodyAccountRead (sel : U8) (tag : U64) (_c : Ctx) (s : State) : Answer :=
  let l := s.ledger
  check [(decide (3 < sel.toNat), .badArg)] s fun _ =>
    match sel.toNat with
    | 0 => match l.accounts.find? fun a => a.tag == tag.toNat with
      | some a => okay (a.bytes a.slot) s
      | none => okay (zeros 32) s
    | 1 => okay (l.overhead.bytes 0xFFFFFFFD) s
    | 2 => okay (l.residual.bytes 0xFFFFFFFE) s
    | _ => okay (l.overflow.bytes 0xFFFFFFFF) s

/-- A die is stale, or has not reported since ACC_ON (R292). -/
def State.dieStale (s : State) (i : Nat) : Bool :=
  s.acc (i / 8) == .on && (match (nth s.ledger.dies i).report with
    | some r => s.since r.gt 4000
    | none => (nth s.op.table.acc (i / 8)).kind != 0 && !((nth s.op.table.acc (i / 8)).kind == 2 && decide (4 ≤ i % 8)))

/-- `LEDGER_STATUS` (R316). -/
def bodyLedgerStatus (_c : Ctx) (s : State) : Answer :=
  let l := s.ledger
  okay (i2 l.lsess ++ i2 l.epoch ++ i4 (l.next / 1000) ++ i8 (l.next - 1) ++ leBytesS 12 l.total.c ++ i4 l.openCount
    ++ i1 (packBits [l.ovf, l.journal == .failed]) ++ zeros 3 ++ leBytes 8 (packBits ((List.range 64).map s.dieStale))
    ++ i4 l.discarded ++ i4 l.queue.length) s

/-- Records that one fetch returns at most (R313). -/
def Session.ledgerRecords (se : Session) : Nat := (se.largest - 16) / 384

/-- Consecutive exported records from a sequence. -/
def takeExport (n seq : Nat) : List SignedRecord → List SignedRecord
  | [] => []
  | r :: rs => if n = 0 then [] else if r.body.recSeq = seq then r :: takeExport (n - 1) (seq + 1) rs else takeExport n seq rs

/-- `RECORDS_FETCH` (R313). -/
def bodyRecordsFetch (first : U64) (count : U8) (c : Ctx) (s : State) : Answer :=
  let n := count.toNat
  let l := s.ledger
  check [(n == 0 || decide (c.se.ledgerRecords < n), .badArg)] s fun _ =>
    if first.toNat < l.dev.header.baseSeq then ({ detail := 1, payload := i8 first.toNat ++ zeros 8 }, s)
    else
      let rs := takeExport n first.toNat l.export_
      okay (i8 first.toNat ++ i1 rs.length ++ zeros 7 ++ (rs.map fun r => r.bytes s.straps.slotId.toNat).flatten) s

/-- `RECORDS_ACK` (R307). -/
def bodyRecordsAck (seq : U64) (c : Ctx) (s : State) : Answer :=
  let l := s.ledger
  let n := seq.toNat
  if l.firstUnsigned ≤ n then refuse .stateConflict s
  else if n < l.dev.header.baseSeq then okay (i8 l.dev.header.baseSeq) s
  else
    let hash := match l.dev.ring.find? fun r => r.recSeq == n with
      | some r => r.hash s.straps.slotId.toNat
      | none => l.dev.header.baseHash
    let s := s.onLedger fun l => { l with
      export_ := l.export_.filter fun r => decide (n < r.body.recSeq)
      dev := ({ l.dev with ring := l.dev.ring.filter fun r => decide (n < r.recSeq) } : JournalDevice).writeHeader { l.dev.header with baseSeq := n + 1, baseHash := hash } }
    okay (i8 (n + 1)) (((s.event .fp2 0x0709 0 c.port (i8 (n + 1) ++ i1 c.port)).traced 151 c.port n).mirrored .ledger)

/-- `JOURNAL_STATUS` (R316). -/
def bodyJournalStatus (_c : Ctx) (s : State) : Answer :=
  let l := s.ledger
  let st := match l.journal with
    | .failed => 2
    | .absent => 3
    | .normal => flag l.ovf
  okay (i1 st ++ i1 l.dev.sizeMbit ++ i2 0 ++ i4 l.entries ++ i8 l.dev.header.baseSeq ++ i8 l.head ++ i8 l.firstUnsigned
    ++ i4 l.freeEntries ++ i4 l.openCount ++ i8 l.cpSeq) s

end Sys2Proof.Machine
end

