-- ==== Sys2Proof/Machine/Engine.lean ====
section
/-! DEFINITION. The arithmetic of the phase engine, its operations, the checks of a model container, and a run of one model (09 R234-R250). -/

namespace Sys2Proof.Machine

open Sys2Proof

/-! Rounding and saturation (09 R235) -/

/-- Shift right, rounding half to even. -/
def rhe (y : Int) (sh : Nat) : Int :=
  if sh = 0 then y
  else
    let q := y / (2 ^ sh : Nat)
    let r := y - q * (2 ^ sh : Nat)
    let half : Int := (2 ^ (sh - 1) : Nat)
    if half < r ∨ (r = half ∧ q % 2 = 1) then q + 1 else q

/-- Clamp to a range. -/
def clampInt (lo hi v : Int) : Int := if v < lo then lo else if hi < v then hi else v

/-- Saturate to int8. -/
def sat8 (v : Int) : Int := clampInt (-128) 127 v
/-- Saturate to int32. -/
def sat32 (v : Int) : Int := clampInt (-2147483648) 2147483647 v

/-! Tensors -/

/-- Byte of a tensor's data. -/
def Tensor.byte (t : Tensor) (i : Nat) : Nat := (nth t.data i).toNat
/-- The tensor holds weights. -/
def Tensor.weights (t : Tensor) : Bool := t.kind == 2 || t.kind == 3
/-- Activation elements. -/
def Tensor.activation (t : Tensor) : Bool := t.kind == 0 || t.kind == 1
/-- Tiles across the columns. -/
def Tensor.tileCols (t : Tensor) : Nat := t.cols / 32
/-- Tiles of the matrix. -/
def Tensor.tiles (t : Tensor) : Nat := t.rows / 32 * t.tileCols
/-- The block bitmap form. -/
def Tensor.bitmap (t : Tensor) : Bool := t.flags.getLsbD 0
/-- The 2:4 form. -/
def Tensor.sparse24 (t : Tensor) : Bool := t.flags.getLsbD 1
/-- Bytes of the bitmap: one bit a tile, padded to a multiple of 4 bytes. -/
def Tensor.bitmapLen (t : Tensor) : Nat := if t.bitmap then (t.tiles + 31) / 32 * 4 else 0
/-- A tile is stored. -/
def Tensor.hasTile (t : Tensor) (k : Nat) : Bool := !t.bitmap || bit (t.byte (k / 8)) (k % 8)
/-- Stored tiles below a tile. -/
def Tensor.tileRank (t : Tensor) (k : Nat) : Nat := if t.bitmap then countIf t.hasTile (List.range k) else k
/-- Stored bytes of a tile row (09 R239). -/
def Tensor.rowBytes (t : Tensor) : Nat :=
  1 + (if t.sparse24 then 4 else 0) + (if t.kind = 2 then 32 else 16) / (if t.sparse24 then 2 else 1)
/-- Offset of row `r` of tile `k`. -/
def Tensor.rowAt (t : Tensor) (k r : Nat) : Nat := t.bitmapLen + (t.tileRank k * 32 + r) * t.rowBytes

/-- The shift of a block (09 R236). -/
def Tensor.shift (t : Tensor) (k r : Nat) : Int := signed 8 (t.byte (t.rowAt k r)) - t.eRef

/-- The `i`-th stored weight at an offset. -/
def Tensor.stored (t : Tensor) (off i : Nat) : Int :=
  if t.kind = 2 then signed 8 (t.byte (off + i))
  else signed 4 (t.byte (off + i / 2) / (if i % 2 = 0 then 1 else 16))

/-- Metadata nibble of group `g` of a 2:4 row. -/
def Tensor.nibble (t : Tensor) (k r g : Nat) : Nat := t.byte (t.rowAt k r + 1 + g / 2) / (if g % 2 = 0 then 1 else 16) % 16

/-- The 32 weights of a stored tile row (09 R239). -/
def Tensor.rowWeights (t : Tensor) (k r : Nat) : List Int :=
  let off := t.rowAt k r
  if t.sparse24 then
    ((List.range 8).map fun g =>
      let n := t.nibble k r g
      (List.range 4).map fun p =>
        if p = n % 4 then t.stored (off + 5) (2 * g) else if p = n / 4 then t.stored (off + 5) (2 * g + 1) else 0).flatten
  else (List.range 32).map (t.stored (off + 1))

/-- A little-endian int32 of a tensor's data. -/
def Tensor.word (t : Tensor) (i : Nat) : Int := signed 32 (ofLe ((t.data.drop (4 * i)).take 4))

/-- One row of MATVEC before the output conversion (09 R237). -/
def matRow (w : Tensor) (bias : Option Tensor) (a : List Int) (r : Nat) : Int :=
  let start : Int := match bias with
    | some b => b.word r
    | none => 0
  (List.range w.tileCols).foldl (fun acc j =>
    let k := r / 32 * w.tileCols + j
    if w.hasTile k then
      let p := sumInt (List.zipWith (· * ·) ((a.drop (32 * j)).take 32) (w.rowWeights k (r % 32)))
      sat32 (acc + p * (2 ^ (w.shift k (r % 32)).toNat : Nat))
    else acc) start

/-- The piecewise-linear function of a table (09 R238). -/
def pwl (t : Tensor) (lo : Int) (ws : Nat) (x : Int) : Int :=
  let y := fun i => signed 8 (t.byte i)
  let u := x - lo
  if u < 0 then y 0
  else if ((64 * 2 ^ ws : Nat) : Int) ≤ u then y 64
  else
    let k := u.toNat / 2 ^ ws
    let rest : Int := ((u.toNat - k * 2 ^ ws : Nat) : Int)
    y k + rhe ((y (k + 1) - y k) * rest) ws

/-! Operations (09 R241-R245) -/

/-- What a run of a model holds. -/
structure EngineRun where
  /-- the tensors' activations (R241) -/
  acts : List (List Int) := []
  /-- the state region (R241) -/
  region : List Byte := []
  /-- registers 0-15 written (R245) -/
  regs : List (Option Int) := List.replicate 16 none
  /-- ADV0-ADV7 written (R245) -/
  adv : List (Option Int) := List.replicate 8 none
  /-- branch that the open gate selects (R242) -/
  sel : Option Nat := none
  /-- cycles used (R243) -/
  cycles : Nat := 0
  /-- trace records: point, source, argument -/
  traces : List (Nat × Nat × Nat) := []
  deriving DecidableEq, Repr, Inhabited

/-- Parameter `i` of an operation. -/
def ModelOp.par (o : ModelOp) (i : Nat) : Int := nth o.p i
/-- Parameter `i` as a count or index. -/
def ModelOp.num (o : ModelOp) (i : Nat) : Nat := (o.par i).toNat
/-- The operation carries the gated bit. -/
def ModelOp.gated (o : ModelOp) : Bool := o.flags.getLsbD 3
/-- Its branch number. -/
def ModelOp.branch (o : ModelOp) : Nat := bits o.flags.toNat 6 4

/-- The tensor that an operand names. -/
def Container.tensor (c : Container) (i : Nat) : Tensor := nth c.tensors i

/-- The products of a MATVEC (09 R243). -/
def Tensor.products (t : Tensor) : Nat :=
  let n := if t.bitmap then 1024 * countIf t.hasTile (List.range t.tiles) else t.rows * t.cols
  if t.sparse24 then n / 2 else n

/-- Elements or bytes that an operation moves (09 R243). -/
def Container.moved (c : Container) (o : ModelOp) : Nat :=
  if o.op = 8 then o.num 1 else if o.op = 9 ∨ o.op = 10 then o.num 1 else (c.tensor o.dst).rows

/-- The cycle count of an operation (09 R243). -/
def Container.opCycles (c : Container) (o : ModelOp) : Nat :=
  match o.op with
  | 0x01 => 8 + (o.num 1 + 15) / 16
  | 0x02 => 16 + ((c.tensor o.w).products + 4095) / 4096
  | 0x03 => 8 + (o.num 1 + 63) / 64
  | 0x0B => 4
  | 0x0D => 4
  | 0x0C => 0
  | 0x0F => 0
  | _ => 8 + (c.moved o + 255) / 256

/-- Put values into a list from an index on. -/
def splice (l : List Int) (i : Nat) (v : List Int) : List Int := l.take i ++ v ++ l.drop (i + v.length)

/-- The activations of an operand. -/
def EngineRun.act (r : EngineRun) (i : Nat) : List Int := nth r.acts i
/-- Write activations of an operand. -/
def EngineRun.put (r : EngineRun) (i : Nat) (v : List Int) : EngineRun := { r with acts := r.acts.set i v }

/-- The range in which an output register is stored (09 R245). -/
def storeRange (reg : Nat) (v : Int) : Int :=
  if reg = 0 then clampInt 0 31 v
  else if 2 ≤ reg ∧ reg ≤ 13 then clampInt 1 2147483647 v
  else if reg = 14 ∨ reg = 15 then clampInt 0 100 v
  else sat32 v

/-- Activations from bytes of their tensor's element type. -/
def elemsOf (kind n : Nat) (b : List Byte) : List Int :=
  let w := if kind = 1 then 4 else 1
  (List.range n).map fun i => signed (8 * w) (ofLe ((b.drop (w * i)).take w))

/-- Bytes of activations in their tensor's element type. -/
def elemBytes (kind : Nat) (l : List Int) : List Byte := (l.map fun v => if kind = 1 then leBytesS 4 v else leBytesS 1 v).flatten

/-- The index of the first largest element. -/
def argMax (l : List Int) : Nat :=
  let m := l.foldl max (l.headD 0)
  l.findIdx fun v => v == m

/-- Store an output register (09 R245). -/
def EngineRun.out (r : EngineRun) (reg : Nat) (v : Int) : EngineRun :=
  let v := storeRange reg v
  let r := { r with traces := r.traces ++ [(98, reg, (BitVec.ofInt 32 v).toNat)] }
  if reg < 16 then { r with regs := r.regs.set reg (some v) } else { r with adv := r.adv.set (reg - 16) (some v) }

/-- Execute one operation that its gate does not hold back. -/
def Container.doOp (c : Container) (frame : List Int) (slot idx : Nat) (o : ModelOp) (r : EngineRun) : EngineRun :=
  let a := r.act o.a
  let b := r.act o.b
  match o.op with
  | 0x01 => r.put o.dst (splice (r.act o.dst) (o.num 2) (((frame.drop (o.num 0)).take (o.num 1)).map fun v => sat8 (rhe (v * o.par 3) (o.num 4))))
  | 0x02 =>
    let w := c.tensor o.w
    let bias := if o.b = 65535 then none else some (c.tensor o.b)
    let rows := (List.range w.rows).map (matRow w bias a)
    r.put o.dst (if o.flags.getLsbD 0 then rows.map fun v => sat8 (rhe (v * o.par 0) (o.num 1)) else rows)
  | 0x03 => r.put o.dst (splice (r.act o.dst) (o.num 2) (((a.drop (o.num 0)).take (o.num 1)).map (pwl (c.tensor o.w) (o.par 3) (o.num 4))))
  | 0x04 => r.put o.dst (List.zipWith (fun x y => sat8 (rhe (x * o.par 0 + y * o.par 1) (o.num 2))) a b)
  | 0x05 => r.put o.dst (List.zipWith (fun x y => sat8 (rhe (x * y * o.par 0) (o.num 1))) a b)
  | 0x06 => r.put o.dst (List.zipWith max a b)
  | 0x07 => r.put o.dst (List.zipWith min a b)
  | 0x08 => r.put o.dst (splice (r.act o.dst) (o.num 2) ((a.drop (o.num 0)).take (o.num 1)))
  | 0x09 =>
    let kind := (c.tensor o.dst).kind
    let bytes := (r.region.drop (o.num 0)).take (o.num 1)
    r.put o.dst (elemsOf kind (r.act o.dst).length (bytes ++ (elemBytes kind (r.act o.dst)).drop bytes.length))
  | 0x0A =>
    let bytes := (elemBytes (c.tensor o.a).kind a).take (o.num 1)
    { r with region := r.region.take (o.num 0) ++ bytes ++ r.region.drop (o.num 0 + bytes.length) }
  | 0x0B =>
    let s := if o.num 0 = 0 then flag (decide (o.par 2 ≤ nth a (o.num 1))) else argMax ((a.drop (o.num 1)).take (o.num 2))
    { r with sel := some s, traces := r.traces ++ [(99, slot, idx + 65536 * s)] }
  | 0x0C => { r with sel := none }
  | 0x0D => r.out (o.num 1) (rhe (nth a (o.num 0) * o.par 2) (o.num 3) + o.par 4)
  | _ => r

/-- Execute the operations in order; a gated one only when its branch is selected (09 R242). -/
def Container.runOps (c : Container) (frame : List Int) (slot : Nat) : Nat → List ModelOp → EngineRun → EngineRun
  | _, [], r => r
  | i, o :: os, r =>
    let skip := o.gated && r.sel != some o.branch
    let r := if skip then r else { c.doOp frame slot i o r with cycles := r.cycles + c.opCycles o }
    c.runOps frame slot (i + 1) os r

/-- One run of a model: its activations read zero at the start (09 R241). -/
def Container.run (c : Container) (frame : List Int) (slot : Nat) (region : List Byte) : EngineRun :=
  c.runOps frame slot 0 c.ops { acts := c.tensors.map fun t => if t.activation then List.replicate t.rows 0 else [], region := region }

/-! The worst case (09 R243) -/

/-- The running sum of a model's worst case: the total, and the branches of the open gate region. -/
def Container.worstStep (c : Container) (acc : Nat × Option (List Nat)) (o : ModelOp) : Nat × Option (List Nat) :=
  let n := c.opCycles o
  match o.op, acc.2 with
  | 0x0B, _ => (acc.1 + n, some (List.replicate 8 0))
  | 0x0C, some l => (acc.1 + l.foldl max 0, none)
  | _, some l => if o.gated then (acc.1, some (modAt l o.branch (· + n))) else (acc.1 + n, some l)
  | _, none => (acc.1 + n, none)

/-- The worst-case cycles of a model. -/
def Container.worstCycles (c : Container) : Nat := (c.ops.foldl c.worstStep (0, none)).1

/-! Reading a container (09 Container header, Tensor entry, Operation entry) -/

/-- The tensor table entry at an address. -/
def Tensor.ofImage (m : Mem) (base data a : Nat) : Tensor :=
  { kind := m.num a 1, flags := m.read (a + 1), rows := m.num (a + 2) 2, cols := m.num (a + 4) 2, eRef := signed 8 (m.num (a + 6) 1)
    data := m.readBytes (base + data + m.num (a + 8) 4) (m.num (a + 12) 4) }

/-- The operation at an address. -/
def ModelOp.ofImage (m : Mem) (a : Nat) : ModelOp :=
  { op := m.num a 1, flags := m.read (a + 1), dst := m.num (a + 2) 2, a := m.num (a + 4) 2, b := m.num (a + 6) 2, w := m.num (a + 8) 2
    p := (List.range 5).map fun i => signed 32 (m.num (a + 12 + 4 * i) 4) }

/-- The header fields of a container are in range and everything lies inside it (09 R250). -/
def headerOk (m : Mem) (base len : Nat) : Bool :=
  let n := fun o k => m.num (base + o) k
  n 0 4 == 0x4D50474C && n 4 2 == 1 && decide (n 6 1 < 2) && n 7 1 == 0
    && decide (1 ≤ n 8 2 ∧ n 8 2 ≤ 1024) && decide (2 ≤ n 10 2 ∧ n 10 2 ≤ 4096)
    && decide (n 16 4 ≤ 65536) && n 16 4 % 32 == 0
    && decide (n 20 4 + 16 * n 8 2 ≤ len) && decide (n 24 4 + 32 * n 10 2 ≤ len) && decide (n 28 4 + n 32 4 ≤ len)
    && (List.range 28).all (fun i => m.read (base + 36 + i) == 0)
    && (List.range (n 8 2)).all (fun i =>
      let a := base + n 20 4 + 16 * i
      m.read (a + 7) == 0 && decide (m.num (a + 8) 4 + m.num (a + 12) 4 ≤ n 32 4)
        && (decide (2 ≤ m.num a 1) || (m.num (a + 8) 4 == 0 && m.num (a + 12) 4 == 0)))

/-- The container at an address, none where its header or tables are wrong. -/
def Container.ofImage (m : Mem) (base len : Nat) : Option Container :=
  if headerOk m base len then
    let n := fun o k => m.num (base + o) k
    some { kind := n 6 1, cycles := n 12 4, stateBytes := n 16 4, size := len
           tensors := (List.range (n 8 2)).map fun i => Tensor.ofImage m base (n 28 4) (base + n 20 4 + 16 * i)
           ops := (List.range (n 10 2)).map fun i => ModelOp.ofImage m (base + n 24 4 + 32 * i) }
  else none

/-- The RSVD fields of an operation in the image are zero. -/
def opRsvdOk (m : Mem) (base i : Nat) : Bool :=
  let a := base + m.num (base + 24) 4 + 32 * i
  m.num (a + 10) 2 == 0 && m.read (a + 1) &&& 0x86#8 == 0

/-! The content checks (09 R250) -/

/-- Bytes that a weight tensor's data must have (09 R239). -/
def Tensor.formLen (t : Tensor) : Nat :=
  t.bitmapLen + 32 * t.rowBytes * (if t.bitmap then countIf t.hasTile (List.range t.tiles) else t.tiles)

/-- A tensor entry is sound. -/
def Tensor.ok (t : Tensor) : Bool :=
  if t.weights then
    decide (0 < t.rows ∧ 0 < t.cols) && t.rows % 32 == 0 && t.cols % 32 == 0 && decide (t.flags.toNat < 4) && t.data.length == t.formLen
      && (List.range t.tiles).all fun k => !t.hasTile k || (List.range 32).all fun r =>
        decide (0 ≤ t.shift k r ∧ t.shift k r ≤ 15) && (!t.sparse24 || (List.range 8).all fun g => decide (t.nibble k r g % 4 < t.nibble k r g / 4))
  else
    t.flags == 0 && t.cols == 1 && t.eRef == 0
      && (if t.kind = 4 then t.data.length == 4 * t.rows
          else if t.kind = 5 then t.rows == 65 && t.data.length == 65
          else t.activation && t.data == [])

/-- An operand is an activation of a kind. -/
def Container.isAct (c : Container) (i kind : Nat) : Bool := decide (i < c.tensors.length) && (c.tensor i).kind == kind
/-- An operand is any activation. -/
def Container.anyAct (c : Container) (i : Nat) : Bool := c.isAct i 0 || c.isAct i 1
/-- A value lies in the signed 16-bit range. -/
def int16 (v : Int) : Bool := decide (-32768 ≤ v ∧ v ≤ 32767)
/-- A value lies between bounds. -/
def between (lo hi v : Int) : Bool := decide (lo ≤ v ∧ v ≤ hi)
/-- The parameters from `n` on are zero. -/
def ModelOp.zeroFrom (o : ModelOp) (n : Nat) : Bool := (o.p.drop n).all (· == 0)
/-- A range of elements from a parameter pair lies inside a tensor. -/
def Container.inside (c : Container) (t : Nat) (first count : Int) : Bool :=
  decide (0 ≤ first ∧ 0 ≤ count ∧ first + count ≤ ((c.tensor t).rows : Nat))
/-- Three operands are int8 with the same count. -/
def Container.sameInt8 (c : Container) (o : ModelOp) : Bool :=
  c.isAct o.dst 0 && c.isAct o.a 0 && c.isAct o.b 0 && (c.tensor o.a).rows == (c.tensor o.dst).rows && (c.tensor o.b).rows == (c.tensor o.dst).rows
/-- Bytes of a tensor's activations. -/
def Tensor.actBytes (t : Tensor) : Nat := if t.kind = 1 then 4 * t.rows else t.rows

/-- An operation's operands and parameters are in range (09 R241, R242, R250). -/
def Container.opOk (c : Container) (o : ModelOp) : Bool :=
  let shOk := fun i => between 0 47 (o.par i)
  (o.op == 2 || !o.flags.getLsbD 0) && match o.op with
  | 0x01 => c.isAct o.dst 0 && between 0 255 (o.par 0) && decide (0 ≤ o.par 1) && decide (o.par 0 + o.par 1 ≤ 256) && c.inside o.dst (o.par 2) (o.par 1) && shOk 4
  | 0x02 =>
    let w := c.tensor o.w
    decide (o.w < c.tensors.length) && w.weights && c.isAct o.a 0 && (c.tensor o.a).rows == w.cols
      && c.isAct o.dst (if o.flags.getLsbD 0 then 0 else 1) && (c.tensor o.dst).rows == w.rows
      && (o.b == 65535 || (c.isAct o.b 4 && (c.tensor o.b).rows == w.rows)) && int16 (o.par 0) && shOk 1 && o.zeroFrom 2
  | 0x03 => c.isAct o.dst 0 && c.anyAct o.a && c.isAct o.w 5 && c.inside o.a (o.par 0) (o.par 1) && c.inside o.dst (o.par 2) (o.par 1) && between 0 24 (o.par 4)
  | 0x04 => c.sameInt8 o && int16 (o.par 0) && int16 (o.par 1) && between 0 62 (o.par 2) && o.zeroFrom 3
  | 0x05 => c.sameInt8 o && int16 (o.par 0) && between 0 62 (o.par 1) && o.zeroFrom 2
  | 0x06 => c.sameInt8 o && o.zeroFrom 0
  | 0x07 => c.sameInt8 o && o.zeroFrom 0
  | 0x08 => c.anyAct o.a && c.isAct o.dst (c.tensor o.a).kind && c.inside o.a (o.par 0) (o.par 1) && c.inside o.dst (o.par 2) (o.par 1) && o.zeroFrom 3
  | 0x09 => c.anyAct o.dst && decide (0 ≤ o.par 0 ∧ 0 ≤ o.par 1 ∧ o.par 0 + o.par 1 ≤ c.stateBytes) && decide (o.num 1 ≤ (c.tensor o.dst).actBytes)
      && o.zeroFrom 2
  | 0x0A => c.anyAct o.a && decide (0 ≤ o.par 0 ∧ 0 ≤ o.par 1 ∧ o.par 0 + o.par 1 ≤ c.stateBytes) && decide (o.num 1 ≤ (c.tensor o.a).actBytes)
      && o.zeroFrom 2
  | 0x0B => c.isAct o.a 0 && between 2 8 (o.par 3)
      && (if o.par 0 = 0 then o.par 3 == 2 && c.inside o.a (o.par 1) 1
          else o.par 0 == 1 && o.par 2 == o.par 3 && c.inside o.a (o.par 1) (o.par 2)) && o.zeroFrom 4
  | 0x0C => o.zeroFrom 0
  | 0x0D => c.anyAct o.a && c.inside o.a (o.par 0) 1 && between (if c.kind = 1 then 16 else 0) 23 (o.par 1) && between 0 62 (o.par 3)
  | 0x0F => o.zeroFrom 0
  | _ => false

/-- The first operation whose place in a gate region is wrong: regions are closed, do not nest and number their branches below p3 (09 R242, R250). -/
def gateFault : Option Nat → Nat → List ModelOp → Option Nat
  | none, _, [] => none
  | some _, i, [] => some i
  | none, i, o :: os =>
    if o.gated ∨ o.op = 0x0C ∨ (o.op = 0x0F ∧ os ≠ []) ∨ (os = [] ∧ o.op ≠ 0x0F) then some i
    else gateFault (if o.op = 0x0B then some (o.num 3) else none) (i + 1) os
  | some n, i, o :: os =>
    if o.op = 0x0C then (if o.gated then some i else gateFault none (i + 1) os)
    else if !o.gated ∨ n ≤ o.branch ∨ o.op = 0x0B ∨ o.op = 0x0F then some i
    else gateFault (some n) (i + 1) os

/-- The `detail` of a content that fails R250: the first offending operation, or 0xFFFF. -/
def Container.fault (c : Container) (m : Mem) (base slot room : Nat) : Option Nat :=
  if !c.tensors.all Tensor.ok then some 0xFFFF
  else
    let bad := (List.range c.ops.length).find? fun i => !opRsvdOk m base i || !c.opOk (nth c.ops i)
    match bad, gateFault none 0 c.ops with
    | some i, some j => some (min i j)
    | some i, none => some i
    | none, some j => some j
    | none, none =>
      if (c.kind = 0) ≠ (slot = 0) ∨ c.cycles ≠ c.worstCycles ∨ room < c.size then some 0xFFFF else none

end Sys2Proof.Machine
end

