-- ==== Sys2Proof/Machine/Phase.lean ====
section
/-! DEFINITION. The phase engine: phase table, input frames, runs, decision log, model slots, and the commands of group 0x05 (09 R230-R261). -/

namespace Sys2Proof.Machine

open Sys2Proof

/-- Change the phase engine part. -/
def State.onPhase (s : State) (f : PhaseState → PhaseState) : State := { s with phase := f s.phase }
/-- Change a model slot. -/
def State.onSlot (s : State) (k : Nat) (f : ModelSlot → ModelSlot) : State := { s with phase := { s.phase with slots := modAt s.phase.slots k f } }
/-- A model slot. -/
def State.slot (s : State) (k : Nat) : ModelSlot := nth s.phase.slots k
/-- The running slots. -/
def State.runningSlots (s : State) : List Nat := indices 8 fun k => (s.slot k).phase == .running
/-- The set of running slots. -/
def State.runningMask (s : State) : BitVec 8 := BitVec.ofNat 8 (packBits ((List.range 8).map fun k => (s.slot k).phase == .running))

/-! The phase table (09 R247-R249) -/

/-- The phase of a package, −1 for none: that of its lowest-numbered die that has reported since ACC_ON (09 R233). -/
def State.phaseOf (s : State) (n : Nat) : Int :=
  if s.acc n = .on then
    match ((List.range 8).filterMap fun d => (nth s.link.dies (8 * n + d)).phase).head? with
    | some p => (p : Int)
    | none => -1
  else -1

/-- The table entry of a package and phase. -/
def PhaseState.entry (p : PhaseState) (n : Nat) (phi : Int) : PhaseEntry := look p.table (256 * n + phi.toNat)

/-- Close an occurrence of a phase (09 R248). -/
def PhaseEntry.closed (e : PhaseEntry) (a : PhaseAcc) (next : Int) (kp kd : Nat) : PhaseEntry :=
  let obs : Int := ((a.m * 16 : Nat) : Int)
  let e : PhaseEntry := { e with durQ4 := if e.count = 0 then obs else e.durQ4 + rhe (obs - e.durQ4) kd }
  let e : PhaseEntry :=
    if 0 < a.mc then
      let p := Int.tdiv a.s ((a.mc : Nat) : Int)
      if e.pValid then { e with p0Mw := e.p0Mw + rhe (p - e.p0Mw) kp } else { e with p0Mw := p, pValid := true }
    else e
  { e with count := min 65535 (e.count + 1), succ := if next = -1 then e.succ else next.toNat }

/-- An entry that has closed no occurrence names no successor (09 R247; log entry 50). -/
def freshEntry (e : PhaseEntry) : PhaseEntry := if e.count = 0 then { e with succ := 255 } else e

/-- One tick of a package's accumulators; a closed phase is reported back (09 R248). -/
def PhaseState.learn (p : PhaseState) (n : Nat) (phi adjMw pw : Int) (clean : Bool) : PhaseState × Option (Nat × PhaseEntry) :=
  let a := nth p.acc n
  let (p, a, shut) :=
    if phi = a.cur then (p, a, none)
    else
      let b : PhaseAcc := { cur := phi }
      if a.cur = -1 then (p, b, none)
      else
        let e := (freshEntry (p.entry n a.cur)).closed a phi p.kp p.kd
        ({ p with table := put p.table (256 * n + a.cur.toNat) e }, b, some (a.cur.toNat, e))
  let a : PhaseAcc :=
    if phi = -1 then a
    else
      let a : PhaseAcc := { a with m := min 2147483647 (a.m + 1) }
      if clean then { a with mc := a.mc + 1, s := a.s + capDiv (adjMw * 1024) pw } else a
  ({ p with acc := p.acc.set n a }, shut)

/-- Update one package's part of the table, tracing a closed occurrence. -/
def State.learnOne (s : State) (n : Nat) (phi adjMw pw : Int) (clean : Bool) : State :=
  let (p, shut) := s.phase.learn n phi adjMw pw clean
  let s := { s with phase := p }
  match shut with
  | some (old, e) => s.traced 100 n (old + 256 * e.count + 2 ^ 24 * (e.p0Mw / 1000).toNat)
  | none => s

/-- A power in W. -/
def toW (mw : Int) : Int := Int.tdiv mw 1000

/-- The update at a boundary of the OWNER (09 R248): p_run is the P-state in force during the tick. The measure is the one that the frame and the log
hold, in W, so that the STANDBY and an auditor form the same table (R253, R256; log entry 54). -/
def State.learnTick (s : State) : State :=
  let pw : Int := ((nth s.op.table.pw s.op.pNow : Nat) : Int)
  (List.range 8).foldl (fun s n =>
    let clean := s.phase.onAllTick.getLsbD n && !s.phase.slowInTick && !s.phase.pChanged && decide (nth s.phase.waits n ≤ 45)
    s.learnOne n (s.phaseOf n) (1000 * toW (nth s.op.adj n)) pw clean) s

/-! The input frame (09 R232, R233) -/

/-- The hottest reading among sensors, zero without one. -/
def State.hottest (s : State) (first count : Nat) : Int :=
  match (List.range count).filterMap fun i => (nth s.cool.sensors (first + i)).x with
  | [] => 0
  | x :: xs => xs.foldl max x

/-- The hottest coolant point of a role, zero in air-only mode. -/
def State.hottestRole (s : State) (role : Nat) : Int :=
  if s.straps.coolMode then 0
  else
    match (indices 8 fun p => nth s.cool.roles p == role).filterMap fun p => (nth s.cool.sensors (336 + p)).x with
    | [] => 0
    | x :: xs => xs.foldl max x

/-- The current phase's entry of a package, if a phase is current. -/
def PhaseState.current (p : PhaseState) (n : Nat) : Option PhaseEntry :=
  let a := nth p.acc n
  if a.cur = -1 then none else some (freshEntry (p.entry n a.cur))

/-- The successor of a package's current phase; 0xFF is unknown (09 R247; log entry 50). -/
def PhaseState.succOf (p : PhaseState) (n : Nat) : Option Nat :=
  match p.current n with
  | some e => if e.succ = 255 then none else some e.succ
  | none => none

/-- The learned power of the successor of a package's current phase, mW. -/
def PhaseState.succPower (p : PhaseState) (n : Nat) : Option Int :=
  match p.succOf n with
  | some k => let e := p.entry n k; if e.pValid then some e.p0Mw else none
  | none => none

/-- The learned power of a package's current phase, mW. -/
def PhaseState.curPower (p : PhaseState) (n : Nat) : Option Int :=
  match p.current n with
  | some e => if e.pValid then some e.p0Mw else none
  | none => none

/-- Word 106: the next-phase tray delta (09 R233). -/
def PhaseState.delta (p : PhaseState) (pw : Int) : Int :=
  sumInt ((List.range 8).map fun n =>
    match p.curPower n, p.succPower n with
    | some a, some b => Int.tdiv (Int.tdiv ((b - a) * pw) 1024) 1000
    | _, _ => 0)

/-- The duty that the movers of a kind are commanded to: the highest granted. -/
def dutyOf (l : List Mover) : Int := (((l.filter Mover.used).map Mover.duty).foldl max 0 : Nat)

/-- Capture the input frame (09 R232). -/
def State.inputFrame (s : State) : List Int :=
  let o := s.op
  let p := s.phase
  let eight := fun (f : Nat → Int) => (List.range 8).map f
  let p1 : Nat := if s.traySlow then 31 else o.pNow
  let flags := packBits [p.slowInTick, s.feedsOn == 1, p.pChanged] + 256 * s.onSet.toNat
  let orNone := fun (v : Option Int) => v.getD (-1)
  let words : List Int :=
    [signed 32 p.frameNo, (p1 : Nat), (o.ceil : Nat), (flags : Nat), toW o.trayAdj, toW (s.feedMeas 0), toW (s.feedMeas 1), (o.trayCapW : Nat)]
      ++ ((List.range 12).map fun b => toW (nth o.meas b)) ++ eight (fun n => toW (nth o.adj n)) ++ eight (fun n => ((nth p.waits n : Nat) : Int))
      ++ eight (fun n => (nth p.acc n).cur) ++ eight (fun n => (((nth p.acc n).m : Nat) : Int))
      ++ eight (fun n => orNone ((p.curPower n).map toW)) ++ eight (fun n => orNone ((p.succOf n).map fun k => ((k : Nat) : Int)))
      ++ eight (fun n => orNone ((p.succPower n).map toW)) ++ eight (fun n => orNone (((p.current n).filter fun e => e.count != 0).map PhaseEntry.durQ4))
      ++ eight (fun n => s.hottest (8 * n) 8) ++ eight (fun n => s.hottest (64 + 24 * n) 24)
      ++ [s.hottest 256 64, s.hottest 320 16, s.hottestRole 1, s.hottestRole 2, dutyOf s.cool.fans, dutyOf s.cool.pumps]
      ++ [p.delta ((nth o.table.pw p1 : Nat) : Int)]
  words ++ List.replicate (256 - words.length) 0

/-! Decision log and snapshots (09 R254, R255) -/

/-- A register's value in a record: 0x8000_0000 for no request. -/
def regBytes (r : Option Int) : List Byte := i4s (r.getD (-2147483648))

/-- Bytes 0 to 1,167 of a decision record (09 R254). -/
def DecisionRecord.body (r : DecisionRecord) : List Byte :=
  i1 (if r.marker then 2 else 1) ++ i1 r.models.toNat ++ i2 r.flags.toNat ++ i2 r.boot ++ i2 0 ++ i8 r.frameNo ++ i8 r.gt ++ i8 r.step
    ++ i4 r.cycles ++ i2 r.written.toNat ++ zeros 26
    ++ (if r.marker then fit 1024 (i1 r.mSlot ++ i1 r.mAction ++ i2 0 ++ digestBytes r.mDigest) else fit 1024 (r.frame.map i4s).flatten)
    ++ fit 64 (r.out.map regBytes).flatten ++ zeros 16

/-- A snapshot is kept while a record that it applies to is in the ring (09 R255). -/
def keepSnaps (oldest : Nat) : List Snapshot → List Snapshot
  | [] => []
  | [x] => [x]
  | x :: y :: l => if y.frameNo ≤ oldest then keepSnaps oldest (y :: l) else x :: keepSnaps oldest (y :: l)

/-- Append a record to the decision ring, with its chain. -/
def PhaseState.write (p : PhaseState) (r : DecisionRecord) : PhaseState :=
  let chain := digestBytes (Config.sha384 (p.chain ++ r.body))
  let ring := p.ring ++ [{ r with chain := chain }]
  let ring := ring.drop (ring.length - p.ringCap)
  { p with ring := ring, chain := chain, snaps := keepSnaps ((ring.headD {}).frameNo) p.snaps }

/-- Write a marker record: 1 commit, 2 start, 3 stop (09 R254). -/
def State.marker (s : State) (slot action : Nat) : State :=
  let r : DecisionRecord :=
    { marker := true, models := s.runningMask, flags := BitVec.ofNat 16 (flag (!s.isOwner)), boot := s.sec.bootCount, frameNo := s.phase.frameNo
      gt := s.gt, step := s.link.topStep, mSlot := slot, mAction := action, mDigest := (s.slot slot).digest }
  (s.onPhase fun p => p.write r).mirrored .phase

/-- The chain of the last run's record, zero where no run has been recorded (09 R255). -/
def PhaseState.runChain (p : PhaseState) : List Byte :=
  match p.ring.reverse.find? fun r => !r.marker with
  | some r => r.chain
  | none => zeros 48

/-- Write the snapshot of the state before the run of the frame (09 R255). -/
def State.writeSnap (s : State) : State :=
  let p := s.phase
  let x : Snapshot :=
    { boot := s.sec.bootCount, frameNo := p.frameNo, gt := s.gt, chain := p.runChain
      models := p.slots.map fun m => ((match m.phase with | .empty => 0 | .loaded => 1 | .running => 2), m.digest)
      table := p.table, acc := p.acc, regions := s.runningSlots.map fun k => (s.slot k).region }
  (s.onPhase fun p => { p with snaps := p.snaps ++ [x], snapDue := false, lastSnap := p.frameNo }).traced 102 0 (p.frameNo % 2 ^ 32)

/-! Starting and stopping models at a boundary (09 R241, R252, R257, R259) -/

/-- The cycle budget in use (09 R244). -/
def State.budgetInUse (s : State) : Nat := (s.runningSlots.map fun k => (s.slot k).cont.cycles + 200).foldl (· + ·) 0

/-- A slot runs after the next boundary: it runs and no stop waits, or a start or a restart waits (09 R257, R259). -/
def State.willRun (s : State) (k : Nat) : Bool :=
  let m := s.slot k
  (m.phase == .running && m.pend != some false) || (m.phase == .loaded && (m.pend == some true || m.restart))

/-- A slot fits the budget beside the others that will run (09 R244). -/
def State.fits (s : State) (k : Nat) : Bool :=
  let others := (indices 8 fun j => j != k && s.willRun j).map fun j => (s.slot j).cont.cycles + 200
  decide (others.foldl (· + ·) 0 + (s.slot k).cont.cycles + 200 ≤ 48000)

/-- Start the model of a loaded slot. -/
def State.startModel (s : State) (k : Nat) : State :=
  let s := s.onSlot k fun m => { m with
    phase := .running, runs := 0, adv := List.replicate 8 none, region := zeros m.cont.stateBytes, pend := none, restart := false }
  let s := s.onPhase fun p => { p with snapDue := true }
  ((s.event .phase 0x0502 0 k (i1 k ++ i8 s.phase.frameNo)).marker k 2)

/-- Stop the model of a running slot; cause 0 command, 1 reload. Its registers hold no request (09 R246, R259). -/
def State.stopModel (s : State) (k cause : Nat) : State :=
  let s := s.onSlot k fun m => { m with phase := .loaded, pend := none, adv := List.replicate 8 none }
  let s := s.onPhase fun p => { p with
    snapDue := true
    regs := if k = 0 then List.replicate 16 none else p.regs
    latched := if k = 0 then List.replicate 16 none else p.latched }
  ((s.event .phase 0x0503 0 k (i1 k ++ i8 s.phase.frameNo ++ i1 cause)).marker k 3)

/-- The starts and stops that wait for the boundary take effect, in slot order. -/
def State.modelActions (s : State) : State :=
  (List.range 8).foldl (fun s k =>
    let m := s.slot k
    if m.phase = .running ∧ m.pend = some false then s.stopModel k 0
    else if m.phase = .loaded ∧ (m.pend = some true ∨ m.restart) ∧ s.fits k then s.startModel k
    else s.onSlot k fun m => { m with pend := none, restart := m.restart && m.phase == .running }) s

/-! Runs (09 R231, R245, R253) -/

/-- Start the run of the frame held (09 R231). -/
def State.beginRun (s : State) : State :=
  let s := if s.phase.snapDue || decide (s.phase.lastSnap + 20000 ≤ s.phase.frameNo) then s.writeSnap else s
  let s := s.onPhase fun p => { p with inRun := true, void := false }
  s.runningSlots.foldl (fun s k => s.traced 96 k (s.phase.frameNo % 2 ^ 32)) s

/-- The engine at a control tick boundary of the OWNER: table, frame, run (09 R231). -/
def State.engineTick (s : State) : State :=
  let s := s.learnTick.modelActions
  let s := s.onPhase fun p => { p with frame := s.inputFrame, frameGt := s.gt, frameStep := s.link.topStep }
  (s.mirrored .phase).beginRun

/-- The tick that begins starts unblemished. -/
def State.freshTick (s : State) : State := s.onPhase fun p => { p with slowInTick := s.traySlow, pChanged := false, onAllTick := s.onSet }

/-- `CONTROL_TICK`: the boundary of a control tick, at GT multiples of 50 µs (08 R210-R220, 09 R231). The STANDBY's engine runs on forwarded frames (09 R253). -/
def execControlTick (s : State) : Host.Outcome State Fault Refusal :=
  let s := if s.sage.everLocked then s.thermalTick else s
  .next (if s.gt % 50 = 0 ∧ s.op.ctlGt ≠ some s.gt ∧ s.firmwareRuns then
    let s := s.measureTick
    let s := if s.isOwner then s.engineTick else s
    s.freshTick.caplTick
  else s)

/-- The clamp of an output register at the latch; `none` for `BUDGET9` (09 R245). -/
def LimitBlock.latch (l : LimitBlock) (reg : Nat) (v : Int) : Option Int :=
  if reg = 0 then some (max v (l.peFastestP : Nat))
  else if reg = 11 then none
  else if 2 ≤ reg ∧ reg ≤ 13 then some (min v ((nth l.budgetMax (reg - 2) : Nat) : Int))
  else if reg = 14 ∨ reg = 15 then some (min v (l.peFfMax : Nat))
  else some v

/-- Latch the registers of a run, counting clamps in event 0x0102 (09 R245, R246, 01 R30). -/
def State.latchRegs (s : State) (regs : List (Option Int)) : State :=
  let l := s.sage.limits
  let out := regs.mapIdx fun i r => r.bind (l.latch i)
  let clamps := countIf (fun i => decide (i ≠ 11) && nth regs i != nth out i) (List.range 16)
  let s := s.onPhase fun p => { p with latched := out }
  (List.range clamps).foldl (fun s _ => s.event .arbiter 0x0102 0 0 []) s

/-- The output registers as a digest covers them: registers 0-15, then the bank of registers 16-23 of each slot, an order that the spec leaves open (09 R245, R253; DESIGN CHOICE, log entry 54). -/
def outBytes (regs : List (Option Int)) (slots : List ModelSlot) : List Byte :=
  (regs.map regBytes).flatten ++ (slots.map fun m => (m.adv.map regBytes).flatten).flatten

/-- The digests of the pair for one frame meet (09 R253). -/
def State.compareDigests (s : State) : State :=
  match s.phase.partnerDigest with
  | some (f, d) =>
    if f = s.phase.digestFrame then
      let s := s.onPhase fun p => { p with partnerDigest := none }
      if d = s.phase.digest then s
      else
        let s := s.event .phase 0x0504 2 0 (i8 f ++ i1 s.runningMask.toNat)
        s.runningSlots.foldl (fun s k => s.traced 103 k (f % 2 ^ 32)) s
    else s
  | none => s

/-- Run the models of the running slots, one after another in slot order, with the cycles used: those of the operations and 200 per model (09 R230, R244, R254). -/
def State.runModels (s : State) : State × List (Option Int) × Nat :=
  s.runningSlots.foldl (fun (acc : State × List (Option Int) × Nat) k =>
    let s := acc.1
    let m := s.slot k
    let r := m.cont.run s.phase.frame k m.region
    let s := s.onSlot k fun m => { m with region := r.region, adv := r.adv, runs := m.runs + 1 }
    let s := r.traces.foldl (fun s t => s.traced t.1 t.2.1 t.2.2) s
    (s.traced 97 k r.cycles, (if k = 0 then r.regs else acc.2.1), acc.2.2 + r.cycles + 200)) (s, List.replicate 16 none, 0)

/-- `OUTPUT_DIGEST_RECEIVE`: the partner's digest of a run (09 R253). -/
def execOutputDigestReceive (frame : U64) (digest : List Byte) (s : State) : Host.Outcome State Fault Refusal :=
  .next (if s.mirrors then (s.onPhase fun p => { p with partnerDigest := some (frame.toNat, digest) }).compareDigests else s)

/-- `FORWARDED_INPUT_FRAME`: the OWNER's frame reaches the STANDBY, whose table follows it and whose engine runs on it (09 R253; log entry 10). -/
def execForwardedInputFrame (frameNo : U64) (gt : U64) (step : U64) (words : List Int) (s : State) : Host.Outcome State Fault Refusal :=
  .next (if s.pair.role = .standby ∧ s.mirrors ∧ !s.phase.inRun then
    let w := fun i => nth words i
    let flags := (w 3).toNat
    let pw : Int := ((nth s.op.table.pw (w 1).toNat : Nat) : Int)
    let s := (List.range 8).foldl (fun s n =>
      let clean := bit flags (8 + n) && s.phase.onAllTick.getLsbD n && !bit flags 0 && !bit flags 2 && decide (w (28 + n) ≤ 45)
      s.learnOne n (w (36 + n)) (1000 * w (20 + n)) pw clean) s
    let s := s.modelActions
    let s := s.onPhase fun p => { p with
      frame := words, frameNo := frameNo.toNat, frameGt := gt.toNat, frameStep := step.toNat
      onAllTick := BitVec.ofNat 8 (flags / 256) }
    s.beginRun
  else s)

/-! Loading (09 R250-R252, R257) -/

/-- Bytes of the model store that other loaded slots leave (09 R250). -/
def State.modelRoom (s : State) (k : Nat) : Nat :=
  15 * 2 ^ 20 - (((List.range 8).filter fun j => j != k).map fun j => (s.slot j).cont.size).foldl (· + ·) 0

/-- Load a slot's container from FLASH1 into the model store, with verification (09 R251, R252, 04 R101). -/
def State.loadSlot (s : State) (k : Nat) (x : StoredModel) : State :=
  if x.obj.verifies 4 s.anchor.custKey then
    ((s.onPhase fun p => { p with order := p.order.filter (· != k) ++ [k] }).onSlot k fun m => { m with
      phase := .loaded, cont := x.cont, version := x.obj.man.version, digest := x.obj.man.digest, autostart := x.autostart
      runs := 0, adv := List.replicate 8 none, region := [], pend := none, restart := false }).traced 101 k x.cont.cycles
  else (s.onSlot k fun _ => {}).loadFailed .fp1 x.obj x.obj.badBlock

/-- The slot of an uncorrectable error is stopped and reloaded, with a marker for each, the reload's that of a commit (log entry 54); it restarts at the next boundary unless a stop waits for it (09 R257). -/
def State.eccReload (s : State) (k : Nat) : State :=
  let again := (s.slot k).pend != some false
  let s := s.stopModel k 1
  match nth s.phase.stored k with
  | some x =>
    let s := s.loadSlot k x
    if (s.slot k).phase = .loaded then (s.onSlot k fun m => { m with restart := again }).marker k 1 else s
  | none => s.onSlot k fun _ => {}

/-- `PHASE_ENGINE_RUN_END`: the run of the frame ends; registers are latched and the decision record is written (09 R231, R245, R253, R254, R257). -/
def execPhaseEngineRunEnd (s : State) : Host.Outcome State Fault Refusal :=
  .next (if s.phase.inRun then
    let void := s.phase.void
    let mask := s.runningMask
    let (s, regs, cycles) := if void then (s, List.replicate 16 none, 0) else s.runModels
    let s := if void then s.onPhase fun p => { p with slots := p.slots.map fun m => ({ m with adv := List.replicate 8 none } : ModelSlot) } else s
    let frameNo := s.phase.frameNo
    let r : DecisionRecord :=
      { models := mask, flags := BitVec.ofNat 16 (packBits [!s.isOwner, void]), boot := s.sec.bootCount, frameNo := frameNo
        gt := s.phase.frameGt, step := s.phase.frameStep, cycles := cycles, written := BitVec.ofNat 16 (packBits (regs.map Option.isSome))
        frame := s.phase.frame, out := regs }
    let d := digestBytes (Config.sha384 (outBytes regs s.phase.slots))
    let s := s.onPhase fun p => { p.write r with inRun := false, void := false, regs := regs, frameNo := frameNo + 1, digest := d, digestFrame := frameNo }
    let s := if s.isOwner then s.latchRegs regs else s
    let s := if s.mirrors then s.mirOut (.outDigest frameNo d) else s
    let s := s.compareDigests
    if void then (indices 8 fun k => (s.slot k).phase == .running && (s.slot k).restart).foldl State.eccReload s else s
  else s)

/-- `MODEL_SLOTS_LOAD`: every slot recorded in the settings area is loaded after a reset or the entry to STANDBY (09 R252). -/
def execModelSlotsLoad (s : State) : Host.Outcome State Fault Refusal :=
  .next (if s.phase.loadPending ∧ s.clk.phase = .running then
    let s := s.onPhase fun p => { p with loadPending := false, autoDue := true }
    (List.range 8).foldl (fun s k =>
      match nth s.phase.stored k with
      | some x => if (s.slot k).phase = .running then s else s.loadSlot k x
      | none => s) s
  else s)

/-- `MODEL_AUTOSTART`: slots marked autostart start at the next frame boundary, in slot order, while they fit the budget (09 R252). The STANDBY's models start with the OWNER's (R253). -/
def execModelAutostart (s : State) : Host.Outcome State Fault Refusal :=
  .next (if s.phase.autoDue then
    let s := s.onPhase fun p => { p with autoDue := false }
    if s.pair.role = .standby then s
    else (List.range 8).foldl (fun s k =>
      if (s.slot k).phase = .loaded ∧ (s.slot k).autostart ∧ s.fits k then s.onSlot k fun m => { m with pend := some true } else s) s
  else s)

/-- `MODEL_STORE_ECC_ERROR`: an uncorrectable error voids the run; the slot is stopped and reloaded at the run's end (09 R257). -/
def execModelStoreEccError (slot : U8) (s : State) : Host.Outcome State Fault Refusal :=
  let k := slot.toNat
  .next (if s.phase.inRun ∧ k < 8 ∧ (s.slot k).phase = .running then
    ((s.onPhase fun p => { p with void := true }).onSlot k fun m => { m with restart := true }).event .phase 0x0506 2 k (i8 s.phase.frameNo ++ i1 k)
  else s)

/-! The commands of group 0x05 (09 R251, R258, R259) -/

/-- Where a container lies in a staged object: behind its manifest, from offset 0x0001_0000 (log entry 11). -/
def containerBase : Nat := 0x10000

/-- `MODEL_LOAD`, phase BEGIN. -/
def bodyModelLoadBegin (slot : U8) (flags : U8) (_c : Ctx) (s : State) : Answer :=
  check [(decide (7 < slot.toNat) || decide (1 < flags.toNat), .badArg)] s fun _ =>
    okay [] (s.onPhase fun p => { p with staging := some (slot.toNat, flags == 1, []) })

/-- `MODEL_LOAD`, phase DATA: the model area of FLASH1 bounds the object. -/
def bodyModelLoadData (slot : U8) (flags : U8) (offset : U32) (data : List Byte) (_c : Ctx) (s : State) : Answer :=
  check [(decide (7 < slot.toNat) || decide (1 < flags.toNat) || decide (2 ^ 24 < offset.toNat + data.length), .badArg),
    (s.phase.staging.isNone, .stateConflict)] s fun _ =>
      okay [] (s.onPhase fun p => { p with staging := p.staging.map fun x => (x.1, x.2.1, x.2.2.writeBytes offset.toNat data) })

/-- `MODEL_LOAD`, phase COMMIT: `obj` is what the verifier finds in the staged object (09 R250, R251, 04 R101). -/
def bodyModelLoadCommit (slot : U8) (flags : U8) (obj : ObjectImage) (c : Ctx) (s : State) : Answer :=
  let k := slot.toNat
  check [(decide (7 < k) || decide (1 < flags.toNat), .badArg)] s fun _ =>
    match s.phase.staging with
    | none => refuse .stateConflict s
    | some (_, _, m) =>
      let verified := obj.verifies 4 s.anchor.custKey
      let cont := Container.ofImage m containerBase obj.man.length
      let fault : Option Nat := if !verified then none else match cont with
        | none => some 0xFFFF
        | some x => x.fault m containerBase k (s.modelRoom k)
      match fault with
      | some d => ({ status := .badArg, detail := d }, s.event .fp1 0x0505 1 k (i1 k ++ i2 d))
      | none =>
        if (s.slot k).phase = .running ∨ s.upd.plan.models.any (fun m => m.1 == k) = true then refuse .stateConflict s
        else if !verified then ({ status := .integrityFail }, s.loadFailed .fp1 obj obj.badBlock)
        else
          let x : StoredModel := { cont := cont.getD {}, obj := obj, autostart := flags == 1 }
          let s := (s.onPhase fun p => { p with stored := p.stored.set k (some x), staging := none }).saveSettings
          let s := (s.loadSlot k x).marker k 1
          okay [] (s.event .fp1 0x0501 0 k (i1 k ++ (digestBytes obj.man.digest).take 8 ++ i1 c.port))

/-- `MODEL_START` (09 R244, R259). -/
def bodyModelStart (slot : U8) (_c : Ctx) (s : State) : Answer :=
  let k := slot.toNat
  let m := s.slot k
  check [(decide (7 < k), .badArg), (m.phase == .empty, .stateConflict)] s fun _ =>
    if m.phase = .running ∧ m.pend ≠ some false then okay [] s
    else if !s.fits k then refuse .noResource s
    else okay [] (s.onSlot k fun m => { m with pend := if m.phase = .running then none else some true })

/-- `MODEL_STOP` (09 R259). -/
def bodyModelStop (slot : U8) (_c : Ctx) (s : State) : Answer :=
  let k := slot.toNat
  check [(decide (7 < k), .badArg)] s fun _ =>
    okay [] (s.onSlot k fun m => { m with pend := if m.phase = .running then some false else none, restart := m.restart && m.phase == .running })

/-- A slot entry of `MODEL_STATUS`. -/
def ModelSlot.entry (m : ModelSlot) : List Byte :=
  i1 (match m.phase with | .empty => 0 | .loaded => 1 | .running => 2) ++ i1 m.cont.kind ++ ib m.autostart ++ i1 0 ++ i4 m.cont.cycles ++ i8 m.runs
    ++ i4 m.version ++ (if m.phase = .empty then zeros 12 else (digestBytes m.digest).take 12) ++ (m.adv.map regBytes).flatten

/-- `MODEL_STATUS` (09 R258). -/
def bodyModelStatus (_c : Ctx) (s : State) : Answer :=
  okay (i8 s.phase.frameNo ++ i4 s.budgetInUse ++ i4 0 ++ (s.phase.slots.map ModelSlot.entry).flatten) s

/-- The bytes of a phase table entry (09 R247). -/
def PhaseEntry.bytes (e : PhaseEntry) : List Byte := i4s e.p0Mw ++ i4s e.durQ4 ++ i2 e.count ++ i1 e.succ ++ ib e.pValid ++ i4 0

/-- `PHASE_TABLE_READ` (09 R258). -/
def bodyPhaseTableRead (pkg first count : U8) (_c : Ctx) (s : State) : Answer :=
  let n := pkg.toNat; let f := first.toNat; let k := count.toNat
  check [(decide (7 < n) || k == 0 || decide (64 < k) || decide (256 < f + k), .badArg)] s fun _ =>
    okay ((List.range k).map fun i => (look s.phase.table (256 * n + f + i)).bytes).flatten s

/-- A phase accumulator in a snapshot. -/
def PhaseAcc.bytes (a : PhaseAcc) : List Byte := i4s a.cur ++ i4 a.m ++ i4 a.mc ++ i4 0 ++ i8s a.s ++ zeros 8

/-- The bytes of a snapshot, with AK's signature (09 R255). -/
def State.snapBytes (s : State) (x : Snapshot) : List Byte :=
  let b := i4 0x5350474C ++ i2 1 ++ i2 x.boot ++ i8 x.frameNo ++ i8 x.gt ++ fit 48 x.chain
    ++ (x.models.map fun m => i1 m.1 ++ zeros 3 ++ digestBytes m.2).flatten ++ zeros 24
    ++ ((List.range 2048).map fun i => (look x.table i).bytes).flatten ++ (x.acc.map PhaseAcc.bytes).flatten ++ x.regions.flatten
  b ++ s.sign 1 b

/-- `DECISION_LOG_READ` (09 R258, R259). -/
def bodyDecisionLogRead (kind : U8) (frame : U64) (offset : U32) (length : U16) (c : Ctx) (s : State) : Answer :=
  let p := s.phase
  let f := frame.toNat
  check [(decide (1 < kind.toNat) || decide (c.se.largest - 16 < length.toNat), .badArg)] s fun _ =>
    let nos := if kind = 0 then (p.ring.map DecisionRecord.frameNo) else (p.snaps.map Snapshot.frameNo)
    let found : Option (List Byte) :=
      if kind = 0 then (p.ring.find? fun r => r.frameNo == f && !r.marker).map fun r => r.body ++ r.chain
      else (p.snaps.find? fun x => x.frameNo == f).map s.snapBytes
    let head := i8 (nos.headD 0) ++ i8 (nos.getLastD 0)
    match found with
    | some b => okay (head ++ (b.drop offset.toNat).take length.toNat) s
    | none => ({ payload := head, detail := 1 }, s)

end Sys2Proof.Machine
end

