-- ==== Sys2Proof/Machine/Repro.lean ====
section
/-! DEFINITION. Strict mode, replay records and spare substitution (chapter 14, R388-R403). -/

namespace Sys2Proof.Machine

open Sys2Proof

/-- Change the reproducibility part. -/
def State.onRepro (s : State) (f : ReproState → ReproState) : State := { s with repro := f s.repro }

/-! Records -/

/-- An unknown logical core count (R399). -/
def unknownCores : Nat := 0xFFFFFFFF

/-- The logical core count of a package: the nominal count of its kind, replaced by that of its latest substitution in force (R399). -/
def State.coreCount (s : State) (n : Nat) : Nat :=
  if s.repro.unknown.getLsbD n then unknownCores
  else
    match ((s.repro.inForce.filter fun x => x.pkg == n).getLast?).map Substitution.coresAfter with
    | some c => c
    | none => let k := (s.op.table.sec n).kind; if k = 0 then 0 else nth s.repro.nominal (k - 1)

/-- The record is a replay: its reference digest is not zero (R393). -/
def ReplayBinding.replays (b : ReplayBinding) : Bool := b.ref != 0

/-- The first position at which counts differ from the reference (R394). -/
def ReplayBinding.differs (b : ReplayBinding) (counts : List Nat) : Option Nat :=
  if !b.replays then none else (List.range 8).find? fun n => nth counts n != nth b.refCores n || nth counts n == unknownCores

/-- 32 bytes of a substitution entry (R395). -/
def Substitution.bytes (x : Substitution) : List Byte :=
  i1 x.pkg ++ i1 (flag x.changed) ++ i2 0 ++ i4 x.coresAfter ++ i4 x.failed.toNat ++ i4 x.spare.toNat ++ (digestBytes x.obj.man.digest).take 16

/-- 80 bytes of a checkpoint entry (R395). -/
def ReplayCheckpoint.bytes (c : ReplayCheckpoint) : List Byte :=
  i8 c.step ++ i8 c.gt ++ i1 c.pstate ++ i1 (packBits [c.result.isSome, c.slow]) ++ i2 c.lsess ++ i4 c.chgSeq ++ i8 c.ltick ++ digestBytes (c.result.getD 0)

/-- Bytes 0 to 3,583 of a record (R395). -/
def ReplayRecord.head (r : ReplayRecord) (slotId : Nat) : List Byte :=
  let cores := r.pcores.foldl (· + ·) 0
  i4 0x5052474C ++ i2 1 ++ i2 r.flags.toNat ++ i8 r.rpSeq ++ i1 r.job ++ i1 slotId ++ i1 r.bind.seeds.length ++ i1 r.subst.length ++ i1 r.cps.length
    ++ i1 (countIf (fun n => r.pkgs.getLsbD n) (List.range 8)) ++ i2 0 ++ i4 (if r.pcores.contains unknownCores then unknownCores else cores) ++ i4 0
    ++ i8 r.bind.interval ++ i8 r.stepOpen ++ i8 r.stepClose ++ i8 r.gtOpen ++ i8 r.gtClose ++ serialBytes r.serial
    ++ digestBytes r.bind.prog ++ digestBytes r.bind.input ++ digestBytes r.bind.ref
    ++ fit 128 ((r.bind.seeds.map fun x => i8 x.toNat).flatten)
    ++ ((List.range 8).map fun n => let (k, d, v) := nth r.grade n; i1 k ++ i1 d ++ i2 0 ++ i4 v).flatten
    ++ ((List.range 8).map fun n => i4 (nth r.pcores n)).flatten
    ++ ((List.range 8).map fun n => i4 (if r.bind.replays then nth r.bind.refCores n else 0)).flatten ++ zeros 24
    ++ fit 512 ((r.subst.map Substitution.bytes).flatten) ++ fit 2560 ((r.cps.map ReplayCheckpoint.bytes).flatten)

/-- The 3,680 bytes of a record. -/
def ReplayRecord.bytes (r : ReplayRecord) (slotId : Nat) : List Byte := r.head slotId ++ fit 96 r.sig

/-- Hold a record in the ring of 4,096; an unread sealed record that is overwritten is recorded (R397). -/
def State.keepRecord (s : State) (r : ReplayRecord) : State :=
  let s := match s.repro.records with
    | old :: rest =>
      if 4096 ≤ s.repro.records.length then
        let s := s.onRepro fun x => { x with records := rest }
        if !old.isOpen && !old.read then s.event .fp3 0x0A07 1 0 (i8 old.rpSeq) else s
      else s
    | [] => s
  s.onRepro fun x => { x with records := x.records ++ [r] }

/-- Highest step that dies of some packages have reported. -/
def State.stepOf (s : State) (pkgs : BitVec 8) : Nat := (s.groupStep pkgs).getD 0

/-- Open the record of a job that consumes a binding (R394, R395). -/
def State.openRecord (s : State) (b : ReplayBinding) (pkgs : BitVec 8) (counts : List Nat) (differ : Bool) : State :=
  let grade := (List.range 8).map fun n =>
    match (if pkgs.getLsbD n then (nth s.link.ports n).cap else none) with
    | some c => (c.kind, c.dies.toNat, c.fw)
    | none => (0, 0, 0)
  let r : ReplayRecord := {
    rpSeq := s.repro.rpSeq, job := b.job, bind := b, pkgs := pkgs, grade := grade, pcores := counts
    flags := BitVec.ofNat 16 (packBits [s.repro.strict, b.replays, differ])
    subst := (s.repro.inForce.filter fun x => pkgs.getLsbD x.pkg).take 16
    stepOpen := s.stepOf pkgs, gtOpen := s.gt, serial := s.sec.serial }
  ((s.keepRecord r).onRepro fun x => { x with rpSeq := x.rpSeq + 1, binds := x.binds.filter fun y => y.job != b.job }).saveSettings

/-- Sign a sealed record with AK (R397). -/
def State.signRecord (s : State) (r : ReplayRecord) : ReplayRecord :=
  let r : ReplayRecord := { r with serial := s.sec.serial }
  { r with sig := s.sign 1 ((r.head s.straps.slotId.toNat)) }

/-- Seal the record of a closing job: event 0x0A06 (R397). -/
def State.sealRecord (s : State) (job : Nat) (cancelled : Bool) : State :=
  match s.repro.records.find? fun r => r.job == job && r.isOpen with
  | none => s
  | some r =>
    let r' := s.signRecord { r with flags := r.flags ||| 16 ||| (if cancelled then 64 else 0), stepClose := s.stepOf r.pkgs, gtClose := s.gt }
    (s.onRepro fun x => { x with records := x.records.map fun y => if y.rpSeq = r.rpSeq then r' else y }).event .fp3 0x0A06 0 job (i8 r.rpSeq ++ i1 job)

/-- The job has an open record. -/
def State.recordOpen (s : State) (job : Nat) : Bool := s.repro.records.any fun r => r.job == job && r.isOpen

/-! Commands (R390, R393, R396, R401) -/

/-- `STRICT_SET` (R390). -/
def bodyStrictSet (value : U8) (c : Ctx) (s : State) : Answer :=
  let v := value == 1
  if 1 < value.toNat then refuse .badArg s
  else if v = s.repro.strict then okay [] s
  else check [(s.sync.parked != [] || s.sync.jobs.any (fun j => s.recordOpen j.num), .stateConflict)] s fun _ =>
    okay [] (((s.onRepro fun x => { x with strict := v }).event .fp3 0x0A01 0 value.toNat (i1 value.toNat ++ i1 c.port)).mirrored .repro)

/-- A job number. -/
def jobNumber (j : Nat) : Bool := decide (1 ≤ j ∧ j ≤ 32)

/-- Put a binding in job order. -/
def insertBind (b : ReplayBinding) : List ReplayBinding → List ReplayBinding
  | [] => [b]
  | x :: l => if b.job < x.job then b :: x :: l else if b.job = x.job then b :: l else x :: insertBind b l

/-- `REPLAY_BIND`, action 0 (R393). -/
def bodyReplayBind (job : U8) (interval : U64) (prog input ref : BitVec 384) (refCores : List U32) (seeds : List U64) (c : Ctx) (s : State) : Answer :=
  let j := job.toNat
  check [(!jobNumber j || decide (2 ^ 48 < interval.toNat ∨ 16 < seeds.length ∨ refCores.length ≠ 8), .badArg),
    (s.sync.jobs.any (fun x => x.num == j), .stateConflict)] s fun _ =>
    let b : ReplayBinding := { job := j, prog := prog, input := input, ref := ref, refCores := refCores.map BitVec.toNat, seeds := seeds, interval := interval.toNat }
    okay [] (((s.onRepro fun x => { x with binds := insertBind b x.binds }).event .fp3 0x0A02 0 j (i1 j ++ i1 0 ++ i1 c.port)).mirrored .repro)

/-- `REPLAY_BIND`, action 1: a result digest for a captured checkpoint (R396). -/
def bodyReplayBindResult (job : U8) (step : U64) (digest : BitVec 384) (_c : Ctx) (s : State) : Answer :=
  let j := job.toNat
  if !jobNumber j then refuse .badArg s
  else
    match s.repro.records.find? fun r => r.job == j && r.isOpen with
    | none => refuse .stateConflict s
    | some r =>
      match r.cps.findIdx? fun k => k.step == step.toNat && k.result.isNone with
      | none => refuse .stateConflict s
      | some i =>
        let r' : ReplayRecord := { r with cps := modAt r.cps i fun k => { k with result := some digest } }
        okay (i1 i ++ zeros 3) ((s.onRepro fun x => { x with records := x.records.map fun y => if y.rpSeq = r.rpSeq then r' else y }).mirrored .repro)

/-- `REPLAY_BIND`, action 2 (R393). -/
def bodyReplayBindRemove (job : U8) (c : Ctx) (s : State) : Answer :=
  let j := job.toNat
  check [(!jobNumber j, .badArg), (!s.repro.binds.any (fun b => b.job == j), .stateConflict)] s fun _ =>
    okay [] (((s.onRepro fun x => { x with binds := x.binds.filter fun b => b.job != j }).event .fp3 0x0A02 0 j (i1 j ++ i1 2 ++ i1 c.port)).mirrored .repro)

/-- `REPLAY_RECORD_READ` (R401). -/
def bodyReplayRecordRead (sel job : U8) (rp : U64) (offset length : U16) (c : Ctx) (s : State) : Answer :=
  let o := offset.toNat
  let n := length.toNat
  check [(decide (1 < sel.toNat ∨ c.se.largest < n + 12 ∨ 3680 < o + n) || (sel == 1 && !jobNumber job.toNat), .badArg)] s fun _ =>
    let hit := if sel = 0 then s.repro.records.find? fun r => r.rpSeq == rp.toNat && !r.isOpen else s.repro.records.find? fun r => r.job == job.toNat && r.isOpen
    match hit with
    | none => okay (i1 0 ++ zeros 3 ++ i8 0) s
    | some r =>
      let bytes := ((r.bytes s.straps.slotId.toNat).drop o).take n
      let s := if r.isOpen then s else (s.onRepro fun x => { x with records := x.records.map fun y => if y.rpSeq = r.rpSeq then { y with read := true } else y }).mirrored .repro
      okay (i1 (if r.isOpen then 1 else 2) ++ zeros 3 ++ i8 r.rpSeq ++ bytes) s

/-! Spare substitution (R398, R399) -/

/-- `SPARE_SUBSTITUTE`, kinds 0 and 1 (R398). -/
def bodySpareSubstitute (pkg kind source buffer : U8) (cores failed spare offset : U32) (_c : Ctx) (s : State) : Answer :=
  let n := pkg.toNat
  check [(decide (7 < n ∨ 1 < kind.toNat) || sourceBad source.toNat buffer.toNat offset.toNat, .badArg),
    (source == 1 && (nth s.link.buffers buffer.toNat).isNone, .stateConflict),
    (decide (2 ≤ countIf (fun x => x.pkg == n) s.repro.inForce), .noResource)] s fun _ =>
    match s.imageSource source.toNat buffer.toNat offset.toNat with
    | none => refuse (if source = 0 then .integrityFail else .stateConflict) s
    | some (o, content) =>
      let x : Substitution := { pkg := n, changed := kind == 1, coresAfter := cores.toNat, failed := failed, spare := spare, obj := o, content := content }
      accepted ((s.onRepro fun r => { r with pending := r.pending ++ [x] }).mirrored .repro)

/-- `SPARE_SUBSTITUTE`, kind 2: the removal takes effect at the next entry to ACC_ON (R398). -/
def bodySpareSubstituteRemove (pkg : U8) (_c : Ctx) (s : State) : Answer :=
  let n := pkg.toNat
  check [(decide (7 < n), .badArg)] s fun _ =>
    accepted ((s.onRepro fun r => { r with inForce := r.inForce.map fun x => if x.pkg = n then { x with ended := true } else x }).saveSettings.mirrored .repro)

/-- `SUBSTITUTION_START`: the package is in ACC_ON at LINK_UP and in no open job (R398, R403). -/
def execSubstitutionStart (pkg : U8) (s : State) : Host.Outcome State Fault Refusal :=
  let n := pkg.toNat
  .next (match s.repro.pending.find? fun x => x.pkg == n with
    | none => s
    | some x =>
      if s.isOwner && !s.restarting 11 && s.pushable n && nth s.repro.overlays n == [] && !s.inJob (1#8 <<< n) then
        let s := s.onRepro fun r => { r with pending := r.pending.erase x }
        if s.imageVerifies x.obj [6] then
          let (id, s) := s.startPush (1#8 <<< n) x.obj x.content true
          (s.onRepro fun r => { r with pushing := r.pushing ++ [(id, x)] }).mirrored .repro
        else ((s.loadFailed .fp3 x.obj x.obj.badBlock).substEvent x 2).mirrored .repro
      else s)

end Sys2Proof.Machine
end

