-- ==== Sys2Proof/Machine/Pair.lean ====
section
/-! DEFINITION. The redundant pair: ownership, heartbeat, mirror states and records, takeover and handover (15 R404-R426, 01 R20-R22, 03 R82-R83). -/

namespace Sys2Proof.Machine

open Sys2Proof

/-- Change the pair's part. -/
def State.onPair (s : State) (f : PairState → PairState) : State := { s with pair := f s.pair }

/-- Roles as a heartbeat and PAIR_STATUS name them (R414, R424). -/
def Role.code : Role → Nat
  | .standby => 0 | .owner => 1 | .undecided => 2

/-- Mirror states as numbers (R414). -/
def MirrorPhase.code : MirrorPhase → Nat
  | .detached => 0 | .syncing => 1 | .mirroring => 2

/-! What waits for the mirror acknowledgement (12 R343, 13 R379, 02 R55) -/

/-- Let go of the responses of a session that wait for records that `ok` names. -/
def State.releaseResponses (s : State) (p : Nat) (ok : Nat → Bool) : State :=
  match (s.port p).session with
  | none => s
  | some se =>
    let due := se.executing.filter fun e => e.mseq.any ok
    let s := s.onSession p fun se => { se with executing := se.executing.filter fun e => !e.mseq.any ok }
    due.foldl (fun s e => ((s.onSession p fun se => se.keep { reqId := e.reqId, body := e.body }).post p 0x11 e.body).closeAfter p e.reqId) s

/-- Let go of every reply, notification, queue answer and response that waits for a record that `ok` names, in order. -/
def State.releaseHeld (s : State) (ok : Nat → Bool) : State :=
  let out := s.sync.held.filter fun h => ok h.1
  let acks := s.link.heldAcks.filter fun h => ok h.1
  let s := s.onSync fun y => { y with held := y.held.filter fun h => !ok h.1 }
  let s := s.onLink fun l => { l with heldAcks := l.heldAcks.filter fun h => !ok h.1 }
  let s := out.foldl (fun s h => s.leave h.2) s
  let s := acks.foldl (fun s h => s.ethOut h.2) s
  [0, 1].foldl (fun s p => s.releaseResponses p ok) s

/-- Mirror records as a SYNCING copies them: one of each row of the table (R412, R413). -/
def bulkKinds : List MirKind := [.hub, .thyme, .grants, .tray, .sems, .op, .phase, .cool, .ledger, .host, .repro, .plan]

/-- The whole SRAM ring goes to the partner's ring (17 R457). -/
def State.sendRing (s : State) : State := s.rec_.ring.foldl (fun s r => s.sendRecordOf .events r.recSeq) s

/-- The times from record to acknowledgement of a list of records (R424). -/
def PairState.lagged (p : PairState) (done : List MirRecord) (gt : Nat) : PairState :=
  done.foldl (fun p r => { p with lagMax := max p.lagMax (gt - r.gt), lagSum := p.lagSum + (gt - r.gt), lagCount := p.lagCount + 1 }) p

/-- A cumulative acknowledgement (R410, R412, 12 R343). The bytes of the bulk items are free values (log entry 1). -/
def State.ackedTo (s : State) (n : Nat) : State :=
  let done := s.pair.outstanding.filter fun r => seqLe r.mseq n
  if done = [] then s
  else
    let bulk := s.pair.mstate == .syncing && decide (0 < s.pair.bulkLeft)
    let (k, s) := if bulk then s.draw else (0, s)
    let s := s.onPair fun p =>
      let p := { p with outstanding := p.outstanding.filter (fun r => !seqLe r.mseq n), acked := p.acked + done.length, mseqAcked := n }
      let left := p.bulkLeft - done.length
      (if bulk then { p with bulkLeft := left, bulkDone := if left = 0 then p.bulkTotal else (Config.freeWord k).toNat % (p.bulkTotal + 1) } else p).lagged done s.gt
    if s.isOwner then s.releaseHeld (fun m => seqLe m n) else [0, 1].foldl (fun s p => s.releaseResponses p fun m => seqLe m n) s

/-- `MIRROR_ACK_RECEIVE` (R410, 12 R343). -/
def execMirrorAckReceive (mseq : U32) (s : State) : Host.Outcome State Fault Refusal :=
  .next (if s.mirTrained then s.ackedTo mseq.toNat else s)

/-! Roles and mirror states -/

/-- Take a role: trace point 240, role messages and the partner path (R406, 13 R369). -/
def State.takeRole (s : State) (r : Role) : State :=
  if s.pair.role = r then s
  else
    let s := (s.onPair fun p => { p with role := r }).traced 240 s.position r.code
    (s.onLink fun l => { l with trayAddr := r == .owner }).sendRole.refreshPaths

/-- Enter a mirror state: trace point 242 (R411). -/
def State.toMirrorState (s : State) (m : MirrorPhase) : State :=
  if s.pair.mstate = m then s
  else
    let s := if m = .mirroring then { s with pins := { s.pins with shadowHold := none } } else s
    (s.onPair fun p => { p with mstate := m }).traced 242 0 m.code

/-- Release OWN_N: trace point 241 (R406). -/
def State.releaseOwn (s : State) : State :=
  if s.pair.pull then (s.onPair fun p => { p with pull := false }).traced 241 s.position 0 else s

/-- The OWNER stops keeping a copy at its partner: nothing waits any more, and a handover not yet final is cancelled (R415, R422, R426). -/
def State.detach (s : State) : State :=
  let s := s.toMirrorState .detached
  let s := s.onPair fun p => { p with outstanding := [], bulkLeft := 0, handover := match p.handover with | .accepted _ => .none | h => h }
  s.releaseHeld fun _ => true

/-- Ownership ends without a handover (R404, R407): OWN_N is released, ALIVE_OUT stops, and what still waits is left to the new OWNER. -/
def State.dropOwnership (s : State) : State :=
  let s := s.releaseOwn
  let s := s.onPair fun p => { p with qualifier := false, handover := .none, outstanding := [], bulkLeft := 0 }
  let s : State := { s with pins := { s.pins with aliveOut := false } }
  let s := s.onSync fun y => { y with held := [] }
  let s := s.onLink fun l => { l with heldAcks := [], trayAddr := false }
  let s := s.toMirrorState .detached
  if s.pair.role = .undecided then s else ((s.onPair fun p => { p with role := .undecided }).traced 240 s.position 2).refreshPaths

/-! Held values at a new set of bounds (01 R20, R418) -/

/-- Clamp every held value to the limit block in force. -/
def State.reclamp (s : State) : State :=
  let s := (indices 192 fun c => (s.rail c).used && decide ((s.railLimit c).vsetMax < (s.rail c).outMv)).foldl (fun s c =>
    (s.writeSetpoint c (s.railLimit c).vsetMax (s.rail c).map.setBus .sage)) s
  let lim := s.sage.limits
  let s := s.onSage fun g => { g with buses := g.buses.map fun q => q.map fun w => w.clamped lim }
  let s := s.onOp fun o => { o.capped lim with
    ceil := max o.ceil lim.fastestP, classCeil := max o.classCeil lim.fastestP }
  let s := s.onPhase fun p => { p with latched := p.regs.mapIdx fun i v => v.bind fun x => lim.latch i x }
  let s := s.onFeeds fun c => { c with feeds := c.feeds.mapIdx fun x f =>
    let l := nth lim.feeds x
    { f with
      breaker := { f.breaker with
        cmpA := min f.breaker.cmpA l.cmpCeil
        curve := f.breaker.curve.mapIdx fun k q => { q with iA := min q.iA (nth l.envelope k).iA, tUs := min q.tUs (nth l.envelope k).tUs } } } }
  s.onCool fun c => { c with
    fans := c.fans.mapIdx fun i m => { m with duty := max m.duty (nth lim.fanFloor i) }
    pumps := c.pumps.mapIdx fun i m => { m with duty := max m.duty (nth lim.pumpFloor i) } }

/-! The claim (R406, R418, R421) -/

/-- The hub restarts without a partner's copy (01 R22): event 0x0801 S3. -/
def State.clearHub (s : State) : State :=
  let s := s.onSync fun y =>
    { tray := y.tray, hangS := y.hangS, sent := y.sent, applied := y.applied, dups := y.dups, eccCorr := y.eccCorr, eccUnc := y.eccUnc, refused := y.refused }
  s.event .hub 0x0801 3 0 []

/-- Nets released here that read low while they are shadow driven: offs that the failed OWNER granted and did not mirror (R418). -/
def State.adopted (s : State) (levels : BitVec 103) : BitVec 103 := s.ownDrive &&& ~~~levels &&& shadowNets

/-- Adopt the offs of the failed OWNER: event 0x0B06 S1, trace point 244 (R418). -/
def State.adoptOffs (s : State) (levels : BitVec 103) : State :=
  let nets := s.adopted levels
  if nets = 0 then s
  else
    let s := (indices 103 nets.getLsbD).foldl (fun s k => (s.netOff k).traced 244 k 1) s
    s.event .mirror 0x0B06 1 0 (leBytes 16 nets.toNat)

/-- Running contexts start their current step again (06 R167). -/
def ThymeCtx.resume (c : ThymeCtx) (gt : Nat) : ThymeCtx :=
  if c.prog.isSome then { c with inStep := false, stepTick := gt, busWait := [], resumed := true } else c

/-- Record flag 5 on every account: its interval holds a takeover (11 R314). -/
def LedgerState.takenOver (l : LedgerState) : LedgerState :=
  let f := fun (a : Account) => { a with flags := a.flags ||| 0x20#8 }
  { l with accounts := l.accounts.map f, overhead := f l.overhead, residual := f l.residual, overflow := f l.overflow, total := f l.total }

/-- The keys' own frame sequence goes on 2^24 further (13 R376). -/
def HostKeyState.continued (k : HostKeyState) : HostKeyState := { k with tx := k.tx + 2 ^ 24 }

/-- The host path at a new OWNER: frame sequences, delivery after what the link acknowledged, pushes from BEGIN (13 R376, R381, R383). -/
def LinkState.takenOver (l : LinkState) : LinkState :=
  { l with
    ctxKeys := l.ctxKeys.map HostKeyState.continued, queueKeys := l.queueKeys.map HostKeyState.continued, imageKeys := l.imageKeys.map HostKeyState.continued
    queues := l.queues.map fun q => { q with delivered := q.c }
    pushes := l.pushes.map fun p => { p with next := 0, ended := false, done := 0 } }

/-- Send again what the mirror shows as issued and not acknowledged by the receiving link (12 R344): trace point 245. -/
def State.resendHeld (s : State) : State :=
  let old := s.sync.issued
  let s := (s.traced 245 0 (old.length + s.sync.held.length)).onSync fun y => { y with issued := [] }
  (old.foldl (fun s o => s.leave o) s).releaseHeld fun _ => true

/-- BEGIN again for every push in progress (13 R383). -/
def State.restartPushes (s : State) : State :=
  s.link.pushes.foldl (fun s p => (members p.mask).foldl (fun s n => s.skvSend n 6 (imgMessage 1 p.id (digestBytes p.obj.man.digest))) s) s

/-- What a new OWNER does with the state it holds (R418): bounds, Thyme, hub, host path, ledger flags, the slower of the two th (10 R286), throttle. -/
def State.resumeAsOwner (s : State) : State :=
  let s := s.reclamp
  let s := s.onThyme fun t => { t with ctxs := t.ctxs.map fun c => c.resume s.gt }
  let s := s.onLedger LedgerState.takenOver
  let s := s.onRepro fun r => { r with records := r.records.map fun x => if x.isOpen then { x with flags := x.flags ||| 32#16 } else x }
  let s := s.onLink LinkState.takenOver
  let s := s.onCool fun c => { c with th := max c.th c.partnerTh, partnerTh := 0 }
  let s := s.onOp fun o => { o with resendDue := true, throttle := if o.slow then .waitHigh else o.throttle, highSince := if o.slow then none else o.highSince }
  s.resendHeld.restartPushes.deliverAll

/-- The degradations of a claim while the copy was not complete (R421, 01 R21, R22). -/
def State.degrade (s : State) : State :=
  let s := (s.clearHub.ledgerStart false).onPair fun p => { p with fromPartner := false }
  (indices 9 fun k => s.runs k).foldl (fun s k => s.abortSage (if k = 0 then 15 else k - 1) k) s

/-- A claim by a governor whose ledger was to come from a partner that has not given it: the journal restores it (01 R21, 11 R310). -/
def State.ledgerOwn (s : State) (item : Nat) : State :=
  if s.pair.fromPartner ∧ !(s.pair.role = .standby ∧ item = 1) then (s.ledgerStart false).onPair fun p => { p with fromPartner := false } else s

/-- A new OWNER answers the semaphore commands that it had forwarded and whose answer the old one has not given: BUSY (02 R53, R55; log entry 55). -/
def State.answerForwarded (s : State) : State :=
  [0, 1].foldl (fun s p =>
    let q := s.port p
    let mine := match q.session with
      | some se => (se.executing.filter fun e => e.mseq.isNone && ofLe (e.body.take 2) / 16 == 1).map fun e => (se.id, e.reqId)
      | none => []
    (mine ++ q.orphans.map fun o => (o.1, o.2.reqId)).foldl (fun s x => s.lateAnswer p x.1 x.2 .busy []) s) s

/-- Pull OWN_N and become OWNER (R406, 13 R374): trace point 241 with the item of the rule. -/
def State.claim (s : State) (item : Nat) : State :=
  let s := s.ledgerOwn item
  let s : State := { s with pins := { s.pins with shadowHold := none } }
  let s := s.onPair fun p => { p with pull := true, claimGt := some s.gt, releaseAt := none, shadowReleased := false, lostPending := false,
                                      takeovers := if item = 1 then satAdd 32 p.takeovers 1 else p.takeovers }
  let s := (s.traced 241 s.position item).mirOut .claim
  ((s.takeRole .owner).answerForwarded.ethOut .gratuitousArp).ethOut (.neighbourAdvert true false)

/-- Leak confirmed and not yet acted on by the failed OWNER: the leak program starts if it is due (R426). -/
def State.leakDue (s : State) : State :=
  if ((s.cool.zones.any fun z => z.grade == .confirmed) || s.thyme.latchLeak) && s.thyme.emergency.isNone then s.leakActs true else s

/-- A takeover under item 1 (R418, R421). -/
def State.takeover (s : State) (levels : BitVec 103) : State :=
  let m := s.pair.mstate
  let mseq := s.pair.mseqApplied
  let s := s.claim 1
  let s := s.event .mirror 0x0B01 (if m = .mirroring then 2 else 3) 0 (i8 mseq ++ i1 m.code)
  let s := s.onPair fun p => { p with mseqSent := mseq, mseqAcked := mseq, outstanding := [], handover := .none }
  let s := s.toMirrorState .detached
  let s := s.adoptOffs levels
  let s := if m = .mirroring then s else s.degrade
  s.resumeAsOwner.leakDue

/-- A start-up claim: the governor alone begins from what it has (03 R83, 01 R22). -/
def State.firstClaim (s : State) (item : Nat) : State :=
  let s := s.claim item
  if s.clk.porBoot then s else s.clearHub

/-- The partner's claim by handover (R423): no adopted offs, event 0x0B04 S0. -/
def State.claimHandover (s : State) : State :=
  let mseq := s.pair.mseqApplied
  let s := s.claim 3
  let s := s.event .mirror 0x0B04 0 0 (i1 0 ++ i1 0)
  let s := s.onPair fun p => { p with mseqSent := mseq, mseqAcked := mseq, outstanding := [], handover := .none, handovers := satAdd 32 p.handovers 1 }
  (s.traced 246 0 3).resumeAsOwner

/-- OWN_N has read high for `n` ticks (R406). -/
def State.ownHigh (s : State) (n : Nat) : Bool := !s.pair.ownLow && s.since s.pair.ownSince n

/-- The partner counts as not ALIVE for a claim (R405, 03 R83). -/
def State.partnerGone (s : State) : Bool :=
  if s.pair.role = .undecided ∧ s.clk.phase ≠ .running then s.pair.alone else !s.pair.alive

/-- Item 3 of R406 holds (R423). -/
def State.handoverTarget (s : State) : Bool :=
  match s.pair.handover with
  | .target t m => decide (s.gt ≤ t + 200) && seqLe m s.pair.mseqApplied
  | _ => false

/-- `OWNERSHIP_CLAIM`: a claim in a tick in which R406 allows one; `levels` are the nets as they read. -/
def execOwnershipClaim (levels : BitVec 103) (s : State) : Host.Outcome State Fault Refusal :=
  .next (if s.pair.qualifier && s.pair.role != .owner && s.ownHigh (if s.position = 0 then 20 else 40) then
    if s.handoverTarget then s.claimHandover
    else if s.partnerGone then (if s.pair.role = .standby then s.takeover levels else s.firstClaim 1)
    else if s.position = 0 ∧ s.pair.alive ∧ s.since s.pair.aliveOutSince 1000 ∧ s.ownHigh 1000 then
      (if s.pair.role = .standby then (s.claim 2).resumeAsOwner else s.firstClaim 2)
    else s
  else s)

/-- `CLAIM_RECORD`: claims that cross; position B gives way: event 0x0B05 S3 (R406). -/
def execClaimRecord (s : State) : Host.Outcome State Fault Refusal :=
  .next (match s.pair.claimGt with
    | some c =>
      if s.mirTrained ∧ s.position = 1 ∧ s.isOwner ∧ s.gt ≤ c + 10 then
        (s.releaseOwn.takeRole .standby).event .mirror 0x0B05 3 0 (i4 (s.gt - c))
      else s
    | none => s)

/-- `OWN_N_LOW_STANDBY`: OWN_N low for 20 ticks without an own pull (R406); it also completes a handover here (R423). -/
def execOwnNLowStandby (s : State) : Host.Outcome State Fault Refusal :=
  .next (if s.pair.qualifier ∧ s.pair.ownLow ∧ !s.pair.pull ∧ s.since s.pair.ownSince 20 then
    let s := match s.pair.handover with
      | .released _ port =>
        let s := (s.onSync fun y => { y with held := [] }).onLink fun l => { l with heldAcks := [] }
        ((s.onPair fun p => { p with handover := .none, handovers := satAdd 32 p.handovers 1 }).event .mirror 0x0B04 0 0 (i1 0 ++ i1 port)).traced 246 0 3
      | _ => s
    if s.pair.role = .undecided then (s.onSync fun y => { y with awaitCopy := true }).takeRole .standby else s
  else s)

/-! Heartbeat and ALIVE (R404, R405, R414) -/

/-- The heartbeat that this governor sends now (R414). -/
def State.heartbeat (s : State) : MirOut :=
  let p := s.pair
  .heartbeat p.role.code p.mstate.code s.cool.th (s.cool.zones.any fun z => z.grade == .confirmed) s.sage.holdThermal p.mseqApplied s.gt p.hbEcho (p.hbRx.getD 0)

/-- `HEARTBEAT_SEND`: every 10 µs the mirror engine generates a heartbeat, sent while MIR is trained (R404, R414). -/
def execHeartbeatSend (s : State) : Host.Outcome State Fault Refusal :=
  let p := s.pair
  .next (if s.clk.source = .pll ∧ !s.clk.coreInReset ∧ s.firmwareRuns ∧ p.hbGen.all (fun t => s.since t 10) = true then
    let s := s.onPair fun p => { p with hbGen := some s.gt, qualifier := true, aliveOutSince := if p.qualifier then p.aliveOutSince else s.gt }
    if s.mirTrained then s.mirOut s.heartbeat else s
  else s)

/-- `QUALIFIER_DROP`: no heartbeat generated for 40 µs (R404). -/
def execQualifierDrop (s : State) : Host.Outcome State Fault Refusal :=
  .next (if s.pair.qualifier ∧ s.pair.hbGen.all (fun t => decide (t + 40 < s.gt)) = true then s.dropOwnership else s)

/-- The partner offset of R414, truncated toward zero. -/
def partnerOffset (gtSend r echoRx echo : Nat) : Int := tdiv (((gtSend : Int) - r) + ((echoRx : Int) - echo)) 2

/-- The mirror state that the STANDBY follows (R411). -/
def MirrorPhase.follow (own : MirrorPhase) (owner : Nat) : MirrorPhase :=
  match owner, own with
  | 1, _ => .syncing
  | 2, .syncing => .mirroring
  | 2, m => m
  | _, _ => .detached

/-- Heartbeats missed in an interval: trace point 243 (R424). -/
def State.missed (s : State) : State :=
  match s.pair.hbRx with
  | some t => if 20 ≤ s.gt - t then (s.onPair fun p => { p with hbMissed := satAdd 32 p.hbMissed ((s.gt - t) / 10 - 1) }).traced 243 0 (s.gt - t) else s
  | none => s

/-- `HEARTBEAT_RECEIVE` (R410, R414, 10 R282). -/
def execHeartbeatReceive (hb : Heartbeat) (s : State) : Host.Outcome State Fault Refusal :=
  .next (if s.mirTrained ∧ !s.clk.coreInReset then
    let s := s.missed
    let s := s.onPair fun p => { p with hbRx := some s.gt, hbEcho := hb.gtSend.toNat, offset := partnerOffset hb.gtSend.toNat s.gt hb.echoRx.toNat hb.echo.toNat }
    let s := s.onCool fun c => { c with partnerTh := hb.th.toNat }
    if s.pair.role = .standby ∧ hb.role = 1 then
      let m := s.pair.mstate.follow hb.mstate.toNat
      if s.pair.mstate ≠ .syncing ∧ m = .syncing then ((s.onPair fun p => { p with bulkDone := 0, bulkLeft := 1 }).toMirrorState m).sendRing
      else s.toMirrorState m
    else s.ackedTo hb.ack.toNat
  else s)

/-- `PARTNER_ALIVE`: ALIVE_IN changes level again (R405). -/
def execPartnerAlive (s : State) : Host.Outcome State Fault Refusal :=
  .next (if !s.pair.alive ∧ s.aliveInRecent then (s.onPair fun p => { p with alive := true, aliveSince := some s.gt }).refreshPaths else s)

/-- `PARTNER_NOT_ALIVE`: ALIVE_IN has not changed level for 8 ticks (R405). -/
def execPartnerNotAlive (s : State) : Host.Outcome State Fault Refusal :=
  .next (if s.pair.alive ∧ !s.aliveInRecent then
    (s.onPair fun p => { p with alive := false, aliveSince := none, lostPending := s.isOwner, hbRx := none }).refreshPaths
  else s)

/-- `PARTNER_LOST_AT_OWNER`: event 0x0B07 S2 (R422). -/
def execPartnerLostAtOwner (s : State) : Host.Outcome State Fault Refusal :=
  .next (if s.isOwner ∧ s.pair.lostPending ∧ !s.pair.alive then
    ((s.onPair fun p => { p with lostPending := false }).event .mirror 0x0B07 2 0 (i1 s.pair.mstate.code)).detach
  else s)

/-! Mirror states (R411-R415) -/

/-- `STRAP_EXCHANGE`: straps, protocol generations and limit blocks compared: events 0x0B10, 0x0B11 S2, 0x0B12 S1 (03 R82, R411). -/
def execStrapExchange (partner : PartnerStraps) (s : State) : Host.Outcome State Fault Refusal :=
  .next (if s.mirTrained ∧ !s.clk.coreInReset then
    let ok := partner.slotId == s.straps.slotId && partner.coolMode == s.straps.coolMode && partner.pairSel != s.straps.pairSel
    let own := s.runningManifest.mirrorProto
    let other := partner.proto.toNat
    let far := decide (own + 1 < other ∨ other + 1 < own)
    let s := s.onPair fun p => { p with
      strapsOk := some ok, protoPartner := other, limitsDiffer := !partner.limitsEqual, partnerSerial := partner.serial, partnerFw := partner.fw.toNat }
    let s := if ok then s else s.event .mirror 0x0B10 2 0 []
    let s := if far then s.event .mirror 0x0B11 2 0 [] else s
    if partner.limitsEqual then s else s.event .mirror 0x0B12 1 0 []
  else s)

/-- The conditions of R411 for SYNCING hold, with a heartbeat (R415). -/
def State.maySync (s : State) : Bool :=
  let p := s.pair
  let own := s.runningManifest.mirrorProto
  s.isOwner && p.mstate == .detached && p.alive && s.mirTrained && p.strapsOk == some true
    && decide (own ≤ p.protoPartner + 1 ∧ p.protoPartner ≤ own + 1) && p.hbRx.any (fun t => decide (s.gt ≤ t + 50)) && !s.restarting 13

/-- `SYNCING_START`: the bulk copy begins; its length in bytes is a free value (R411, R412). -/
def execSyncingStart (s : State) : Host.Outcome State Fault Refusal :=
  .next (if s.maySync then
    let (k, s) := s.draw
    let s := s.onPair fun p => { p with
      bulkLeft := bulkKinds.length + s.rec_.ring.length, bulkDone := 0, bulkTotal := (Config.freeWord k).toNat, syncGt := s.gt, proto := min s.runningManifest.mirrorProto p.protoPartner
      outstanding := [] }
    (bulkKinds.foldl (fun s k => s.sendRecord k) (s.toMirrorState .syncing)).sendRing
  else s)

/-- `MIRRORING_ENTRY`: the last item has been acknowledged: event 0x0B02 S0 (R412). -/
def execMirroringEntry (s : State) : Host.Outcome State Fault Refusal :=
  .next (if s.isOwner ∧ s.pair.mstate = .syncing ∧ s.pair.bulkLeft = 0 ∧ !s.restarting 13 then
    (s.toMirrorState .mirroring).event .mirror 0x0B02 0 0 (i4 s.pair.bulkDone ++ i4 ((s.gt - s.pair.syncGt) / 1000))
  else s)

/-- `MIRROR_LOSS`: no heartbeat for 50 µs, or MIR down, with the partner ALIVE: event 0x0B03 S2 (R415). -/
def execMirrorLoss (s : State) : Host.Outcome State Fault Refusal :=
  let silent := s.pair.hbRx.all fun t => s.since t 50
  .next (if s.pair.mstate ≠ .detached ∧ s.pair.alive ∧ s.pair.role ≠ .undecided ∧ (silent = true ∨ !s.mirTrained) then
    ((s.onPair fun p => { p with losses := satAdd 32 p.losses 1 }).event .mirror 0x0B03 2 0 (i1 (flag !s.mirTrained))).detach
  else s)

/-! Records applied at the STANDBY (R410, R413) -/

/-- A GT of the partner as this governor's own: less the partner offset (R414; log entry 53). -/
def State.ownTime (s : State) (t : Nat) : Nat := ((t : Int) - s.pair.offset).toNat

/-- What the pair keeps of the shared nets while it does not mirror: they stay as they are driven (R415, 18 R474). -/
def State.keepNets (s : State) : State :=
  if s.pair.mstate = .mirroring ∨ s.pins.shadowHold.isSome then s
  else { s with pins := { s.pins with shadowHold := some (~~~s.pulls &&& shadowNets) } }

/-- Rails as the OWNER has granted them: one that a latch of this governor holds off stays off (07 R194, R207). -/
def State.mirrorRails (s : State) (rails : List Nat) (setpoints : List (Nat × Nat × Int)) : List Rail :=
  s.sage.rails.mapIdx fun c r =>
    let r := if rails.contains c && !s.heldOff (.rail c) then (if r.granted then r else { r with granted := true, pollFails := 0 }) else if r.granted then r.goesOff else r
    match setpoints.find? fun p => p.1 == c with
    | some (_, mv, steps) => { r with nominal := some mv, margin := steps }
    | none => r

/-- Grants as mirrored: the STANDBY's own drive follows the OWNER's, less what its own latches hold off (R416, 07 R194, R202). -/
def State.takeGrants (s : State) (rails : List Nat) (setpoints : List (Nat × Nat × Int)) (duties budgets : List Nat) (ceil : Nat) (nets : BitVec 103) : State :=
  let s := s.keepNets
  let free := fun (t : EnableTarget) (k : Nat) => nets.getLsbD k && !s.heldOff t
  let tray := !s.sage.holdFault && !s.sage.holdThermal
  let rails := s.mirrorRails rails setpoints
  let branches := bitsOf 12 ((List.range 12).map fun b => free (.branch b) (64 + b))
  let accReset := bitsOf 8 ((List.range 8).map fun n => free (.accReset n) (76 + n))
  let pwrok := bitsOf 8 ((List.range 8).map fun n => free (.accReset n) (84 + n))
  let s := s.onSage fun g => { g with rails := rails, branches := branches, accReset := accReset }
  let s := s.onThyme fun t => { t with pwrok := pwrok, trayPg := nets.getLsbD 92 && tray }
  let s := s.onCool fun c => { c with
    fans := c.fans.mapIdx fun i m => { m with duty := duties.getD i m.duty }
    pumps := c.pumps.mapIdx fun i m => { m with duty := duties.getD (16 + i) m.duty } }
  let s := s.onOp fun o => { o with budgetSent := budgets, ceil := ceil }
  s.onPair fun p => { p with shadowReleased := false, mirNets := nets }

/-- The OWNER's ledger: accounts, chain and journal entries; the accumulators and the device stay this governor's own (11 R314). -/
def LedgerState.copied (l st : LedgerState) : LedgerState :=
  { st with
    fineFeed := l.fineFeed, fineBranch := l.fineBranch, feedSince := if st.cpSeq = l.cpSeq then l.feedSince else [0, 0], tickGt := l.tickGt, dies := l.dies, w := l.w, queue := l.queue
    uncredited := l.uncredited, fallbackMs := l.fallbackMs, journal := l.journal, badReads := l.badReads, dev := { st.dev with sizeMbit := l.dev.sizeMbit, header := { st.dev.header with sizeMbit := l.dev.sizeMbit } } }

/-- A model action of the OWNER (09 R253): 1 a commit, with the container, which is verified and stored here too; 2 start; 3 stop. -/
def State.followModel (s : State) (slot action : Nat) (model : StoredModel) : State :=
  match action with
  | 1 =>
    let s := s.onPhase fun p => { p with stored := p.stored.set slot (some model) }
    let s := s.loadSlot slot model
    if (s.slot slot).phase = .empty then s else s.marker slot 1
  | 2 => if (s.slot slot).phase = .loaded then s.startModel slot else s
  | 3 => if (s.slot slot).phase = .running then s.stopModel slot 0 else s
  | _ => s

/-- The effect that releasing a semaphore has beyond freeing it, at a governor with `own` set where its session held it: the update transfer, a recovery boot and debug access are the governor's own (02 R61). -/
def State.released (s : State) (id port : Nat) (own : Bool) : State :=
  match id with
  | 0 => s.onThyme fun t => { t with staging := none }
  | 2 => s.restoreMargins
  | 5 => s.onPhase fun p => { p with staging := none }
  | 6 => s.endOverrides
  | 11 => s.onPair fun p => { p with handover := match p.handover with | .accepted _ => .none | h => h }
  | 12 => if !own then s else { s with upd := { s.upd with phase := if s.upd.phase = .receiving then .idle else s.upd.phase, cfgWrite := none } }
  | 13 => if !own then s else { s with clk := { s.clk with recoveryAt := none } }
  | 14 => if !own then s else if s.sec.unlock.scope = 0 then s else { s with sec := { s.sec with unlock := { s.sec.unlock with scope := 0, lockAt := none } } }.event .fp2 0x0C0A 0 port []
  | 15 => (s.onRepro fun r => { r with pending := [] }).mirrored .repro
  | _ => s

/-- The semaphores as the OWNER has them: one that a session here held and that is free there is released here too (02 R61). -/
def State.takeSems (s : State) (holders : List (Option SemHolder)) : State :=
  let freed := [12, 13, 14].filter fun id => (nth s.sems id).any (fun h => h.pos == s.position) && (nth holders id).isNone
  let own := fun (h : SemHolder) => { h with leaseEnd := s.ownTime h.leaseEnd }
  freed.foldl (fun t id => t.released id (((nth s.sems id).map fun h => h.port).getD 0) true) { s with sems := (List.range 16).map fun id => (nth holders id).map own }

/-- What mirrored contexts and states say of an emergency program: whether one runs, and whether a leak's program is still to end (06 R163, 10 R280). -/
def ThymeState.followed (t : ThymeState) : ThymeState :=
  let prog := (nth t.ctxs 0).prog
  { t with
    emergency := if prog = some t.set.leak then some .leak else if prog = some t.set.inputLoss then some .inputLoss else none
    leakAfter := t.latchLeak && (t.tray == .poweringUp || t.tray == .on || t.tray == .maintenance || (t.tray == .poweringDown && prog.isSome)) }

/-- A context with its times on another governor's clock. -/
def ThymeCtx.shifted (c : ThymeCtx) (f : Nat → Nat) : ThymeCtx :=
  { c with stepTick := f c.stepTick, progTick := f c.progTick, launches := c.launches.map fun l => (l.1, f l.2), endTick := c.endTick.map f }

/-- The hub's state with its times on another governor's clock. -/
def SyncState.shifted (y : SyncState) (f : Nat → Nat) : SyncState :=
  { y with
    parked := y.parked.map fun p => { p with gt := f p.gt }
    barriers := y.barriers.map fun b => { b with since := b.since.map f }
    remotes := y.remotes.map fun r => { r with gt := f r.gt }
    remoteOut := y.remoteOut.map fun r => { r with gt := f r.gt }
    treeOut := y.treeOut.map fun x => { x with gt := f x.gt } }

/-- Mirrored contexts, requests and what waits (06 R160, R162, R163, R167). -/
def State.takeThyme (s : State) (ctxs : List ThymeCtx) (requests : List (PowerRequest × Nat)) (autoOn : Bool) (prog : ProgramSet) (deferredUp : Bool)
    (accMinOff : List (Option Nat)) (due : Option EmergencyKind) : State :=
  s.onThyme fun t => ({ t with
    ctxs := ctxs.map fun c => c.shifted s.ownTime, requests := requests.map fun r => (r.1, s.ownTime r.2), autoOn := autoOn, set := prog
    deferredUp := deferredUp, accMinOffEnd := accMinOff.map fun t => t.map s.ownTime, emergencyDue := due } : ThymeState).followed

/-- Accelerators as a mask. -/
def faultMask (accs : List AccState) : BitVec 8 := bitsOf 8 (accs.map fun a => a == .fault)

/-- Latches that the OWNER has cleared are cleared here, with what they held off (00 R12, 07 R194; log entry 52). -/
def State.followClears (s : State) (accs : List AccState) (fault : Bool) : State :=
  let gone := s.pair.mirAccs &&& ~~~faultMask accs
  let s := s.onSage fun g => { g with holdFault := g.holdFault && !(s.pair.mirFault && !fault), holdBranch := g.holdBranch &&& ~~~gone }
  s.onPair fun p => { p with mirFault := fault, mirAccs := faultMask accs }

/-- The mirrored feed demand and FORCED_OFF act on this governor's own feed switches (05 R112, R114, R141). -/
def State.takeFeeds (s : State) (demand : Bool) (forced : List Bool) : State :=
  let follow := fun (x : Nat) (f : Feed) => if forced.getD x f.forced == f.forced then f else if f.forced then { f with forced := false } else f.force
  let s := s.onFeeds fun c => { c with feeds := c.feeds.mapIdx follow }
  if demand = s.feed.demand then s.feedsSettle else if demand then s.setDemand else s.clearDemand

/-- The mirrored tray, accelerator and feed demand state; what this governor's own Sage has latched stays (00 R12, R13, 07 R194, R207; log entry 52). -/
def State.takeTray (s : State) (tray : TrayState) (accs : List AccState) (demand fault leak : Bool) (forced : List Bool) (minOff : Option Nat) (afterInputLoss : Bool) : State :=
  let s := s.followClears accs fault
  let accs := accs.mapIdx fun n a => if s.sage.holdBranch.getLsbD n then .fault else a
  let s := s.onThyme fun t => ({ t with
    tray := tray, accs := accs, latchFault := fault || s.sage.holdFault, latchLeak := leak
    minOffEnd := minOff.map s.ownTime, afterInputLoss := afterInputLoss } : ThymeState).followed
  (s.takeFeeds demand forced).throttleIdle.refreshSensors

/-- The mirrored operating point: changes sent and not yet applied everywhere are what a report may still name (08 R210, R219, R222, R224). -/
def OpState.mirrored (o : OpState) (pNow ceil capCeil up : Nat) (armed : List ArmedChange) (chgSeq trayCapW : Nat) (feedCapA : List Nat) (guard : Nat) (budget pref : List Nat) : OpState :=
  let base := match armed.head? with
    | some a => (a.seq + 2 ^ 32 - 1) % 2 ^ 32
    | none => chgSeq
  let done := fun n => (armed.filter fun a => a.applied.getLsbD n).getLast?
  { o with
    pNow := pNow, ceil := ceil, capCeil := capCeil, up := up, armed := armed, chgSeq := chgSeq, trayCapW := trayCapW, feedCapA := feedCapA, guard := guard
    budget := budget, pref := pref
    lastSent := some ((armed.getLast?.map fun a => a.p).getD pNow)
    history := (base, pNow) :: armed.map fun a => (a.seq, a.p)
    applied := (List.range 8).map fun n => ((done n).map fun a => a.p).getD pNow
    appliedSeq := (List.range 8).map fun n => some (((done n).map fun a => a.seq).getD base) }

/-- The phase engine as a copy brings it: phase table and accumulators, slots with their regions, and the frame number (09 R249, R253, R261). -/
def PhaseState.copied (p : PhaseState) (table : List (Nat × PhaseEntry)) (acc : List PhaseAcc) (slots : List ModelSlot) (order : List Nat) (frameNo : Nat) : PhaseState :=
  { p with table := table, acc := acc, slots := slots, order := order, frameNo := frameNo, snapDue := true }

/-- What the STANDBY takes over from a record (R413). -/
def State.takeRecord (s : State) : MirContent → State
  | .hub st => s.onSync fun y => { st.shifted s.ownTime with sent := y.sent, awaitCopy := false }
  | .thyme ctxs requests autoOn prog deferredUp accMinOff due => s.takeThyme ctxs requests autoOn prog deferredUp accMinOff due
  | .grants rails setpoints duties budgets ceil nets => s.takeGrants rails setpoints duties budgets ceil nets
  | .tray tray accs demand fault leak forced minOff afterInputLoss => s.takeTray tray accs demand fault leak forced minOff afterInputLoss
  | .sems holders => s.takeSems holders
  | .op pNow ceil capCeil up armed chgSeq trayCapW feedCapA guard budget pref =>
    s.onOp fun o => (o.mirrored pNow ceil capCeil up armed chgSeq trayCapW feedCapA guard budget pref).capped s.sage.limits
  | .phaseAction slot action model => if slot < 8 then s.followModel slot action model else s
  | .phaseState table acc slots order frameNo => s.onPhase fun p => p.copied table acc slots order frameNo
  | .cool fanI pumpI fanOv pumpOv valveOv levels graceMs =>
    s.onCool fun c => { c with
      levels := levels, graceMs := graceMs
      fanLoop := { c.fanLoop with integ := fanI }, pumpLoop := { c.pumpLoop with integ := pumpI }
      fans := c.fans.mapIdx fun i m => { m with override := fanOv.getD i none }
      pumps := c.pumps.mapIdx fun i m => { m with override := pumpOv.getD i none }
      valves := c.valves.mapIdx fun i v => { v with override := valveOv.getD i false } }
  | .ledger st => (s.onLedger fun l => l.copied st).onPair fun p => { p with fromPartner := false }
  | .host keys queueKeys imageKeys queues buffers pushes =>
    s.onLink fun l => { l with ctxKeys := keys, queueKeys := queueKeys, imageKeys := imageKeys, queues := queues, buffers := buffers, pushes := pushes }
  | .repro st => s.onRepro fun _ => st
  | .plan plan => { s with upd := { s.upd with plan := plan }.settled }
  | .events r => { s with rec_ := { s.rec_ with
      partner := trimOldest EventRec.size (s.rec_.partnerBytes / 32) ((s.rec_.partner.filter fun x => x.recSeq != r.recSeq) ++ [r]) } }
  | .semAnswer port session reqId status payload => s.lateAnswer port session reqId status payload
  | .bulkItem bytes => s.onPair fun p => { p with bulkDone := p.bulkDone + bytes }
  | .path pkg cls body => if pkg < 8 then s.portSend pkg cls body else s

/-- A record outside the sequence: the OWNER's answer to a forwarded semaphore command, which is taken while no copy is kept as well (02 R55). -/
def MirContent.unnumbered : MirContent → Bool
  | .semAnswer .. => true
  | _ => false

/-- A recorder record, which either governor takes from the other (17 R457). -/
def MirContent.recorder : MirContent → Bool
  | .events _ => true
  | _ => false

/-- `MIRROR_RECORD_APPLY`: the STANDBY applies the next record in `mseq` order and acknowledges it (R410); the first of a copy sets the sequence. The OWNER takes the STANDBY's recorder records (17 R457). -/
def execMirrorRecordApply (mseq : U32) (content : MirContent) (s : State) : Host.Outcome State Fault Refusal :=
  let p := s.pair
  .next (if p.role = .standby ∧ s.mirTrained ∧ p.mstate = .detached ∧ content.unnumbered then s.takeRecord content
  else if p.role = .owner ∧ s.mirTrained ∧ p.mstate ≠ .detached ∧ content.recorder then
    ((s.takeRecord content).onPair fun p => { p with mseqApplied := mseq.toNat }).mirOut (.recordAck mseq.toNat)
  else if p.role = .standby ∧ s.mirTrained ∧ p.mstate ≠ .detached ∧ (mseq.toNat = (p.mseqApplied + 1) % 2 ^ 32 ∨ (p.mstate = .syncing ∧ p.bulkLeft = 1)) then
    let s := (s.takeRecord content).saveSettings
    (s.onPair fun p => { p with mseqApplied := mseq.toNat, bulkLeft := 0 }).mirOut (.recordAck mseq.toNat)
  else s)

/-- `SHADOW_DRIVE_RELEASE`: 50 µs after giving up ownership (R417). -/
def execShadowDriveRelease (s : State) : Host.Outcome State Fault Refusal :=
  .next (match s.pair.releaseAt with
    | some t => if t ≤ s.gt then s.onPair fun p => { p with releaseAt := none, shadowReleased := true } else s
    | none => s)

/-! Planned handover (R423) -/

/-- `HANDOVER_RELEASE`: the final record, and OWN_N released, at a control tick boundary (R423). -/
def execHandoverRelease (s : State) : Host.Outcome State Fault Refusal :=
  .next (match s.pair.handover with
    | .accepted port =>
      if s.isOwner ∧ s.pair.mstate = .mirroring ∧ s.gt % 50 = 0 then
        let s := (s.mirOut (.handover s.pair.mseqSent)).releaseOwn
        ((s.onPair fun p => { p with handover := .released s.gt port }).takeRole .standby).traced 246 0 1
      else s
    | _ => s)

/-- `HANDOVER_RECORD`: the target holds the final record (R423). -/
def execHandoverRecord (mseq : U32) (s : State) : Host.Outcome State Fault Refusal :=
  .next (if s.pair.role = .standby ∧ s.mirTrained ∧ s.pair.mstate = .mirroring then
    (s.onPair fun p => { p with handover := .target s.gt mseq.toNat }).traced 246 0 2
  else s)

/-- `HANDOVER_ABANDON`: no claim in 1,000 ticks of high OWN_N; the former OWNER claims again: event 0x0B04 S1 (R423). -/
def execHandoverAbandon (s : State) : Host.Outcome State Fault Refusal :=
  .next (match s.pair.handover with
    | .released t port =>
      if s.pair.qualifier ∧ s.pair.role = .standby ∧ s.since t 1000 ∧ s.ownHigh 1000 then
        let s := (s.claim 3).event .mirror 0x0B04 1 0 (i1 1 ++ i1 port)
        ((s.onPair fun p => { p with handover := .none }).traced 246 0 4).resumeAsOwner
      else s
    | _ => s)

/-- The conditions that defer an activation (16 R444): bit 0 S3 or S4, 1 thermal, 2 alert, 3 breaker. -/
def State.deferConds (s : State) : BitVec 4 :=
  let recent := fun (t : Option Nat) => t.any fun t => decide (s.gt < t + secs 5)
  let severe := recent s.upd.lastSevere || s.thyme.emergency.isSome || s.thyme.emergencyDue.isSome || s.thyme.ctxs.any fun c => c.prog.isSome && c.after == .toFault
  BitVec.ofNat 4 (packBits [severe, s.cool.enforced, recent s.upd.lastAlert, recent s.upd.lastBreaker])

/-- The `PAIR_HANDOVER` checks beyond the mailbox's own (R423). -/
def State.handoverRefused (s : State) : Option Status :=
  if s.thyme.latched ∨ s.deferConds.getLsbD 0 then some .emergencyActive
  else if s.pair.mstate ≠ .mirroring ∨ !s.allIdle then some .stateConflict
  else none

/-- `PAIR_HANDOVER` (R423). -/
def bodyPairHandover (c : Ctx) (s : State) : Answer :=
  match s.handoverRefused with
  | some st => refuse st s
  | none => accepted (s.onPair fun p => { p with handover := .accepted c.port })

/-- `PAIR_STATUS` (R424). -/
def bodyPairStatus (_c : Ctx) (s : State) : Answer :=
  let p := s.pair
  let noUp := s.isOwner && p.mstate == .detached && p.alive
  okay (i1 p.role.code ++ i1 s.position ++ i1 p.mstate.code ++ i1 (packBits [p.alive, p.ownLow, p.pull, s.mirTrained, p.limitsDiffer, noUp])
    ++ i2 s.runningManifest.mirrorProto ++ i2 p.protoPartner ++ i8s p.offset ++ i4 p.takeovers ++ i4 p.handovers ++ i8 (p.claimGt.getD 0)
    ++ serialBytes p.partnerSerial ++ i4 p.partnerFw ++ i1 (p.bulkDone * 100 / p.bulkTotal) ++ zeros 3 ++ i4 p.hbMissed ++ i4 0) s

/-- `MIRROR_STATUS`; the lags start afresh at the read (R424). -/
def bodyMirrorStatus (_c : Ctx) (s : State) : Answer :=
  let p := s.pair
  okay (i8 p.sent ++ i8 p.acked ++ i4 (1000 * p.lagMax) ++ i4 (1000 * p.lagSum / p.lagCount) ++ i8 p.bulkDone ++ i8 p.bulkTotal ++ i4 p.mir.replays ++ i4 p.mir.retrains ++ i4 p.losses ++ i4 0)
    (s.onPair fun p => { p with lagMax := 0, lagSum := 0, lagCount := 0 })

end Sys2Proof.Machine
end

