-- ==== Sys2Proof/Machine/Semaphores.lean ====
section
/-! DEFINITION. The hardware semaphores and their commands (02 R55-R61). -/

namespace Sys2Proof.Machine

open Sys2Proof

/-- Free a semaphore: event 0x0011, 0x0012 or 0x0013 S0, and its effect (02 R61). -/
def State.freeSem (s : State) (id event port : Nat) : State :=
  let own := (nth s.sems id).any fun h => h.pos == s.position
  ((({ s with sems := s.sems.set id none } : State).event .semaphores event 0 id []).released id port own).mirrored .sems

/-- Milliseconds left of a lease. -/
def SemHolder.leftMs (h : SemHolder) (gt : Nat) : Nat := (h.leaseEnd - gt) / 1000

/-- A change of a semaphore: the response waits for the partner's acknowledgement while the pair mirrors (02 R55, 12 R343). -/
def semOkay (payload : List Byte) (s : State) : Answer :=
  ({ payload := payload, hold := if s.holding then some s.pair.mseqSent else none }, s)

/-- Grant, or name the holder (02 R54, R56). -/
def State.semAcquire (s : State) (id lease pos port : Nat) (session : U32) (keyHash : BitVec 384) (payRsvd : Bool) : Answer :=
  check [(decide (15 < id), .badArg)] s fun _ =>
    match nth s.sems id with
    | none =>
      check [(payRsvd || decide (3600 < lease), .badArg)] s fun _ =>
        let (k, s) := s.draw
        let len := if lease = 0 then 60 else lease
        let h : SemHolder := { pos := pos, port := port, session := session, keyHash := keyHash, token := Config.freeWord k, leaseEnd := s.gt + secs len, leaseLen := len }
        semOkay (i8 h.token.toNat ++ i8 h.leaseEnd) (({ s with sems := s.sems.set id (some h) } : State).mirrored .sems)
    | some h =>
      if h.pos = pos ∧ h.port = port ∧ h.session = session then check [(payRsvd || decide (3600 < lease), .badArg)] s fun _ => okay (i8 h.token.toNat ++ i8 h.leaseEnd) s
      else ({ status := .semaphoreHeld, payload := i1 h.pos ++ i1 h.port ++ i2 0 ++ i4 h.session.toNat ++ i4 (h.leftMs s.gt) }, s)

/-- The holder of a semaphore that a token matches, while its lease runs (02 R57, R59). -/
def State.tokenHolder (s : State) (id : Nat) (token : U64) : Option SemHolder := (nth s.sems id).filter fun h => h.token == token && decide (s.gt < h.leaseEnd)

/-- A token is presented by a session of another key than the holder's (02 R59). -/
def State.foreignToken (s : State) (id : Nat) (token : U64) (keyHash : BitVec 384) : Bool := (s.tokenHolder id token).any fun h => h.keyHash != keyHash

/-- A presented token names the semaphore's holder, and the lease has not ended (02 R54, R57, R59). -/
def State.withToken (s : State) (id : Nat) (token : U64) (keyHash : BitVec 384) (payRsvd : Bool) (k : SemHolder → Answer) : Answer :=
  check [(s.foreignToken id token keyHash, .denied), (payRsvd || decide (15 < id), .badArg)] s fun _ =>
    match s.tokenHolder id token with
    | none => refuse .stateConflict s
    | some h => k h

/-- Renew, or adopt a semaphore of the same host key (02 R57, R59). -/
def State.semRenew (s : State) (id : Nat) (token : U64) (pos port : Nat) (session : U32) (keyHash : BitVec 384) (payRsvd : Bool) : Answer :=
  s.withToken id token keyHash payRsvd fun h =>
    let h := { h with pos := pos, port := port, session := session, leaseEnd := s.gt + secs h.leaseLen }
    semOkay (i8 h.leaseEnd) (({ s with sems := s.sems.set id (some h) } : State).mirrored .sems)

/-- Release by token (02 R58, R59). -/
def State.semRelease (s : State) (id : Nat) (token : U64) (port : Nat) (keyHash : BitVec 384) (payRsvd : Bool) : Answer :=
  s.withToken id token keyHash payRsvd fun _ => semOkay [] (s.freeSem id 0x0011 port)

/-- The 16 entries; the first four bytes of a free one are a free value, for which the spec states nothing (02 R61; log entry 1). -/
def State.semQuery (s : State) : Answer :=
  let (k, s) := s.draw
  okay (s.sems.map fun h => match h with
    | some h => i1 h.pos ++ i1 h.port ++ i2 0 ++ i4 h.session.toNat ++ i4 (h.leftMs s.gt)
    | none => leBytes 2 (Config.freeWord k).toNat ++ i2 0 ++ i4 0xFFFFFFFF ++ i4 0).flatten s

/-- Break a semaphore (02 R58); a free one is STATE_CONFLICT. -/
def State.semBreak (s : State) (id port : Nat) (payRsvd : Bool) : Answer :=
  check [(payRsvd || decide (15 < id), .badArg), ((nth s.sems id).isNone, .stateConflict)] s fun _ => semOkay [] (s.freeSem id 0x0013 port)

/-- The semaphores that a closing session holds are released (02 R58). -/
def State.semClose (s : State) (pos port : Nat) (session : U32) : State :=
  (indices 16 fun id => (nth s.sems id).any fun h => h.pos == pos && h.port == port && h.session == session).foldl (fun s id => s.freeSem id 0x0011 port) s

/-- A semaphore command at the OWNER's block (02 R55). -/
def State.semRun (s : State) (pos port : Nat) (session : U32) (keyHash : BitVec 384) (payRsvd : Bool) : SemCmd → Answer
  | .acquire id lease => s.semAcquire id.toNat lease.toNat pos port session keyHash payRsvd
  | .renew id token => s.semRenew id.toNat token pos port session keyHash payRsvd
  | .release id token => s.semRelease id.toNat token port keyHash payRsvd
  | .query => if payRsvd then refuse .badArg s else s.semQuery
  | .brk id => s.semBreak id.toNat port payRsvd
  | .close => okay [] (s.semClose pos port session)

/-- The arguments of a semaphore command as MIR carries them. -/
def SemCmd.args : SemCmd → List Nat
  | .acquire id lease => [id.toNat, lease.toNat]
  | .renew id token => [id.toNat, token.toNat]
  | .release id token => [id.toNat, token.toNat]
  | .query => []
  | .brk id => [id.toNat]
  | .close => []

/-- A semaphore command of a session: run here by the OWNER, forwarded over MIR by the STANDBY, a batch member too (02 R55). A reserved payload field needs no forwarding: no change can follow, and the copied holders give the status of R54. -/
def State.semCommand (s : State) (c : Ctx) (code : Nat) (m : SemCmd) : Answer :=
  if s.isOwner ∨ c.payRsvd then s.semRun s.position c.port c.se.id c.se.keyHash c.payRsvd m
  else if s.pair.role = .standby then ({ forwarded := true }, s.mirOut (.semCommand c.port c.se.id c.reqId code (c.se.keyHash.toNat :: m.args)))
  else refuse .notOwner s

/-- `SEM_ACQUIRE` (R56). -/
def bodySemAcquire (id : U8) (lease : U16) (c : Ctx) (s : State) : Answer := s.semCommand c 0x0010 (.acquire id lease)
/-- `SEM_RENEW` (R57, R59). -/
def bodySemRenew (id : U8) (token : U64) (c : Ctx) (s : State) : Answer := s.semCommand c 0x0011 (.renew id token)
/-- `SEM_RELEASE` (R58). -/
def bodySemRelease (id : U8) (token : U64) (c : Ctx) (s : State) : Answer := s.semCommand c 0x0012 (.release id token)
/-- `SEM_QUERY`. -/
def bodySemQuery (c : Ctx) (s : State) : Answer := s.semCommand c 0x0013 .query
/-- `SEM_BREAK` (R58). -/
def bodySemBreak (id : U8) (c : Ctx) (s : State) : Answer := s.semCommand c 0x0014 (.brk id)

/-- `LEASE_END`: a lease counted in hardware runs out: event 0x0012 S0 (R58, R61). -/
def execLeaseEnd (id : U8) (s : State) : Host.Outcome State Fault Refusal :=
  .next (match nth s.sems id.toNat with
    | some h => if s.isOwner ∧ h.leaseEnd ≤ s.gt then s.freeSem id.toNat 0x0012 h.port else s
    | none => s)

/-- `FORWARDED_SEMAPHORE_COMMAND`: the OWNER's block serves the partner's session and answers over MIR; the release of a closed session is the block's own and waits for no SEMA (R55, R58, R60, 01 R26). -/
def execForwardedSemaphoreCommand (port : U8) (origin : CommandOrigin) (keyHash : BitVec 384) (cmd : SemCmd) (s : State) : Host.Outcome State Fault Refusal :=
  let pos := 1 - s.position
  .next (if s.isOwner ∧ s.mirTrained then
    if cmd = .close then s.semClose pos port.toNat origin.session
    else
      let (r, s) := if s.restarting 2 then refuse .busy s else s.semRun pos port.toNat origin.session keyHash false cmd
      (s.sendRecord .forward).mirOut (.semAnswer port.toNat origin.session origin.reqId r.status r.payload)
  else s)

/-- A session closes: the semaphores that it holds are released at the OWNER's block; at the STANDBY over MIR, and in its own copy (R55, R58). -/
def State.closeSems (s : State) (port : Nat) (session : U32) : State :=
  if s.isOwner then s.semClose s.position port session
  else
    let mine := indices 16 fun id => s.holds id port session
    if mine = [] then s
    else
      let s := mine.foldl (fun s id => ({ s with sems := s.sems.set id none } : State).released id port true) s
      s.mirOut (.semCommand port session 0 0x0003 [])

end Sys2Proof.Machine
end

