-- ==== Sys2Proof/Machine/Sessions.lean ====
section
/-! DEFINITION. Sessions: the handshake, its keys, the ends of a session, and the session commands (02 R36-R51). -/

namespace Sys2Proof.Machine

open Sys2Proof

/-- The governor's feature offer for a session generation (02 R50, R51). -/
def featureOffer (gen : Nat) : BitVec 128 := if gen = 1 then 0x181e1d else if gen = 2 then 0x1a7fff else 0x1fffff

/-- The agreed feature set (02 R50). -/
def agreedFeatures (gen : Nat) (offered : BitVec 128) : BitVec 128 := if gen = 1 then featureOffer 1 else (offered &&& featureOffer gen) ||| 1

/-- Feature bitmaps as a message carries them. -/
def featureBytes (f : BitVec 128) : List Byte := leBytes 16 f.toNat

/-- The text of a key-derivation label (02 R38). -/
def keyLabel (t : String) (th : List Byte) : List Byte := ascii t ++ th

/-- The session keys and those of its telemetry stream (02 R38, 17 R466). -/
def sessionKeys (salt : List Byte) (z : BitVec 384) (th : List Byte) : SessionKeys :=
  let prk := Config.hkdfExtract salt (digestBytes z)
  { keyH2g := beBytes 32 (Config.hkdfExpand prk (keyLabel "jrmv h2g key" th) 256).toNat
    keyG2h := beBytes 32 (Config.hkdfExpand prk (keyLabel "jrmv g2h key" th) 256).toNat
    saltH2g := beBytes 4 (Config.hkdfExpand prk (keyLabel "jrmv h2g salt" th) 32).toNat
    saltG2h := beBytes 4 (Config.hkdfExpand prk (keyLabel "jrmv g2h salt" th) 32).toNat
    keyTel := beBytes 32 (Config.hkdfExpand prk (keyLabel "jrmv telem key" th) 256).toNat
    saltTel := beBytes 4 (Config.hkdfExpand prk (keyLabel "jrmv telem salt" th) 32).toNat }

/-- Put a message of a handshake on a port. -/
def State.postMessage (s : State) (p : Nat) (m : PortMessage) : State := s.onPort p fun q => { q with outbox := q.outbox ++ [m] }

/-- AUTH_REPLY under the keys of the handshake, the first encrypted message (02 R37, R38, R43). -/
def State.postAuthReply (s : State) (p : Nat) (hs : Handshake) (body : List Byte) : State := s.postMessage p (.encrypted hs.keys hs.gen 4 hs.session 1 body)

/-- The port ignores every HELLO (02 R41). -/
def PortState.lockedOut (q : PortState) (gt : Nat) : Bool := q.lockoutEnd.any fun t => decide (gt < t)

/-- `HELLO`: a handshake begins, or begins anew; HELLO_REPLY carries a free ephemeral key, nonce and session ID (02 R37, R38, R49, R50; log entry 1). REFUSE is never sent: the spec lists it and names no occasion for it (log entry 55). -/
def State.hello (s : State) (h : Hdr) (eph : BitVec 776) (nonce : BitVec 256) (features : BitVec 128) : State :=
  let p := h.port.toNat
  let gen := h.gen.toNat
  if !h.framed 1 ∨ gen = 0 ∨ h.session ≠ 0 then s.discard p
  else if (s.port p).lockedOut s.gt then s
  else
    let (k, s) := s.draw
    let g := min gen 3
    let id : U32 := (Config.freeWord k).truncate 32
    let helloBody := beBytes 97 eph.toNat ++ beBytes 32 nonce.toNat ++ featureBytes features
    let head := beBytes 97 (Config.freeKey k).toNat ++ beBytes 32 (Config.freeNonce k).toNat ++ i1 g ++ leBytes 4 id.toNat ++ featureBytes (featureOffer g)
    let reply := head ++ s.sign 1 ((digestBytes (Config.sha384 (helloBody ++ head))))
    let th := digestBytes (Config.sha384 (helloBody ++ reply))
    let keys := sessionKeys (beBytes 32 nonce.toNat ++ beBytes 32 (Config.freeNonce k).toNat) (Config.ecdh k eph) th
    let s := s.onPort p fun q => { q with handshake := some { helloGt := s.gt, session := id, gen := g, features := agreedFeatures g features, th := th, keys := keys } }
    s.postMessage p (.clear g 2 id reply)

/-- A handshake ends with a status other than OK (02 R37, R49). -/
def State.authRefused (s : State) (p : Nat) (hs : Handshake) (st : Status) : State :=
  (s.onPort p fun q => { q with handshake := none }).postAuthReply p hs (i1 st.code ++ i1 0 ++ featureBytes 0)

/-- A failed authentication: event 0x0003 S1; eight within 60 s lock the port out for 60 s (02 R41). -/
def State.authFailed (s : State) (p : Nat) : State :=
  let fails := s.gt :: ((s.port p).authFails.filter fun t => decide (s.gt < t + secs 60))
  let s := s.onPort p fun q => { q with authFails := fails, lockoutEnd := if 8 ≤ fails.length then some (s.gt + secs 60) else q.lockoutEnd }
  s.event .fp0 0x0003 1 p []

/-- A command of an executing session waits for the OWNER's answer or for margins to be restored (02 R55, 07 R201). -/
def ExecutingCommand.forwarded (e : ExecutingCommand) : Bool := e.mseq.isNone && ofLe (e.body.take 2) != 7

/-- The results of the commands of a replaced session go to the firmware log: those of commands whose answer is still to come once it comes (02 R39; log entry 55). -/
def State.logResults (s : State) (p : Nat) (se : Session) : State :=
  let s := (se.executing.filter fun e => !e.forwarded).foldl (fun s e => s.logResult se.id e.reqId e.body) s
  s.onPort p fun q => { q with orphans := q.orphans ++ (se.executing.filter ExecutingCommand.forwarded).map fun e => (se.id, e), batches := [] }

/-- The entry of the host key table that a key matches on a port (02 R37). -/
def State.keyEntry (s : State) (p : Nat) (hash : BitVec 384) : Option Nat :=
  (List.range 16).find? fun i =>
    let k := nth s.cfg.hostKeys i
    k.hash == hash && hash != 0 && k.portMask.getLsbD p

/-- The old session of a port ends in the instant in which another replaces it (02 R39). -/
def State.vacate (s : State) (p : Nat) : State :=
  match (s.port p).session with
  | some old => (s.logResults p old).endSession p
  | none => s

/-- A session begins, and replaces the port's old one (02 R37, R39). -/
def State.establish (s : State) (p : Nat) (hs : Handshake) (idx : Nat) : State :=
  let s := s.vacate p
  let k := nth s.cfg.hostKeys idx
  let se : Session := { id := hs.session, keyIdx := idx, keyHash := k.hash, role := k.role, gen := hs.gen, features := hs.features, keys := hs.keys, rxHigh := 1, rxSeen := [1], txSeq := 1, lastMsg := s.gt }
  let s := s.onPort p fun q => { q with handshake := none, session := some se }
  s.postAuthReply p hs (i1 0 ++ i1 k.role.code ++ featureBytes se.features)

/-- `AUTH` (02 R37, R39, R41, R49). -/
def State.auth (s : State) (h : Hdr) (keyHash : BitVec 384) (sigOk : Bool) : State :=
  let p := h.port.toNat
  match (s.port p).handshake with
  | none => s.discard p
  | some hs =>
    if !h.framed 3 ∨ !h.tagOk ∨ h.session ≠ hs.session ∨ h.gen.toNat ≠ hs.gen ∨ h.msgSeq ≠ 1 ∨ hs.helloGt + secs 5 < s.gt then s.discard p
    else
      match s.keyEntry p keyHash with
      | some i =>
        if !sigOk then (s.authRefused p hs .denied).authFailed p
        else if hs.gen < (nth s.cfg.hostKeys i).minGen then s.authRefused p hs .notNegotiated
        else s.establish p hs i
      | none => (s.authRefused p hs .denied).authFailed p

/-- `HANDSHAKE_TIMEOUT`: 5 s after the HELLO (02 R37). -/
def execHandshakeTimeout (port : U8) (s : State) : Host.Outcome State Fault Refusal :=
  let p := port.toNat
  .next (match (s.port p).handshake with
    | some hs => if s.since hs.helloGt (secs 5) then s.onPort p fun q => { q with handshake := none } else s
    | none => s)

/-- `AUTH_LOCKOUT_END`: 60 s after the eighth failure (02 R41). -/
def execAuthLockoutEnd (port : U8) (s : State) : Host.Outcome State Fault Refusal :=
  let p := port.toNat
  .next (match (s.port p).lockoutEnd with
    | some t => if t ≤ s.gt then s.onPort p fun q => { q with lockoutEnd := none, authFails := [] } else s
    | none => s)

/-- `SESSION_IDLE_TIMEOUT`: 10 s without an authenticated message (02 R40); the semaphores stay (R58). -/
def execSessionIdleTimeout (port : U8) (s : State) : Host.Outcome State Fault Refusal :=
  let p := port.toNat
  .next (match (s.port p).session with
    | some se => if s.since se.lastMsg (secs 10) then s.endSession p else s
    | none => s)

/-! The session commands -/

/-- `SESSION_INFO` (R42, R44). -/
def bodySessionInfo (c : Ctx) (s : State) : Answer :=
  let q := s.port c.port
  okay (leBytes 4 c.se.id.toNat ++ i1 c.se.gen ++ i1 c.se.role.code ++ i2 0 ++ featureBytes c.se.features ++ i4 q.discards ++ i4 q.rxDropped) s

/-- `KEEPALIVE` (R40). -/
def bodyKeepalive (_c : Ctx) (s : State) : Answer := okay [] s

/-- `SESSION_CLOSE`: the semaphores of the session are released, and the session ends once the response has left, its own or its batch's (R40, R52, R58). -/
def bodySessionClose (c : Ctx) (s : State) : Answer :=
  okay [] ((s.closeSems c.port c.se.id).onSession c.port fun se => { se with closing := some c.top })

/-- `GOV_INFO` (03 R81). -/
def bodyGovInfo (_c : Ctx) (s : State) : Answer :=
  okay (serialBytes s.sec.serial ++ i4 s.fwVersion ++ i1 s.straps.slotId.toNat ++ i1 s.position ++ i1 (flag s.straps.coolMode) ++ i1 s.pair.role.code ++ i2 s.sec.bootCount ++ i1 s.straps.bootMode.toNat ++ i1 0 ++ i8 s.gt) s

/-! Batches (R52) -/

/-- Outcome of the members so far. -/
structure BatchRun where
  /-- state -/
  s : State := {}
  /-- response bodies -/
  out : List Byte := []
  /-- execution has stopped -/
  stopped : Bool := false
  /-- mirror sequence number that the response waits for -/
  hold : Option Nat := none
  /-- request ID of a member whose answer is still to come -/
  waits : Option U32 := none
  deriving DecidableEq, Repr, Inhabited

/-- The later of two records to wait for. -/
def laterHold (a b : Option Nat) : Option Nat :=
  match a, b with
  | some x, some y => some (if seqLe x y then y else x)
  | some x, none => some x
  | none, y => y

/-- A response body with a status other than OK and ACCEPTED. -/
def bodyFails (body : List Byte) : Bool := decide (2 ≤ (body.getD 2 0).toNat)

/-- A member's body joins the response; the first failure stops a batch without AUTO (02 R52). -/
def BatchRun.answered (r : BatchRun) (auto : Bool) (body : List Byte) : BatchRun :=
  { r with out := r.out ++ body, stopped := r.stopped || (!auto && bodyFails body) }

/-- Take one member: its request ID like that of a command of its own, its answer kept (02 R45, R52); after the stop, and after a SESSION_CLOSE, STATE_CONFLICT (log entry 55). A member forwarded to the OWNER, or that names a command still executing, suspends the batch until its answer. -/
def BatchRun.take (r : BatchRun) (port : Nat) (auto : Bool) (code : Nat) (reqId : U32) (run : Session → State → Answer) : BatchRun :=
  match (r.s.port port).session with
  | none => r
  | some se =>
    if r.stopped ∨ se.closing.isSome then
      let body := responseBody code (Reply.fail .stateConflict) reqId
      let fresh := se.judge reqId == .new
      { r with out := r.out ++ body, s := if fresh then r.s.onSession port fun se => { se with lastReq := some reqId }.keep { reqId := reqId, body := body } else r.s }
    else
      match se.judge reqId with
      | .cached body => r.answered auto body
      | .executing => { r with waits := some reqId }
      | .outOfOrder => r.answered auto (responseBody code (Reply.fail .badArg) reqId)
      | .new =>
        let (a, s) := run { se with lastReq := some reqId } (r.s.onSession port fun se => { se with lastReq := some reqId })
        if a.forwarded then
          { r with waits := some reqId, s := s.onSession port fun se => { se with executing := se.executing ++ [{ reqId := reqId, body := i2 code }] } }
        else
          let body := responseBody code a reqId
          { r with s := s.onSession port fun se => se.keep { reqId := reqId, body := body }, hold := laterHold r.hold a.hold }.answered auto body

end Sys2Proof.Machine
end

