-- ==== Sys2Proof/Machine/Reset.lean ====
section
/-! DEFINITION. The four kinds of reset and the clock losses: what each keeps and clears (01 R18-R27, 03 R67-R78, 19 R493, R502). The lists of what has left a block are emptied with the block. -/

namespace Sys2Proof.Machine

open Sys2Proof

/-- Change the clock part. -/
def State.onClk (s : State) (f : ClockState → ClockState) : State := { s with clk := f s.clk }
/-- Change the secure-start part. -/
def State.onSec (s : State) (f : SecureState → SecureState) : State := { s with sec := f s.sec }
/-- Change the update part. -/
def State.onUpd (s : State) (f : UpdateState → UpdateState) : State := { s with upd := f s.upd }

/-- Lock debug access: event 0x0C0A S0 where it was unlocked (04 R110). -/
def State.lockDebug (s : State) : State :=
  if s.sec.unlock.scope = 0 then s
  else (s.onSec fun c => { c with unlock := { c.unlock with scope := 0, lockAt := none } }).event .fp2 0x0C0A 0 0 []

/-! Power-on reset (R73, 01 R19, 19 R493) -/

/-- What flash holds for the boot, and what a reset takes away: the running places, the keys, the recovery loader and debug access (04 R85, R87, R110). -/
def SecureState.afterReset (c : SecureState) : SecureState :=
  { c with
    anchor := none, gateOpen := true, runningLoader := none, runningSlot := none, cfgInForce := none, keys := [], recov := { sent := c.recov.sent }, unlock := {} }

/-- An update across a reset: the settings area with the handoff block and the plan's progress remains, an update not yet activated is lost (16 R432, R438). -/
def UpdateState.afterReset (u : UpdateState) : UpdateState :=
  { block := u.block, plan := { u.plan with step := .none }
    phase := if u.phase = .planRunning then .planRunning else .idle
    lastSevere := u.lastSevere, lastAlert := u.lastAlert, lastBreaker := u.lastBreaker }

/-- The state of a power-on reset: everything at its reset value but what flash and the journal device hold (01 R19). -/
def State.powerOnReset (s : State) (sup : SupplyState) : State :=
  { sup := sup
    sec := { s.sec.afterReset with diag := [] }
    log := { flash := s.log.flash }
    feed := { trips := s.feed.trips, stored := s.feed.stored }
    thyme := { autoOn := s.thyme.autoOn }
    phase := { stored := s.phase.stored }
    ledger := { dev := s.ledger.dev }
    link := { store := s.link.store }
    repro := { rpSeq := s.repro.rpSeq, inForce := s.repro.inForce.filter fun x => !x.ended }
    upd := { s.upd.afterReset with lastSevere := none, lastAlert := none, lastBreaker := none }
    free := s.free
    pending := s.pending }

/-- A supply lies above its absolute maximum rating (19 R491). -/
def beyondRating (vddAon vddioAon : Nat) : Bool := decide (900 < vddAon ∨ 2100 < vddioAon)

/-- The AON power-on threshold is crossed (19 R493). -/
def aonUp (vddAon vddioAon : Nat) : Bool := decide (660 < vddAon ∧ 1550 < vddioAon)

/-- The brown-out level is crossed (19 R493). -/
def aonDown (vddAon vddioAon : Nat) : Bool := decide (vddAon < 640 ∨ vddioAon < 1500)

/-- `POWER_ON_RESET`: the AON supplies rise through the threshold; the whole chip is in reset until the release (R73, 19 R493). -/
def execPowerOnReset (vddAon vddioAon : U16) (s : State) : Host.Outcome State Fault Refusal :=
  let a := vddAon.toNat
  let b := vddioAon.toNat
  if beyondRating a b then .fault .beyondRatings
  else if !s.sup.aonGood ∧ aonUp a b then .next (s.powerOnReset { vddAon := a, vddioAon := b, aonGood := true })
  else .next { s with sup := { s.sup with vddAon := a, vddioAon := b } }

/-- `BROWN_OUT`: the AON supplies measure the given voltages for `us` µs; below the brown-out level for 1 µs or longer resets the whole chip, a shorter dip does nothing (19 R493). -/
def execBrownOut (vddAon vddioAon : U16) (us : U32) (s : State) : Host.Outcome State Fault Refusal :=
  let a := vddAon.toNat
  let b := vddioAon.toNat
  if beyondRating a b then .fault .beyondRatings
  else if aonDown a b ∧ 1 ≤ us.toNat then .next (s.powerOnReset { vddAon := a, vddioAon := b, aonGood := false })
  else .next s

/-- The boot count goes up at each power-on and warm reset (02 R64). -/
def State.countBoot (s : State) : State := (s.onSec fun c => { c with bootCount := (c.bootCount + 1) % 65536 }).saveSettings

/-- The straps as samples of their pins decide them, each bit by majority (R79): BOOT_MODE in bits 2:0 of a sample, COOL_MODE bit 3, PAIR_SEL bit 4, SLOT_ID bits 10:5. -/
def strapMajority (samples : List (BitVec 11)) : Straps :=
  let bit := fun k => decide (samples.length < 2 * countIf (fun (x : BitVec 11) => x.getLsbD k) samples)
  { bootMode := bitsOf 3 ((List.range 3).map bit), coolMode := bit 3, pairSel := bit 4, slotId := bitsOf 6 ((List.range 6).map fun k => bit (5 + k)) }

/-- `POWER_ON_RESET_RELEASE`: 2.0 ms after the crossing; the majorities of the 15 strap samples are latched (R79, 19 R493). -/
def execPowerOnResetRelease (samples : List (BitVec 11)) (s : State) : Host.Outcome State Fault Refusal :=
  .next (if s.clk.phase = .porHeld ∧ s.sup.aonGood then
    ({ s with straps := strapMajority samples, clk := { s.clk with phase := .waitClock, strapsNew := true } } : State).countBoot
  else s)

/-- `SHADOW_RESET_PULL`: before the first lock, released nets that read low with the partner ALIVE stay pulled until the lock (18 R474). -/
def execShadowResetPull (levels : BitVec 103) (s : State) : Host.Outcome State Fault Refusal :=
  .next (if !s.sage.everLocked ∧ s.aliveInRecent then
    { s with pins := { s.pins with shadowLatch := s.pins.shadowLatch ||| (shadowNets &&& ~~~levels) } }
  else s)

/-- Where the core domain goes when its clocks run: the ROM, or held while RESET_N is low (R76). -/
def ClockState.released (c : ClockState) : ClockState :=
  if c.resetNLow then { c with coreInReset := true, phase := .resetHeld } else { c with coreInReset := false, phase := .rom }

/-- Where a warm reset takes the core domain: with its clocks, to the ROM or held; on OSC_INT it stays in reset until they return (R69, R72, R76). -/
def ClockState.restarted (c : ClockState) : ClockState := if c.source = .pll then c.released else { c with coreInReset := true, phase := .waitClock }

/-- `CLOCK_FIRST_MOVE`: 16 good windows and a locked PLL before the first lock (R72). -/
def execClockFirstMove (s : State) : Host.Outcome State Fault Refusal :=
  .next (if s.clk.phase = .waitClock ∧ s.clk.source = .oscInt ∧ !s.sage.everLocked ∧ !s.clk.tempLost then
    s.onClk fun c => { c with source := .pll, health := .good, goodWindows := 16, pllLocked := true }.released
  else s)

/-! Warm reset (R75-R77, 01 R18-R22) -/

/-- The number of a source in the payload of event 0x0C20, in the order of R73. -/
def WarmSource.code : WarmSource → Nat
  | .resetN => 0 | .refclkReturn => 1 | .watchdog _ => 2 | .activation => 3 | .bootRecovery => 4 | .recoveryLoader => 5

/-- The pair across a warm reset: what the AON domain keeps (01 R18, R19). -/
def PairState.afterWarm (p : PairState) : PairState :=
  { alive := p.alive, aliveIn := p.aliveIn, aliveSince := p.aliveSince, ownLow := p.ownLow, ownSince := p.ownSince, claimGt := p.claimGt
    takeovers := p.takeovers, handovers := p.handovers, losses := p.losses, hbMissed := p.hbMissed, releaseAt := p.releaseAt, shadowReleased := p.shadowReleased }

/-- Rosemary across a warm reset: SRAM is kept, DDR5 and the handling queues are lost (01 R19; 17 R456, R460). -/
def RecorderState.afterWarm (r : RecorderState) : RecorderState :=
  { r with
    spill := [], spilling := false, spillNext := (r.ring.head?.map (·.recSeq)).getD r.nextSeq, partner := [], queues := List.replicate 4 {}
    stream := none, frames := [], repeatLast := [], repeatDue := [] }

/-- The operating point across a warm reset: the arbiter's values with the requests that it holds, caps, preferred points, `cap_ceil` and `up` are kept (01 R18; 08 R211-R216). -/
def OpState.afterWarm (o : OpState) : OpState :=
  { o with
    staging := none, adj := List.replicate 8 0, meas := List.replicate 12 0, trayAdj := 0, predMw := 0
    unmet := 0, unmetGt := none, slower := false, iHist := List.replicate 12 [], resendDue := false, ctlGt := none }

/-- A loop of COOL across a warm reset: its settings and its last request, which the arbiter holds, remain; the integrator is lost (01 R19, 16 R436). -/
def CoolLoop.afterWarm (l : CoolLoop) : CoolLoop := { l with integ := 0 }

/-- Cooling across a warm reset: the drives with every request that the arbiter holds for them, overrides among these, and the thermal and leak states are kept; the integrators are lost (01 R18, R19). -/
def CoolState.afterWarm (c : CoolState) : CoolState :=
  { c with fanLoop := c.fanLoop.afterWarm, pumpLoop := c.pumpLoop.afterWarm, loopGt := none, partnerTh := 0 }

/-- The ledger across a warm reset: accumulators, device and journal state are kept, accounts and queues are lost until the restore (01 R19, R21). -/
def LedgerState.afterWarm (l : LedgerState) : LedgerState :=
  { l with inSession := false, begun := false, queue := [], accounts := [{}], overhead := {}, residual := {}, overflow := {}, total := {}, unsigned_ := [], export_ := [], nextCfg := none, discarded := 0, unopened := [], backlogSaid := false }

/-- The sync hub across a warm reset: cleared but for its counters since power-on (12 R358; 01 R22). -/
def SyncState.afterWarm (y : SyncState) : SyncState :=
  { applied := y.applied, dups := y.dups, eccCorr := y.eccCorr, eccUnc := y.eccUnc, refused := y.refused }

/-- Reproducibility across a warm reset: the strict bit and the settings area remain (14 R390, R397, R398). -/
def ReproState.afterWarm (r : ReproState) : ReproState :=
  { strict := r.strict, rpSeq := r.rpSeq, inForce := r.inForce, unknown := r.unknown, nominal := r.nominal }

/-- Reset the core and PHY domains: what is not in the AON domain, flash or the journal is lost (01 R18, R19). -/
def State.coreReset (s : State) : State :=
  { s with
    sec := s.sec.afterReset
    ports := [{}, {}]
    log := { flash := s.log.flash }
    trace := {}
    comps := List.replicate 14 {}
    procs := List.replicate 4 {}
    rec_ := s.rec_.afterWarm
    thyme := { s.thyme with staging := none }
    sage := { s.sage with locked := false, shadow := none }
    op := s.op.afterWarm
    phase := { stored := s.phase.stored }
    cool := s.cool.afterWarm
    ledger := s.ledger.afterWarm
    sync := s.sync.afterWarm
    link := { store := s.link.store }
    repro := s.repro.afterWarm
    pair := s.pair.afterWarm
    upd := s.upd.afterReset }

/-- A warm reset begins: ALIVE_OUT stops, OWN_N is released, sessions end, and the boot sequence starts from the ROM (R75-R77): event 0x0C20 S1. -/
def State.warmReset (s : State) (source : WarmSource) : State :=
  let copied := s.pair.mstate == .mirroring
  let s := (s.event .fp0 0x0C20 1 0 (i1 source.code)).streamOver.lockDebug.dropOwnership.coreReset.countBoot
  let s := s.onPair fun p => { p with fromPartner := copied }
  s.onClk fun c =>
    { c with warmInProgress := true, strapsNew := false, porBoot := c.porBoot && !s.sage.everLocked, recoveryAt := none
             recoveryNext := source == WarmSource.bootRecovery, resetNLow := c.resetNLow || source == WarmSource.resetN }.restarted

/-- The core domain has clocks and is not in power-on reset. -/
def State.coreClocked (s : State) : Bool := s.clk.source == .pll && s.clk.phase != .porHeld && s.clk.phase != .waitClock

/-- `WARM_RESET`: RESET_N has been low for two samples, the time of BOOT_RECOVERY has come, or step 7 of an activation is due (R73, R76, 04 R104, 16 R436). The other sources start their reset within the command that brings them. A RESET_N that stays low starts one warm reset, and during the power-on reset it only holds the core domain. -/
def execWarmReset (source : WarmSource) (s : State) : Host.Outcome State Fault Refusal :=
  .next (match source with
    | .resetN =>
      if s.clk.resetLows < 2 ∨ s.clk.resetNLow then s
      else if s.clk.phase = .porHeld then s.onClk fun c => { c with resetNLow := true }
      else s.warmReset .resetN
    | .bootRecovery =>
      match s.clk.recoveryAt with
      | some t => if t ≤ s.gt ∧ s.coreClocked then s.warmReset .bootRecovery else s
      | none => s
    | .activation => if s.upd.resetDue ∧ s.coreClocked then s.warmReset .activation else s
    | .refclkReturn | .watchdog _ | .recoveryLoader => s)

/-- `RESET_N_RELEASE`: the first high sample starts the boot sequence (R76). -/
def execResetNRelease (s : State) : Host.Outcome State Fault Refusal :=
  .next (if s.clk.resetNLow ∧ s.clk.resetLows = 0 then
    let s := s.onClk fun c => { c with resetNLow := false }
    if s.clk.phase = .resetHeld then s.onClk ClockState.released else s
  else s)

/-! Clock loss (R69-R72, 19 R502) -/

/-- The serial links and the sync hub stop with CLK_FAB: nothing arrives and nothing leaves, and what they held is lost with the warm reset that follows (R69, R71). -/
def State.stopLinks (s : State) : State :=
  { s with link := { store := s.link.store }, sync := s.sync.afterWarm, pair := { s.pair with mir := {} } }

/-- The switch to OSC_INT; `pllOnly` where REFCLK itself is good: the core domain, the spill and the serial links stop (R69, 17 R469). -/
def State.toOscInt (s : State) (pllOnly : Bool) : State :=
  (s.stopSpill 2).stopLinks.onClk fun c => { c with
    source := .oscInt, health := if pllOnly then c.health else .lost, pllLocked := false, goodWindows := 0, lossGt := some c.gt, coreInReset := true, phase := .waitClock, recoveryAt := none }

/-- The clock monitor declares REFCLK or the root PLL lost (R69, R70): with the partner ALIVE, event 0x0110 S3 and the tray is its; otherwise the tray scope goes off, S4. Before the first lock no output changes (R72). -/
def State.clockLost (s : State) (pllOnly : Bool) : State :=
  if s.clk.source = .oscInt then s
  else if !s.sage.everLocked then s.toOscInt pllOnly
  else if s.aliveInRecent then
    let s := (s.toOscInt pllOnly).dropOwnership
    (s.onPair fun p => { p with releaseAt := some (s.gt + 50) }).event .sage 0x0110 3 0 []
  else ((s.toOscInt pllOnly).immediateOff 14 70 .fault).event .sage 0x0110 4 0 []

/-- `REFCLK_LOSS` (R69, R70, R72). -/
def execRefclkLoss (pllOnly : Bool) (s : State) : Host.Outcome State Fault Refusal := .next (s.clockLost pllOnly)

/-- `REFCLK_RETURN`: 1,024 good windows and a locked PLL after the first lock: event 0x0112 S1 with the length of the loss in GT, 8 bytes (log entry 55), and a warm reset (R71). -/
def execRefclkReturn (s : State) : Host.Outcome State Fault Refusal :=
  .next (if s.clk.source = .oscInt ∧ s.sage.everLocked ∧ !s.clk.tempLost then
    let s := s.event .sage 0x0112 1 0 (i8 (s.gt - s.clk.lossGt.getD s.gt))
    let s := s.onClk fun c => { c with source := .pll, health := .good, pllLocked := true, goodWindows := 1024, lossGt := none }
    s.warmReset .refclkReturn
  else s)

/-- The state of the on-die supervision after a reading of `t` °C (19 R502). -/
def ClockState.onDie (c : ClockState) (t : Int) : ClockState :=
  { c with
    hotReadings := if 115 ≤ t then min 10 (c.hotReadings + 1) else 0
    coolSince := if t < 95 then some (c.coolSince.getD c.gt) else none
    tempAdvisory := if 100 ≤ t then true else if t < 95 then false else c.tempAdvisory
    tempLost := c.tempLost && !(decide (t < 95) && decide (c.coolSince.getD c.gt + secs 1 ≤ c.gt)) }

/-- `ON_DIE_TEMP_READ`: the 1 ms reading in °C; events 0x0114 S1 and S0 at 100 °C and below 95 °C, and the loss of the PLL with S3 after ten readings at 115 °C (19 R502). -/
def execOnDieTempRead (t : Int) (s : State) : Host.Outcome State Fault Refusal :=
  .next (if s.clk.phase = .porHeld then s
  else
    let old := s.clk
    let s := s.onClk fun c => c.onDie t
    let s := if !old.tempAdvisory ∧ s.clk.tempAdvisory then s.event .sage 0x0114 1 0 []
      else if old.tempAdvisory ∧ !s.clk.tempAdvisory then s.event .sage 0x0114 0 0 [] else s
    if s.clk.hotReadings = 10 ∧ !s.clk.tempLost then
      ((s.onClk fun c => { c with tempLost := true }).clockLost true).event .sage 0x0114 3 0 (i4s t)
    else s)

/-! Components and processors (01 R24-R26, 17 R461) -/

/-- Change a component. -/
def State.onComp (s : State) (k : Nat) (f : Component → Component) : State := { s with comps := modAt s.comps k f }
/-- Change a processor. -/
def State.onProc (s : State) (p : Nat) (f : Processor → Processor) : State := { s with procs := modAt s.procs p f }

/-- A fault of a component: it restarts within 20 ms; a second fault within 10 s triggers the processor watchdog (01 R24). -/
def State.componentFault (s : State) (k cause region : Nat) : State :=
  if !s.firmwareRuns ∨ s.restarting k then s
  else if (nth s.comps k).lastFault.any (fun t => decide (s.gt ≤ t + secs 10)) then
    s.onProc (procOf k) fun p => { p with trigger := 2 }
  else s.onComp k fun c => { c with restartUntil := some (s.gt + ms 20), lastFault := some s.gt, cause := cause, region := region }

/-- `COMPONENT_FAULT`: a protection-region violation (cause 1) or a failed self-check (3). A number from 14 up names a fault outside a compartment on processor `comp % 4`, which triggers its watchdog (01 R24). -/
def execComponentFault (comp cause region : U8) (s : State) : Host.Outcome State Fault Refusal :=
  .next (if comp.toNat < 14 then s.componentFault comp.toNat (if cause = 1 then 1 else 3) (if cause = 1 then region.toNat else 255)
  else if s.firmwareRuns then s.onProc (comp.toNat % 4) fun p => { p with trigger := 3 } else s)

/-- `COMPONENT_WATCHDOG_EXPIRY`: the component's own 20 ms watchdog (01 R24). -/
def execComponentWatchdogExpiry (comp : U8) (s : State) : Host.Outcome State Fault Refusal :=
  .next (if comp.toNat < 14 then s.componentFault comp.toNat 2 255 else s)

/-- A component serves again: event 0x0D01 S2, trace point 248 (17 R461). -/
def State.componentRestored (s : State) (k : Nat) : State :=
  let c := nth s.comps k
  let s := s.onComp k fun c => { c with restartUntil := none, lastService := s.gt }
  (s.event (.ofProc (procOf k)) 0x0D01 2 k (i1 c.cause ++ i1 c.region ++ i1 1 ++ i1 0 ++ i4 (s.gt - c.lastFault.getD s.gt))).traced 248 k c.cause

/-- The components of a processor, one bit each (01 R23). -/
def compsOf (p : Nat) : Nat := packBits ((List.range 14).map fun k => procOf k == p)

/-- `PROCESSOR_WATCHDOG_EXPIRY`: no service for 50 ms, or a trigger; the processor restarts, and the third restart within 600 s is a warm reset (R73, 01 R24, R25). -/
def execProcessorWatchdogExpiry (proc : U8) (s : State) : Host.Outcome State Fault Refusal :=
  let p := proc.toNat
  let q := nth s.procs p
  let recent := s.gt :: q.restarts.filter fun t => decide (s.gt < t + secs 600)
  .next (if p < 4 ∧ s.firmwareRuns ∧ q.restartUntil = none then
    if 3 ≤ recent.length then s.warmReset (.watchdog proc)
    else
      let s := s.onProc p fun x => { x with restartUntil := some (s.gt + ms 150), trigger := 0, cause := if x.trigger = 0 then 1 else x.trigger, restarts := recent }
      { s with comps := s.comps.mapIdx fun k c => if procOf k = p then { c with restartUntil := none } else c }
  else s)

/-- A processor's components are restored: event 0x0D02 S2, trace point 249 (17 R461). -/
def State.processorRestored (s : State) (p : Nat) : State :=
  let q := nth s.procs p
  let n := countIf (fun t => decide (s.gt < t + secs 600)) q.restarts
  let s := s.onProc p fun x => { x with restartUntil := none, lastService := s.gt }
  ((s.event (.ofProc p) 0x0D02 2 p (i1 q.cause ++ i2 (compsOf p) ++ i1 n ++ i4 (s.gt - q.restarts.headD s.gt))).traced 249 p q.cause).schedule p

end Sys2Proof.Machine
end

