-- ==== Sys2Proof/Machine/Boot.lean ====
section
/-! DEFINITION. Start-up: the ROM, the resident loader, the anchor and the slots, and the entry to STANDBY (03 R79-R84, 04 R85-R99, 05 R129, 07 R197, 16 R434-R437). -/

namespace Sys2Proof.Machine

open Sys2Proof

/-! UART DIAG (03 R81, 04 R91) -/

/-- Write bytes to UART DIAG. -/
def State.diagWrite (s : State) (l : List Byte) : State := s.onSec fun c => { c with diag := c.diag ++ l }

/-- Write a report whose text the spec does not give: a free byte (log entry 1). -/
def State.diagReport (s : State) : State :=
  let (k, s) := s.draw
  s.diagWrite [(Config.freeWord k).truncate 8]

/-- Progress is reported in BOOT_MODE 0b101 only (03 R81). -/
def State.diagProgress (s : State) : State := if s.straps.bootMode = 5 then s.diagReport else s

/-- The recovery loader starts; a tray in OFF stays there, as no start-up completes (03 R84, 04 R102). -/
def State.enterRecovery (s : State) : State :=
  (s.onSec fun c => { c with recov := { sent := c.recov.sent }, gateOpen := true }).onClk fun c => { c with phase := .recovery, warmInProgress := false, recoveryNext := false }

/-! Selection of a loader copy or a slot (04 R93) -/

/-- The usable places of a pair: bootable, and the forced one where BOOT_MODE forces one. -/
def usablePlaces (places : List Slot) (force : Option Nat) : List Nat :=
  indices 2 fun k => force.all (fun f => f == k) && (nth places k).bootable

/-- Candidates by generation, highest first; the first place on a tie. -/
def byGeneration (places : List Slot) (l : List Nat) : List Nat :=
  match l with
  | [a, b] => if (nth places a).generation.toNat < (nth places b).generation.toNat then [b, a] else [a, b]
  | l => l

/-- The selection rule: the place that boots, with events 0x0C03 S1 and 0x0C01 S2 or S3 (04 R93, R94). -/
def State.selectPlace (s : State) (places : List Slot) (type : Nat) (force : Option Nat) : Option Nat × State :=
  let usable := usablePlaces places force
  let barred := fun k => decide ((nth places k).obj.man.version < s.anchor.minVersion)
  let good := fun k => (nth places k).obj.verifies type s.anchor.custKey
  let cands := byGeneration places (usable.filter fun k => !barred k)
  let pick := cands.find? good
  let failed := cands.takeWhile fun k => !good k
  let s := (usable.filter barred).foldl (fun s k => s.event .fp0 0x0C03 1 k []) s
  (pick, failed.foldl (fun s k => s.event .fp0 0x0C01 (if pick.isSome then 2 else 3) k []) s)

/-! The ROM (04 R91) -/

/-- The header that the ROM adopts: the valid one with the higher `anchor_gen`, copy 0 on a tie. -/
def adoptedHeader (l : List AnchorHeader) : Option Nat :=
  let a := nth l 0
  let b := nth l 1
  if a.valid && b.valid then (if a.gen < b.gen then some 1 else some 0)
  else if a.valid then some 0 else if b.valid then some 1 else none

/-- The straps that only a power-on reset samples, as one byte (03 R79, R80). -/
def Straps.kept (x : Straps) : Nat := x.slotId.toNat + 64 * flag x.pairSel + 128 * flag x.coolMode

/-- BOOT_MODE is sampled at a warm reset too; a difference in the others is event 0x0C21 S1 with both values (03 R79, R80). -/
def State.sampleStraps (s : State) (read : Straps) : State :=
  if s.clk.strapsNew then s
  else
    let s : State := { s with straps := { s.straps with bootMode := read.bootMode } }
    if read.kept = s.straps.kept then s else s.event .fp0 0x0C21 1 0 (i1 s.straps.kept ++ i1 read.kept)

/-- The order of the brainpoolP384r1 group (RFC 5639, PRESUMED: the spec names the curve; log entry 56). -/
def brainpoolOrder : Nat := 0x8CB91E82A3386D280F5D6F7E50E641DF152F7109ED5456B31F166E6CAC0425A7CF3AB6AF6B7FC3103B883202E9046565

/-- The private scalars of IDK, AK and LK from the identity seed (04 R105). -/
def identityKeys (seed : BitVec 384) : List Nat :=
  let prk := Config.hkdfExtract (ascii "lns-g8 identity v1") (digestBytes seed)
  ["idk", "ak", "lk"].map fun label => (Config.hkdfExpand prk (ascii label) 384).toNat % (brainpoolOrder - 1) + 1

/-- The device serial: the first 16 bytes of the SHA-384 of the IDK public key (04 R105). -/
def serialOf (idk : Nat) : BitVec 128 := (Config.sha384 (beBytes 97 (Config.publicKey idk).toNat)).extractLsb' 256 128

/-- Step 1 of the ROM: the PUF gives the seed, and the seed the keys and the serial (04 R91, R105). -/
def SecureState.derived (c : SecureState) : SecureState :=
  let keys := identityKeys (Config.pufSeed c.helperData)
  { c with keys := keys, serial := serialOf (keys.headD 0) }

/-- The ROM from the keys on (04 R91, R105). -/
def State.romRun (s : State) : State :=
  let s := (s.onSec fun c => { c.derived with anchor := adoptedHeader c.anchors }).diagProgress
  if s.sec.anchor.isNone then s.diagReport.enterRecovery
  else if s.straps.bootMode = 3 ∨ s.clk.recoveryNext then s.enterRecovery
  else
    match s.selectPlace s.sec.loaders 2 none with
    | (some k, s) => (s.onSec fun c => { c with runningLoader := some k }).onClk fun c => { c with phase := .loader }
    | (none, s) => s.enterRecovery

/-- `ROM_BOOT`: straps, keys, anchor and loader copy (03 R79-R81, 04 R91, R93, R105, R108). `samples` are the 15 samples of the strap pins at this reset. -/
def execRomBoot (samples : List (BitVec 11)) (s : State) : Host.Outcome State Fault Refusal :=
  .next (if s.clk.phase ≠ .rom then s
  else
    let s := s.sampleStraps (strapMajority samples)
    if s.straps.bootMode = 4 then s.onClk fun c => { c with phase := .scan }
    else if s.straps.bootMode = 6 ∨ s.straps.bootMode = 7 then (s.diagWrite (i1 s.straps.bootMode.toNat)).onClk fun c => { c with phase := .halted }
    else s.romRun)

/-! The limit block (01 R20, 04 R92, 07 R197) -/

/-- Write the limit block and lock it: event 0x0101 S0. After a warm reset the new bounds replace the previous ones in this tick and held values are clamped to them. -/
def State.lockLimits (s : State) (l : LimitBlock) (digest : List Byte) : State :=
  let warm := s.sage.everLocked
  let s := if !warm ∧ s.aliveInRecent then { s with pins := { s.pins with shadowHold := some (shadowNets &&& ~~~s.pins.shadowLatch) } } else s
  let s := s.onSage fun g => { g with limits := l, shadow := none, locked := true, everLocked := true, lockWarm := warm }
  let s := if warm then s.reclamp else s
  s.event .sage 0x0101 0 0 (ib warm ++ digest.take 8)

/-! The configuration block (04 R92) -/

/-- A copy passes step 1 of R92: it verifies, its digest is the anchor's, and its values pass the loader's checks. -/
def State.configGood (s : State) (k : Nat) : Bool :=
  let o := nth s.sec.cfgCopies k
  o.obj.verifies 3 s.anchor.custKey && o.obj.man.digest == s.anchor.cfgDigest && o.cfg.valid

/-- The copy that serves: the one the anchor names, else the other. -/
def State.configCopy (s : State) : Option Nat :=
  [s.anchor.cfgCopy, 1 - s.anchor.cfgCopy].find? s.configGood

/-- The caps and preferred points take their defaults at a power-on reset (08 R211, R212). -/
def OpState.fresh (o : OpState) (c : ConfigBlock) : OpState :=
  { o with
    pref := c.pref, trayCapW := c.limits.trayCapMaxW, budget := c.limits.budgetMax, guard := 20
    feedCapA := c.limits.feeds.map fun f => (nth f.envelope 7).iA }

/-- The breaker settings at a start: those stored by command while they lie within the envelope, else the block's (05 R119, R141). -/
def State.breakerAt (s : State) (c : ConfigBlock) (x : Nat) : BreakerSettings :=
  match nth s.feed.stored x with
  | some b => if b.within (nth c.limits.feeds x) then b else nth c.breakers x
  | none => nth c.breakers x

/-- Load every setting of the block; the program set only at a power-on reset (04 R92 step 3, 06 R144, 07 R176). -/
def State.loadConfig (s : State) (c : ConfigBlock) : State :=
  let por := s.clk.porBoot
  let s : State := { s with cfg := c }
  let s := s.onSage fun g => { g with rails := g.rails.mapIdx fun i r => ({ r with map := nth c.railMap i, voutMode := none } : Rail).relevel (nth c.railLevels i) }
  let s := s.onFeeds fun f => { f with
    kShare := c.kShare, minOffMs := c.minOffMs, feeds := f.feeds.mapIdx fun x g => { g with cfg := nth c.feeds x, breaker := s.breakerAt c x } }
  let s := s.onThyme fun t => { t with accMinOffMs := c.accMinOffMs }
  let s := if por then s.install c.programs 0 else s
  let s := s.installTable c.pTable 0 0
  let s := s.onOp fun o => { (if por then o.fresh c else o) with alertMask := c.alertMask }
  let s := s.onPhase fun p => { p with kp := c.kp, kd := c.kd, ringCap := c.decisionMib * 2 ^ 20 / 1216 }
  let s := s.onCool fun k => k.configured c.cool por
  let s := s.onLedger fun l => { l with cfg := c.ledger }
  let s := s.onLink fun l => { l with
    media := c.eth.media, jumbo := c.eth.jumbo, portBase := c.eth.base
    ports := l.ports.mapIdx fun n p => { p with expansion := 8 ≤ n && nth c.expansion (n - 8) } }
  let s := s.onRepro fun r => { r with nominal := c.nominal }
  { s with
    log := { s.log with ddrCap := c.logMib * 2 ^ 20 / 64 }
    rec_ := { s.rec_ with spillBytes := c.spillBytes, partnerBytes := c.partnerBytes } }

/-! The trip area (05 R129) -/

/-- The record's `crc` is right. -/
def TripRecord.good (r : TripRecord) : Bool := r.crc == crc32 r.body

/-- The retry window that the latest record of a feed leaves. -/
def retriesOf (l : List TripRecord) (x : Nat) : Nat :=
  ((l.filter fun r => r.feed == x).foldl (fun (b : Option TripRecord) r => match b with
    | some q => if q.recSeq < r.recSeq then some r else some q
    | none => some r) none).elim 0 TripRecord.retries

/-- A feed after the read: a lockout, a forced back-off of `n` s, or neither; in both the fast off is low, as after a trip (05 R129; log entry 51). -/
def Feed.afterRead (f : Feed) (lock : Bool) (n retries gt : Nat) : Feed :=
  let f := { f with retries := List.replicate retries gt }
  if lock then { f with phase := .lockout, fastOff := true, retryNext := true }
  else if n = 0 then f
  else { f with phase := .backoff, fastOff := true, backoffEnd := gt + secs n, retryNext := true }

/-- Read the trip area: event 0x030A S1 for each record with a wrong `crc`, and at a power-on start lockouts, back-offs and retry windows, with event 0x030B S1, one for both feeds and also where both are locked out (R127-R129; log entry 51). At a warm reset the feeds keep the states that the AON domain holds (00 R4, 01 R19; log entry 56). -/
def State.readTrips (s : State) : State :=
  let all := (s.feed.trips.filterMap id).filter fun r => r.magic == 0x5254474C
  let recs := all.filter TripRecord.good
  let bad := countIf (fun r => !r.good) all
  let s := (List.range bad).foldl (fun s _ => s.event .feed 0x030A 1 0 []) s
  if !s.clk.porBoot then s else
  let open_ := ((recs.filter fun r => r.status == .unresolved).map TripRecord.backoffS).foldl max 0
  let wait := fun x => max open_ (if bad = 0 then 0 else (s.feedAt x).breaker.backoffS)
  let lock := fun x => recs.any fun r => r.feed == x && r.status == .lockout
  let s := s.onFeeds fun c => { c with feeds := c.feeds.mapIdx fun x f => f.afterRead (lock x) (wait x) (retriesOf recs x) s.gt }
  if wait 0 = 0 ∧ wait 1 = 0 then s else s.event .feed 0x030B 1 0 []

/-! Commits (04 R96-R99, R101) -/

/-- The manifest carries a customer signature by a key (04 R99). -/
def Manifest.signedBy (m : Manifest) (key : BitVec 384) : Bool := m.custSig && m.custKeyHash == key && m.custSigOk

/-- Write a configuration block copy; the FLASH1 port takes it while the anchor gate is open (04 R87, R96). -/
def State.writeCfgCopy (s : State) (place : Nat) (o : ConfigObject) : State :=
  if s.flashTakes (if place = 0 then .cfg0 else .cfg1) then s.onSec fun c => { c with cfgCopies := c.cfgCopies.set place o } else s

/-- Write the next anchor header into the copy not adopted, and erase both staging areas: event 0x0C04 S0 (04 R96). The FLASH1 port refuses it while the gate is sealed (04 R87). -/
def State.commitAnchor (s : State) (f : AnchorHeader → AnchorHeader) : State :=
  if !s.flashTakes .anchor then s else
  let k := 1 - s.sec.anchor.getD 0
  let h := f { s.anchor with gen := s.anchor.gen + 1, valid := true }
  (s.onSec fun c => { c with anchors := c.anchors.set k h, anchor := some k, cfgStaging := none, anchorStaging := none }).event .fp0 0x0C04 0 0 []

/-- The staged configuration block to commit: made against the current header, and verified (04 R96). -/
def State.stagedConfig (s : State) : Option ConfigObject :=
  match s.sec.cfgStaging with
  | some (g, o) => if g = s.anchor.gen ∧ o.obj.verifies 3 s.anchor.custKey then some o else none
  | none => none

/-- The staged key change made against the current header (04 R96, R98). -/
def State.stagedKey (s : State) : Option AnchorChange :=
  match s.sec.anchorStaging with
  | some (g, c) => if g = s.anchor.gen then some c else none
  | none => none

/-- An enrolment may be committed: the running loader, the block that is then current and a bootable slot carry the key's signature (04 R99). -/
def State.keyBacked (s : State) (key : BitVec 384) : Bool :=
  let loader := s.sec.runningLoader.any fun k => (nth s.sec.loaders k).obj.man.signedBy key
  let block := match s.stagedConfig with
    | some o => o.obj.man.signedBy key
    | none => s.sec.cfgInForce.any fun k => (nth s.sec.cfgCopies k).obj.man.signedBy key
  let slot := s.sec.slots.any fun x => x.bootable && decide (s.anchor.minVersion ≤ x.obj.man.version) && x.obj.man.signedBy key
  loader && block && slot

/-- A key change in a header. -/
def AnchorChange.apply (c : AnchorChange) (h : AnchorHeader) : AnchorHeader :=
  match c with
  | .enrol k => { h with ckEnrolled := true, ckHash := k }
  | .remove => { h with ckEnrolled := false, ckHash := 0 }

/-- Step 6 of R92 with the slot that boots: one commit of what is staged and of a raised minimum version; true where a configuration block was committed. -/
def State.commitStaged (s : State) (slot : Nat) : Bool × State :=
  let cfg := s.stagedConfig
  let change := s.stagedKey
  let refused := match change with
    | some (.enrol k) => !s.keyBacked k
    | _ => false
  let s := if refused then s.event .fp0 0x0C06 2 0 [] else s
  let change := if refused then none else change
  let floor := (nth s.sec.slots slot).obj.man.floor
  let raise := decide (s.anchor.minVersion < floor)
  let place := 1 - s.anchor.cfgCopy
  if cfg.isNone && change.isNone && !raise then (false, s.onSec fun c => { c with cfgStaging := none, anchorStaging := none })
  else
    let s := match cfg with
      | some o => s.writeCfgCopy place o
      | none => s
    let s := s.commitAnchor fun h =>
      let h := match cfg with
        | some o => { h with cfgCopy := place, cfgDigest := o.obj.man.digest }
        | none => h
      let h := match change with
        | some c => c.apply h
        | none => h
      if raise then { h with minVersion := floor } else h
    (cfg.isSome, s)

/-- Retire the other slot where it is VALID with a lower generation: event 0x0C02 S0 (04 R94). -/
def State.retireLoser (s : State) (slot : Nat) : State :=
  let other := 1 - slot
  let x := nth s.sec.slots other
  if x.bootable ∧ x.generation.toNat < (nth s.sec.slots slot).generation.toNat then
    (s.onSec fun c => { c with slots := modAt c.slots other fun y => { y with state := wordRetired } }).event .fp0 0x0C02 0 other []
  else s

/-! No slot, or no configuration block (04 R92, R95, 15 R417) -/

/-- A branch B0-B8, B10 or B11 is on. -/
def State.branchOn (s : State) : Bool := s.sage.branches &&& 0xDFF#12 != 0

/-- The recovery loader follows; with no block in force, the reset-state bounds are locked first (04 R92). -/
def State.toRecovery (s : State) : State := (if s.sage.locked then s else s.lockLimits {} (zeros 8)).enterRecovery

/-- With a branch on after a warm reset, the tray goes to a living partner, or down in order through the arbiter (04 R95). -/
def State.noImage (s : State) : State :=
  if s.clk.porBoot ∨ !s.branchOn then s.toRecovery
  else if s.aliveInRecent then (s.dropOwnership.onPair fun p => { p with releaseAt := some (s.gt + 50) }).toRecovery
  else
    let s := s.trayOffNow
    if s.runs 0 then s.onClk fun c => { c with phase := .powerDown } else s.toRecovery

/-! The resident loader (04 R92) -/

/-- The slot that BOOT_MODE forces (03 R81). -/
def Straps.forced (x : Straps) : Option Nat := if x.bootMode = 1 then some 0 else if x.bootMode = 2 then some 1 else none

/-- Steps 5 to 7 of R92. A committed configuration block restarts the boot sequence from the ROM (16 R436, 03 R77). -/
def State.startSlot (s : State) : State :=
  match s.selectPlace s.sec.slots 1 s.straps.forced with
  | (none, s) => s.noImage
  | (some k, s) =>
    let (again, s) := s.commitStaged k
    if again then
      (s.onSage fun g => { g with locked := false, shadow := none }).onClk fun c => { c with phase := .rom }
    else
      let s := s.retireLoser k
      (s.onSec fun c => { c with runningSlot := some k, gateOpen := false }).onClk fun c => { c with phase := .handoff }

/-- Steps 1 to 4 of R92, then the rest. -/
def State.loaderRun (s : State) : State :=
  let s := s.diagProgress
  match s.configCopy with
  | none => (s.event .fp0 0x0C05 4 0 []).noImage
  | some k =>
    let o := nth s.sec.cfgCopies k
    let s := s.onSec fun c => { c with cfgInForce := some k }
    let s := (s.lockLimits o.cfg.limits (digestBytes o.obj.man.digest)).loadConfig o.cfg
    s.readTrips.startSlot

/-- `RESIDENT_LOADER_RUN`: the loader's steps; while the power-down program of R95 runs, the loader waits for its end (04 R92-R99, 05 R129). -/
def execResidentLoaderRun (s : State) : Host.Outcome State Fault Refusal :=
  .next (match s.clk.phase with
    | .loader => s.loaderRun
    | .powerDown => if s.runs 0 then s else s.toRecovery
    | _ => s)

/-! The firmware's first start (16 R434, R437) -/

/-- The version of a component in the running image's manifest. -/
def State.compVersion (s : State) (k : Nat) : Nat := ((s.runningManifest.comps.find? fun c => c.id == k).map CompEntry.version).getD 0

/-- The fixed part and the handoff block of a settings copy, as every image reads them (16 R433). -/
def State.readFixed (s : State) (c : SettingsCopy) : State :=
  let s := s.onSec fun x => { x with bootCount := c.boot }
  let s : State := { s with repro := { s.repro with rpSeq := c.rpSeq, inForce := c.subst } }
  s.onUpd fun u => { u with block := c.handoff, plan := if c.handoff.pending then u.plan else c.handoff.plan }

/-- The body of a settings copy. -/
def State.readBody (s : State) (c : SettingsCopy) : State :=
  let s := s.onThyme fun t => { t with autoOn := c.autoOn }
  let s := s.onFeeds fun f => { f with stored := [nth c.curves 0, nth c.curves 1] }
  s.onPhase fun p => { p with stored := (List.range 8).map (nth c.models) }

/-- The settings copy in force is read at a start; the body is reset when it has another schema: event 0x0C15 S1, and a new copy is written (16 R434). -/
def State.checkSchema (s : State) : State :=
  let own := s.runningManifest.schema
  let old := s.sec.settingsInForce
  let s := match old with
    | some c => s.readFixed c
    | none => s
  match old.filter fun c => c.schema == own with
  | some c => s.readBody c
  | none =>
    let s := match old with
      | some c => s.event .fp0 0x0C15 1 0 (i2 c.schema ++ i2 own)
      | none => s
    let s := s.onThyme fun t => { t with autoOn := s.cfg.autoOn }
    let s := s.onFeeds fun f => { f with stored := [none, none], feeds := f.feeds.mapIdx fun x g => { g with breaker := nth s.cfg.breakers x } }
    let s := s.onPhase fun p => { p with stored := List.replicate 8 none }
    s.saveSettingsAs own

/-- A section is accepted: its major version is the new component's or one below it (16 R437). -/
def State.takesSection (s : State) (x : Nat × Nat) : Bool :=
  let new := s.compVersion x.1 / 2 ^ 24
  let old := x.2 / 2 ^ 24
  old == new || old + 1 == new

/-- An accepted section replaces its component's configuration block values (16 R437). -/
def State.takeSection (s : State) (b : HandoffBlock) (comp : Nat) : State :=
  match comp with
  | 0 => { s with log := { s.log with level := b.sysc } }
  | 3 => s.onUpd fun u => { u with plan := b.plan }
  | 4 =>
    let (tray, feeds, guard, budgets, pref) := b.caplCaps
    s.onOp fun o => ({ o with trayCapW := tray, feedCapA := feeds, guard := guard, budget := budgets, pref := pref, table := b.caplTable.getD o.table } : OpState).capped s.sage.limits
  | 5 =>
    let (levels, grace, fan, pump) := b.cool
    s.onCool fun c => { c with levels := levels, graceMs := grace, fanLoop := { c.fanLoop with integ := fan }, pumpLoop := { c.pumpLoop with integ := pump } }
  | 7 => s.onLedger fun l => { l with cfg := b.attr }
  | 12 =>
    let s := s.onSync fun y => { y with hangS := b.synm.1 }
    s.onLink fun l => { l with ctxKeys := l.ctxKeys.mapIdx fun k h => match nth b.synm.2 k with
      | some key => ({ h with bound := true, key := key } : HostKeyState)
      | none => h }
  | _ => s

/-- The handoff block is taken or refused: event 0x0C14 S0, or S2 with the refused component IDs (16 R437). -/
def State.takeHandoff (s : State) : State :=
  let b := s.upd.block
  if !b.pending then s
  else
    let mine := s.sec.runningSlot.any fun k => (nth s.sec.slots k).generation.toNat == b.targetGen
    let block := s.sec.cfgInForce.any fun k => (nth s.sec.cfgCopies k).obj.man.digest == b.targetCfg
    let taken := if mine && block then b.sections.filter s.takesSection else []
    let lost := (b.sections.filter fun x => !taken.contains x).map Prod.fst
    let s := taken.foldl (fun s x => s.takeSection b x.1) s
    let s := s.onUpd fun u => { u with
      block := { b with pending := false, consumed := true }, plan := if taken.any (fun x => x.1 == 3) then u.plan else {}
      handoff := if taken = [] then 3 else if lost = [] then 1 else 2 }
    let s := s.saveSettings
    if taken ≠ [] ∧ lost = [] then s.event .fp0 0x0C14 0 0 [] else s.event .fp0 0x0C14 2 0 ((lost.map i1).flatten)

/-- The ledger after a start: from the partner where the pair was MIRRORING and it lives, else from the journal (01 R21, 11 R310, R311). -/
def State.ledgerRestore (s : State) : State :=
  if s.pair.fromPartner ∧ s.aliveInRecent then s else (s.ledgerStart s.clk.porBoot).onPair fun p => { p with fromPartner := false }

/-- `HANDOFF_ACCEPTANCE`: FP0-FP3 start, the settings and the handoff block are read, and the components begin (16 R434, R437, R438; 11 R310). -/
def execHandoffAcceptance (s : State) : Host.Outcome State Fault Refusal :=
  .next (if s.clk.phase = .handoff then
    let s := s.checkSchema.takeHandoff.ledgerRestore
    let s := (s.onUpd UpdateState.settled).onPhase fun p => { p with loadPending := true }
    let s := s.onPair fun p => { p with mirTrainGt := some s.gt }
    s.startSpill.onClk fun c => { c with phase := .starting }
  else s)

/-! STANDBY (03 R83) -/

/-- `ALONE_DECISION`: ALIVE_IN has not toggled for 100 ms after the MIR port starts training (03 R83, 15 R405). -/
def execAloneDecision (s : State) : Host.Outcome State Fault Refusal :=
  .next (match s.pair.mirTrainGt with
    | some t =>
      if s.firmwareRuns ∧ s.pair.role = .undecided ∧ s.since t (ms 100) ∧ s.pair.aliveIn.all (fun a => decide (a < t)) = true then
        s.onPair fun p => { p with alone := true }
      else s
    | none => s)

/-- The conditions of R83. -/
def State.standbyReady (s : State) : Bool :=
  s.sage.locked && s.thyme.loaded && (List.range 14).all (fun k => !s.restarting k) && s.ledger.begun && s.pair.role != .undecided

/-- `STANDBY_ENTRY`: the end of the governor's own start-up; under AUTO_ON the OWNER's tray power-up follows (03 R83, 06 R164). -/
def execStandbyEntry (s : State) : Host.Outcome State Fault Refusal :=
  .next (if s.clk.phase = .starting ∧ s.standbyReady then
    let s := s.onClk fun c => { c with phase := .running, warmInProgress := false }
    if s.thyme.tray = .off then
      let s := (s.onThyme fun t => { t with tray := .standby }).mirrored .tray
      if s.isOwner ∧ s.thyme.autoOn ∧ !s.thyme.latched then s.request .trayOn else s
    else s
  else s)

end Sys2Proof.Machine
end

