-- ==== Sys2Proof/Machine/BusAck.lean ====
section
/-! DEFINITION. The poll rounds of the regulator buses, and the end of a regulator bus write: acknowledged, refused or timed out (06 R149, R150, 07 R181, R182, R505, 08 R222). -/

namespace Sys2Proof.Machine

open Sys2Proof

/-- `POLL_ROUND`: the next round of a PMBus or I3C bus carries a waiting write, the oldest that may start, in place of the poll; else it polls one value on PMBus, up to 16 on I3C, SPD5 hub sensors among them (07 R182, R505, 10 R264). -/
def execPollRound (bus : U8) (replies : List (Option PollReply)) (hubs : List (U16 × Int)) (s : State) : Host.Outcome State Fault Refusal :=
  let b := bus.toNat
  let q := nth s.sage.buses b
  .next (if 12 ≤ b ∨ q.any (fun w => w.started.isSome) ∨ s.sage.groups.any (fun x => x.bus == b) then s
    else
      match q.find? s.mayBegin with
      | some w => s.onSage fun g => { g with buses := g.buses.set b ({ w with started := some s.gt } :: q.erase w) }
      | none =>
        let s := replies.foldl (fun s x => s.pollOnce b x) s
        hubs.foldl (fun s h => s.reading h.1.toNat h.2) s)

/-- The `MODE_SET` commands that waited are answered once no margin write waits (07 R201). -/
def State.restored (s : State) : State :=
  if s.marginWaits then s
  else
    let l := s.sage.restores
    l.foldl (fun s x => s.lateAnswer x.port x.session x.reqId .ok []) (s.onSage fun g => { g with restores := [] })

/-- The write in progress on a bus. -/
def State.inProgress (s : State) (bus : Nat) : Option BusWrite :=
  match nth s.sage.buses bus with
  | w :: _ => if w.started.isSome then some w else none
  | [] => none

/-- A write of a context's step is acknowledged: the step completes with its last one (06 R149, R150). -/
def State.ctxAck (s : State) (k rail : Nat) : State :=
  if (s.ctx k).inStep && (s.ctx k).busWait.contains rail then
    let s := s.onCtx k fun c => { c with busWait := c.busWait.erase rail }
    if (s.ctx k).busWait = [] then s.next k else s
  else s

/-- A raising write of a P-state move is acknowledged once no other move of its rail waits (08 R222). -/
def State.raiseAck (s : State) (rail : Nat) : State :=
  let more := s.sage.buses.any fun b => b.any fun w => w.rail == rail && w.owner == .pstate
  if s.op.raises.contains rail && !more && s.op.heldMoves.all (fun m => m.1 != rail) then
    s.onOp fun o => { o with raises := o.raises.filter (· != rail), raiseAckGt := some s.gt }
  else s

/-- What an acknowledged write leaves (07 R505). -/
def State.acknowledge (s : State) (w : BusWrite) : State :=
  let s := match w.kind with
    | .setpoint mv =>
      let s := (s.onRail w.rail fun r => { r with outMv := mv }).mirrored .grants
      if w.owner = .margin then s.traced 6 w.rail mv else s
    | _ => s
  match w.owner with
  | .thyme k => s.ctxAck k w.rail
  | .pstate => s.raiseAck w.rail
  | _ => s

/-- What follows a write that is given up: a program aborts with cause BUS; a P-state move is queued again; every other one records the bus failure (06 R149, 07 R183; log entry 9). -/
def State.giveUp (s : State) (bus : Nat) (w : BusWrite) : State :=
  match w.owner with
  | .thyme k =>
    if (s.ctx k).inStep && (s.ctx k).busWait.contains w.rail then s.abort k 5 0
    else s.busFailure bus (s.rail w.rail).map.addr w.kind.command
  | .pstate =>
    let newer := (nth s.sage.buses bus).any fun x => x.rail == w.rail && x.owner == .pstate
    let s := s.busFailure bus (s.rail w.rail).map.addr w.kind.command
    if newer then s else s.busWrite bus { w with started := none, refused := 0 }
  | _ => s.busFailure bus (s.rail w.rail).map.addr w.kind.command

/-- The write in progress counts a refusal and is tried again (06 R149). -/
def State.refusedOnce (s : State) (bus : Nat) : State :=
  s.onSage fun g => { g with buses := modAt g.buses bus fun q =>
    match q with
    | w :: rest => { w with refused := w.refused + 1, started := if 12 ≤ bus then some s.gt else none } :: rest
    | [] => [] }

/-- A list without repeats. -/
def allOnce : List Nat → List Nat
  | [] => []
  | x :: xs => if xs.contains x then allOnce xs else x :: allOnce xs

/-- The group command of an immediate-off ends on its bus (trace point 5, with its devices): the steps that waited for the OPERATION off of its devices have it acknowledged, or abort with cause BUS; a failure is event 0x0109 and delays nothing else (06 R149, 07 R192). -/
def State.groupEnd (s : State) (x : GroupOff) (good : Bool) : State :=
  let s := s.onSage fun g => { g with groups := g.groups.erase x }
  let s := s.traced 5 x.bus (allOnce (x.rails.map fun c => (s.rail c).map.addr)).length
  let s := if good then s else s.busFailure x.bus (s.rail (x.rails.headD 0)).map.addr 0x01
  (List.range 9).foldl (fun s k =>
    if good then x.rails.foldl (fun s c => s.ctxAck k c) s
    else if (s.ctx k).inStep && x.rails.any (fun c => (s.ctx k).busWait.contains c) then s.abort k 5 0 else s) s

/-- `BUS_WRITE_ACK`: the transaction of the write in progress ends, with success or with a refusal; a bad PEC is a refusal (07 R181, R505). The group command of an immediate-off comes first on its bus (R192). -/
def execBusWriteAck (bus : U8) (good : Bool) (s : State) : Host.Outcome State Fault Refusal :=
  let b := bus.toNat
  .next (match s.sage.groups.find? (fun x => x.bus == b), s.inProgress b with
    | some x, _ => s.groupEnd x good
    | none, none => s
    | none, some w =>
      if good then (s.busPop b).acknowledge w
      else if w.refused + 1 < 3 then s.refusedOnce b
      else (s.busPop b).giveUp b w)

/-- `BUS_WRITE_TIMEOUT`: no acknowledgement within 1 ms of the start of the transaction (06 R149, 07 R505). -/
def execBusWriteTimeout (bus : U8) (s : State) : Host.Outcome State Fault Refusal :=
  let b := bus.toNat
  .next (match s.inProgress b with
    | none => s
    | some w =>
      match w.started with
      | some t => if s.since t (ms 1) then (s.busPop b).giveUp b w else s
      | none => s)

end Sys2Proof.Machine
end

