-- ==== Sys2Proof/Machine/Identity.lean ====
section
/-! DEFINITION. Identity, attestation, customer keys, debug access and the recovery loader (04 R98-R110). -/

namespace Sys2Proof.Machine

open Sys2Proof

/-! Certificates and attestation (R106, R107) -/

/-- `CERT_CHAIN_READ` (R106). -/
def bodyCertChainRead (index : U8) (_c : Ctx) (s : State) : Answer :=
  check [(decide (2 < index.toNat), .badArg)] s fun _ =>
    okay (if index = 0 then s.sec.idkCert else keyCertificate s.sec.serial index.toNat) s

/-- Manifest digest of the object at the place named, zero where none runs. -/
def placeDigest (l : List Slot) (k : Option Nat) : List Byte := digestBytes (k.elim 0 fun k => (nth l k).obj.man.digest)

/-- Digest over the manifest digests of the running models in load order; zero if none runs (R107). -/
def State.modelsDigest (s : State) : List Byte :=
  let l := s.phase.order.filter fun k => (s.slot k).phase == .running
  if l = [] then zeros 48 else digestBytes (Config.sha384 (l.map fun k => digestBytes (s.slot k).digest).flatten)

/-- The generation of the running slot. -/
def State.runningGen (s : State) : Nat := s.sec.runningSlot.elim 0 fun k => (nth s.sec.slots k).generation.toNat

/-- Bit 0 the running slot, bit 1 the running loader copy (R107). -/
def State.runningBits (s : State) : Nat := s.sec.runningSlot.getD 0 + 2 * s.sec.runningLoader.getD 0

/-- The attestation evidence of this CLK_TICK without its signature (R107). -/
def State.evidence (s : State) (nonce : BitVec 256) : List Byte :=
  let a := s.anchor
  i4 0x5441474C ++ i2 1 ++ i1 s.straps.slotId.toNat ++ i1 (packBits [s.straps.pairSel, s.isOwner, s.sec.unlock.scope != 0, a.ckEnrolled])
    ++ beBytes 32 nonce.toNat ++ i8 s.gt ++ i2 s.sec.bootCount ++ i1 s.straps.bootMode.toNat ++ i1 s.runningBits ++ i4 s.runningGen ++ i4 s.fwVersion
    ++ i4 a.minVersion ++ i4 a.gen ++ zeros 4 ++ serialBytes s.sec.serial ++ placeDigest s.sec.loaders s.sec.runningLoader
    ++ placeDigest s.sec.slots s.sec.runningSlot ++ digestBytes (s.sec.cfgInForce.elim 0 fun k => (nth s.sec.cfgCopies k).obj.man.digest)
    ++ digestBytes (a.custKey.getD 0) ++ s.modelsDigest ++ i4 s.sec.unlock.scope.toNat ++ zeros 4

/-- `ATTEST` (R107). -/
def bodyAttest (nonce : BitVec 256) (_c : Ctx) (s : State) : Answer :=
  let e := s.evidence nonce
  okay (e ++ s.sign 1 e) s

/-! The customer key (R98) -/

/-- `CUSTOMER_KEY_ENROLL` with op 1: a first enrolment needs no authorisation (R98). A change already staged is overwritten (log entry 56). -/
def bodyCustomerKeyEnroll (basedOn : U32) (keyHash : BitVec 384) (authOk : Bool) (_c : Ctx) (s : State) : Answer :=
  check [(s.anchor.ckEnrolled && !authOk, .integrityFail)] s fun _ =>
    accepted (s.onSec fun c => { c with anchorStaging := some (basedOn.toNat, .enrol keyHash) })

/-- `CUSTOMER_KEY_ENROLL` with op 2: the enrolled key must authorise its removal (R98). -/
def bodyCustomerKeyEnrollRemove (basedOn : U32) (authOk : Bool) (_c : Ctx) (s : State) : Answer :=
  check [(!s.anchor.ckEnrolled || !authOk, .integrityFail)] s fun _ =>
    accepted (s.onSec fun c => { c with anchorStaging := some (basedOn.toNat, .remove) })

/-! Boot (R104) -/

/-- State word, generation and version of a place (R102). -/
def Slot.report (x : Slot) : List Byte := leBytes 4 x.state.toNat ++ leBytes 4 x.generation.toNat ++ i4 x.obj.man.version

/-- The places as `BOOT_STATUS` and `INFO` report them. -/
def SecureState.places (c : SecureState) : List Byte := (c.loaders.map Slot.report).flatten ++ (c.slots.map Slot.report).flatten

/-- `BOOT_STATUS`: the spec gives no payload table. -/
def bodyBootStatus (_c : Ctx) (s : State) : Answer :=
  okay (i1 s.straps.bootMode.toNat ++ i1 s.runningBits ++ i2 s.sec.bootCount ++ i4 s.runningGen ++ i4 s.fwVersion ++ i4 s.anchor.gen ++ i4 s.anchor.minVersion
    ++ s.sec.places) s

/-- `BOOT_RECOVERY`: event 0x0C08 S3, and a warm reset 1 ms later into the recovery loader (R104). -/
def bodyBootRecovery (_c : Ctx) (s : State) : Answer :=
  check [(s.branchOn && s.pair.role != .standby, .stateConflict)] s fun _ =>
    accepted ((s.onClk fun c => { c with recoveryAt := some (s.gt + ms 1) }).event .fp0 0x0C08 3 0 [])

/-! Debug access (R109, R110) -/

/-- `DEBUG_STATUS`: the scope and a fresh challenge (R109; log entry 1). -/
def bodyDebugStatus (_c : Ctx) (s : State) : Answer :=
  let (k, s) := s.draw
  let ch := Config.freeNonce k
  okay (leBytes 4 s.sec.unlock.scope.toNat ++ beBytes 32 ch.toNat) (s.onSec fun c => { c with unlock := { c.unlock with challenge := some ch } })

/-- `DEBUG_UNLOCK`: event 0x0C09 S1; each attempt consumes the challenge (R109, R110). -/
def bodyDebugUnlock (magic : U32) (serial : BitVec 128) (challenge : BitVec 256) (scope duration : U32) (sigs : TokenSigs) (_c : Ctx) (s : State) : Answer :=
  let ok := serial == s.sec.serial && s.sec.unlock.challenge == some challenge && sigs.vendorOk && (!s.anchor.ckEnrolled || sigs.custOk)
  let s := s.onSec fun c => { c with unlock := { c.unlock with challenge := none } }
  check [(magic != 0x5444474C || decide (7 < scope.toNat) || decide (duration.toNat = 0) || decide (86400 < duration.toNat), .badArg)] s fun _ =>
    if ok then
      okay [] ((s.onSec fun c => { c with unlock := { c.unlock with scope := scope, lockAt := some (s.gt + secs duration.toNat) } }).event .fp2 0x0C09 1 0 [])
    else refuse .integrityFail s

/-- `DEBUG_LOCK` (R110). -/
def bodyDebugLock (_c : Ctx) (s : State) : Answer := okay [] s.lockDebug

/-- `DEBUG_DURATION_END`: the duration of the unlock has passed (R110). -/
def execDebugDurationEnd (s : State) : Host.Outcome State Fault Refusal :=
  .next (match s.sec.unlock.lockAt with
    | some t => if t ≤ s.gt then s.lockDebug else s
    | none => s)

/-- JTAG instructions (R108): those that every mode offers, those that drive pins, and debug accesses by the scope bit that they need. -/
inductive JtagInstruction where
  | bypass | idcode | samplePreload | extest | otherPinDriving | debug (scope : Nat)
  deriving DecidableEq, Repr, Inhabited

/-- The JTAG port offers an instruction (R108, R109): pin-driving ones in BOOT_MODE 0b100 only, debug instructions while their scope is unlocked. -/
def State.jtagOffers (s : State) : JtagInstruction → Bool
  | .bypass | .idcode | .samplePreload => true
  | .extest | .otherPinDriving => s.straps.bootMode == 4
  | .debug k => decide (k < 3) && s.sec.unlock.scope.getLsbD k

/-! The recovery loader (R100, R102, R103) -/

/-- What a recovery frame comes to: the reply and the state. -/
abbrev RecovAnswer := (Option Status × List Byte) × State

/-- NAK with a status. -/
def nak (st : Status) (s : State) : RecovAnswer := ((some st, []), s)

/-- ACK with a payload. -/
def ack (payload : List Byte) (s : State) : RecovAnswer := ((none, payload), s)

/-- A frame is dropped without reply when its sync byte or CRC is wrong or its length is above 4,100 (R102). -/
def RecovHdr.frameOk (f : RecovHdr) : Bool := f.sync == 0xA5 && f.crcOk && decide (f.len.toNat ≤ 4100)

/-- The bytes of a reply: ACK 0x05 with its payload, or NAK 0x06 with a status (R102). -/
def recovWire (seq : Nat) (nak : Option Status) (payload : List Byte) : List Byte :=
  let p := match nak with
    | some st => i1 st.code
    | none => payload
  let b := [0xA5#8] ++ i1 (if nak.isSome then 6 else 5) ++ i2 seq ++ i2 p.length ++ p
  b ++ i4 (crc32 b).toNat

/-- Put a reply on UART RECOV. -/
def State.recovReply (s : State) (r : RecoveryReply) : State := s.onSec fun c => { c with recov := { c.recov with sent := c.recov.sent ++ [r] } }

/-- Take a recovery frame of a type whose payload has `n` bytes: a damaged one is dropped, a repeated one is answered again without being applied; a reserved field or a payload of another length is BAD_ARG (R102; log entry 56). -/
def State.recovFrame (s : State) (f : RecovHdr) (n : Nat) (run : State → RecovAnswer) : State :=
  if s.clk.phase ≠ .recovery ∨ !f.frameOk then s
  else if s.sec.recov.lastSeq = some f.seq.toNat then s.recovReply s.sec.recov.lastReply
  else
    let (a, s) := if f.rsvd = 0 ∧ f.len.toNat = n then run s else nak .badArg s
    let r : RecoveryReply := { seq := f.seq.toNat, nak := a.1, payload := a.2, wire := recovWire f.seq.toNat a.1 a.2 }
    (s.onSec fun c => { c with recov := { c.recov with lastSeq := some f.seq.toNat, lastReply := r } }).recovReply r

/-- Change the transfer. -/
def State.onTransfer (s : State) (t : Option RecoveryTransfer) : State := s.onSec fun c => { c with recov := { c.recov with transfer := t } }

/-- `INFO` (R102). -/
def execRecovInfo (f : RecovHdr) (s : State) : Host.Outcome State Fault Refusal :=
  .next (s.recovFrame f 0 fun s => ack (serialBytes s.sec.serial ++ s.sec.idkCert ++ i4 s.anchor.gen ++ i4 s.anchor.minVersion ++ s.sec.places) s)

/-- Longest image of a target in bytes (R86); general SRAM bounds an anchor restore (R103). -/
def recovSpace (target : Nat) : Nat :=
  65536 * (if target < 2 then FlashArea.loader0.blocks else if target < 4 then FlashArea.slotA.blocks else if target = 4 then FlashArea.cfg0.blocks else 512)

/-- `BEGIN`: an anchor restore is taken exactly while no header verifies, and nothing else then (R100, R103). -/
def execRecovBegin (f : RecovHdr) (target : U8) (manLen objLen : U32) (s : State) : Host.Outcome State Fault Refusal :=
  let t := target.toNat
  .next (s.recovFrame f 12 fun s =>
    let s := s.onTransfer none
    if 5 < t ∨ manLen.toNat = 0 ∨ 65536 < manLen.toNat ∨ recovSpace t < objLen.toNat then nak .badArg s
    else if (t = 5) = s.sec.anchor.isSome then nak .stateConflict s
    else ack [] (s.onTransfer (some { target := t, manLen := manLen.toNat, objLen := objLen.toNat })))

/-- The manifest type of a target (R102). -/
def recovType (target : Nat) : Nat := if target < 2 then 2 else if target < 4 then 1 else if target = 4 then 3 else 7

/-- The verdict on a manifest that has arrived (R103). -/
def State.recovManifest (s : State) (target : Nat) (m : Manifest) : Option Status :=
  let key := if target = 5 then none else s.anchor.custKey
  if !m.verifies m.type key then some .integrityFail
  else if (m.type = 1 ∨ m.type = 2) ∧ m.version < s.anchor.minVersion then some .limitExceeded
  else if m.type ≠ recovType target then some .badArg
  else none

/-- `DATA`: `man` is the manifest as its bytes read once they are complete (R102, R103). Without a transfer begun it is STATE_CONFLICT (log entry 56). -/
def execRecovData (f : RecovHdr) (offset : U32) (count : U16) (man : Manifest) (s : State) : Host.Outcome State Fault Refusal :=
  let a := offset.toNat
  let b := a + count.toNat
  .next (s.recovFrame f (4 + count.toNat) fun s =>
    match s.sec.recov.transfer with
    | none => nak .stateConflict s
    | some t =>
      if 65536 ≤ a ∧ !t.verified then nak .stateConflict s
      else if (a < 65536 ∧ t.manLen < b) ∨ 65536 + t.objLen < b then nak .badArg s
      else
        let t' := { t with ranges := addRange a b t.ranges }
        if t.verified ∨ contiguous t'.ranges < t.manLen then ack [] (s.onTransfer (some t'))
        else
          match s.recovManifest t.target man with
          | some st => nak st (s.onTransfer none)
          | none => ack [] (s.onTransfer (some { t' with verified := true, man := man })))

/-- A generation that a place holds; zero where it holds none. -/
def Slot.gen (x : Slot) : Nat := if x.genCheck = ~~~x.generation ∧ x.generation ≠ 0xFFFFFFFF then x.generation.toNat else 0

/-- The generation of the next object written to a pair of places: one above the higher (R103, 16 R431). -/
def nextGen (l : List Slot) : Nat := (l.map Slot.gen).foldl max 0 + 1

/-- A state word is programmed only by clearing bits (R88). -/
def Slot.program (x : Slot) (w : StateWord) : Slot := { x with state := x.state &&& w }

/-- An erased place at the start of a writing: WRITING, with its generation, which is written once then (R88). -/
def Slot.begun (gen : Nat) : Slot := ({ generation := BitVec.ofNat 32 gen, genCheck := ~~~(BitVec.ofNat 32 gen) } : Slot).program wordWriting

/-- A place written with an object: WRITTEN once every block reads back as its hash says (R88, R103, 16 R431). -/
def Slot.written (o : ObjectImage) (gen : Nat) : Slot :=
  let x := { Slot.begun gen with obj := o }
  if o.blocksGood then x.program wordWritten else x

/-- VALID, after the full verification of a WRITTEN place (R88). -/
def Slot.validated (x : Slot) : Slot := x.program wordValid

/-- Every byte of the image has arrived, and the image has the blocks that its manifest names (R103). -/
def RecoveryTransfer.whole (t : RecoveryTransfer) : Bool := t.verified && (t.objLen + 65535) / 65536 == t.man.nblocks && (t.objLen == 0 || t.ranges.any fun r => decide (r.1 ≤ 65536 ∧ 65536 + t.objLen ≤ r.2))

/-- Apply an anchor restore: both headers, with `anchor_gen` 1 (R100). -/
def SecureState.restored (c : SecureState) (minVersion : Nat) (ckEnrolled : Bool) (ckHash : BitVec 384) (helper : List Byte) : SecureState :=
  let h : AnchorHeader := { valid := true, gen := 1, minVersion := minVersion, ckEnrolled := ckEnrolled, ckHash := if ckEnrolled then ckHash else 0, serial := c.serial }
  { c with anchors := [h, h], anchor := some 0, helperData := if helper = [] then c.helperData else helper }

/-- Write the object of a whole transfer to its target (R96, R100, R103). A COMMIT that fails with INTEGRITY_FAIL keeps the transfer (log entry 56). -/
def State.recovWrite (s : State) (t : RecoveryTransfer) (content : RecovContent) : RecovAnswer :=
  let done := fun (s : State) => ack [] (s.onTransfer none)
  match content with
  | .image o =>
    let o := { o with man := t.man }
    if !(o.blocksGood && o.imageOk) ∨ 3 < t.target then nak .integrityFail s
    else if t.target < 2 then done (s.onSec fun c => { c with loaders := c.loaders.set t.target (Slot.written o (nextGen c.loaders)).validated })
    else done (s.onSec fun c => { c with slots := c.slots.set (t.target - 2) (Slot.written o (nextGen c.slots)).validated })
  | .config o =>
    let o := { o with obj := { o.obj with man := t.man } }
    if !(o.obj.blocksGood && o.obj.imageOk) ∨ t.target ≠ 4 then nak .integrityFail s
    else
      let place := 1 - s.anchor.cfgCopy
      done ((s.writeCfgCopy place o).commitAnchor fun h => { h with cfgCopy := place, cfgDigest := o.obj.man.digest })
  | .anchor o serialOk idkOk minVersion ckEnrolled ckHash helper =>
    let o := { o with man := t.man }
    if !(o.blocksGood && o.imageOk && serialOk && idkOk) ∨ t.target ≠ 5 then nak .integrityFail s
    else done (s.onSec fun c => c.restored minVersion.toNat ckEnrolled ckHash helper)

/-- `COMMIT`: `content` is the object staged, as its checks find it (R103). Without a transfer begun it is STATE_CONFLICT (log entry 56). -/
def execRecovCommit (f : RecovHdr) (content : RecovContent) (s : State) : Host.Outcome State Fault Refusal :=
  .next (s.recovFrame f 0 fun s =>
    match s.sec.recov.transfer with
    | none => nak .stateConflict s
    | some t => if !t.verified then nak .stateConflict s else if !t.whole then nak .integrityFail s else s.recovWrite t content)

/-- `BOOT`: ACK, then a warm reset (R102). -/
def execRecovBoot (f : RecovHdr) (s : State) : Host.Outcome State Fault Refusal :=
  let again := s.sec.recov.lastSeq = some f.seq.toNat
  let s' := s.recovFrame f 0 fun s => ack [] s
  .next (if s.clk.phase = .recovery ∧ f.frameOk ∧ f.rsvd = 0 ∧ f.len = 0 ∧ !again then s'.warmReset .recoveryLoader else s')

end Sys2Proof.Machine
end

