-- ==== Sys2Proof/Machine/Jobs.lean ====
section
/-! DEFINITION. Jobs, manual state, hang report, host contexts and the tree settings of the sync hub (12 R336-R338, R347, R348, R350, R352, R354, R358, 14 R391, R394). -/

namespace Sys2Proof.Machine

open Sys2Proof

/-! Addresses of this tray -/

/-- The address of an object of this tray: space and index. -/
def SyncState.addrOf (y : SyncState) (space i : Nat) : BitVec 64 := BitVec.ofNat 64 (space * 2 ^ 60 + y.tray * 2 ^ 43 + i)

/-- Operations are parked on an object of a space and index. -/
def SyncState.parkedAt (y : SyncState) (space i : Nat) : Bool := y.parked.any fun p => objKey p.op.addr == (space, i)

/-! Clean objects (R337, R349) -/

/-- A word is dirty. -/
def SyncWord.dirty (w : SyncWord) : Bool := w.full || w.val != 0 || w.poison

/-- Dirty words of a range, rising. -/
def SyncState.dirtyWords (y : SyncState) (first count : Nat) : List Nat :=
  (y.words.filter fun w => decide (first ≤ w.1 ∧ w.1 < first + count) && w.2.dirty).map Prod.fst

/-- Dirty pairs of a range, rising. -/
def SyncState.dirtyPairs (y : SyncState) (first count : Nat) : List Nat :=
  indices 4096 fun i => decide (first ≤ i ∧ i < first + count) && ((y.pair i).p != (y.pair i).c || y.parkedAt 1 i)

/-- Dirty engines of a set. -/
def SyncState.dirtyEngines (y : SyncState) (engines : BitVec 64) (tree : Bool) : List Nat :=
  indices 64 fun i => engines.getLsbD i && ((y.barrier i).arrived != 0 || ((y.barrier i).tree.isSome && !tree) || y.parkedAt 2 i)

/-- The dirty objects of a job's ranges, as addresses: words, pairs, engines. -/
def SyncState.dirtyOf (y : SyncState) (j : Job) : List (BitVec 64) :=
  (y.dirtyWords j.wFirst j.wCount).map (y.addrOf 0) ++ (y.dirtyPairs j.pFirst j.pCount).map (y.addrOf 1)
    ++ (y.dirtyEngines j.engines (j.parts.getLsbD 71)).map (y.addrOf 2)

/-! Opening a job (R336, R337) -/

/-- The first word, pair or engine that two jobs share. -/
def Job.overlap (a b : Job) : Option (Nat × Nat) :=
  if a.wFirst < b.wFirst + b.wCount ∧ b.wFirst < a.wFirst + a.wCount then some (0, max a.wFirst b.wFirst)
  else if a.pFirst < b.pFirst + b.pCount ∧ b.pFirst < a.pFirst + a.pCount then some (1, max a.pFirst b.pFirst)
  else ((List.range 64).find? fun i => a.engines.getLsbD i && b.engines.getLsbD i).map fun i => (2, i)

/-- A die that no package of the tray has (R336). -/
def State.dieMissing (s : State) (i : Nat) : Bool := nth s.thyme.set.accUp (i / 8) == 255 || !s.diePresent i

/-- A die whose package is not ready for a job: not in ACC_ON at LINK_UP, or its substitution pushes have not ended with `OK` (R336, 14 R399). -/
def State.dieUnready (s : State) (i : Nat) : Bool :=
  let n := i / 8
  s.acc n != .on || (s.skv n).phase != .linkUp || nth s.repro.overlays n != [] || s.repro.pushing.any (fun p => p.2.pkg == n) || s.repro.unknown.getLsbD n

/-- The cap of each pair of a job, with no owner of either side (R337, R345). -/
def SyncState.openPairs (y : SyncState) (first count cap : Nat) : List (Nat × SyncPair) :=
  let mine := (List.range count).map fun i => (first + i, ({ y.pair (first + i) with cap := cap, prodOwner := none, consOwner := none } : SyncPair))
  (y.pairs.filter fun p => decide (p.1 < first)) ++ (mine.filter fun p => p.2 != default) ++ y.pairs.filter fun p => decide (first + count ≤ p.1)

/-- The turns of each word of a job at zero (R337). -/
def SyncState.openWords (y : SyncState) (first count : Nat) : List (Nat × SyncWord) :=
  (y.words.map fun w => if first ≤ w.1 ∧ w.1 < first + count then (w.1, ({ w.2 with takeTurn := 0, fillTurn := 0 } : SyncWord)) else w).filter fun w => w.2 != default

/-- Put a job in number order. -/
def insertJob (j : Job) : List Job → List Job
  | [] => [j]
  | x :: l => if j.num < x.num then j :: x :: l else x :: insertJob j l

/-- What the hub does at the opening of a job (R337). -/
def SyncState.openJob (y : SyncState) (j : Job) (cap : Nat) (bmask : BitVec 72) : SyncState :=
  { y with
    jobs := insertJob j y.jobs
    words := y.openWords j.wFirst j.wCount
    pairs := y.openPairs j.pFirst j.pCount cap
    barriers := y.barriers.mapIdx fun i b => if j.engines.getLsbD i then { b with mask := bmask } else b }

/-- The payload of a `JOB_OPEN` response. -/
def jobOpenPayload (job : Nat) (a : BitVec 64) : List Byte := i1 job ++ zeros 3 ++ i8 a.toNat

/-- The participants of a set that satisfy a test. -/
def partsWith (m : BitVec 72) (f : Nat → Bool) : Bool := (List.range 72).any fun i => m.getLsbD i && f i

/-- Open a job that passes its checks. -/
def State.jobOpens (s : State) (j : Job) (cap : Nat) (bmask : BitVec 72) (bind : Option ReplayBinding) (counts : List Nat) (differ : Bool) (port : Nat) : State :=
  let s := s.onSync fun y => y.openJob j cap bmask
  let s := (s.event .hub 0x0802 0 j.num (i1 j.num ++ leBytes 9 j.parts.toNat ++ i1 port)).traced 192 j.num (j.parts.toNat % 2 ^ 64)
  let s := s.mirrored .hub
  match bind with
  | some b => (s.openRecord b j.pkgs counts differ).mirrored .repro
  | none => s

/-- Event 0x0A04: the first package whose count differs, both counts, and whether the job opened (14 R394, R402). -/
def State.countsDiffer (s : State) (b : ReplayBinding) (counts : List Nat) (n : Nat) (opened : Bool) : State :=
  s.event .fp3 0x0A04 1 b.job (i1 b.job ++ i1 n ++ i4 (nth counts n) ++ i4 (nth b.refCores n) ++ i1 (flag opened))

/-- `JOB_OPEN` (R336, R337, 14 R391, R394). -/
def bodyJobOpen (job : U8) (cap : U16) (quota wFirst wCount : U32) (pFirst pCount : U16) (engines : U64) (parts bmask : BitVec 72) (c : Ctx) (s : State) : Answer :=
  let y := s.sync
  let j : Job := { num := job.toNat, quota := quota.toNat, wFirst := wFirst.toNat, wCount := wCount.toNat, pFirst := pFirst.toNat, pCount := pCount.toNat, engines := engines, parts := parts }
  let bind := s.repro.binds.find? fun b => b.job == j.num
  let counts := (List.range 8).map fun n => if j.pkgs.getLsbD n then s.coreCount n else 0
  let differ := bind.bind fun b => b.differs counts
  let quotas := (y.jobs.map Job.quota).foldl (· + ·) j.quota
  let badArg := !jobNumber j.num || cap == 0 || decide (524288 < j.wFirst + j.wCount ∨ 4096 < j.pFirst + j.pCount)
    || (bmask &&& ~~~parts) != 0 || (parts.getLsbD 71 && y.node.isNone) || partsWith (parts ||| bmask) (fun i => decide (i < 64) && s.dieMissing i)
  if badArg then refuse .badArg s
  else if s.repro.strict ∧ bind.isNone then refuse .strictMode s
  else if s.repro.strict ∧ differ.isSome then
    match bind with
    | some b => (Reply.fail .strictMode, s.countsDiffer b counts (differ.getD 0) false)
    | none => refuse .strictMode s
  else if y.jobs.any (fun x => x.num == j.num) then refuse .stateConflict s
  else
    match y.jobs.findSome? fun x => j.overlap x with
    | some (sp, i) => ({ status := .stateConflict, payload := jobOpenPayload j.num (y.addrOf sp i) }, s)
    | none =>
      if partsWith parts (fun i => decide (64 ≤ i ∧ i < 71) && !(nth s.link.ctxKeys (i - 64)).bound) || partsWith parts (fun i => decide (i < 64) && s.dieUnready i) then refuse .stateConflict s
      else
        match y.dirtyOf j with
        | a :: _ => ({ status := .stateConflict, payload := jobOpenPayload j.num a }, s)
        | [] =>
          if 65536 < quotas then refuse .noResource s
          else
            let s := s.jobOpens j cap.toNat bmask bind counts differ.isSome c.port
            let s := match bind, differ with
              | some b, some n => s.countsDiffer b counts n true
              | _, _ => s
            okay (jobOpenPayload j.num 0) s

/-! Closing a job (R338) -/

/-- Complete a parked operation with a status and no effect. -/
def State.cancelParked (s : State) (p : Parked) : State :=
  let s := s.onSync fun y => { y.progressed p.op.addr with parked := y.parked.erase p }
  (s.traced 179 p.origin.who p.op.traceArg).answer p.origin p.op .stateConflict 0 0

/-- Free a watch with a cancellation notification (R335, R338). -/
def State.cancelWatch (s : State) (w : Watch) : State :=
  let s := s.onSync fun y => { y with watches := y.watches.filter fun x => x.handle != w.handle }
  s.issue (.notify w.src { kind := 2, cond := w.cond, handle := w.handle, cookie := w.cookie, fire := w.fire })

/-- `JOB_CLOSE` (R338, 14 R397). -/
def bodyJobClose (job : U8) (c : Ctx) (s : State) : Answer :=
  if !jobNumber job.toNat then refuse .badArg s
  else
    match s.sync.jobs.find? fun j => j.num == job.toNat with
    | none => refuse .stateConflict s
    | some j =>
      let parked := s.sync.parked.filter fun p => j.owns (s.sync.target p.op.addr)
      if parked ≠ [] ∧ !c.auto then refuse .stateConflict s
      else
        let s := parked.foldl (fun s p => s.cancelParked p) s
        let watches := s.sync.watches.filter fun w => j.owns (s.sync.target w.addr)
        let s := watches.foldl (fun s w => s.cancelWatch w) s
        let dirty := s.sync.dirtyOf j
        let s := s.onSync fun y => { y with jobs := y.jobs.filter fun x => x.num != j.num }
        let s := (s.event .hub 0x0803 (if dirty = [] then 0 else 1) j.num (i1 j.num ++ i4 dirty.length ++ i1 c.port)).traced 193 j.num dirty.length
        let s := (s.mirrored .hub).sealRecord j.num (parked != [])
        let s := if s.repro.records.any (fun r => r.job == j.num) then s.mirrored .repro else s
        okay (i4 dirty.length ++ i4 parked.length ++ i4 watches.length ++ i4 0 ++ ((dirty.take 64).map fun a => i8 a.toNat).flatten) s

/-! Manual state (R348) -/

/-- What READ gives for an object: both results. -/
def SyncState.reads (y : SyncState) (a : BitVec 64) : BitVec 64 × BitVec 64 :=
  let e := (y.effect false { op := 12, addr := a }).2
  (e.val, e.aux)

/-- An `FE_SET` action on an object of this tray: its checks, the change in the bank, event 0x0807, trace point 200, and the parked operations it serves (R348). -/
def State.feSet (s : State) (action : Nat) (a : BitVec 64) (fits : SyncTarget → Bool) (change : State → State) (c : Ctx) : Answer :=
  let t := s.sync.target a
  check [(!fits t, .badArg), (s.repro.strict, .strictMode), (action != 4 && s.sync.poisoned t, .integrityFail)] s fun _ =>
    let old := s.sync.reads a
    let s := ((change s).onSync fun y => y.progressed a).traced 200 action a.toNat
    let new := s.sync.reads a
    let s := s.event .hub 0x0807 1 c.port (i1 c.port ++ i8 a.toNat ++ i8 old.1.toNat ++ i8 old.2.toNat ++ i8 new.1.toNat ++ i8 new.2.toNat)
    okay (i8 old.1.toNat ++ i8 old.2.toNat) ((s.serveAll a).mirrored .hub)

/-- Write a word by hand: its value and full/empty bit; the watches that see it fire. -/
def State.setWordByHand (s : State) (a : BitVec 64) (val : BitVec 64) (full : Bool) : State :=
  match s.sync.target a with
  | .word i =>
    let w := s.sync.word i
    let s := s.onSync fun y => y.setWord i { w with val := val, full := full, poison := false }
    s.fire a (fullConds w.full full true) val { op := 4, addr := a }
  | _ => s

/-- The target is a word of this tray. -/
def SyncTarget.isWord : SyncTarget → Bool
  | .word _ => true
  | _ => false
/-- The target is a pair of this tray. -/
def SyncTarget.isPair : SyncTarget → Bool
  | .pair _ => true
  | _ => false
/-- The target is an engine of this tray. -/
def SyncTarget.isBarrier : SyncTarget → Bool
  | .barrier _ => true
  | _ => false

/-- `FE_SET`, action 0 (R348). -/
def bodyFeSetEmpty (addr val : U64) (c : Ctx) (s : State) : Answer := s.feSet 0 addr SyncTarget.isWord (fun s => s.setWordByHand addr val false) c
/-- `FE_SET`, action 1 (R348). -/
def bodyFeSetFull (addr val : U64) (c : Ctx) (s : State) : Answer := s.feSet 1 addr SyncTarget.isWord (fun s => s.setWordByHand addr val true) c
/-- `FE_SET`, action 4 (R348). -/
def bodyFeSetUnpoison (addr _val : U64) (c : Ctx) (s : State) : Answer := s.feSet 4 addr SyncTarget.isWord (fun s => s.setWordByHand addr 0 false) c

/-- `FE_SET`, action 2 (R348). -/
def bodyFeSetPair (addr _val : U64) (c : Ctx) (s : State) : Answer :=
  s.feSet 2 addr SyncTarget.isPair (fun s =>
    match s.sync.target addr with
    | .pair i =>
      let p := s.sync.pair i
      let s := s.onSync fun y => y.setPair i { p with c := p.p }
      if p.c = p.p then s else s.fire addr [4] p.p { op := 8, addr := addr }
    | _ => s) c

/-- `FE_SET`, action 3 (R348). -/
def bodyFeSetBarrier (addr _val : U64) (c : Ctx) (s : State) : Answer :=
  s.feSet 3 addr SyncTarget.isBarrier (fun s =>
    match s.sync.target addr with
    | .barrier i =>
      let mine := s.sync.parked.filter fun p => s.sync.target p.op.addr == .barrier i && p.op.code == 9
      let s := s.onSync fun y => y.setBarrier i { y.barrier i with arrived := 0, since := none }
      mine.foldl (fun s p => s.cancelParked p) s
    | _ => s) c

/-! Hang report and status (R347, R358) -/

/-- The GT since which an object waits. -/
def State.waitsSince (s : State) (a : BitVec 64) (kind : Nat) : Nat :=
  if kind = 1 then
    ((s.sync.parked.filter fun p => sameObject p.op.addr a).map Parked.gt ++ (s.sync.remoteOut.filter fun r => sameObject r.addr a).map RemoteOut.gt).foldl min s.gt
  else match s.sync.target a with
    | .barrier i => (s.sync.barrier i).since.getD s.gt
    | _ => s.gt

/-- Insert an address in rising order, once. -/
def insertAddr (a : BitVec 64) : List (BitVec 64) → List (BitVec 64)
  | [] => [a]
  | x :: l => if a.toNat < x.toNat then a :: x :: l else if a = x then x :: l else x :: insertAddr a l

/-- The objects hung now, by address. -/
def State.hungNow (s : State) : List (BitVec 64 × Nat) :=
  let cand := (s.sync.parked.map fun p => p.op.addr) ++ s.sync.remoteOut.map RemoteOut.addr ++ (indices 64 fun i => (s.sync.barrier i).since.isSome).map s.sync.engineAddr
  (cand.foldl (fun l a => insertAddr a l) []).filterMap fun a => (s.hangKind a).map fun k => (a, k)

/-- One hang entry (R358). -/
def State.hangEntry (s : State) (x : BitVec 64 × Nat) : List Byte :=
  let l := s.sync.lastPost x.1
  i8 x.1.toNat ++ i4 ((s.gt - s.waitsSince x.1 x.2) / 1000) ++ i1 x.2 ++ i1 l.src ++ i2 l.fepoch.toNat ++ i4 l.seq.toNat ++ leBytes 9 (s.hangWho x.1 x.2).toNat ++ zeros 3

/-- `HANG_REPORT` (R347, R358). -/
def bodyHangReport (first count : U16) (_c : Ctx) (s : State) : Answer :=
  check [(decide (count.toNat = 0 ∨ 32 < count.toNat), .badArg)] s fun _ =>
    let all := s.hungNow
    okay (i4 all.length ++ i4 0 ++ (((all.drop first.toNat).take count.toNat).map s.hangEntry).flatten) s

/-- `SYNC_STATUS` (R358). -/
def bodySyncStatus (_c : Ctx) (s : State) : Answer :=
  let y := s.sync
  okay (i8 y.applied ++ i8 y.dups ++ i4 y.parked.length ++ i4 y.watches.length ++ i4 (y.jobs.foldl (fun m j => m + 2 ^ (j.num - 1)) 0) ++ i4 y.tray
    ++ i4 y.eccCorr ++ i4 y.eccUnc ++ i4 y.refused ++ i2 y.hangS ++ i1 (packBits [s.repro.strict, y.node.isSome, y.lost != []]) ++ i1 0
    ++ ((List.range 72).map fun i => i4 (nth y.wins i).h.toNat ++ i4 (nth y.wins i).noAdv).flatten) s

/-! Hang timeout and host contexts (R341, R347, R358) -/

/-- `SYNC_CFG`, action 0. -/
def bodySyncCfgHangTimeout (_ctx : U8) (seconds : U32) (_c : Ctx) (s : State) : Answer :=
  check [(decide (seconds.toNat = 0 ∨ 3600 < seconds.toNat), .badArg)] s fun _ => okay [] ((s.onSync fun y => { y with hangS := seconds.toNat }).mirrored .hub)

/-- A host context. -/
def hostContext (c : Nat) : Bool := decide (64 ≤ c ∧ c ≤ 70)

/-- `SYNC_CFG`, action 1: the context is bound under its key and its window restarts (R341). -/
def bodySyncCfgBind (ctx : U8) (key : BitVec 256) (c : Ctx) (s : State) : Answer :=
  let n := ctx.toNat
  check [(!hostContext n, .badArg)] s fun _ =>
    let s := s.onLink fun l => l.onHostKey 0 (n - 64) fun _ => { bound := true, key := key }
    let s := s.onSync fun y => { y with wins := modAt y.wins n fun w => { w with restart := true, seen := [] } }
    okay [] (((s.event .hub 0x0809 0 n (i1 n ++ i1 c.port)).mirrored .host).mirrored .hub)

/-- `SYNC_CFG`, action 2 (R358). -/
def bodySyncCfgUnbind (ctx : U8) (c : Ctx) (s : State) : Answer :=
  let n := ctx.toNat
  check [(!hostContext n, .badArg), (s.sync.jobs.any (fun j => j.parts.getLsbD n) || !(nth s.link.ctxKeys (n - 64)).bound, .stateConflict)] s fun _ =>
    let s := s.onLink fun l => l.onHostKey 0 (n - 64) fun _ => {}
    okay [] ((s.event .hub 0x0809 0 n (i1 n ++ i1 c.port)).mirrored .host)

/-! The tree node (R350, R352, R354) -/

/-- A bound engine holds an arrival, or a remote operation is outstanding (R350). -/
def SyncState.treeBusy (y : SyncState) : Bool := (y.barriers.any fun b => b.tree.isSome && b.arrived != 0) || y.remoteOut != []

/-- The objects of the tray under a new tray number: what is parked, watched or noted on them keeps naming them (log entry 38). -/
def SyncState.rehomed (y : SyncState) (tray : Nat) : SyncState :=
  let move := fun (a : BitVec 64) => if homeOf a = y.tray then BitVec.ofNat 64 (spaceOf a * 2 ^ 60 + tray * 2 ^ 43 + indexOf a) else a
  { y with
    tray := tray
    parked := y.parked.map fun p => { p with op := { p.op with addr := move p.op.addr } }
    watches := y.watches.map fun w => { w with addr := move w.addr }
    posts := y.posts.map fun p => { p with addr := move p.addr }
    hung := y.hung.map move
    repairs := y.repairs.map fun r => (move r.1, r.2.map fun p => { p with op := { p.op with addr := move p.op.addr } }) }

/-- The node's hops begin anew. -/
def SyncState.freshHops (y : SyncState) : SyncState :=
  { y with hopTx := List.replicate 65 0, hopRx := List.replicate 65 0, treeOut := [], lost := [] }

/-- `TREE_CFG`, action 0 (R350). -/
def bodyTreeCfgNode (k : U8) (tray : U32) (parent : BitVec 128) (children : List TreeChild) (_c : Ctx) (s : State) : Answer :=
  let below := (children.map TreeChild.trays).foldl (· + ·) 0
  check [(decide (k.toNat < 2 ∨ 64 < k.toNat ∨ k.toNat < children.length ∨ 131072 < tray.toNat + 1 + below) || children.any (fun c => c.trays == 0), .badArg),
    (s.sync.treeBusy, .stateConflict)] s fun _ =>
    let s := s.onSync fun y => { y.freshHops.rehomed tray.toNat with node := some { tray := tray.toNat, k := k.toNat, parent := parent, children := children } }
    okay [] ((s.event .hub 0x0808 0 0 (i1 0 ++ i1 0)).mirrored .hub)

/-- `TREE_CFG`, action 1 (R352). -/
def bodyTreeCfgBindBarrier (engine barrier : U8) (_c : Ctx) (s : State) : Answer :=
  let e := engine.toNat
  let b := barrier.toNat
  check [(decide (63 < e ∨ 63 < b), .badArg),
    (s.sync.node.isNone || !(s.sync.barrier e).mask.getLsbD 71 || (s.sync.barrier e).tree.isSome || s.sync.treeBars.any (fun t => t.num == b), .stateConflict)] s fun _ =>
    okay [] (((s.onSync fun y => { y.setBarrier e { y.barrier e with tree := some b } with
      treeBars := y.treeBars ++ [{ (y.treeEarly.find? fun t => t.num == b).getD {} with num := b, engine := e }], treeEarly := y.treeEarly.filter fun t => t.num != b }).treeStep b).mirrored .hub)

/-- `TREE_CFG`, action 2 (R352). -/
def bodyTreeCfgUnbindBarrier (engine barrier : U8) (_c : Ctx) (s : State) : Answer :=
  let e := engine.toNat
  let b := barrier.toNat
  check [(decide (63 < e ∨ 63 < b), .badArg), ((s.sync.barrier e).tree != some b, .stateConflict)] s fun _ =>
    okay [] ((s.onSync fun y => { y.setBarrier e { y.barrier e with tree := none } with treeBars := y.treeBars.filter fun t => t.num != b }).mirrored .hub)

/-- `TREE_CFG`, action 3 (R354). -/
def bodyTreeCfgBindChannel (channel : U8) (word : U32) (_c : Ctx) (s : State) : Answer :=
  check [(decide (15 < channel.toNat ∨ 524288 ≤ word.toNat), .badArg)] s fun _ =>
    okay [] ((s.onSync fun y => { y with channels := y.channels.set channel.toNat (some word.toNat) }).mirrored .hub)

/-- `TREE_CFG`, action 4 (R350). -/
def bodyTreeCfgLeave (_c : Ctx) (s : State) : Answer :=
  check [(s.sync.node.isNone || s.sync.treeBusy, .stateConflict)] s fun _ =>
    let s := s.onSync fun y => { y.freshHops with node := none, treeBars := [], treeEarly := [], barriers := y.barriers.map fun b => { b with tree := none } }
    okay [] ((s.event .hub 0x0808 0 0 (i1 0 ++ i1 4)).mirrored .hub)

end Sys2Proof.Machine
end

