-- ==== Sys2Proof/Machine/Update.lean ====
section
/-! DEFINITION. Firmware update: transfer, verification, installation, activation and deferral (16 R427-R438, R444-R448). -/

namespace Sys2Proof.Machine

open Sys2Proof

/-! The staging (R428, R429) -/

/-- The update is between `UPDATE_ACTIVATE` and its reset (R428). -/
def UpdateState.activates (u : UpdateState) : Bool := u.phase == .deferred || u.phase == .activating

/-- Data blocks of a staging. -/
def BundleStaging.blocks (b : BundleStaging) : Nat := (b.length - b.idxLen) / 65536

/-- Every byte of a range has been written. -/
def holdsRange (l : List (Nat × Nat)) (a b : Nat) : Bool := a == b || l.any fun r => decide (r.1 ≤ a ∧ b ≤ r.2)

/-- Take a range out of the ranges written. -/
def cutRange (a b : Nat) (l : List (Nat × Nat)) : List (Nat × Nat) :=
  (l.map fun r => [(r.1, min r.2 a), (max r.1 b, r.2)].filter fun x => decide (x.1 < x.2)).flatten

/-- The place of a data block in the bundle. -/
def BundleStaging.place (b : BundleStaging) (j : Nat) : Nat × Nat := (b.idxLen + 65536 * j, b.idxLen + 65536 * (j + 1))

/-- A data block is complete. -/
def BundleStaging.has (b : BundleStaging) (j : Nat) : Bool := holdsRange b.ranges (b.place j).1 (b.place j).2

/-- The first missing block, 0xFFFFFFFF with none (R446). -/
def BundleStaging.missing (b : BundleStaging) : Nat := ((List.range b.blocks).find? fun j => !b.has j).getD 0xFFFFFFFF

/-- Target and type of an object agree (R427). -/
def BundleObject.fits (o : BundleObject) : Bool :=
  match o.target with
  | 0 => o.type == 1
  | 1 => o.type == 2
  | 2 => o.type == 3
  | 3 => o.type == 4 && decide (o.slot ≤ 7)
  | 4 => o.type == 5 || o.type == 6
  | _ => false

/-- Two objects take the same data blocks, or the same slot, copy, block or model slot (R427). -/
def BundleObject.clash (a b : BundleObject) : Bool :=
  meets a.first a.nBlk b.first b.nBlk || (a.target == b.target && a.target != 4 && (a.target != 3 || a.slot == b.slot))

/-- No two elements of a list stand in a relation. -/
def noPair {α : Type} (r : α → α → Bool) : List α → Bool
  | [] => true
  | x :: xs => xs.all (fun y => !r x y) && noPair r xs

/-- The header, object entries, block hashes and signatures fit in the index (R427). -/
def BundleIndex.fitsIndex (x : BundleIndex) : Bool := decide (256 + 96 * x.objects.length + 48 * x.nblocks + 192 ≤ x.idxLen)

/-- The index verifies against the staging and the anchor (R427). -/
def BundleIndex.verifies (x : BundleIndex) (b : BundleStaging) (key : Option (BitVec 384)) : Bool :=
  x.magic == 0x4442474C && x.fmt == 1 && x.rsvdZero && x.vendorKeyOk && x.vendorSigOk && x.idxLen == b.idxLen && x.fitsIndex && x.nblocks == b.blocks && x.objects != [] && decide (x.objects.length ≤ 32)
    && (match key with | some k => x.custSig && x.custKeyHash == k && x.custSigOk | none => true)
    && x.objects.all (fun o => o.fits && decide (o.first + o.nBlk ≤ x.nblocks)) && noPair BundleObject.clash x.objects

/-- Settle complete blocks once the index is verified: a block whose hash differs is discarded alone (R429). -/
def BundleStaging.sift (b : BundleStaging) : BundleStaging :=
  let bad := b.bad.filter b.has
  let r := bad.foldl (fun r j => cutRange (b.place j).1 (b.place j).2 r) b.ranges
  let b := { b with ranges := r, bad := [] }
  { b with good := indices b.blocks b.has }

/-- Write a range: a block that is already good keeps its content (R429). -/
def BundleStaging.write (b : BundleStaging) (a e : Nat) (badBlocks : List Nat) : BundleStaging :=
  let bad := badBlocks.filter fun j => !b.good.contains j && decide (a < (b.place j).2 ∧ (b.place j).1 < e)
  let b := { b with ranges := addRange a e b.ranges }
  { b with bad := b.bad ++ bad.filter fun j => b.has j && !b.bad.contains j }

/-- `UPDATE_BEGIN` (R428, R439). -/
def bodyUpdateBegin (length idxLen : U32) (c : Ctx) (s : State) : Answer :=
  let n := length.toNat
  let k := idxLen.toNat
  check [(decide (k < 65536 ∨ 2 ^ 20 < k ∨ k % 65536 ≠ 0 ∨ n < k ∨ (n - k) % 65536 ≠ 0), .badArg), (s.upd.activates, .stateConflict), (decide (512 * 2 ^ 20 < n), .noResource)] s fun _ =>
    let s := s.onUpd fun u => { u with
      phase := .receiving, staging := some { length := n, idxLen := k }, objects := [], plan := {}, last := .ok, genNew := 0, verNew := 0, port := c.port }
    okay [] (s.mirrored .plan)

/-- The answer of `UPDATE_DATA` (R446). -/
def BundleStaging.progress (b : BundleStaging) : List Byte := i4 b.good.length ++ i4 b.missing ++ ib b.idx.isSome ++ zeros 3

/-- `UPDATE_DATA`: `idx` is the index as its bytes read once they are complete, `badBlocks` are the blocks that this write leaves with a wrong hash (R429). -/
def bodyUpdateData (offset : U32) (count : U16) (idx : BundleIndex) (badBlocks : List Nat) (_c : Ctx) (s : State) : Answer :=
  let a := offset.toNat
  let e := a + count.toNat
  match s.upd.staging with
  | none => refuse .stateConflict s
  | some b =>
    check [(decide (b.length < e), .badArg), (s.upd.phase != .receiving, .stateConflict)] s fun _ =>
      let b' := b.write a e badBlocks
      let put := fun (x : BundleStaging) => s.onUpd fun u => { u with staging := some x }
      if b.idx.isSome then
        let x := b'.sift
        if b'.bad = [] then okay x.progress (put x) else refuse .integrityFail (put x)
      else if !holdsRange b'.ranges 0 b'.idxLen then okay b'.progress (put b')
      else if idx.verifies b' s.anchor.custKey then
        let x := { b' with idx := some idx }.sift
        if b'.bad.any (fun j => !b.bad.contains j) then refuse .integrityFail (put x) else okay x.progress (put x)
      else refuse .integrityFail (s.onUpd fun u => { u with staging := none, phase := .idle })

/-! Compatibility (R430) -/

/-- The first object of a bundle with a target. -/
def objectFor (l : List BundleObject) (target : Nat) : Option BundleObject := l.find? fun o => o.target == target

/-- The firmware version in force after the update. -/
def State.versionAfter (s : State) (l : List BundleObject) : Nat := (objectFor l 0).elim s.fwVersion fun o => o.obj.man.version

/-- The P-state table in force after the update. -/
def State.tableAfter (s : State) (l : List BundleObject) : PTable := (objectFor l 2).elim s.op.table fun o => o.cfg.pTable

/-- The configuration schemas in force now and after the update. -/
def State.schemas (s : State) (l : List BundleObject) : List Nat :=
  let now := (s.sec.cfgInForce.elim 0 fun k => (nth s.sec.cfgCopies k).obj.man.schema)
  [now, (objectFor l 2).elim now fun o => o.obj.man.schema]

/-- The schemas that the image in force after the update accepts, of the bundle's object or of the running place. -/
def rangeAfter (l : List BundleObject) (target : Nat) (places : List Slot) (running : Option Nat) : Option (Nat × Nat) :=
  match objectFor l target with
  | some o => some (o.cfgLo, o.cfgHi)
  | none => running.bind fun k => (nth places k).cfgRange

/-- A range of schemas takes every one of a list. -/
def takesSchemas (r : Option (Nat × Nat)) (l : List Nat) : Bool := r.all fun r => l.all fun x => decide (r.1 ≤ x ∧ x ≤ r.2)

/-- `comps` lists components 0 to 13 once each, on their processors (R430, 01 R23). -/
def compsRight (l : List CompEntry) : Bool := l.length == 14 && (List.range 14).all fun k => l.any fun c => c.id == k && c.proc == procOf k

/-- `mirror_proto` is within one of the partner's while it is ALIVE (R430). -/
def State.protoFits (s : State) (m : Manifest) : Bool :=
  !s.pair.alive || decide (m.mirrorProto ≤ s.pair.protoPartner + 1 ∧ s.pair.protoPartner ≤ m.mirrorProto + 1)

/-- Bytes of the model area that the slots' current containers take (R431, 09 R251). -/
def PhaseState.areaUsed (p : PhaseState) : Nat := ((p.stored.filterMap id).map fun x => x.obj.span).foldl (· + ·) 0

/-- The model area holds a model object after those before it (R430). -/
def State.areaHolds (s : State) (l : List BundleObject) (i : Nat) : Bool :=
  decide (s.phase.areaUsed + ((((l.take (i + 1)).filter fun o => o.target == 3).map fun o => 65536 * o.nBlk).foldl (· + ·) 0) ≤ 16 * 2 ^ 20)

/-- Installation would write over a range of the store from which a push is in progress (R432). -/
def State.storeBusy (s : State) (o : BundleObject) : Bool :=
  s.link.store.any fun x => meets x.1 x.2.span o.storeOff (65536 * o.nBlk) && s.link.pushes.any fun p => p.content.isNone && p.obj == x.2

/-- The object itself, verified from the staging (R430, R89, R90). -/
def BundleObject.sound (o : BundleObject) (key : Option (BitVec 384)) : Bool := o.digestOk && o.obj.verifies o.type key

/-- The checks of an `UPDATE_VERIFY` in order: the status, and whether the object with an index in the list fails (R430, R432). -/
def State.updateChecks (s : State) (l : List BundleObject) : List (Status × (Nat → BundleObject → Bool)) :=
  let image := fun (o : BundleObject) => o.type == 1 || o.type == 2
  [(.integrityFail, fun _ o => !o.sound s.anchor.custKey),
   (.limitExceeded, fun _ o => image o && (decide (o.obj.man.version < s.anchor.minVersion) || decide (o.obj.man.version < o.obj.man.floor))),
   (.badArg, fun _ o => o.type == 1 && !compsRight o.obj.man.comps),
   (.badArg, fun _ o => (image o || o.type == 3)
      && !(takesSchemas (rangeAfter l 0 s.sec.slots s.sec.runningSlot) (s.schemas l) && takesSchemas (rangeAfter l 1 s.sec.loaders s.sec.runningLoader) (s.schemas l))),
   (.badArg, fun _ o => !image o && decide (s.versionAfter l < o.minFw)),
   (.badArg, fun _ o => o.type == 5 && (members o.accMask).any fun n => ((s.tableAfter l).sec n).kind != o.accKind),
   (.badArg, fun _ o => o.target == 4 && decide (0x03000000 < o.storeOff + 65536 * o.nBlk)),
   (.stateConflict, fun _ o => o.type == 1 && !s.protoFits o.obj.man),
   (.noResource, fun i o => o.target == 3 && !s.areaHolds l i),
   (.stateConflict, fun _ o => o.target == 4 && s.storeBusy o)]

/-- The first check that fails, with its object. -/
def State.updateFault (s : State) (l : List BundleObject) : Option (Status × Nat) :=
  (s.updateChecks l).findSome? fun c => ((List.range l.length).find? fun i => c.2 i (nth l i)).map fun i => (c.1, i)

/-! Installation (R431) -/

/-- The place that is written: the one not running. -/
def spare (running : Option Nat) : Nat := 1 - running.getD 0

/-- Write an object into a pair of places. -/
def installed (places : List Slot) (running : Option Nat) (o : BundleObject) : List Slot :=
  places.set (spare running) { Slot.written o.obj (nextGen places) with cfgRange := some (o.cfgLo, o.cfgHi) }

/-- Write an object into the image store, over what lay there. -/
def storeWrite (l : List (Nat × ObjectImage)) (o : BundleObject) : List (Nat × ObjectImage) :=
  put (l.filter fun x => !meets x.1 x.2.span o.storeOff (65536 * o.nBlk)) o.storeOff o.obj

/-- Install one object (R431). -/
def State.installObject (s : State) (o : BundleObject) : State :=
  match o.target with
  | 0 => s.onSec fun c => { c with slots := installed c.slots c.runningSlot o }
  | 1 => s.onSec fun c => { c with loaders := installed c.loaders c.runningLoader o }
  | 4 => s.onLink fun l => { l with store := storeWrite l.store o }
  | _ => s

/-- The end of a verification: event 0x0C10 with status, failing object and port (R430, R447). -/
def State.verified (s : State) (sev : Nat) (st : Status) (i port : Nat) : State :=
  (s.onUpd fun u => { u with last := st }).event .fp0 0x0C10 sev 0 (i1 st.code ++ i1 i ++ i1 port)

/-- Verify a list of objects and install them (R430, R431). -/
def State.verifyInstall (s : State) (l : List BundleObject) (port : Nat) : State :=
  match s.updateFault l with
  | some (st, i) => s.verified 2 st i port
  | none =>
    let gen := if (objectFor l 0).isSome then nextGen s.sec.slots else 0
    let s := l.foldl State.installObject s
    let s := s.onUpd fun u => { u with
      phase := .installed, objects := l, genNew := gen, verNew := (objectFor l 0).elim 0 fun o => o.obj.man.version, port := port, deferGt := none, auto := false, cleared := false }
    s.verified 0 .ok 255 port

/-- `UPDATE_VERIFY` (R430). -/
def bodyUpdateVerify (c : Ctx) (s : State) : Answer :=
  match s.upd.staging with
  | none => refuse .stateConflict s
  | some b =>
    if s.upd.activates ∨ s.upd.phase = .idle ∨ s.upd.phase = .planRunning then refuse .stateConflict s
    else
      match b.idx with
      | none => ({ status := .stateConflict, payload := i4 b.missing }, s)
      | some x =>
        if b.missing ≠ 0xFFFFFFFF then ({ status := .stateConflict, payload := i4 b.missing }, s)
        else accepted (s.verifyInstall x.objects c.port)

/-! `CONFIG_BLOCK_WRITE` (R430, R446) -/

/-- Phase BEGIN. -/
def bodyConfigBlockWriteBegin (_c : Ctx) (s : State) : Answer := okay [] (s.onUpd fun u => { u with cfgWrite := some [] })

/-- Phase DATA. -/
def bodyConfigBlockWriteData (offset : U32) (count : U16) (_c : Ctx) (s : State) : Answer :=
  let a := offset.toNat
  let e := a + count.toNat
  check [(decide (262144 < e), .badArg), (s.upd.cfgWrite.isNone, .stateConflict)] s fun _ =>
    okay [] (s.onUpd fun u => { u with cfgWrite := u.cfgWrite.map (addRange a e) })

/-- The first block of a configuration block that is missing; block 0 stands for its manifest (R86). -/
def cfgMissing (l : List (Nat × Nat)) (m : Manifest) : Option Nat :=
  let man := 0x260 + 48 * m.nblocks + 96
  if !holdsRange l 0 man then some 0 else (List.range m.nblocks).find? fun j => !holdsRange l (65536 * (j + 1)) (65536 * (j + 2))

/-- Phase COMMIT: as `UPDATE_VERIFY` of a bundle that holds only this block (R430). -/
def bodyConfigBlockWriteCommit (obj : ConfigObject) (c : Ctx) (s : State) : Answer :=
  match s.upd.cfgWrite with
  | none => refuse .stateConflict s
  | some l =>
    if s.upd.activates then refuse .stateConflict s
    else
      match cfgMissing l obj.obj.man with
      | some k => ({ status := .stateConflict, payload := i4 k }, s)
      | none =>
        let o : BundleObject := { type := 3, target := 2, nBlk := 1 + obj.obj.man.nblocks, digestOk := true, obj := obj.obj, cfg := obj.cfg }
        let s := s.verifyInstall [o] c.port
        accepted (if s.upd.last = .ok then s.onUpd fun u => { u with cfgWrite := none, staging := none } else s)

/-! Activation (R435, R436) -/

/-- The places left WRITTEN by the installation: loader copies as 0 and 1, slots as 2 and 3. -/
def State.writtenPlaces (s : State) : List (Nat × Nat × Slot) :=
  let l := s.upd.objects
  let k := spare s.sec.runningLoader
  let j := spare s.sec.runningSlot
  (if (objectFor l 1).isSome then [(k, 2, nth s.sec.loaders k)] else []) ++ (if (objectFor l 0).isSome then [(2 + j, 1, nth s.sec.slots j)] else [])

/-- A failed activation: event 0x0C13 S2 with place and generation (R436). -/
def State.activationFails (s : State) (place gen : Nat) : State :=
  (s.onUpd fun u => { u with phase := .failed, last := .integrityFail, atStep6 := false }).event .fp0 0x0C13 2 0 (i1 place ++ i4 gen)

/-- The update plan that an activation leaves (R439-R443): models in slot order. -/
def planOf (l : List BundleObject) : UpdatePlan :=
  { loader := (objectFor l 1).isSome
    models := (List.range 8).filterMap fun k => (l.find? fun o => o.target == 3 && o.slot == k).map fun o => (k, o.cont, o.obj)
    programs := (objectFor l 2).isSome
    accs := (l.filter fun o => o.type == 5 && o.accMask != 0).map fun o => (o.accMask, o.obj) }

/-- The handoff block with every component's section (R436). -/
def State.handoffBlock (s : State) : HandoffBlock :=
  let l := s.upd.objects
  let j := spare s.sec.runningSlot
  { pending := true
    bundle := (s.upd.staging.bind fun b => b.idx).elim 0 BundleIndex.digest
    targetGen := if (objectFor l 0).isSome then (nth s.sec.slots j).generation.toNat else s.runningGen
    fromVersion := s.fwVersion
    targetCfg := match objectFor l 2 with
      | some o => o.obj.man.digest
      | none => s.sec.cfgInForce.elim 0 fun k => (nth s.sec.cfgCopies k).obj.man.digest
    sections := [4, 5, 7, 12, 0, 3].map fun k => (k, s.compVersion k)
    caplCaps := (s.op.trayCapW, s.op.feedCapA, s.op.guard, s.op.budget, s.op.pref)
    caplTable := if s.op.table = s.cfg.pTable then none else some s.op.table
    cool := (s.cool.levels, s.cool.graceMs, s.cool.fanLoop.integ, s.cool.pumpLoop.integ)
    attr := s.ledger.cfg
    synm := (s.sync.hangS, s.link.ctxKeys.map fun k => if k.bound then some k.key else none)
    sysc := s.log.level
    plan := planOf l }

/-- Steps 2 to 5 of R436. -/
def State.activateSteps (s : State) : State :=
  let l := s.upd.objects
  let j := spare s.sec.runningSlot
  let s := (s.onUpd fun u => { u with block := s.handoffBlock }).saveSettings
  let s := if (objectFor l 1).isSome then s.onSec fun c => { c with loaders := modAt c.loaders (spare c.runningLoader) Slot.validated } else s
  let s := if (objectFor l 0).isSome then s.onSec fun c => { c with slots := modAt c.slots j Slot.validated } else s
  let s := if (objectFor l 0).isSome then s.event .fp0 0x0C13 0 0 (i1 (2 + j) ++ i4 (nth s.sec.slots j).generation.toNat) else s.event .fp0 0x0C13 0 0 (i1 255 ++ i4 0)
  match objectFor l 2 with
  | some o => s.onSec fun c => { c with cfgStaging := some (s.anchor.gen, { obj := o.obj, cfg := o.cfg }) }
  | none => s

/-- The activation proper (R436): steps 1 to 5, then the handover of step 6, or the warm reset of step 7 is due. -/
def State.activate (s : State) : State :=
  match s.writtenPlaces.find? fun p => !(p.2.2.state == wordWritten && p.2.2.obj.verifies p.2.1 s.anchor.custKey) with
  | some (place, _, x) => s.activationFails place x.generation.toNat
  | none =>
    let s := (s.onUpd fun u => { u with phase := .activating, deferGt := none, auto := false, cleared := false, conds := 0 }).activateSteps
    if s.isOwner ∧ s.pair.mstate = .mirroring then
      (s.onPair fun p => { p with handover := .accepted s.upd.port }).onUpd fun u => { u with atStep6 := true }
    else s.onUpd fun u => { u with resetDue := true }

/-- A job is open or a package is in ACC_ON. -/
def State.atWork (s : State) : Bool := s.sync.jobs != [] || s.onSet != 0

/-- The refusals of R435. -/
def State.activateConflict (s : State) (lone : Nat) : Bool :=
  let fw := objectFor s.upd.objects 0
  let copied := s.pair.mstate == .mirroring
  !(s.upd.phase == .installed || s.upd.phase == .deferred)
    || (s.isOwner && s.pair.alive && fw.isSome && s.pair.partnerFw != s.upd.verNew)
    || (s.isOwner && copied && !s.allIdle)
    || ((s.isOwner || !s.pair.alive) && !copied && s.atWork && lone == 0)
    || fw.any fun o => !s.protoFits o.obj.man

/-- `UPDATE_ACTIVATE` (R435, R436, R444, R445). -/
def bodyUpdateActivate (lone : U8) (c : Ctx) (s : State) : Answer :=
  check [(decide (1 < lone.toNat), .badArg), (s.thyme.latched, .emergencyActive), (s.activateConflict lone.toNat, .stateConflict)] s fun _ =>
    let s := s.onUpd fun u => { u with lone := lone == 1, port := c.port }
    let conds := s.deferConds
    if conds = 0 then accepted s.activate
    else
      let s := s.onUpd fun u => { u with
        phase := .deferred, conds := conds, auto := u.auto || c.auto, cleared := false, deferGt := if u.phase = .deferred then u.deferGt else some s.gt }
      ({ status := .deferred, detail := conds.toNat }, s.event .fp0 0x0C11 1 0 (i1 conds.toNat))

/-- `ACTIVATION_RESUME`: step 6 has ended, by the handover or without it (R436, R448). -/
def execActivationResume (s : State) : Host.Outcome State Fault Refusal :=
  .next (if s.upd.phase = .activating ∧ s.upd.atStep6 ∧ s.pair.handover = .none ∧ !s.restarting 3 then
    if s.pair.role = .standby ∨ s.upd.lone then s.warmReset .activation
    else s.activationFails (if (objectFor s.upd.objects 0).isSome then 2 + spare s.sec.runningSlot else 255) s.upd.genNew
  else s)

/-- `DEFERRAL_CLEAR`: the first tick with no condition of R444: event 0x0C11 S0; with AUTO the activation proceeds (R445). -/
def execDeferralClear (s : State) : Host.Outcome State Fault Refusal :=
  .next (if s.upd.phase = .deferred ∧ !s.upd.cleared ∧ s.deferConds = 0 ∧ !s.thyme.latched ∧ !s.restarting 3 then
    let auto := s.upd.auto
    let s := (s.onUpd fun u => { u with conds := 0, cleared := true }).event .fp0 0x0C11 0 0 (i1 0)
    if !auto then s
    else
      let s := s.activate
      if s.upd.resetDue then s.warmReset .activation else s
  else s)

/-- `DEFERRAL_EXPIRY`: 600 s, or a latch: event 0x0C12 S1; the update is INSTALLED again (R445, R448). -/
def execDeferralExpiry (s : State) : Host.Outcome State Fault Refusal :=
  let due := s.upd.deferGt.any fun t => s.since t (secs 600)
  .next (if s.upd.phase = .deferred ∧ (due = true ∨ s.thyme.latched) ∧ !s.restarting 3 then
    let s := s.onUpd fun u => { u with phase := .installed, conds := 0, auto := false, cleared := false, deferGt := none }
    s.event .fp0 0x0C12 1 0 (i1 (if s.thyme.latched then 1 else 0))
  else s)

/-- The state's number (R446). -/
def UpdatePhase.code : UpdatePhase → Nat
  | .idle => 0 | .receiving => 1 | .verifying => 2 | .installed => 3 | .deferred => 4 | .activating => 5 | .planRunning => 6 | .failed => 7

/-- Packages that the plan still has to update. -/
def UpdatePlan.accPend (p : UpdatePlan) : BitVec 8 := (p.accs.map Prod.fst).foldl (· ||| ·) 0

/-- `UPDATE_STATUS` (R446). -/
def bodyUpdateStatus (_c : Ctx) (s : State) : Answer :=
  let u := s.upd
  let left := match u.deferGt with
    | some t => (t + secs 600 - s.gt) / 1000000
    | none => 0
  okay (i1 u.phase.code ++ i1 u.last.code ++ i1 u.conds.toNat ++ i1 u.handoff ++ i4 (u.staging.elim 0 fun b => b.good.length) ++ i4 (u.staging.elim 0 BundleStaging.blocks)
    ++ i2 left ++ i1 u.plan.accPend.toNat ++ i1 u.plan.accDone.toNat ++ i1 u.plan.accFail.toNat ++ i1 (packBits [u.plan.loader, u.plan.models != [], u.plan.programs])
    ++ i2 0 ++ i4 s.runningGen ++ i4 u.genNew ++ i4 u.verNew) s

end Sys2Proof.Machine
end

