-- ==== Sys2Proof/Machine/HostCommands.lean ====
section
/-! DEFINITION. The host commands: every body's effect, its admission, batches, and messages that reach a mailbox port (02 R36-R66; the command index R63). -/

namespace Sys2Proof.Machine

open Sys2Proof

/-- Run the effect of a command body for a session that may run it. -/
def runBody (b : Body) (c : Ctx) (s : State) : Answer :=
  match b with
  | .sessionInfo => bodySessionInfo c s
  | .keepalive => bodyKeepalive c s
  | .sessionClose => bodySessionClose c s
  | .govInfo => bodyGovInfo c s
  | .eventSubscribe groups sev => bodyEventSubscribe groups sev c s
  | .eventPoll first count => bodyEventPoll first count c s
  | .semAcquire id lease => bodySemAcquire id lease c s
  | .semRenew id token => bodySemRenew id token c s
  | .semRelease id token => bodySemRelease id token c s
  | .semQuery => bodySemQuery c s
  | .semBreak id => bodySemBreak id c s
  | .railStatus first count => bodyRailStatus first count c s
  | .railLevelsSet first count levels => bodyRailLevelsSet first count levels c s
  | .railCountersRead first count => bodyRailCountersRead first count c s
  | .railCountersClear first count => bodyRailCountersClear first count c s
  | .marginSet channel steps device => bodyMarginSet channel steps device c s
  | .limitsRead offset length => bodyLimitsRead offset length c s
  | .railMapRead first count => bodyRailMapRead first count c s
  | .trayPowerOn => bodyTrayPowerOn c s
  | .trayPowerOff => bodyTrayPowerOff c s
  | .accPowerOn acc => bodyAccPowerOn acc c s
  | .accPowerOff acc => bodyAccPowerOff acc c s
  | .accPowerReset acc => bodyAccPowerReset acc c s
  | .seqStatus => bodySeqStatus c s
  | .seqProgramLoadBegin => bodySeqProgramLoadBegin c s
  | .seqProgramLoadData offset data => bodySeqProgramLoadData offset data c s
  | .seqProgramLoadCommit => bodySeqProgramLoadCommit c s
  | .seqStart prog => bodySeqStart prog c s
  | .trayFaultClear => bodyTrayFaultClear c s
  | .accFaultClear acc => bodyAccFaultClear acc c s
  | .restartPolicySet policy => bodyRestartPolicySet policy c s
  | .modeSetOn => bodyModeSetOn c s
  | .modeSetMaintenance => bodyModeSetMaintenance c s
  | .feedStatus => bodyFeedStatus c s
  | .feedSwitchForceOff feed => bodyFeedSwitchForceOff feed c s
  | .feedSwitchAuto feed => bodyFeedSwitchAuto feed c s
  | .breakerCurveWrite feed backoff cmp curve => bodyBreakerCurveWrite feed backoff cmp curve c s
  | .breakerCurveRead feed => bodyBreakerCurveRead feed c s
  | .feedLockoutClear feed => bodyFeedLockoutClear feed c s
  | .tripRecordsRead first count => bodyTripRecordsRead first count c s
  | .pstateTableLoadBegin => bodyPstateTableLoadBegin c s
  | .pstateTableLoadData offset data => bodyPstateTableLoadData offset data c s
  | .pstateTableLoadCommit => bodyPstateTableLoadCommit c s
  | .prefPointSet first count points => bodyPrefPointSet first count points c s
  | .capSet tray feedA feedB guard budgets => bodyCapSet tray feedA feedB guard budgets c s
  | .oppointStatus => bodyOppointStatus c s
  | .modelLoadBegin slot flags => bodyModelLoadBegin slot flags c s
  | .modelLoadData slot flags offset data => bodyModelLoadData slot flags offset data c s
  | .modelLoadCommit slot flags obj => bodyModelLoadCommit slot flags obj c s
  | .modelStart slot => bodyModelStart slot c s
  | .modelStop slot => bodyModelStop slot c s
  | .modelStatus => bodyModelStatus c s
  | .phaseTableRead pkg first count => bodyPhaseTableRead pkg first count c s
  | .decisionLogRead kind frame offset length => bodyDecisionLogRead kind frame offset length c s
  | .coolStatus => bodyCoolStatus c s
  | .thermalLevelsSet first count levels => bodyThermalLevelsSet first count levels c s
  | .graceSet ms => bodyGraceSet ms c s
  | .leakClear => bodyLeakClear c s
  | .coolOverride target index value => bodyCoolOverride target index value c s
  | .ledgerCfgSet interim oh res wStale wOff => bodyLedgerCfgSet interim oh res wStale wOff c s
  | .accountOpen tag => bodyAccountOpen tag c s
  | .accountClose tag => bodyAccountClose tag c s
  | .accountRead sel tag => bodyAccountRead sel tag c s
  | .ledgerStatus => bodyLedgerStatus c s
  | .calibrationSet first count entries => bodyCalibrationSet first count entries c s
  | .recordsFetch first count => bodyRecordsFetch first count c s
  | .recordsAck seq => bodyRecordsAck seq c s
  | .journalStatus => bodyJournalStatus c s
  | .syncCfgHangTimeout ctx seconds => bodySyncCfgHangTimeout ctx seconds c s
  | .syncCfgBind ctx key => bodySyncCfgBind ctx key c s
  | .syncCfgUnbind ctx => bodySyncCfgUnbind ctx c s
  | .jobOpen job cap quota wFirst wCount pFirst pCount engines parts bmask => bodyJobOpen job cap quota wFirst wCount pFirst pCount engines parts bmask c s
  | .jobClose job => bodyJobClose job c s
  | .feSetEmpty addr val => bodyFeSetEmpty addr val c s
  | .feSetFull addr val => bodyFeSetFull addr val c s
  | .feSetPair addr val => bodyFeSetPair addr val c s
  | .feSetBarrier addr val => bodyFeSetBarrier addr val c s
  | .feSetUnpoison addr val => bodyFeSetUnpoison addr val c s
  | .hangReport first count => bodyHangReport first count c s
  | .treeCfgNode k tray parent children => bodyTreeCfgNode k tray parent children c s
  | .treeCfgBindBarrier engine barrier => bodyTreeCfgBindBarrier engine barrier c s
  | .treeCfgUnbindBarrier engine barrier => bodyTreeCfgUnbindBarrier engine barrier c s
  | .treeCfgBindChannel channel word => bodyTreeCfgBindChannel channel word c s
  | .treeCfgLeave => bodyTreeCfgLeave c s
  | .syncStatus => bodySyncStatus c s
  | .linkStatus => bodyLinkStatus c s
  | .hostqCreate queue toPort depth entryBytes key => bodyHostqCreate queue toPort depth entryBytes key c s
  | .hostqDelete queue => bodyHostqDelete queue c s
  | .imagePushOpen buffer mask source size key => bodyImagePushOpen buffer mask source size key c s
  | .imagePushStart buffer mask source offset => bodyImagePushStart buffer mask source offset c s
  | .imagePushAbort buffer mask source offset => bodyImagePushAbort buffer mask source offset c s
  | .linkRetrain link => bodyLinkRetrain link c s
  | .bwShareSet weights => bodyBwShareSet weights c s
  | .strictSet value => bodyStrictSet value c s
  | .replayRecordRead sel job rp offset length => bodyReplayRecordRead sel job rp offset length c s
  | .replayBind job interval prog input ref refCores seeds => bodyReplayBind job interval prog input ref refCores seeds c s
  | .replayBindResult job step digest => bodyReplayBindResult job step digest c s
  | .replayBindRemove job => bodyReplayBindRemove job c s
  | .spareSubstitute pkg kind source buffer cores failed spare offset => bodySpareSubstitute pkg kind source buffer cores failed spare offset c s
  | .spareSubstituteRemove pkg => bodySpareSubstituteRemove pkg c s
  | .pairStatus => bodyPairStatus c s
  | .pairHandover => bodyPairHandover c s
  | .mirrorStatus => bodyMirrorStatus c s
  | .attest nonce => bodyAttest nonce c s
  | .certChainRead index => bodyCertChainRead index c s
  | .customerKeyEnroll basedOn keyHash authOk => bodyCustomerKeyEnroll basedOn keyHash authOk c s
  | .customerKeyEnrollRemove basedOn authOk => bodyCustomerKeyEnrollRemove basedOn authOk c s
  | .bootStatus => bodyBootStatus c s
  | .bootRecovery => bodyBootRecovery c s
  | .updateBegin length idxLen => bodyUpdateBegin length idxLen c s
  | .updateData offset count idx badBlocks => bodyUpdateData offset count idx badBlocks c s
  | .updateVerify => bodyUpdateVerify c s
  | .updateActivate lone => bodyUpdateActivate lone c s
  | .updateStatus => bodyUpdateStatus c s
  | .configBlockWriteBegin => bodyConfigBlockWriteBegin c s
  | .configBlockWriteData offset count => bodyConfigBlockWriteData offset count c s
  | .configBlockWriteCommit obj => bodyConfigBlockWriteCommit obj c s
  | .logRead boot first count => bodyLogRead boot first count c s
  | .logLevelSet comp level => bodyLogLevelSet comp level c s
  | .traceEnable mask stream => bodyTraceEnable mask stream c s
  | .traceRead count => bodyTraceRead count c s
  | .recRead sel flags first count => bodyRecRead sel flags first count c s
  | .recClear mark => bodyRecClear mark c s
  | .recStatus => bodyRecStatus c s
  | .debugUnlock magic serial challenge scope duration sigs => bodyDebugUnlock magic serial challenge scope duration sigs c s
  | .debugLock => bodyDebugLock c s
  | .debugStatus => bodyDebugStatus c s
  | .badAction _ => (Reply.fail .badArg, s)

/-- What a command itself answers as NOT_NEGOTIATED or DENIED, which come before the outstanding limit and what follows it (02 R54). -/
def Body.early (b : Body) (se : Session) (s : State) : Option Status :=
  match b with
  | .eventSubscribe groups sev => if subscribeBeyond se groups sev then some .notNegotiated else none
  | .semRenew id token => if s.isOwner && s.foreignToken id.toNat token se.keyHash then some .denied else none
  | .semRelease id token => if s.isOwner && s.foreignToken id.toNat token se.keyHash then some .denied else none
  | _ => none

/-- A command that may answer SEMAPHORE_HELD, or a status before it, looks at the reserved fields of its payload itself (02 R54). -/
def Body.ownRsvd : Body → Bool
  | .eventSubscribe .. | .semAcquire .. | .semRenew .. | .semRelease .. => true
  | _ => false

/-- Run a command body under the order of R54: framing and admission, then its own checks and effect. `extra` counts a batch that executes around it. -/
def runCommand (port : Nat) (reqId top : U32) (auto framing payRsvd : Bool) (extra plen : Nat) (b : Body) (se : Session) (s : State) : Answer :=
  match s.precheck port se b.spec framing plen (payRsvd && !b.ownRsvd) (b.early se s) (se.executing.length + extra) with
  | some st => refuse st s
  | none => runBody b { port := port, se := se, reqId := reqId, auto := auto, top := top, payRsvd := payRsvd && b.ownRsvd } s

/-- Take one member of a batch (R52). -/
def BatchRun.member (port : Nat) (auto : Bool) (top : U32) (r : BatchRun) : Member → BatchRun
  | .cmd reqId a rsvd payRsvd plen b =>
    r.take port auto b.code reqId (runCommand port reqId top a (rsvd != 0 || plen.toNat != b.plen) (payRsvd != 0) 1 plen.toNat b)
  | .batch reqId => r.take port auto 0x0007 reqId fun _ s => refuse .badArg s
  | .unknown reqId code => r.take port auto code.toNat reqId fun _ s => refuse .badArg s

/-- Take members in order, up to one whose answer is still to come; the rest is what follows it. -/
def BatchRun.members (port : Nat) (auto : Bool) (top : U32) (r : BatchRun) : List Member → BatchRun × List Member
  | [] => (r, [])
  | m :: ms =>
    let r := r.member port auto top m
    if r.waits.isSome then (r, ms) else r.members port auto top ms

/-- The answer of a batch whose members have been taken: one response body per member, or a wait for one of them (R52, R55). -/
def BatchRun.finish (r : BatchRun) (port : Nat) (session reqId : U32) (auto : Bool) (rest : List Member) : Answer :=
  match r.waits with
  | none => ({ payload := r.out, hold := r.hold }, r.s)
  | some w =>
    ({ forwarded := true }, r.s.onPort port fun q => { q with
      batches := q.batches ++ [{ session := session, reqId := reqId, auto := auto, waits := w, out := r.out, hold := r.hold, rest := rest }] })

/-- Execute a batch's members in order; the answer holds one response body per member (R52). -/
def runBatch (h : Hdr) (members : List Member) (se : Session) (s : State) : Answer :=
  let p := h.port.toNat
  match s.precheck p se (specOfCode 0x0007) (h.rsvd != 0 || decide (16 < members.length)) h.plen.toNat (h.payRsvd != 0) none se.executing.length with
  | some st => refuse st s
  | none =>
    let (r, rest) := ({ s := s } : BatchRun).members p h.auto h.reqId members
    r.finish p se.id h.reqId h.auto rest

/-- A batch goes on once the member that it waits for has its answer (R52, R55). -/
def State.resumeBatch (s : State) (p : Nat) (b : HeldBatch) : State :=
  match (s.port p).session with
  | none => s
  | some se =>
    if se.id ≠ b.session then s
    else
      match se.cache.find? fun c => c.reqId == b.waits with
      | none => s
      | some c =>
        let s := s.onPort p fun q => { q with batches := q.batches.filter fun x => x != b }
        let s := s.onSession p fun se => { se with executing := se.executing.filter fun e => e.reqId != b.reqId }
        let start : BatchRun := ({ s := s, out := b.out, hold := b.hold } : BatchRun).answered b.auto c.body
        let (r, rest) := start.members p b.auto b.reqId b.rest
        let (a, s) := r.finish p se.id b.reqId b.auto rest
        s.respond p se.id b.reqId 0x0007 a

/-- The batches whose member has been answered go on. -/
def State.resumeBatches (s : State) : State :=
  [0, 1].foldl (fun s p => (s.port p).batches.foldl (fun s b => s.resumeBatch p b) s) s

/-- MBOX takes a message (R37, R44, R45). -/
def State.process (s : State) : MailMsg → State
  | .hello h eph nonce features => s.hello h eph nonce features
  | .auth h keyHash sigOk => s.auth h keyHash sigOk
  | .cmd h b => s.command h b.code (runCommand h.port.toNat h.reqId h.reqId h.auto (h.rsvd != 0 || h.plen.toNat != b.plen) (h.payRsvd != 0) 0 h.plen.toNat b)
  | .batch h members => s.command h 0x0007 (runBatch h members)
  | .unknown h code =>
    s.command h code.toNat fun se s =>
      if knownCode code.toNat then runCommand h.port.toNat h.reqId h.reqId h.auto (h.rsvd != 0) (h.payRsvd != 0) 0 h.plen.toNat (.badAction code) se s
      else refuse .badArg s

/-- The port on which a message arrives. -/
def MailMsg.port : MailMsg → Nat
  | .hello h _ _ _ | .auth h _ _ | .cmd h _ | .batch h _ | .unknown h _ => h.port.toNat

/-- A message reaches a mailbox port. While MBOX or FP0 restarts, the receive queue of the port holds up to 256 messages and further ones are dropped and counted (R42); before the firmware runs there is no mailbox (03 R83). -/
def receive (m : MailMsg) (s : State) : State :=
  if 2 ≤ m.port ∨ !s.firmwareRuns then s
  else if s.restarting 1 then
    s.onPort m.port fun q =>
      if q.rxQueue.length < 256 then { q with rxQueue := q.rxQueue ++ [m] } else { q with rxDropped := satAdd 32 q.rxDropped 1 }
  else s.process m

/-- MBOX serves again, and takes what the receive queues hold, port by port in arrival order (R42). -/
def State.drainReceived (s : State) : State :=
  if s.restarting 1 then s
  else
    [0, 1].foldl (fun s p =>
      let ms := (s.port p).rxQueue
      ms.foldl State.process (s.onPort p fun q => { q with rxQueue := [] })) s

/-- `SESSION_INFO` (R44). -/
def execSessionInfo (h : Hdr) (s : State) : Host.Outcome State Fault Refusal :=
  .next (receive (.cmd h .sessionInfo) s)

/-- `KEEPALIVE` (R40). -/
def execKeepalive (h : Hdr) (s : State) : Host.Outcome State Fault Refusal :=
  .next (receive (.cmd h .keepalive) s)

/-- `SESSION_CLOSE` (R58). -/
def execSessionClose (h : Hdr) (s : State) : Host.Outcome State Fault Refusal :=
  .next (receive (.cmd h .sessionClose) s)

/-- `GOV_INFO` (R63). -/
def execGovInfo (h : Hdr) (s : State) : Host.Outcome State Fault Refusal :=
  .next (receive (.cmd h .govInfo) s)

/-- `EVENT_SUBSCRIBE` (R464). -/
def execEventSubscribe (h : Hdr) (groups : U16) (sev : U8) (s : State) : Host.Outcome State Fault Refusal :=
  .next (receive (.cmd h (.eventSubscribe groups sev)) s)

/-- `EVENT_POLL` (R464). -/
def execEventPoll (h : Hdr) (first : U32) (count : U8) (s : State) : Host.Outcome State Fault Refusal :=
  .next (receive (.cmd h (.eventPoll first count)) s)

/-- `SEM_ACQUIRE` (R56). -/
def execSemAcquire (h : Hdr) (id : U8) (lease : U16) (s : State) : Host.Outcome State Fault Refusal :=
  .next (receive (.cmd h (.semAcquire id lease)) s)

/-- `SEM_RENEW` (R57). -/
def execSemRenew (h : Hdr) (id : U8) (token : U64) (s : State) : Host.Outcome State Fault Refusal :=
  .next (receive (.cmd h (.semRenew id token)) s)

/-- `SEM_RELEASE` (R58). -/
def execSemRelease (h : Hdr) (id : U8) (token : U64) (s : State) : Host.Outcome State Fault Refusal :=
  .next (receive (.cmd h (.semRelease id token)) s)

/-- `SEM_QUERY` (R61). -/
def execSemQuery (h : Hdr) (s : State) : Host.Outcome State Fault Refusal :=
  .next (receive (.cmd h .semQuery) s)

/-- `SEM_BREAK` (R58). -/
def execSemBreak (h : Hdr) (id : U8) (s : State) : Host.Outcome State Fault Refusal :=
  .next (receive (.cmd h (.semBreak id)) s)

/-- `RAIL_STATUS` (R204). -/
def execRailStatus (h : Hdr) (first : U8) (count : U8) (s : State) : Host.Outcome State Fault Refusal :=
  .next (receive (.cmd h (.railStatus first count)) s)

/-- `RAIL_LEVELS_SET` (R186). -/
def execRailLevelsSet (h : Hdr) (first : U8) (count : U8) (levels : List RailLevels) (s : State) : Host.Outcome State Fault Refusal :=
  .next (receive (.cmd h (.railLevelsSet first count levels)) s)

/-- `RAIL_COUNTERS_READ` (R204). -/
def execRailCountersRead (h : Hdr) (first : U8) (count : U8) (s : State) : Host.Outcome State Fault Refusal :=
  .next (receive (.cmd h (.railCountersRead first count)) s)

/-- `RAIL_COUNTERS_CLEAR` (R199). -/
def execRailCountersClear (h : Hdr) (first : U8) (count : U8) (s : State) : Host.Outcome State Fault Refusal :=
  .next (receive (.cmd h (.railCountersClear first count)) s)

/-- `MARGIN_SET` (R200). -/
def execMarginSet (h : Hdr) (channel : U8) (steps : U8) (device : Option U16) (s : State) : Host.Outcome State Fault Refusal :=
  .next (receive (.cmd h (.marginSet channel steps device)) s)

/-- `LIMITS_READ` (R205). -/
def execLimitsRead (h : Hdr) (offset : U32) (length : U16) (s : State) : Host.Outcome State Fault Refusal :=
  .next (receive (.cmd h (.limitsRead offset length)) s)

/-- `RAIL_MAP_READ` (R204). -/
def execRailMapRead (h : Hdr) (first : U8) (count : U8) (s : State) : Host.Outcome State Fault Refusal :=
  .next (receive (.cmd h (.railMapRead first count)) s)

/-- `TRAY_POWER_ON` (R170). -/
def execTrayPowerOn (h : Hdr) (s : State) : Host.Outcome State Fault Refusal :=
  .next (receive (.cmd h .trayPowerOn) s)

/-- `TRAY_POWER_OFF` (R170). -/
def execTrayPowerOff (h : Hdr) (s : State) : Host.Outcome State Fault Refusal :=
  .next (receive (.cmd h .trayPowerOff) s)

/-- `ACC_POWER_ON` (R170). -/
def execAccPowerOn (h : Hdr) (acc : U8) (s : State) : Host.Outcome State Fault Refusal :=
  .next (receive (.cmd h (.accPowerOn acc)) s)

/-- `ACC_POWER_OFF` (R170). -/
def execAccPowerOff (h : Hdr) (acc : U8) (s : State) : Host.Outcome State Fault Refusal :=
  .next (receive (.cmd h (.accPowerOff acc)) s)

/-- `ACC_POWER_RESET` (R78). -/
def execAccPowerReset (h : Hdr) (acc : U8) (s : State) : Host.Outcome State Fault Refusal :=
  .next (receive (.cmd h (.accPowerReset acc)) s)

/-- `SEQ_STATUS` (R169). -/
def execSeqStatus (h : Hdr) (s : State) : Host.Outcome State Fault Refusal :=
  .next (receive (.cmd h .seqStatus) s)

/-- `SEQ_PROGRAM_LOAD_BEGIN` (R171). -/
def execSeqProgramLoadBegin (h : Hdr) (s : State) : Host.Outcome State Fault Refusal :=
  .next (receive (.cmd h .seqProgramLoadBegin) s)

/-- `SEQ_PROGRAM_LOAD_DATA` (R171). -/
def execSeqProgramLoadData (h : Hdr) (offset : U32) (data : List Byte) (s : State) : Host.Outcome State Fault Refusal :=
  .next (receive (.cmd h (.seqProgramLoadData offset data)) s)

/-- `SEQ_PROGRAM_LOAD_COMMIT` (R171). -/
def execSeqProgramLoadCommit (h : Hdr) (s : State) : Host.Outcome State Fault Refusal :=
  .next (receive (.cmd h .seqProgramLoadCommit) s)

/-- `SEQ_START` (R172). -/
def execSeqStart (h : Hdr) (prog : U8) (s : State) : Host.Outcome State Fault Refusal :=
  .next (receive (.cmd h (.seqStart prog)) s)

/-- `TRAY_FAULT_CLEAR` (R173). -/
def execTrayFaultClear (h : Hdr) (s : State) : Host.Outcome State Fault Refusal :=
  .next (receive (.cmd h .trayFaultClear) s)

/-- `ACC_FAULT_CLEAR` (R173). -/
def execAccFaultClear (h : Hdr) (acc : U8) (s : State) : Host.Outcome State Fault Refusal :=
  .next (receive (.cmd h (.accFaultClear acc)) s)

/-- `RESTART_POLICY_SET` (R164). -/
def execRestartPolicySet (h : Hdr) (policy : U8) (s : State) : Host.Outcome State Fault Refusal :=
  .next (receive (.cmd h (.restartPolicySet policy)) s)

/-- `MODE_SET_ON` (R201). -/
def execModeSetOn (h : Hdr) (s : State) : Host.Outcome State Fault Refusal :=
  .next (receive (.cmd h .modeSetOn) s)

/-- `MODE_SET_MAINTENANCE` (R174). -/
def execModeSetMaintenance (h : Hdr) (s : State) : Host.Outcome State Fault Refusal :=
  .next (receive (.cmd h .modeSetMaintenance) s)

/-- `FEED_STATUS` (R140). -/
def execFeedStatus (h : Hdr) (s : State) : Host.Outcome State Fault Refusal :=
  .next (receive (.cmd h .feedStatus) s)

/-- `FEED_SWITCH_FORCE_OFF` (R141). -/
def execFeedSwitchForceOff (h : Hdr) (feed : U8) (s : State) : Host.Outcome State Fault Refusal :=
  .next (receive (.cmd h (.feedSwitchForceOff feed)) s)

/-- `FEED_SWITCH_AUTO` (R141). -/
def execFeedSwitchAuto (h : Hdr) (feed : U8) (s : State) : Host.Outcome State Fault Refusal :=
  .next (receive (.cmd h (.feedSwitchAuto feed)) s)

/-- `BREAKER_CURVE_WRITE` (R141). -/
def execBreakerCurveWrite (h : Hdr) (feed : U8) (backoff : U16) (cmp : U16) (curve : List CurvePoint) (s : State) : Host.Outcome State Fault Refusal :=
  .next (receive (.cmd h (.breakerCurveWrite feed backoff cmp curve)) s)

/-- `BREAKER_CURVE_READ` (R140). -/
def execBreakerCurveRead (h : Hdr) (feed : U8) (s : State) : Host.Outcome State Fault Refusal :=
  .next (receive (.cmd h (.breakerCurveRead feed)) s)

/-- `FEED_LOCKOUT_CLEAR` (R126). -/
def execFeedLockoutClear (h : Hdr) (feed : U8) (s : State) : Host.Outcome State Fault Refusal :=
  .next (receive (.cmd h (.feedLockoutClear feed)) s)

/-- `TRIP_RECORDS_READ` (R140). -/
def execTripRecordsRead (h : Hdr) (first : U32) (count : U8) (s : State) : Host.Outcome State Fault Refusal :=
  .next (receive (.cmd h (.tripRecordsRead first count)) s)

/-- `PSTATE_TABLE_LOAD_BEGIN` (R228). -/
def execPstateTableLoadBegin (h : Hdr) (s : State) : Host.Outcome State Fault Refusal :=
  .next (receive (.cmd h .pstateTableLoadBegin) s)

/-- `PSTATE_TABLE_LOAD_DATA` (R228). -/
def execPstateTableLoadData (h : Hdr) (offset : U32) (data : List Byte) (s : State) : Host.Outcome State Fault Refusal :=
  .next (receive (.cmd h (.pstateTableLoadData offset data)) s)

/-- `PSTATE_TABLE_LOAD_COMMIT` (R228). -/
def execPstateTableLoadCommit (h : Hdr) (s : State) : Host.Outcome State Fault Refusal :=
  .next (receive (.cmd h .pstateTableLoadCommit) s)

/-- `PREF_POINT_SET` (R211). -/
def execPrefPointSet (h : Hdr) (first : U8) (count : U16) (points : List U8) (s : State) : Host.Outcome State Fault Refusal :=
  .next (receive (.cmd h (.prefPointSet first count points)) s)

/-- `CAP_SET` (R212). -/
def execCapSet (h : Hdr) (tray : U32) (feedA : U16) (feedB : U16) (guard : U16) (budgets : List U32) (s : State) : Host.Outcome State Fault Refusal :=
  .next (receive (.cmd h (.capSet tray feedA feedB guard budgets)) s)

/-- `OPPOINT_STATUS` (R228). -/
def execOppointStatus (h : Hdr) (s : State) : Host.Outcome State Fault Refusal :=
  .next (receive (.cmd h .oppointStatus) s)

/-- `MODEL_LOAD_BEGIN` (R251). -/
def execModelLoadBegin (h : Hdr) (slot : U8) (flags : U8) (s : State) : Host.Outcome State Fault Refusal :=
  .next (receive (.cmd h (.modelLoadBegin slot flags)) s)

/-- `MODEL_LOAD_DATA` (R251). -/
def execModelLoadData (h : Hdr) (slot : U8) (flags : U8) (offset : U32) (data : List Byte) (s : State) : Host.Outcome State Fault Refusal :=
  .next (receive (.cmd h (.modelLoadData slot flags offset data)) s)

/-- `MODEL_LOAD_COMMIT` (R250). -/
def execModelLoadCommit (h : Hdr) (slot : U8) (flags : U8) (obj : ObjectImage) (s : State) : Host.Outcome State Fault Refusal :=
  .next (receive (.cmd h (.modelLoadCommit slot flags obj)) s)

/-- `MODEL_START` (R259). -/
def execModelStart (h : Hdr) (slot : U8) (s : State) : Host.Outcome State Fault Refusal :=
  .next (receive (.cmd h (.modelStart slot)) s)

/-- `MODEL_STOP` (R259). -/
def execModelStop (h : Hdr) (slot : U8) (s : State) : Host.Outcome State Fault Refusal :=
  .next (receive (.cmd h (.modelStop slot)) s)

/-- `MODEL_STATUS` (R258). -/
def execModelStatus (h : Hdr) (s : State) : Host.Outcome State Fault Refusal :=
  .next (receive (.cmd h .modelStatus) s)

/-- `PHASE_TABLE_READ` (R258). -/
def execPhaseTableRead (h : Hdr) (pkg : U8) (first : U8) (count : U8) (s : State) : Host.Outcome State Fault Refusal :=
  .next (receive (.cmd h (.phaseTableRead pkg first count)) s)

/-- `DECISION_LOG_READ` (R259). -/
def execDecisionLogRead (h : Hdr) (kind : U8) (frame : U64) (offset : U32) (length : U16) (s : State) : Host.Outcome State Fault Refusal :=
  .next (receive (.cmd h (.decisionLogRead kind frame offset length)) s)

/-- `COOL_STATUS` (R284). -/
def execCoolStatus (h : Hdr) (s : State) : Host.Outcome State Fault Refusal :=
  .next (receive (.cmd h .coolStatus) s)

/-- `THERMAL_LEVELS_SET` (R265). -/
def execThermalLevelsSet (h : Hdr) (first : U8) (count : U8) (levels : List ThermLevel) (s : State) : Host.Outcome State Fault Refusal :=
  .next (receive (.cmd h (.thermalLevelsSet first count levels)) s)

/-- `GRACE_SET` (R267). -/
def execGraceSet (h : Hdr) (ms : U32) (s : State) : Host.Outcome State Fault Refusal :=
  .next (receive (.cmd h (.graceSet ms)) s)

/-- `LEAK_CLEAR` (R281). -/
def execLeakClear (h : Hdr) (s : State) : Host.Outcome State Fault Refusal :=
  .next (receive (.cmd h .leakClear) s)

/-- `COOL_OVERRIDE` (R274). -/
def execCoolOverride (h : Hdr) (target : U8) (index : U8) (value : U8) (s : State) : Host.Outcome State Fault Refusal :=
  .next (receive (.cmd h (.coolOverride target index value)) s)

/-- `LEDGER_CFG_SET` (R316). -/
def execLedgerCfgSet (h : Hdr) (interim : U16) (oh : U8) (res : U8) (wStale : U16) (wOff : U16) (s : State) : Host.Outcome State Fault Refusal :=
  .next (receive (.cmd h (.ledgerCfgSet interim oh res wStale wOff)) s)

/-- `ACCOUNT_OPEN` (R297). -/
def execAccountOpen (h : Hdr) (tag : U64) (s : State) : Host.Outcome State Fault Refusal :=
  .next (receive (.cmd h (.accountOpen tag)) s)

/-- `ACCOUNT_CLOSE` (R297). -/
def execAccountClose (h : Hdr) (tag : U64) (s : State) : Host.Outcome State Fault Refusal :=
  .next (receive (.cmd h (.accountClose tag)) s)

/-- `ACCOUNT_READ` (R316). -/
def execAccountRead (h : Hdr) (sel : U8) (tag : U64) (s : State) : Host.Outcome State Fault Refusal :=
  .next (receive (.cmd h (.accountRead sel tag)) s)

/-- `LEDGER_STATUS` (R316). -/
def execLedgerStatus (h : Hdr) (s : State) : Host.Outcome State Fault Refusal :=
  .next (receive (.cmd h .ledgerStatus) s)

/-- `CALIBRATION_SET` (R289). -/
def execCalibrationSet (h : Hdr) (first : U8) (count : U8) (entries : List Calib) (s : State) : Host.Outcome State Fault Refusal :=
  .next (receive (.cmd h (.calibrationSet first count entries)) s)

/-- `RECORDS_FETCH` (R313). -/
def execRecordsFetch (h : Hdr) (first : U64) (count : U8) (s : State) : Host.Outcome State Fault Refusal :=
  .next (receive (.cmd h (.recordsFetch first count)) s)

/-- `RECORDS_ACK` (R307). -/
def execRecordsAck (h : Hdr) (seq : U64) (s : State) : Host.Outcome State Fault Refusal :=
  .next (receive (.cmd h (.recordsAck seq)) s)

/-- `JOURNAL_STATUS` (R316). -/
def execJournalStatus (h : Hdr) (s : State) : Host.Outcome State Fault Refusal :=
  .next (receive (.cmd h .journalStatus) s)

/-- `SYNC_CFG_HANG_TIMEOUT` (R358). -/
def execSyncCfgHangTimeout (h : Hdr) (ctx : U8) (seconds : U32) (s : State) : Host.Outcome State Fault Refusal :=
  .next (receive (.cmd h (.syncCfgHangTimeout ctx seconds)) s)

/-- `SYNC_CFG_BIND` (R358). -/
def execSyncCfgBind (h : Hdr) (ctx : U8) (key : BitVec 256) (s : State) : Host.Outcome State Fault Refusal :=
  .next (receive (.cmd h (.syncCfgBind ctx key)) s)

/-- `SYNC_CFG_UNBIND` (R358). -/
def execSyncCfgUnbind (h : Hdr) (ctx : U8) (s : State) : Host.Outcome State Fault Refusal :=
  .next (receive (.cmd h (.syncCfgUnbind ctx)) s)

/-- `JOB_OPEN` (R336). -/
def execJobOpen (h : Hdr) (job : U8) (cap : U16) (quota : U32) (wFirst : U32) (wCount : U32) (pFirst : U16) (pCount : U16) (engines : U64) (parts : BitVec 72) (bmask : BitVec 72) (s : State) : Host.Outcome State Fault Refusal :=
  .next (receive (.cmd h (.jobOpen job cap quota wFirst wCount pFirst pCount engines parts bmask)) s)

/-- `JOB_CLOSE` (R338). -/
def execJobClose (h : Hdr) (job : U8) (s : State) : Host.Outcome State Fault Refusal :=
  .next (receive (.cmd h (.jobClose job)) s)

/-- `FE_SET_EMPTY` (R348). -/
def execFeSetEmpty (h : Hdr) (addr : U64) (val : U64) (s : State) : Host.Outcome State Fault Refusal :=
  .next (receive (.cmd h (.feSetEmpty addr val)) s)

/-- `FE_SET_FULL` (R348). -/
def execFeSetFull (h : Hdr) (addr : U64) (val : U64) (s : State) : Host.Outcome State Fault Refusal :=
  .next (receive (.cmd h (.feSetFull addr val)) s)

/-- `FE_SET_PAIR` (R348). -/
def execFeSetPair (h : Hdr) (addr : U64) (val : U64) (s : State) : Host.Outcome State Fault Refusal :=
  .next (receive (.cmd h (.feSetPair addr val)) s)

/-- `FE_SET_BARRIER` (R348). -/
def execFeSetBarrier (h : Hdr) (addr : U64) (val : U64) (s : State) : Host.Outcome State Fault Refusal :=
  .next (receive (.cmd h (.feSetBarrier addr val)) s)

/-- `FE_SET_UNPOISON` (R348). -/
def execFeSetUnpoison (h : Hdr) (addr : U64) (val : U64) (s : State) : Host.Outcome State Fault Refusal :=
  .next (receive (.cmd h (.feSetUnpoison addr val)) s)

/-- `HANG_REPORT` (R347). -/
def execHangReport (h : Hdr) (first : U16) (count : U16) (s : State) : Host.Outcome State Fault Refusal :=
  .next (receive (.cmd h (.hangReport first count)) s)

/-- `TREE_CFG_NODE` (R350). -/
def execTreeCfgNode (h : Hdr) (k : U8) (tray : U32) (parent : BitVec 128) (children : List TreeChild) (s : State) : Host.Outcome State Fault Refusal :=
  .next (receive (.cmd h (.treeCfgNode k tray parent children)) s)

/-- `TREE_CFG_BIND_BARRIER` (R352). -/
def execTreeCfgBindBarrier (h : Hdr) (engine : U8) (barrier : U8) (s : State) : Host.Outcome State Fault Refusal :=
  .next (receive (.cmd h (.treeCfgBindBarrier engine barrier)) s)

/-- `TREE_CFG_UNBIND_BARRIER` (R352). -/
def execTreeCfgUnbindBarrier (h : Hdr) (engine : U8) (barrier : U8) (s : State) : Host.Outcome State Fault Refusal :=
  .next (receive (.cmd h (.treeCfgUnbindBarrier engine barrier)) s)

/-- `TREE_CFG_BIND_CHANNEL` (R354). -/
def execTreeCfgBindChannel (h : Hdr) (channel : U8) (word : U32) (s : State) : Host.Outcome State Fault Refusal :=
  .next (receive (.cmd h (.treeCfgBindChannel channel word)) s)

/-- `TREE_CFG_LEAVE` (R350). -/
def execTreeCfgLeave (h : Hdr) (s : State) : Host.Outcome State Fault Refusal :=
  .next (receive (.cmd h .treeCfgLeave) s)

/-- `SYNC_STATUS` (R358). -/
def execSyncStatus (h : Hdr) (s : State) : Host.Outcome State Fault Refusal :=
  .next (receive (.cmd h .syncStatus) s)

/-- `LINK_STATUS` (R385). -/
def execLinkStatus (h : Hdr) (s : State) : Host.Outcome State Fault Refusal :=
  .next (receive (.cmd h .linkStatus) s)

/-- `HOSTQ_CREATE` (R378). -/
def execHostqCreate (h : Hdr) (queue : U8) (toPort : U8) (depth : U16) (entryBytes : U16) (key : BitVec 256) (s : State) : Host.Outcome State Fault Refusal :=
  .next (receive (.cmd h (.hostqCreate queue toPort depth entryBytes key)) s)

/-- `HOSTQ_DELETE` (R381). -/
def execHostqDelete (h : Hdr) (queue : U8) (s : State) : Host.Outcome State Fault Refusal :=
  .next (receive (.cmd h (.hostqDelete queue)) s)

/-- `IMAGE_PUSH_OPEN` (R382). -/
def execImagePushOpen (h : Hdr) (buffer : U8) (mask : U8) (source : U8) (size : U32) (key : BitVec 256) (s : State) : Host.Outcome State Fault Refusal :=
  .next (receive (.cmd h (.imagePushOpen buffer mask source size key)) s)

/-- `IMAGE_PUSH_START` (R383). -/
def execImagePushStart (h : Hdr) (buffer : U8) (mask : U8) (source : U8) (offset : U32) (s : State) : Host.Outcome State Fault Refusal :=
  .next (receive (.cmd h (.imagePushStart buffer mask source offset)) s)

/-- `IMAGE_PUSH_ABORT` (R383). -/
def execImagePushAbort (h : Hdr) (buffer : U8) (mask : U8) (source : U8) (offset : U32) (s : State) : Host.Outcome State Fault Refusal :=
  .next (receive (.cmd h (.imagePushAbort buffer mask source offset)) s)

/-- `LINK_RETRAIN` (R385). -/
def execLinkRetrain (h : Hdr) (link : U8) (s : State) : Host.Outcome State Fault Refusal :=
  .next (receive (.cmd h (.linkRetrain link)) s)

/-- `BW_SHARE_SET` (R384). -/
def execBwShareSet (h : Hdr) (weights : List U8) (s : State) : Host.Outcome State Fault Refusal :=
  .next (receive (.cmd h (.bwShareSet weights)) s)

/-- `STRICT_SET` (R390). -/
def execStrictSet (h : Hdr) (value : U8) (s : State) : Host.Outcome State Fault Refusal :=
  .next (receive (.cmd h (.strictSet value)) s)

/-- `REPLAY_RECORD_READ` (R401). -/
def execReplayRecordRead (h : Hdr) (sel : U8) (job : U8) (rp : U64) (offset : U16) (length : U16) (s : State) : Host.Outcome State Fault Refusal :=
  .next (receive (.cmd h (.replayRecordRead sel job rp offset length)) s)

/-- `REPLAY_BIND` (R393). -/
def execReplayBind (h : Hdr) (job : U8) (interval : U64) (prog : BitVec 384) (input : BitVec 384) (ref : BitVec 384) (refCores : List U32) (seeds : List U64) (s : State) : Host.Outcome State Fault Refusal :=
  .next (receive (.cmd h (.replayBind job interval prog input ref refCores seeds)) s)

/-- `REPLAY_BIND_RESULT` (R396). -/
def execReplayBindResult (h : Hdr) (job : U8) (step : U64) (digest : BitVec 384) (s : State) : Host.Outcome State Fault Refusal :=
  .next (receive (.cmd h (.replayBindResult job step digest)) s)

/-- `REPLAY_BIND_REMOVE` (R393). -/
def execReplayBindRemove (h : Hdr) (job : U8) (s : State) : Host.Outcome State Fault Refusal :=
  .next (receive (.cmd h (.replayBindRemove job)) s)

/-- `SPARE_SUBSTITUTE` (R398). -/
def execSpareSubstitute (h : Hdr) (pkg : U8) (kind : U8) (source : U8) (buffer : U8) (cores : U32) (failed : U32) (spare : U32) (offset : U32) (s : State) : Host.Outcome State Fault Refusal :=
  .next (receive (.cmd h (.spareSubstitute pkg kind source buffer cores failed spare offset)) s)

/-- `SPARE_SUBSTITUTE_REMOVE` (R398). -/
def execSpareSubstituteRemove (h : Hdr) (pkg : U8) (s : State) : Host.Outcome State Fault Refusal :=
  .next (receive (.cmd h (.spareSubstituteRemove pkg)) s)

/-- `PAIR_STATUS` (R424). -/
def execPairStatus (h : Hdr) (s : State) : Host.Outcome State Fault Refusal :=
  .next (receive (.cmd h .pairStatus) s)

/-- `PAIR_HANDOVER` (R423). -/
def execPairHandover (h : Hdr) (s : State) : Host.Outcome State Fault Refusal :=
  .next (receive (.cmd h .pairHandover) s)

/-- `MIRROR_STATUS` (R424). -/
def execMirrorStatus (h : Hdr) (s : State) : Host.Outcome State Fault Refusal :=
  .next (receive (.cmd h .mirrorStatus) s)

/-- `ATTEST` (R107). -/
def execAttest (h : Hdr) (nonce : BitVec 256) (s : State) : Host.Outcome State Fault Refusal :=
  .next (receive (.cmd h (.attest nonce)) s)

/-- `CERT_CHAIN_READ` (R106). -/
def execCertChainRead (h : Hdr) (index : U8) (s : State) : Host.Outcome State Fault Refusal :=
  .next (receive (.cmd h (.certChainRead index)) s)

/-- `CUSTOMER_KEY_ENROLL` (R98). -/
def execCustomerKeyEnroll (h : Hdr) (basedOn : U32) (keyHash : BitVec 384) (authOk : Bool) (s : State) : Host.Outcome State Fault Refusal :=
  .next (receive (.cmd h (.customerKeyEnroll basedOn keyHash authOk)) s)

/-- `CUSTOMER_KEY_ENROLL_REMOVE` (R98). -/
def execCustomerKeyEnrollRemove (h : Hdr) (basedOn : U32) (authOk : Bool) (s : State) : Host.Outcome State Fault Refusal :=
  .next (receive (.cmd h (.customerKeyEnrollRemove basedOn authOk)) s)

/-- `BOOT_STATUS` (R63). -/
def execBootStatus (h : Hdr) (s : State) : Host.Outcome State Fault Refusal :=
  .next (receive (.cmd h .bootStatus) s)

/-- `BOOT_RECOVERY` (R104). -/
def execBootRecovery (h : Hdr) (s : State) : Host.Outcome State Fault Refusal :=
  .next (receive (.cmd h .bootRecovery) s)

/-- `UPDATE_BEGIN` (R428). -/
def execUpdateBegin (h : Hdr) (length : U32) (idxLen : U32) (s : State) : Host.Outcome State Fault Refusal :=
  .next (receive (.cmd h (.updateBegin length idxLen)) s)

/-- `UPDATE_DATA` (R429). -/
def execUpdateData (h : Hdr) (offset : U32) (count : U16) (idx : BundleIndex) (badBlocks : List Nat) (s : State) : Host.Outcome State Fault Refusal :=
  .next (receive (.cmd h (.updateData offset count idx badBlocks)) s)

/-- `UPDATE_VERIFY` (R430). -/
def execUpdateVerify (h : Hdr) (s : State) : Host.Outcome State Fault Refusal :=
  .next (receive (.cmd h .updateVerify) s)

/-- `UPDATE_ACTIVATE` (R435). -/
def execUpdateActivate (h : Hdr) (lone : U8) (s : State) : Host.Outcome State Fault Refusal :=
  .next (receive (.cmd h (.updateActivate lone)) s)

/-- `UPDATE_STATUS` (R446). -/
def execUpdateStatus (h : Hdr) (s : State) : Host.Outcome State Fault Refusal :=
  .next (receive (.cmd h .updateStatus) s)

/-- `CONFIG_BLOCK_WRITE_BEGIN` (R430). -/
def execConfigBlockWriteBegin (h : Hdr) (s : State) : Host.Outcome State Fault Refusal :=
  .next (receive (.cmd h .configBlockWriteBegin) s)

/-- `CONFIG_BLOCK_WRITE_DATA` (R430). -/
def execConfigBlockWriteData (h : Hdr) (offset : U32) (count : U16) (s : State) : Host.Outcome State Fault Refusal :=
  .next (receive (.cmd h (.configBlockWriteData offset count)) s)

/-- `CONFIG_BLOCK_WRITE_COMMIT` (R430). -/
def execConfigBlockWriteCommit (h : Hdr) (obj : ConfigObject) (s : State) : Host.Outcome State Fault Refusal :=
  .next (receive (.cmd h (.configBlockWriteCommit obj)) s)

/-- `LOG_READ` (R65). -/
def execLogRead (h : Hdr) (boot : U16) (first : U32) (count : U16) (s : State) : Host.Outcome State Fault Refusal :=
  .next (receive (.cmd h (.logRead boot first count)) s)

/-- `LOG_LEVEL_SET` (R65). -/
def execLogLevelSet (h : Hdr) (comp : U8) (level : U8) (s : State) : Host.Outcome State Fault Refusal :=
  .next (receive (.cmd h (.logLevelSet comp level)) s)

/-- `TRACE_ENABLE` (R66). -/
def execTraceEnable (h : Hdr) (mask : BitVec 256) (stream : U8) (s : State) : Host.Outcome State Fault Refusal :=
  .next (receive (.cmd h (.traceEnable mask stream)) s)

/-- `TRACE_READ` (R66). -/
def execTraceRead (h : Hdr) (count : U16) (s : State) : Host.Outcome State Fault Refusal :=
  .next (receive (.cmd h (.traceRead count)) s)

/-- `REC_READ` (R462). -/
def execRecRead (h : Hdr) (sel : U8) (flags : U8) (first : U32) (count : U8) (s : State) : Host.Outcome State Fault Refusal :=
  .next (receive (.cmd h (.recRead sel flags first count)) s)

/-- `REC_CLEAR` (R463). -/
def execRecClear (h : Hdr) (mark : U32) (s : State) : Host.Outcome State Fault Refusal :=
  .next (receive (.cmd h (.recClear mark)) s)

/-- `REC_STATUS` (R467). -/
def execRecStatus (h : Hdr) (s : State) : Host.Outcome State Fault Refusal :=
  .next (receive (.cmd h .recStatus) s)

/-- `DEBUG_UNLOCK` (R109). -/
def execDebugUnlock (h : Hdr) (magic : U32) (serial : BitVec 128) (challenge : BitVec 256) (scope : U32) (duration : U32) (sigs : TokenSigs) (s : State) : Host.Outcome State Fault Refusal :=
  .next (receive (.cmd h (.debugUnlock magic serial challenge scope duration sigs)) s)

/-- `DEBUG_LOCK` (R110). -/
def execDebugLock (h : Hdr) (s : State) : Host.Outcome State Fault Refusal :=
  .next (receive (.cmd h .debugLock) s)

/-- `DEBUG_STATUS` (R109). -/
def execDebugStatus (h : Hdr) (s : State) : Host.Outcome State Fault Refusal :=
  .next (receive (.cmd h .debugStatus) s)

/-- `HELLO` (R37, R38): the host's ephemeral key is a point in its uncompressed form, a form byte and two coordinates. -/
def execHello (h : Hdr) (form : U8) (x : BitVec 384) (y : BitVec 384) (nonce : BitVec 256) (features : BitVec 128) (s : State) : Host.Outcome State Fault Refusal :=
  .next (receive (.hello h (uncompressed form x y) nonce features) s)

/-- `AUTH` (R37, R39). -/
def execAuth (h : Hdr) (keyHash : BitVec 384) (sigOk : Bool) (s : State) : Host.Outcome State Fault Refusal :=
  .next (receive (.auth h keyHash sigOk) s)

/-- `BATCH` (R52). -/
def execBatch (h : Hdr) (members : List Member) (s : State) : Host.Outcome State Fault Refusal :=
  .next (receive (.batch h members) s)

/-- `MAILBOX_MESSAGE_REJECT`: a message that R44 discards, or a command whose code the index does not hold (R44, R62, R63). -/
def execMailboxMessageReject (h : Hdr) (code : U16) (s : State) : Host.Outcome State Fault Refusal :=
  .next (receive (.unknown h code) s)

/-- `COMPONENT_RESTART_COMPLETE`: a restarting component is restored from its checkpoint area and serves again (01 R24). -/
def execComponentRestartComplete (comp : U8) (s : State) : Host.Outcome State Fault Refusal :=
  let k := comp.toNat
  .next (if k < 14 ∧ s.firmwareRuns ∧ (nth s.comps k).restartUntil.isSome then
    let s := s.componentRestored k
    if k = 1 then s.drainReceived else s
  else s)

/-- `PROCESSOR_RESTART_COMPLETE`: the components of a restarting processor are restored (01 R25). -/
def execProcessorRestartComplete (proc : U8) (s : State) : Host.Outcome State Fault Refusal :=
  let p := proc.toNat
  .next (if p < 4 ∧ s.firmwareRuns ∧ (nth s.procs p).restartUntil.isSome then
    let s := s.processorRestored p
    if p = 0 then s.drainReceived else s
  else s)

end Sys2Proof.Machine
end

