-- ==== Sys2Proof/Machine/Plan.lean ====
section
/-! DEFINITION. The update plan, the reset of an accelerator, and the messages that the plan waits for (16 R439-R443, 03 R78, 13 R368, R383). -/

namespace Sys2Proof.Machine

open Sys2Proof

/-- Change the plan; both governors hold it (16 R439). -/
def State.onPlan (s : State) (f : UpdatePlan → UpdatePlan) : State :=
  ((s.onUpd fun u => { u with plan := f u.plan }.settled).saveSettings).mirrored .plan

/-- UPDT works on the plan. -/
def State.planWorks (s : State) : Bool := s.clk.phase == .running && !s.restarting 3

/-- `LOADER_COPY_STEP`: at the governor that has booted the new loader, it is written over the other copy: event 0x0C16 S0 (16 R442). -/
def execLoaderCopyStep (s : State) : Host.Outcome State Fault Refusal :=
  .next (match s.sec.runningLoader with
    | some k =>
      let x := nth s.sec.loaders k
      let gen := x.gen + 1
      if s.planWorks ∧ s.upd.plan.loader ∧ (nth s.sec.loaders (1 - k)).gen < x.gen then
        let s := s.onSec fun c => { c with loaders := c.loaders.set (1 - k) { (Slot.written x.obj gen).validated with cfgRange := x.cfgRange } }
        (s.onPlan fun p => { p with loader := false }).event .fp0 0x0C16 0 0 (i4 gen)
      else s
    | none => s)

/-- A model object goes into its slot (16 R440). -/
def State.modelStep (s : State) (k : Nat) (cont : Container) (obj : ObjectImage) : State :=
  let was := (s.slot k).phase == .running || (s.slot k).restart
  let auto := (nth s.phase.stored k).any fun x => x.autostart
  let s := if (s.slot k).phase = .running then s.stopModel k 0 else s
  let x : StoredModel := { cont := cont, obj := obj, autostart := auto }
  let s := (s.onPhase fun p => { p with stored := p.stored.set k (some x) }).saveSettings.loadSlot k x
  if (s.slot k).phase = .loaded then
    let s := (s.marker k 1).event .fp1 0x0501 0 k (i1 k ++ (digestBytes obj.man.digest).take 8 ++ i1 s.upd.port)
    if (was || auto) && s.fits k then s.onSlot k fun m => { m with pend := some true } else s
  else s

/-- `MODEL_STEP`: the next model of the plan, at a frame boundary of the OWNER, after the loader's step. A slot that already holds the object is done (16 R439, R440). -/
def execModelStep (s : State) : Host.Outcome State Fault Refusal :=
  .next (match s.upd.plan.models with
    | (k, cont, obj) :: rest =>
      if s.planWorks ∧ s.isOwner ∧ !s.upd.plan.loader ∧ s.gt % 50 = 0 ∧ !s.restarting 4 ∧ k < 8 then
        let same := (s.slot k).phase != .empty && (s.slot k).digest == obj.man.digest
        (if same then s else s.modelStep k cont obj).onPlan fun p => { p with models := rest }
      else s
    | [] => s)

/-- `PROGRAM_STEP`: the set of the configuration block in force is installed in the first tick in which every context is idle (16 R441). -/
def execProgramStep (s : State) : Host.Outcome State Fault Refusal :=
  let p := s.upd.plan
  .next (if s.planWorks ∧ s.isOwner ∧ !p.loader ∧ p.models = [] ∧ p.programs ∧ s.allIdle then
    (s.install s.cfg.programs 0).onPlan fun p => { p with programs := false }
  else s)

/-! Accelerators (16 R443) -/

/-- A die of a package is in the `parts` of an open job. -/
def State.pkgInJob (s : State) (n : Nat) : Bool := s.sync.jobs.any fun j => j.pkgs.getLsbD n

/-- A package is eligible. -/
def State.accEligible (s : State) (n : Nat) : Bool := s.pushable n && !s.pkgInJob n

/-- Packages without a program, or all updated, leave the masks. -/
def UpdatePlan.pruned (p : UpdatePlan) (absent : BitVec 8) : UpdatePlan :=
  { p with accs := (p.accs.map fun a => (a.1 &&& ~~~absent, a.2)).filter fun a => a.1 != 0 }

/-- The packages whose `acc_up` is 0xFF. -/
def State.noProgram (s : State) : BitVec 8 := BitVec.ofNat 8 (packBits ((List.range 8).map fun n => nth s.thyme.set.accUp n == 255))

/-- The object that a package waits for. -/
def UpdatePlan.accObject (p : UpdatePlan) (n : Nat) : ObjectImage := ((p.accs.find? fun a => a.1.getLsbD n).map Prod.snd).getD {}

/-- A package leaves the mask of the first object that names it. -/
def dropAcc (n : Nat) : List (BitVec 8 × ObjectImage) → List (BitVec 8 × ObjectImage)
  | [] => []
  | a :: l => if a.1.getLsbD n then (a.1 &&& ~~~(1#8 <<< n), a.2) :: l else a :: dropAcc n l

/-- A package is updated: event 0x0C17 S0. -/
def State.accUpdated (s : State) (n : Nat) : State :=
  let v := (s.upd.plan.accObject n).man.version
  let s := s.event .fp0 0x0C17 0 n (i1 n ++ i1 0 ++ i4 v)
  s.onPlan fun p => { p with accs := (dropAcc n p.accs).filter (fun a => a.1 != 0), accDone := p.accDone ||| (1#8 <<< n), step := .none }

/-- The step of a package fails: event 0x0C17 S2, and the accelerator step ends. -/
def State.accFailed (s : State) (n status : Nat) : State :=
  let v := (s.upd.plan.accObject n).man.version
  let s := s.event .fp0 0x0C17 2 n (i1 n ++ i1 status ++ i4 v)
  s.onPlan fun p => { p with accs := [], accFail := p.accFail ||| (1#8 <<< n), step := .none }

/-- Push the next object that has an eligible package to the lowest of them; what is not eligible is passed over. -/
def State.nextAcc (s : State) : State :=
  let s := if s.upd.plan.pruned s.noProgram = s.upd.plan then s else s.onPlan fun p => p.pruned s.noProgram
  match s.upd.plan.accs.findSome? fun a => ((members a.1).find? s.accEligible).map fun n => (n, a.2) with
  | some (n, obj) =>
    if s.imageVerifies obj [5] then
      let (id, s) := s.startPush (1#8 <<< n) obj none false
      s.onPlan fun p => { p with step := .pushing n id }
    else (s.loadFailed .fp3 obj obj.badBlock).accFailed n Status.integrityFail.code
  | none => s

/-- `ACCELERATOR_STEP`: the next package of the plan, or the end of a push that has ended without DONE (16 R443, R448). -/
def execAcceleratorStep (s : State) : Host.Outcome State Fault Refusal :=
  let p := s.upd.plan
  .next (if s.planWorks ∧ s.isOwner ∧ !p.loader ∧ p.models = [] ∧ !p.programs ∧ !s.restarting 11 then
    match p.step with
    | .none => s.nextAcc
    | .pushing n id => if s.link.pushes.any fun x => x.id == id && x.mask.getLsbD n then s else s.accFailed n Status.stateConflict.code
    | .resetting n => if s.acc n = .on then s else s.accFailed n Status.stateConflict.code
    | .waiting _ _ => s
  else s)

/-- `DONE`: a package ends a push with a status: event 0x0907; the plan's own push goes on with the reset of the package (13 R383, 16 R443). -/
def execDone (pkg : U8) (push : U32) (status : U8) (s : State) : Host.Outcome State Fault Refusal :=
  let n := pkg.toNat
  .next (if n < 8 ∧ s.hears n then
    let s := s.received n 6 12
    if s.link.pushes.any fun p => p.id == push.toNat && p.mask.getLsbD n then
      let s := (s.pushEnds push.toNat n (status == 0)).mirrored .host
      if s.upd.plan.step = .pushing n push.toNat then
        if status = 0 ∧ s.acc n = .on then
          let s := s.onThyme fun t => { t with resetAction := t.resetAction.set n (some (s.gt + ms 1, s.upd.port)) }
          let s := (s.onSage fun g => { g with accReset := g.accReset &&& ~~~(1#8 <<< n) }).mirrored .grants
          s.onPlan fun p => { p with step := .resetting n }
        else s.accFailed n status.toNat
      else s
    else s
  else s)

/-- The dies of a package start their report comparisons again (03 R78, 11 R292, 13 R370). -/
def State.freshReports (s : State) (n : Nat) : State :=
  let s := s.onLink fun l => { l with dies := l.dies.mapIdx fun d x => if d / 8 = n then { x with rseq := none } else x }
  s.onLedger fun l => { l with dies := l.dies.mapIdx fun d x => if d / 8 = n then { x with rseq := none } else x }

/-- Link n trains anew after the reset of its package (03 R78). -/
def State.retrainReset (s : State) (n : Nat) : State :=
  let p := s.skv n
  let s := s.onLink fun l => { l with queues := l.queues.map fun (q : HostQueue) => if q.port = n then q.resumeAfter p else q }
  if p.phase = .unused then s else ((s.onSkv n fun p => p.fallen p.phase).portTo n .training).failPushes n

/-- `ACC_RESET_RELEASE`: after 1 ms ACC_RESET_N is released: event 0x020A S0; link n retrains and the report comparisons restart (03 R78, 06 R175). -/
def execAccResetRelease (acc : U8) (s : State) : Host.Outcome State Fault Refusal :=
  let n := acc.toNat
  .next (match nth s.thyme.resetAction n with
    | some (t, port) =>
      if s.gt < t then s
      else
        let s := s.onThyme fun h => { h with resetAction := h.resetAction.set n none }
        if s.acc n ≠ .on then s
        else
          let s := (s.onSage fun g => { g with accReset := g.accReset ||| (1#8 <<< n) }).mirrored .grants
          let s := ((s.event .fp1 0x020A 0 n (i1 n ++ i1 port)).retrainReset n).freshReports n
          if s.upd.plan.step = .resetting n then s.onPlan fun p => { p with step := .waiting n (s.gt + secs 2) } else s
    | none => s)

/-- `CAPABILITY_MESSAGE`: a capability message decides LINK_UP (13 R368); with the version awaited, the plan's package is updated (16 R443). -/
def execCapabilityMessage (port : U8) (cap : Capability) (s : State) : Host.Outcome State Fault Refusal :=
  let n := port.toNat
  .next (if n < 10 ∧ (s.skv n).trained then
    let s := s.capability n cap
    match s.upd.plan.step with
    | .waiting k t =>
      if k = n ∧ (s.skv n).phase = .linkUp ∧ s.gt ≤ t ∧ cap.fw = (s.upd.plan.accObject n).man.version then s.accUpdated n else s
    | _ => s
  else s)

/-- `ACC_UPDATE_CONFIRM_TIMEOUT`: no LINK_UP with the new version within 2 s (16 R443). -/
def execAccUpdateConfirmTimeout (pkg : U8) (s : State) : Host.Outcome State Fault Refusal :=
  let n := pkg.toNat
  .next (match s.upd.plan.step with
    | .waiting k t => if k = n ∧ t < s.gt ∧ s.isOwner then s.accFailed n Status.stateConflict.code else s
    | _ => s)

end Sys2Proof.Machine
end

