-- ==== Sys2Proof/Machine/Tick.lean ====
section
/-! DEFINITION. The 1 µs tick of the always-on domain: governor time, the pins of the pair, the metering samples, and the arbiter's evaluation of what is pending (01 R29). -/

namespace Sys2Proof.Machine

open Sys2Proof

/-- The measures that CAPL gathers in one tick: branch currents, and branch energy apart by whether the package waits (08 R213, R217; 12 R333). -/
def OpState.sampled (o : OpState) (waits : List Bool) (vals : List (Int × Int)) : OpState :=
  let e := fun n => (nth vals n).1 * (nth vals n).2
  { o with
    iAcc := o.iAcc.mapIdx fun n a => a + (nth vals n).2
    eAll := o.eAll.mapIdx fun n a => a + e n
    eAct := o.eAct.mapIdx fun n a => if nth waits n then a else a + e n
    tAct := o.tAct.mapIdx fun n t => if nth waits n then t else t + 1
    tWait := o.tWait.mapIdx fun n t => if nth waits n then t + 1 else t }

/-- The metering samples of one tick, in µV and µA (08 R213, 11 R288). -/
def State.meterTick (s : State) (branchCodes : List (Int × Int)) (feedCodes : List (List (Int × Int))) : State :=
  let cal := fun k => nth s.ledger.cfg.calib k
  let vals := (List.range 12).map fun n =>
    let x := nth branchCodes n
    ((cal (4 + 2 * n)).value x.1 16, (cal (5 + 2 * n)).value x.2 16)
  let waits := (List.range 8).map s.pkgWaits
  (s.onOp fun o => o.sampled waits vals).onLedger fun l => l.sampled branchCodes feedCodes

/-- What the journal device's read-backs have been like until this tick (11 R311). -/
def State.journalTick (s : State) (bad : Bool) : State := s.onLedger fun l => { l with badReads := bad }

/-- RESET_N, OWN_N and ALIVE_IN as read, and ALIVE_OUT, which changes level while the qualifier holds (03 R76, 15 R404, R405). -/
def State.pairTick (s : State) (pins : TickPins) : State :=
  let low := pins.ownLow || s.pair.pull
  let s := s.onPair fun p => { p with
    ownSince := if p.ownLow = low then p.ownSince else s.gt
    ownLow := low
    aliveIn := if pins.aliveChanged then some s.gt else p.aliveIn }
  let s : State := { s with clk := { s.clk with resetLows := if pins.resetLow then min 2 (s.clk.resetLows + 1) else 0 } }
  { s with pins := { s.pins with tripLow := pins.tripLow, aliveOut := s.pair.qualifier && !s.pins.aliveOut } }

/-- The feed switches whose comparator has crossed fall, a FORCE_OFF that waited takes effect, the comparators are armed, and the offs of the last tick no longer stand against an on (01 R29, 05 R120, R139). -/
def State.feedTick (s : State) (cmpMv : List Nat) : State :=
  let forced := s.feed.feeds.any Feed.forceDue
  let s := s.onFeeds fun c => { c with
    feeds := c.feeds.mapIdx fun x f => (if nth c.onFalls x then { f with onReleased := false } else f).ticked (nth cmpMv x)
    onFalls := [false, false] }
  let s := if forced then (s.onFeeds FeedState.shareOff).mirrored .tray else s
  let s := if forced || (s.feed.demand && s.feed.feeds.any fun f => f.reported == .off) then s.feedsSettle else s
  s.onThyme fun t => { t with offsNow := [] }

/-- What conditions read in the tick that begins (06 R152). -/
def State.viewTick (s : State) : State := s.onThyme fun t => { t with view := s.condView }

/-- `ARBITER_TICK`: one CLK_TICK (R29). While the power-on reset is held, governor time stands at 0 and only the watch on ALIVE_IN runs (03 R74, 18 R474). -/
def execArbiterTick (branchCodes : List (Int × Int)) (feedCodes : List (List (Int × Int))) (pins : TickPins) (s : State) : Host.Outcome State Fault Refusal :=
  .next (if s.clk.phase == .porHeld then
    ({ s with clk := { s.clk with resetLows := if pins.resetLow then min 2 (s.clk.resetLows + 1) else 0 } } : State).onPair fun p =>
      { p with aliveIn := if pins.aliveChanged then some s.gt else p.aliveIn }
  else
    let s : State := { s.viewTick with clk := { s.clk with gt := s.clk.gt + 1 } }
    let s := (((s.pairTick pins).meterTick branchCodes feedCodes).journalTick pins.journalBad).feedTick pins.cmpMv
    let s := s.offTick
    let s := if s.sage.everLocked then (((s.coolTick pins.press).opTick pins.slowLow pins.alertLow).deliverAll).pushOverlays else s
    s.restored.resumeBatches)

end Sys2Proof.Machine
end

