-- ==== Sys2Proof/Machine/Dispatch.lean ====
section
/-! DEFINITION. The one dispatch over the commands: each arm calls its meaning. -/

namespace Sys2Proof.Machine

open Sys2Proof

/-- The effect of one command on everything but the queue. -/
def exec (i : Instr) (s : State) : Host.Outcome State Fault Refusal :=
  match i with
  | .hello h form x y nonce features => Sys2Proof.Machine.execHello h form x y nonce features s
  | .auth h keyHash sigOk => Sys2Proof.Machine.execAuth h keyHash sigOk s
  | .handshakeTimeout port => Sys2Proof.Machine.execHandshakeTimeout port s
  | .authLockoutEnd port => Sys2Proof.Machine.execAuthLockoutEnd port s
  | .sessionIdleTimeout port => Sys2Proof.Machine.execSessionIdleTimeout port s
  | .sessionInfo h => Sys2Proof.Machine.execSessionInfo h s
  | .keepalive h => Sys2Proof.Machine.execKeepalive h s
  | .sessionClose h => Sys2Proof.Machine.execSessionClose h s
  | .govInfo h => Sys2Proof.Machine.execGovInfo h s
  | .eventSubscribe h groups sev => Sys2Proof.Machine.execEventSubscribe h groups sev s
  | .eventPoll h first count => Sys2Proof.Machine.execEventPoll h first count s
  | .batch h members => Sys2Proof.Machine.execBatch h members s
  | .semAcquire h id lease => Sys2Proof.Machine.execSemAcquire h id lease s
  | .semRenew h id token => Sys2Proof.Machine.execSemRenew h id token s
  | .semRelease h id token => Sys2Proof.Machine.execSemRelease h id token s
  | .semQuery h => Sys2Proof.Machine.execSemQuery h s
  | .semBreak h id => Sys2Proof.Machine.execSemBreak h id s
  | .leaseEnd id => Sys2Proof.Machine.execLeaseEnd id s
  | .forwardedSemaphoreCommand port origin keyHash cmd => Sys2Proof.Machine.execForwardedSemaphoreCommand port origin keyHash cmd s
  | .railStatus h first count => Sys2Proof.Machine.execRailStatus h first count s
  | .railLevelsSet h first count levels => Sys2Proof.Machine.execRailLevelsSet h first count levels s
  | .railCountersRead h first count => Sys2Proof.Machine.execRailCountersRead h first count s
  | .railCountersClear h first count => Sys2Proof.Machine.execRailCountersClear h first count s
  | .marginSet h channel steps device => Sys2Proof.Machine.execMarginSet h channel steps device s
  | .limitsRead h offset length => Sys2Proof.Machine.execLimitsRead h offset length s
  | .railMapRead h first count => Sys2Proof.Machine.execRailMapRead h first count s
  | .trayPowerOn h => Sys2Proof.Machine.execTrayPowerOn h s
  | .trayPowerOff h => Sys2Proof.Machine.execTrayPowerOff h s
  | .accPowerOn h acc => Sys2Proof.Machine.execAccPowerOn h acc s
  | .accPowerOff h acc => Sys2Proof.Machine.execAccPowerOff h acc s
  | .accPowerReset h acc => Sys2Proof.Machine.execAccPowerReset h acc s
  | .accResetRelease acc => Sys2Proof.Machine.execAccResetRelease acc s
  | .seqStatus h => Sys2Proof.Machine.execSeqStatus h s
  | .seqProgramLoadBegin h => Sys2Proof.Machine.execSeqProgramLoadBegin h s
  | .seqProgramLoadData h offset data => Sys2Proof.Machine.execSeqProgramLoadData h offset data s
  | .seqProgramLoadCommit h => Sys2Proof.Machine.execSeqProgramLoadCommit h s
  | .seqStart h prog => Sys2Proof.Machine.execSeqStart h prog s
  | .trayFaultClear h => Sys2Proof.Machine.execTrayFaultClear h s
  | .accFaultClear h acc => Sys2Proof.Machine.execAccFaultClear h acc s
  | .restartPolicySet h policy => Sys2Proof.Machine.execRestartPolicySet h policy s
  | .modeSetOn h => Sys2Proof.Machine.execModeSetOn h s
  | .modeSetMaintenance h => Sys2Proof.Machine.execModeSetMaintenance h s
  | .feedStatus h => Sys2Proof.Machine.execFeedStatus h s
  | .feedSwitchForceOff h feed => Sys2Proof.Machine.execFeedSwitchForceOff h feed s
  | .feedSwitchAuto h feed => Sys2Proof.Machine.execFeedSwitchAuto h feed s
  | .breakerCurveWrite h feed backoff cmp curve => Sys2Proof.Machine.execBreakerCurveWrite h feed backoff cmp curve s
  | .breakerCurveRead h feed => Sys2Proof.Machine.execBreakerCurveRead h feed s
  | .feedLockoutClear h feed => Sys2Proof.Machine.execFeedLockoutClear h feed s
  | .tripRecordsRead h first count => Sys2Proof.Machine.execTripRecordsRead h first count s
  | .pstateTableLoadBegin h => Sys2Proof.Machine.execPstateTableLoadBegin h s
  | .pstateTableLoadData h offset data => Sys2Proof.Machine.execPstateTableLoadData h offset data s
  | .pstateTableLoadCommit h => Sys2Proof.Machine.execPstateTableLoadCommit h s
  | .prefPointSet h first count points => Sys2Proof.Machine.execPrefPointSet h first count points s
  | .capSet h tray feedA feedB guard budgets => Sys2Proof.Machine.execCapSet h tray feedA feedB guard budgets s
  | .oppointStatus h => Sys2Proof.Machine.execOppointStatus h s
  | .modelLoadBegin h slot flags => Sys2Proof.Machine.execModelLoadBegin h slot flags s
  | .modelLoadData h slot flags offset data => Sys2Proof.Machine.execModelLoadData h slot flags offset data s
  | .modelLoadCommit h slot flags obj => Sys2Proof.Machine.execModelLoadCommit h slot flags obj s
  | .modelStart h slot => Sys2Proof.Machine.execModelStart h slot s
  | .modelStop h slot => Sys2Proof.Machine.execModelStop h slot s
  | .modelStatus h => Sys2Proof.Machine.execModelStatus h s
  | .phaseTableRead h pkg first count => Sys2Proof.Machine.execPhaseTableRead h pkg first count s
  | .decisionLogRead h kind frame offset length => Sys2Proof.Machine.execDecisionLogRead h kind frame offset length s
  | .coolStatus h => Sys2Proof.Machine.execCoolStatus h s
  | .thermalLevelsSet h first count levels => Sys2Proof.Machine.execThermalLevelsSet h first count levels s
  | .graceSet h ms => Sys2Proof.Machine.execGraceSet h ms s
  | .leakClear h => Sys2Proof.Machine.execLeakClear h s
  | .coolOverride h target index value => Sys2Proof.Machine.execCoolOverride h target index value s
  | .ledgerCfgSet h interim oh res wStale wOff => Sys2Proof.Machine.execLedgerCfgSet h interim oh res wStale wOff s
  | .accountOpen h tag => Sys2Proof.Machine.execAccountOpen h tag s
  | .accountClose h tag => Sys2Proof.Machine.execAccountClose h tag s
  | .accountRead h sel tag => Sys2Proof.Machine.execAccountRead h sel tag s
  | .ledgerStatus h => Sys2Proof.Machine.execLedgerStatus h s
  | .calibrationSet h first count entries => Sys2Proof.Machine.execCalibrationSet h first count entries s
  | .recordsFetch h first count => Sys2Proof.Machine.execRecordsFetch h first count s
  | .recordsAck h seq => Sys2Proof.Machine.execRecordsAck h seq s
  | .journalStatus h => Sys2Proof.Machine.execJournalStatus h s
  | .syncCfgHangTimeout h ctx seconds => Sys2Proof.Machine.execSyncCfgHangTimeout h ctx seconds s
  | .syncCfgBind h ctx key => Sys2Proof.Machine.execSyncCfgBind h ctx key s
  | .syncCfgUnbind h ctx => Sys2Proof.Machine.execSyncCfgUnbind h ctx s
  | .jobOpen h job cap quota wFirst wCount pFirst pCount engines parts bmask => Sys2Proof.Machine.execJobOpen h job cap quota wFirst wCount pFirst pCount engines parts bmask s
  | .jobClose h job => Sys2Proof.Machine.execJobClose h job s
  | .feSetEmpty h addr val => Sys2Proof.Machine.execFeSetEmpty h addr val s
  | .feSetFull h addr val => Sys2Proof.Machine.execFeSetFull h addr val s
  | .feSetPair h addr val => Sys2Proof.Machine.execFeSetPair h addr val s
  | .feSetBarrier h addr val => Sys2Proof.Machine.execFeSetBarrier h addr val s
  | .feSetUnpoison h addr val => Sys2Proof.Machine.execFeSetUnpoison h addr val s
  | .hangReport h first count => Sys2Proof.Machine.execHangReport h first count s
  | .treeCfgNode h k tray parent children => Sys2Proof.Machine.execTreeCfgNode h k tray parent children s
  | .treeCfgBindBarrier h engine barrier => Sys2Proof.Machine.execTreeCfgBindBarrier h engine barrier s
  | .treeCfgUnbindBarrier h engine barrier => Sys2Proof.Machine.execTreeCfgUnbindBarrier h engine barrier s
  | .treeCfgBindChannel h channel word => Sys2Proof.Machine.execTreeCfgBindChannel h channel word s
  | .treeCfgLeave h => Sys2Proof.Machine.execTreeCfgLeave h s
  | .syncStatus h => Sys2Proof.Machine.execSyncStatus h s
  | .linkStatus h => Sys2Proof.Machine.execLinkStatus h s
  | .hostqCreate h queue toPort depth entryBytes key => Sys2Proof.Machine.execHostqCreate h queue toPort depth entryBytes key s
  | .hostqDelete h queue => Sys2Proof.Machine.execHostqDelete h queue s
  | .imagePushOpen h buffer mask source size key => Sys2Proof.Machine.execImagePushOpen h buffer mask source size key s
  | .imagePushStart h buffer mask source offset => Sys2Proof.Machine.execImagePushStart h buffer mask source offset s
  | .imagePushAbort h buffer mask source offset => Sys2Proof.Machine.execImagePushAbort h buffer mask source offset s
  | .linkRetrain h link => Sys2Proof.Machine.execLinkRetrain h link s
  | .bwShareSet h weights => Sys2Proof.Machine.execBwShareSet h weights s
  | .strictSet h value => Sys2Proof.Machine.execStrictSet h value s
  | .replayRecordRead h sel job rp offset length => Sys2Proof.Machine.execReplayRecordRead h sel job rp offset length s
  | .replayBind h job interval prog input ref refCores seeds => Sys2Proof.Machine.execReplayBind h job interval prog input ref refCores seeds s
  | .replayBindResult h job step digest => Sys2Proof.Machine.execReplayBindResult h job step digest s
  | .replayBindRemove h job => Sys2Proof.Machine.execReplayBindRemove h job s
  | .spareSubstitute h pkg kind source buffer cores failed spare offset => Sys2Proof.Machine.execSpareSubstitute h pkg kind source buffer cores failed spare offset s
  | .spareSubstituteRemove h pkg => Sys2Proof.Machine.execSpareSubstituteRemove h pkg s
  | .substitutionStart pkg => Sys2Proof.Machine.execSubstitutionStart pkg s
  | .pairStatus h => Sys2Proof.Machine.execPairStatus h s
  | .pairHandover h => Sys2Proof.Machine.execPairHandover h s
  | .mirrorStatus h => Sys2Proof.Machine.execMirrorStatus h s
  | .attest h nonce => Sys2Proof.Machine.execAttest h nonce s
  | .certChainRead h index => Sys2Proof.Machine.execCertChainRead h index s
  | .customerKeyEnroll h basedOn keyHash authOk => Sys2Proof.Machine.execCustomerKeyEnroll h basedOn keyHash authOk s
  | .customerKeyEnrollRemove h basedOn authOk => Sys2Proof.Machine.execCustomerKeyEnrollRemove h basedOn authOk s
  | .bootStatus h => Sys2Proof.Machine.execBootStatus h s
  | .bootRecovery h => Sys2Proof.Machine.execBootRecovery h s
  | .updateBegin h length idxLen => Sys2Proof.Machine.execUpdateBegin h length idxLen s
  | .updateData h offset count idx badBlocks => Sys2Proof.Machine.execUpdateData h offset count idx badBlocks s
  | .updateVerify h => Sys2Proof.Machine.execUpdateVerify h s
  | .updateActivate h lone => Sys2Proof.Machine.execUpdateActivate h lone s
  | .updateStatus h => Sys2Proof.Machine.execUpdateStatus h s
  | .configBlockWriteBegin h => Sys2Proof.Machine.execConfigBlockWriteBegin h s
  | .configBlockWriteData h offset count => Sys2Proof.Machine.execConfigBlockWriteData h offset count s
  | .configBlockWriteCommit h obj => Sys2Proof.Machine.execConfigBlockWriteCommit h obj s
  | .logRead h boot first count => Sys2Proof.Machine.execLogRead h boot first count s
  | .logLevelSet h comp level => Sys2Proof.Machine.execLogLevelSet h comp level s
  | .traceEnable h mask stream => Sys2Proof.Machine.execTraceEnable h mask stream s
  | .traceRead h count => Sys2Proof.Machine.execTraceRead h count s
  | .recRead h sel flags first count => Sys2Proof.Machine.execRecRead h sel flags first count s
  | .recClear h mark => Sys2Proof.Machine.execRecClear h mark s
  | .recStatus h => Sys2Proof.Machine.execRecStatus h s
  | .debugUnlock h magic serial challenge scope duration sigs => Sys2Proof.Machine.execDebugUnlock h magic serial challenge scope duration sigs s
  | .debugLock h => Sys2Proof.Machine.execDebugLock h s
  | .debugStatus h => Sys2Proof.Machine.execDebugStatus h s
  | .debugDurationEnd => Sys2Proof.Machine.execDebugDurationEnd s
  | .recovInfo f => Sys2Proof.Machine.execRecovInfo f s
  | .recovBegin f target manLen objLen => Sys2Proof.Machine.execRecovBegin f target manLen objLen s
  | .recovData f offset count man => Sys2Proof.Machine.execRecovData f offset count man s
  | .recovCommit f content => Sys2Proof.Machine.execRecovCommit f content s
  | .recovBoot f => Sys2Proof.Machine.execRecovBoot f s
  | .powerOnReset vddAon vddioAon => Sys2Proof.Machine.execPowerOnReset vddAon vddioAon s
  | .brownOut vddAon vddioAon us => Sys2Proof.Machine.execBrownOut vddAon vddioAon us s
  | .powerOnResetRelease samples => Sys2Proof.Machine.execPowerOnResetRelease samples s
  | .shadowResetPull levels => Sys2Proof.Machine.execShadowResetPull levels s
  | .clockFirstMove => Sys2Proof.Machine.execClockFirstMove s
  | .romBoot samples => Sys2Proof.Machine.execRomBoot samples s
  | .residentLoaderRun => Sys2Proof.Machine.execResidentLoaderRun s
  | .handoffAcceptance => Sys2Proof.Machine.execHandoffAcceptance s
  | .standbyEntry => Sys2Proof.Machine.execStandbyEntry s
  | .aloneDecision => Sys2Proof.Machine.execAloneDecision s
  | .modelSlotsLoad => Sys2Proof.Machine.execModelSlotsLoad s
  | .modelAutostart => Sys2Proof.Machine.execModelAutostart s
  | .warmReset source => Sys2Proof.Machine.execWarmReset source s
  | .resetNRelease => Sys2Proof.Machine.execResetNRelease s
  | .refclkLoss pllOnly => Sys2Proof.Machine.execRefclkLoss pllOnly s
  | .refclkReturn => Sys2Proof.Machine.execRefclkReturn s
  | .onDieTempRead t => Sys2Proof.Machine.execOnDieTempRead t s
  | .componentFault comp cause region => Sys2Proof.Machine.execComponentFault comp cause region s
  | .componentWatchdogExpiry comp => Sys2Proof.Machine.execComponentWatchdogExpiry comp s
  | .componentRestartComplete comp => Sys2Proof.Machine.execComponentRestartComplete comp s
  | .processorWatchdogExpiry proc => Sys2Proof.Machine.execProcessorWatchdogExpiry proc s
  | .processorRestartComplete proc => Sys2Proof.Machine.execProcessorRestartComplete proc s
  | .arbiterTick branchCodes feedCodes pins => Sys2Proof.Machine.execArbiterTick branchCodes feedCodes pins s
  | .monitorSample adc pos code => Sys2Proof.Machine.execMonitorSample adc pos code s
  | .converterFailure adc => Sys2Proof.Machine.execConverterFailure adc s
  | .warningConfirm rail kind => Sys2Proof.Machine.execWarningConfirm rail kind s
  | .faultConfirm rail kind => Sys2Proof.Machine.execFaultConfirm rail kind s
  | .immediateOffComplete scope => Sys2Proof.Machine.execImmediateOffComplete scope s
  | .railPgSample rail pg => Sys2Proof.Machine.execRailPgSample rail pg s
  | .pollRound bus replies hubs => Sys2Proof.Machine.execPollRound bus replies hubs s
  | .busLost rail => Sys2Proof.Machine.execBusLost rail s
  | .busWriteAck bus good => Sys2Proof.Machine.execBusWriteAck bus good s
  | .busWriteTimeout bus => Sys2Proof.Machine.execBusWriteTimeout bus s
  | .readbackDisagreement net level => Sys2Proof.Machine.execReadbackDisagreement net level s
  | .readbackAgreement net => Sys2Proof.Machine.execReadbackAgreement net s
  | .accThermtrip acc => Sys2Proof.Machine.execAccThermtrip acc s
  | .vrAlertFall line => Sys2Proof.Machine.execVrAlertFall line s
  | .throttleReleaseStart => Sys2Proof.Machine.execThrottleReleaseStart s
  | .throttleRelease => Sys2Proof.Machine.execThrottleRelease s
  | .feedSample feed vin vbus cur => Sys2Proof.Machine.execFeedSample feed vin vbus cur s
  | .inrushEnd feed => Sys2Proof.Machine.execInrushEnd feed s
  | .soaTrip feed => Sys2Proof.Machine.execSoaTrip feed s
  | .inrushTimeout feed => Sys2Proof.Machine.execInrushTimeout feed s
  | .feedCurveTrip feed => Sys2Proof.Machine.execFeedCurveTrip feed s
  | .feedComparatorTrip level => Sys2Proof.Machine.execFeedComparatorTrip level s
  | .backoffEnd feed => Sys2Proof.Machine.execBackoffEnd feed s
  | .reverseCurrentOpen feed => Sys2Proof.Machine.execReverseCurrentOpen feed s
  | .feedLoss feed => Sys2Proof.Machine.execFeedLoss feed s
  | .lowBusImmediateOff => Sys2Proof.Machine.execLowBusImmediateOff s
  | .feedReturn feed => Sys2Proof.Machine.execFeedReturn feed s
  | .tripRecordResolved feed => Sys2Proof.Machine.execTripRecordResolved feed s
  | .shareUpdate => Sys2Proof.Machine.execShareUpdate s
  | .shareImbalance kind => Sys2Proof.Machine.execShareImbalance kind s
  | .powerRequestTakeEffect req => Sys2Proof.Machine.execPowerRequestTakeEffect req s
  | .enable ctx => Sys2Proof.Machine.execEnable ctx s
  | .vset ctx => Sys2Proof.Machine.execVset ctx s
  | .wait ctx => Sys2Proof.Machine.execWait ctx s
  | .waitExpiry ctx => Sys2Proof.Machine.execWaitExpiry ctx s
  | .waitfor ctx => Sys2Proof.Machine.execWaitfor ctx s
  | .waitforConditionMet ctx => Sys2Proof.Machine.execWaitforConditionMet ctx s
  | .waitforTimeout ctx => Sys2Proof.Machine.execWaitforTimeout ctx s
  | .check ctx => Sys2Proof.Machine.execCheck ctx s
  | .jump ctx => Sys2Proof.Machine.execJump ctx s
  | .call ctx => Sys2Proof.Machine.execCall ctx s
  | .mirror ctx => Sys2Proof.Machine.execMirror ctx s
  | .pg ctx => Sys2Proof.Machine.execPg ctx s
  | .pgAssertQualified ctx => Sys2Proof.Machine.execPgAssertQualified ctx s
  | .pgTimeout ctx => Sys2Proof.Machine.execPgTimeout ctx s
  | .event ctx => Sys2Proof.Machine.execEvent ctx s
  | .launch ctx => Sys2Proof.Machine.execLaunch ctx s
  | .launchTurn acc => Sys2Proof.Machine.execLaunchTurn acc s
  | .endStep ctx => Sys2Proof.Machine.execEndStep ctx s
  | .abort ctx => Sys2Proof.Machine.execAbort ctx s
  | .programTimeExpiry ctx => Sys2Proof.Machine.execProgramTimeExpiry ctx s
  | .minOffTimeEnd => Sys2Proof.Machine.execMinOffTimeEnd s
  | .accMinOffTimeEnd acc => Sys2Proof.Machine.execAccMinOffTimeEnd acc s
  | .controlTick => Sys2Proof.Machine.execControlTick s
  | .capUnmet => Sys2Proof.Machine.execCapUnmet s
  | .fasterChangeSend => Sys2Proof.Machine.execFasterChangeSend s
  | .pstateAck pkg seq kind step => Sys2Proof.Machine.execPstateAck pkg seq kind step s
  | .phaseEngineRunEnd => Sys2Proof.Machine.execPhaseEngineRunEnd s
  | .modelStoreEccError slot => Sys2Proof.Machine.execModelStoreEccError slot s
  | .outputDigestReceive frame digest => Sys2Proof.Machine.execOutputDigestReceive frame digest s
  | .forwardedInputFrame frameNo gt step words => Sys2Proof.Machine.execForwardedInputFrame frameNo gt step words s
  | .temperatureReading sensor xs => Sys2Proof.Machine.execTemperatureReading sensor xs s
  | .thermalWarn sensor => Sys2Proof.Machine.execThermalWarn sensor s
  | .thermalAdvisory sensor => Sys2Proof.Machine.execThermalAdvisory sensor s
  | .thermalExit sensor => Sys2Proof.Machine.execThermalExit sensor s
  | .thermalCritical sensor => Sys2Proof.Machine.execThermalCritical sensor s
  | .graceExpiry sensor => Sys2Proof.Machine.execGraceExpiry sensor s
  | .sensorStale sensor => Sys2Proof.Machine.execSensorStale sensor s
  | .thermalEnforceStep => Sys2Proof.Machine.execThermalEnforceStep s
  | .thermalRelaxStep => Sys2Proof.Machine.execThermalRelaxStep s
  | .coolingLoop fansLow fansHigh pumpPulses flowPulses => Sys2Proof.Machine.execCoolingLoop fansLow fansHigh pumpPulses flowPulses s
  | .fanFailure pump index => Sys2Proof.Machine.execFanFailure pump index s
  | .fanRecovery pump index => Sys2Proof.Machine.execFanRecovery pump index s
  | .flowLow => Sys2Proof.Machine.execFlowLow s
  | .flowLowPowerDown => Sys2Proof.Machine.execFlowLowPowerDown s
  | .flowRecovery => Sys2Proof.Machine.execFlowRecovery s
  | .pressureOutOfRange point => Sys2Proof.Machine.execPressureOutOfRange point s
  | .leakReading zone mv => Sys2Proof.Machine.execLeakReading zone mv s
  | .leakConfirm zone => Sys2Proof.Machine.execLeakConfirm zone s
  | .partnerConfirmationNotice leak source => Sys2Proof.Machine.execPartnerConfirmationNotice leak source s
  | .ledgerTick => Sys2Proof.Machine.execLedgerTick s
  | .tagReport pkg rep => Sys2Proof.Machine.execTagReport pkg rep s
  | .dieStale die => Sys2Proof.Machine.execDieStale die s
  | .ledgerSecondBoundary => Sys2Proof.Machine.execLedgerSecondBoundary s
  | .recordSigned => Sys2Proof.Machine.execRecordSigned s
  | .ledgerTickMarker marker => Sys2Proof.Machine.execLedgerTickMarker marker s
  | .readfe src op => Sys2Proof.Machine.execReadfe src op s
  | .take src op => Sys2Proof.Machine.execTake src op s
  | .fill src op => Sys2Proof.Machine.execFill src op s
  | .store src op => Sys2Proof.Machine.execStore src op s
  | .clear src op => Sys2Proof.Machine.execClear src op s
  | .add src op => Sys2Proof.Machine.execAdd src op s
  | .padv src op => Sys2Proof.Machine.execPadv src op s
  | .cadv src op => Sys2Proof.Machine.execCadv src op s
  | .arrive src op => Sys2Proof.Machine.execArrive src op s
  | .watch src op => Sys2Proof.Machine.execWatch src op s
  | .unwatch src op => Sys2Proof.Machine.execUnwatch src op s
  | .read src op => Sys2Proof.Machine.execRead src op s
  | .hangTimeout addr => Sys2Proof.Machine.execHangTimeout addr s
  | .syncScrub index bad => Sys2Proof.Machine.execSyncScrub index bad s
  | .syncObjectRepaired addr content => Sys2Proof.Machine.execSyncObjectRepaired addr content s
  | .treeUp child hop barrier round => Sys2Proof.Machine.execTreeUp child hop barrier round s
  | .treeRelease hop barrier round => Sys2Proof.Machine.execTreeRelease hop barrier round s
  | .remoteOperation nbr hop home origin op => Sys2Proof.Machine.execRemoteOperation nbr hop home origin op s
  | .treeBroadcast nbr hop channel round val fepoch => Sys2Proof.Machine.execTreeBroadcast nbr hop channel round val fepoch s
  | .treeFrameAck nbr hop => Sys2Proof.Machine.execTreeFrameAck nbr hop s
  | .treeResendTimeout nbr hop => Sys2Proof.Machine.execTreeResendTimeout nbr hop s
  | .treeNeighbourLost nbr => Sys2Proof.Machine.execTreeNeighbourLost nbr s
  | .remoteWindowExpiry tray src => Sys2Proof.Machine.execRemoteWindowExpiry tray src s
  | .linkFlit port nak ack credits => Sys2Proof.Machine.execLinkFlit port nak ack credits s
  | .flitCrcFail port => Sys2Proof.Machine.execFlitCrcFail port s
  | .replayTimeout port => Sys2Proof.Machine.execReplayTimeout port s
  | .retrain port => Sys2Proof.Machine.execRetrain port s
  | .retrainTimeout port => Sys2Proof.Machine.execRetrainTimeout port s
  | .capabilityMessage port cap => Sys2Proof.Machine.execCapabilityMessage port cap s
  | .phaseReport pkg rep => Sys2Proof.Machine.execPhaseReport pkg rep s
  | .temperatureReport pkg rep => Sys2Proof.Machine.execTemperatureReport pkg rep s
  | .consumedCount port queue count => Sys2Proof.Machine.execConsumedCount port queue count s
  | .completion port queue cseq data => Sys2Proof.Machine.execCompletion port queue cseq data s
  | .completionResend queue => Sys2Proof.Machine.execCompletionResend queue s
  | .done pkg push status => Sys2Proof.Machine.execDone pkg push status s
  | .imageBlockSend push => Sys2Proof.Machine.execImageBlockSend push s
  | .hostSyncFrame ctx f ops => Sys2Proof.Machine.execHostSyncFrame ctx f ops s
  | .queueEntriesFrame queue f cack entries => Sys2Proof.Machine.execQueueEntriesFrame queue f cack entries s
  | .imageDataFrame buffer f offset data obj => Sys2Proof.Machine.execImageDataFrame buffer f offset data obj s
  | .hostTagFailBurst cls index => Sys2Proof.Machine.execHostTagFailBurst cls index s
  | .ethernetLinkChange mode => Sys2Proof.Machine.execEthernetLinkChange mode s
  | .fecUncorrectableBurst count => Sys2Proof.Machine.execFecUncorrectableBurst count s
  | .arpRequest ip => Sys2Proof.Machine.execArpRequest ip s
  | .neighbourSolicitation ip => Sys2Proof.Machine.execNeighbourSolicitation ip s
  | .icmpEchoRequest v6 ip payload => Sys2Proof.Machine.execIcmpEchoRequest v6 ip payload s
  | .partnerPathMessage pkg cls body => Sys2Proof.Machine.execPartnerPathMessage pkg cls body s
  | .partnerNotAlive => Sys2Proof.Machine.execPartnerNotAlive s
  | .ownershipClaim levels => Sys2Proof.Machine.execOwnershipClaim levels s
  | .claimRecord => Sys2Proof.Machine.execClaimRecord s
  | .ownNLowStandby => Sys2Proof.Machine.execOwnNLowStandby s
  | .heartbeatSend => Sys2Proof.Machine.execHeartbeatSend s
  | .heartbeatReceive hb => Sys2Proof.Machine.execHeartbeatReceive hb s
  | .mirrorLoss => Sys2Proof.Machine.execMirrorLoss s
  | .mirrorRecordApply mseq content => Sys2Proof.Machine.execMirrorRecordApply mseq content s
  | .mirrorAckReceive mseq => Sys2Proof.Machine.execMirrorAckReceive mseq s
  | .strapExchange partner => Sys2Proof.Machine.execStrapExchange partner s
  | .syncingStart => Sys2Proof.Machine.execSyncingStart s
  | .mirroringEntry => Sys2Proof.Machine.execMirroringEntry s
  | .partnerLostAtOwner => Sys2Proof.Machine.execPartnerLostAtOwner s
  | .shadowDriveRelease => Sys2Proof.Machine.execShadowDriveRelease s
  | .handoverRelease => Sys2Proof.Machine.execHandoverRelease s
  | .handoverRecord mseq => Sys2Proof.Machine.execHandoverRecord mseq s
  | .handoverAbandon => Sys2Proof.Machine.execHandoverAbandon s
  | .activationResume => Sys2Proof.Machine.execActivationResume s
  | .deferralClear => Sys2Proof.Machine.execDeferralClear s
  | .deferralExpiry => Sys2Proof.Machine.execDeferralExpiry s
  | .loaderCopyStep => Sys2Proof.Machine.execLoaderCopyStep s
  | .modelStep => Sys2Proof.Machine.execModelStep s
  | .programStep => Sys2Proof.Machine.execProgramStep s
  | .acceleratorStep => Sys2Proof.Machine.execAcceleratorStep s
  | .accUpdateConfirmTimeout pkg => Sys2Proof.Machine.execAccUpdateConfirmTimeout pkg s
  | .recordIntake => Sys2Proof.Machine.execRecordIntake s
  | .handlerComplete proc => Sys2Proof.Machine.execHandlerComplete proc s
  | .intakeLossReport => Sys2Proof.Machine.execIntakeLossReport s
  | .repeatPush rec_ => Sys2Proof.Machine.execRepeatPush rec_ s
  | .telemetryFrameTimeout => Sys2Proof.Machine.execTelemetryFrameTimeout s
  | .mailboxMessageReject h code => Sys2Proof.Machine.execMailboxMessageReject h code s
  | .ethernetFrameDiscard reason => Sys2Proof.Machine.execEthernetFrameDiscard reason s
  | .linkTrainingComplete port gen => Sys2Proof.Machine.execLinkTrainingComplete port gen s
  | .partnerAlive => Sys2Proof.Machine.execPartnerAlive s
  | .qualifierDrop => Sys2Proof.Machine.execQualifierDrop s
  | .remoteOperationReply nbr hop origin src rep => Sys2Proof.Machine.execRemoteOperationReply nbr hop origin src rep s
  | .signingBacklog => Sys2Proof.Machine.execSigningBacklog s
  | .spillStop cause => Sys2Proof.Machine.execSpillStop cause s

end Sys2Proof.Machine
end

