-- ==== Sys2Proof/WellFormed.lean ====
section
/-! DEFINITION. Well-formed commands: an operand that is a list has the length that its message, report or sample has on the wire, and a number stays in its field.
Every meaning is total all the same: an ill-formed command is one that no sender can spell. -/

namespace Sys2Proof

open Sys2Proof.Machine

/-- Why a command is ill-formed. -/
inductive IllFormed where
  /-- a list does not have the length that the count field beside it states -/
  | count
  /-- a table of a fixed number of entries has another number -/
  | table
  /-- a number is outside the field that carries it -/
  | range
  deriving DecidableEq, Repr

namespace WellFormed

/-- A list is as long as its count field says. -/
def counted (len n : Nat) : Option IllFormed := if len = n then none else some .count
/-- A table has its fixed number of entries. -/
def table (len n : Nat) : Option IllFormed := if len = n then none else some .table
/-- A number stays in its field. -/
def within (ok : Bool) : Option IllFormed := if ok then none else some .range
/-- A signed field of 4 bytes. -/
def inS32 (v : Int) : Bool := decide (-2147483648 ≤ v ∧ v ≤ 2147483647)
/-- One pair of 16-bit converter codes for each of the 12 branches, and for each of the two feeds the 24-bit ones that end in the tick, signed or unsigned (11 R288). -/
def tick (branch : List (Int × Int)) (feeds : List (List (Int × Int))) : Option IllFormed :=
  let code := fun (bits : Nat) (c : Int) => decide (-(2 ^ (bits - 1) : Int) ≤ c ∧ c < 2 ^ bits)
  if branch.length ≠ 12 ∨ feeds.length ≠ 2 then some .table
  else within ((branch.all fun p => code 16 p.1 && code 16 p.2) && feeds.flatten.all fun p => code 24 p.1 && code 24 p.2)
/-- 256 signed words (09 R232). -/
def frame (words : List Int) : Option IllFormed := if words.length = 256 then within (words.all inS32) else some .table
/-- Two times 8 fans, 4 pumps and 4 flow meters (10 R273, R277). -/
def cooling (fansLow fansHigh pumps flow : List Nat) : Option IllFormed :=
  if fansLow.length = 8 ∧ fansHigh.length = 8 ∧ pumps.length = 4 ∧ flow.length = 4 then within ((fansLow ++ fansHigh ++ pumps ++ flow).all fun v => decide (v < 65536)) else some .table
/-- 8 dies and 24 HBM stacks (13 R371). -/
def temps (r : TempReport) : Option IllFormed := if r.die.length = 8 ∧ r.hbm.length = 24 then none else some .table

/-- One value on PMBus; on I3C up to 16, SPD5 hub sensors among them (07 R182, 10 R263, R264). -/
def round (bus : Nat) (replies : List (Option PollReply)) (hubs : List (U16 × Int)) : Option IllFormed :=
  if replies.length + hubs.length ≤ (if bus < 8 then 1 else 16) then
    within (hubs.all fun h => decide (8 ≤ bus ∧ 256 ≤ h.1.toNat ∧ h.1.toNat < 320 ∧ -32768 ≤ h.2 ∧ h.2 ≤ 32767))
  else some .table

/-- A table of the hub whose keys rise (12 R322, R327). -/
def rising {α : Type} (l : List (Nat × α)) : Bool := decide ((l.map Prod.fst).Pairwise (· < ·))
/-- No two accounts have one slot (11 R296). -/
def slotsApart (l : List Account) : Bool := decide ((l.map Account.slot).Nodup)

end WellFormed

open WellFormed in
/-- A mirror record carries the tables of its row whole (15 R413). -/
def Machine.MirContent.formed : MirContent → Bool
  | .hub st => st.barriers.length == 64 && st.channels.length == 16 && st.bcRound.length == 16 && st.hopTx.length == 65 && st.hopRx.length == 65 && st.wins.length == 72
      && rising st.words && rising st.pairs
  | .thyme ctxs _ _ _ _ accMinOff _ => ctxs.length == 9 && accMinOff.length == 8
  | .grants _ _ duties budgets _ _ => duties.length == 20 && budgets.length == 12
  | .tray _ accs _ _ _ forced _ _ => accs.length == 8 && forced.length == 2
  | .sems holders => holders.length == 16
  | .op _ _ _ _ _ _ _ feedCapA _ budget _ => feedCapA.length == 2 && budget.length == 12
  | .phaseAction slot action _ => decide (slot < 8 ∧ action < 4)
  | .phaseState table acc slots _ _ => rising table && acc.length == 8 && slots.length == 8
  | .cool _ _ fanOv pumpOv valveOv levels _ => fanOv.length == 16 && pumpOv.length == 4 && valveOv.length == 4 && levels.length == 27
  | .ledger st => slotsApart st.accounts && st.dev.cps.all fun c => slotsApart c.slots
  | .host keys queueKeys imageKeys _ buffers _ => keys.length == 7 && queueKeys.length == 64 && imageKeys.length == 8 && buffers.length == 8
  | .repro _ | .plan _ | .events _ | .semAnswer _ _ _ _ _ | .bulkItem _ | .path _ _ _ => true

open WellFormed in
/-- The check that a command fails, if any. -/
def Instr.illFormed : Instr → Option IllFormed
  | .batch _ members => within (decide (members.length ≤ 65535))
  | .railLevelsSet _ _ count levels => counted levels.length count.toNat
  | .breakerCurveWrite _ _ _ _ curve => table curve.length 8
  | .prefPointSet _ _ count points => counted points.length count.toNat
  | .capSet _ _ _ _ _ budgets => table budgets.length 12
  | .thermalLevelsSet _ _ count levels => counted levels.length count.toNat
  | .calibrationSet _ _ count entries => counted entries.length count.toNat
  | .bwShareSet _ weights => table weights.length 5
  | .replayBind _ _ _ _ _ _ refCores _ => table refCores.length 8
  | .updateData _ _ _ _ badBlocks => within (badBlocks.all fun k => decide (k < 65536))
  | .powerOnResetRelease samples => table samples.length 15
  | .romBoot samples => table samples.length 15
  | .onDieTempRead t => within (inS32 t)
  | .arbiterTick branchCodes feedCodes _ => tick branchCodes feedCodes
  | .pollRound bus replies hubs => round bus.toNat replies hubs
  | .outputDigestReceive _ digest => table digest.length 48
  | .forwardedInputFrame _ _ _ words => frame words
  | .temperatureReading _ xs => within (!xs.isEmpty && xs.all inS32)
  | .coolingLoop fansLow fansHigh pumpPulses flowPulses => cooling fansLow fansHigh pumpPulses flowPulses
  | .tagReport _ rep => counted rep.ent.length rep.n.toNat
  | .ledgerTickMarker marker => within (marker.credits.all fun c => decide (c.1 < 65540))
  | .linkFlit _ _ _ credits => table credits.length 7
  | .temperatureReport _ rep => temps rep
  | .mirrorRecordApply _ content => if content.formed then none else some .table
  | .hello _ _ _ _ _ _ => none
  | .auth _ _ _ => none
  | .handshakeTimeout _ => none
  | .authLockoutEnd _ => none
  | .sessionIdleTimeout _ => none
  | .sessionInfo _ => none
  | .keepalive _ => none
  | .sessionClose _ => none
  | .govInfo _ => none
  | .eventSubscribe _ _ _ => none
  | .eventPoll _ _ _ => none
  | .semAcquire _ _ _ => none
  | .semRenew _ _ _ => none
  | .semRelease _ _ _ => none
  | .semQuery _ => none
  | .semBreak _ _ => none
  | .leaseEnd _ => none
  | .forwardedSemaphoreCommand _ _ _ _ => none
  | .railStatus _ _ _ => none
  | .railCountersRead _ _ _ => none
  | .railCountersClear _ _ _ => none
  | .marginSet _ _ _ _ => none
  | .limitsRead _ _ _ => none
  | .railMapRead _ _ _ => none
  | .trayPowerOn _ => none
  | .trayPowerOff _ => none
  | .accPowerOn _ _ => none
  | .accPowerOff _ _ => none
  | .accPowerReset _ _ => none
  | .accResetRelease _ => none
  | .seqStatus _ => none
  | .seqProgramLoadBegin _ => none
  | .seqProgramLoadData _ _ _ => none
  | .seqProgramLoadCommit _ => none
  | .seqStart _ _ => none
  | .trayFaultClear _ => none
  | .accFaultClear _ _ => none
  | .restartPolicySet _ _ => none
  | .modeSetOn _ => none
  | .modeSetMaintenance _ => none
  | .feedStatus _ => none
  | .feedSwitchForceOff _ _ => none
  | .feedSwitchAuto _ _ => none
  | .breakerCurveRead _ _ => none
  | .feedLockoutClear _ _ => none
  | .tripRecordsRead _ _ _ => none
  | .pstateTableLoadBegin _ => none
  | .pstateTableLoadData _ _ _ => none
  | .pstateTableLoadCommit _ => none
  | .oppointStatus _ => none
  | .modelLoadBegin _ _ _ => none
  | .modelLoadData _ _ _ _ _ => none
  | .modelLoadCommit _ _ _ _ => none
  | .modelStart _ _ => none
  | .modelStop _ _ => none
  | .modelStatus _ => none
  | .phaseTableRead _ _ _ _ => none
  | .decisionLogRead _ _ _ _ _ => none
  | .coolStatus _ => none
  | .graceSet _ _ => none
  | .leakClear _ => none
  | .coolOverride _ _ _ _ => none
  | .ledgerCfgSet _ _ _ _ _ _ => none
  | .accountOpen _ _ => none
  | .accountClose _ _ => none
  | .accountRead _ _ _ => none
  | .ledgerStatus _ => none
  | .recordsFetch _ _ _ => none
  | .recordsAck _ _ => none
  | .journalStatus _ => none
  | .syncCfgHangTimeout _ _ _ => none
  | .syncCfgBind _ _ _ => none
  | .syncCfgUnbind _ _ => none
  | .jobOpen _ _ _ _ _ _ _ _ _ _ _ => none
  | .jobClose _ _ => none
  | .feSetEmpty _ _ _ => none
  | .feSetFull _ _ _ => none
  | .feSetPair _ _ _ => none
  | .feSetBarrier _ _ _ => none
  | .feSetUnpoison _ _ _ => none
  | .hangReport _ _ _ => none
  | .treeCfgNode _ _ _ _ _ => none
  | .treeCfgBindBarrier _ _ _ => none
  | .treeCfgUnbindBarrier _ _ _ => none
  | .treeCfgBindChannel _ _ _ => none
  | .treeCfgLeave _ => none
  | .syncStatus _ => none
  | .linkStatus _ => none
  | .hostqCreate _ _ _ _ _ _ => none
  | .hostqDelete _ _ => none
  | .imagePushOpen _ _ _ _ _ _ => none
  | .imagePushStart _ _ _ _ _ => none
  | .imagePushAbort _ _ _ _ _ => none
  | .linkRetrain _ _ => none
  | .strictSet _ _ => none
  | .replayRecordRead _ _ _ _ _ _ => none
  | .replayBindResult _ _ _ _ => none
  | .replayBindRemove _ _ => none
  | .spareSubstitute _ _ _ _ _ _ _ _ _ => none
  | .spareSubstituteRemove _ _ => none
  | .substitutionStart _ => none
  | .pairStatus _ => none
  | .pairHandover _ => none
  | .mirrorStatus _ => none
  | .attest _ _ => none
  | .certChainRead _ _ => none
  | .customerKeyEnroll _ _ _ _ => none
  | .customerKeyEnrollRemove _ _ _ => none
  | .bootStatus _ => none
  | .bootRecovery _ => none
  | .updateBegin _ _ _ => none
  | .updateVerify _ => none
  | .updateActivate _ _ => none
  | .updateStatus _ => none
  | .configBlockWriteBegin _ => none
  | .configBlockWriteData _ _ _ => none
  | .configBlockWriteCommit _ _ => none
  | .logRead _ _ _ _ => none
  | .logLevelSet _ _ _ => none
  | .traceEnable _ _ _ => none
  | .traceRead _ _ => none
  | .recRead _ _ _ _ _ => none
  | .recClear _ _ => none
  | .recStatus _ => none
  | .debugUnlock _ _ _ _ _ _ _ => none
  | .debugLock _ => none
  | .debugStatus _ => none
  | .debugDurationEnd => none
  | .recovInfo _ => none
  | .recovBegin _ _ _ _ => none
  | .recovData _ _ _ _ => none
  | .recovCommit _ _ => none
  | .recovBoot _ => none
  | .powerOnReset _ _ => none
  | .brownOut _ _ _ => none
  | .shadowResetPull _ => none
  | .clockFirstMove => none
  | .residentLoaderRun => none
  | .handoffAcceptance => none
  | .standbyEntry => none
  | .aloneDecision => none
  | .modelSlotsLoad => none
  | .modelAutostart => none
  | .warmReset _ => none
  | .resetNRelease => none
  | .refclkLoss _ => none
  | .refclkReturn => none
  | .componentFault _ _ _ => none
  | .componentWatchdogExpiry _ => none
  | .componentRestartComplete _ => none
  | .processorWatchdogExpiry _ => none
  | .processorRestartComplete _ => none
  | .monitorSample _ _ _ => none
  | .converterFailure _ => none
  | .warningConfirm _ _ => none
  | .faultConfirm _ _ => none
  | .immediateOffComplete _ => none
  | .railPgSample _ _ => none
  | .busLost _ => none
  | .busWriteAck _ _ => none
  | .busWriteTimeout _ => none
  | .readbackDisagreement _ _ => none
  | .readbackAgreement _ => none
  | .accThermtrip _ => none
  | .vrAlertFall _ => none
  | .throttleReleaseStart => none
  | .throttleRelease => none
  | .feedSample _ _ _ _ => none
  | .inrushEnd _ => none
  | .soaTrip _ => none
  | .inrushTimeout _ => none
  | .feedCurveTrip _ => none
  | .feedComparatorTrip _ => none
  | .backoffEnd _ => none
  | .reverseCurrentOpen _ => none
  | .feedLoss _ => none
  | .lowBusImmediateOff => none
  | .feedReturn _ => none
  | .tripRecordResolved _ => none
  | .shareUpdate => none
  | .shareImbalance _ => none
  | .powerRequestTakeEffect _ => none
  | .enable _ => none
  | .vset _ => none
  | .wait _ => none
  | .waitExpiry _ => none
  | .waitfor _ => none
  | .waitforConditionMet _ => none
  | .waitforTimeout _ => none
  | .check _ => none
  | .jump _ => none
  | .call _ => none
  | .mirror _ => none
  | .pg _ => none
  | .pgAssertQualified _ => none
  | .pgTimeout _ => none
  | .event _ => none
  | .launch _ => none
  | .launchTurn _ => none
  | .endStep _ => none
  | .abort _ => none
  | .programTimeExpiry _ => none
  | .minOffTimeEnd => none
  | .accMinOffTimeEnd _ => none
  | .controlTick => none
  | .capUnmet => none
  | .fasterChangeSend => none
  | .pstateAck _ _ _ _ => none
  | .phaseEngineRunEnd => none
  | .modelStoreEccError _ => none
  | .thermalWarn _ => none
  | .thermalAdvisory _ => none
  | .thermalExit _ => none
  | .thermalCritical _ => none
  | .graceExpiry _ => none
  | .sensorStale _ => none
  | .thermalEnforceStep => none
  | .thermalRelaxStep => none
  | .fanFailure _ _ => none
  | .fanRecovery _ _ => none
  | .flowLow => none
  | .flowLowPowerDown => none
  | .flowRecovery => none
  | .pressureOutOfRange _ => none
  | .leakReading _ _ => none
  | .leakConfirm _ => none
  | .partnerConfirmationNotice _ _ => none
  | .ledgerTick => none
  | .dieStale _ => none
  | .ledgerSecondBoundary => none
  | .recordSigned => none
  | .readfe _ _ => none
  | .take _ _ => none
  | .fill _ _ => none
  | .store _ _ => none
  | .clear _ _ => none
  | .add _ _ => none
  | .padv _ _ => none
  | .cadv _ _ => none
  | .arrive _ _ => none
  | .watch _ _ => none
  | .unwatch _ _ => none
  | .read _ _ => none
  | .hangTimeout _ => none
  | .syncScrub _ _ => none
  | .syncObjectRepaired _ _ => none
  | .treeUp _ _ _ _ => none
  | .treeRelease _ _ _ => none
  | .remoteOperation _ _ _ _ _ => none
  | .treeBroadcast _ _ _ _ _ _ => none
  | .treeFrameAck _ _ => none
  | .treeResendTimeout _ _ => none
  | .treeNeighbourLost _ => none
  | .remoteWindowExpiry _ _ => none
  | .flitCrcFail _ => none
  | .replayTimeout _ => none
  | .retrain _ => none
  | .retrainTimeout _ => none
  | .capabilityMessage _ _ => none
  | .phaseReport _ _ => none
  | .consumedCount _ _ _ => none
  | .completion _ _ _ _ => none
  | .completionResend _ => none
  | .done _ _ _ => none
  | .imageBlockSend _ => none
  | .hostSyncFrame _ _ _ => none
  | .queueEntriesFrame _ _ _ _ => none
  | .imageDataFrame _ _ _ _ _ => none
  | .hostTagFailBurst _ _ => none
  | .ethernetLinkChange _ => none
  | .fecUncorrectableBurst _ => none
  | .arpRequest _ => none
  | .neighbourSolicitation _ => none
  | .icmpEchoRequest _ _ _ => none
  | .partnerPathMessage _ _ _ => none
  | .partnerNotAlive => none
  | .ownershipClaim _ => none
  | .claimRecord => none
  | .ownNLowStandby => none
  | .heartbeatSend => none
  | .heartbeatReceive _ => none
  | .mirrorLoss => none
  | .mirrorAckReceive _ => none
  | .strapExchange _ => none
  | .syncingStart => none
  | .mirroringEntry => none
  | .partnerLostAtOwner => none
  | .shadowDriveRelease => none
  | .handoverRelease => none
  | .handoverRecord _ => none
  | .handoverAbandon => none
  | .activationResume => none
  | .deferralClear => none
  | .deferralExpiry => none
  | .loaderCopyStep => none
  | .modelStep => none
  | .programStep => none
  | .acceleratorStep => none
  | .accUpdateConfirmTimeout _ => none
  | .recordIntake => none
  | .handlerComplete _ => none
  | .intakeLossReport => none
  | .repeatPush _ => none
  | .telemetryFrameTimeout => none
  | .mailboxMessageReject _ _ => none
  | .ethernetFrameDiscard _ => none
  | .linkTrainingComplete _ _ => none
  | .partnerAlive => none
  | .qualifierDrop => none
  | .remoteOperationReply _ _ _ _ _ => none
  | .signingBacklog => none
  | .spillStop _ => none

/-- A well-formed command. -/
def Instr.wf (i : Instr) : Bool := i.illFormed.isNone

end Sys2Proof
end

