-- ==== Sys2Proof/Safety.lean ====
section
/-! DEFINITION. The words in which claims about the governor are made: a command that completes, a mailbox command that is admitted and answered, parts of the state that stay as they are, and the invariants. -/

namespace Sys2Proof

open Sys2Proof.Machine

/-- The command answers a next state of which `P` holds. -/
def Completes (c : Instr) (s : State) (P : State → Prop) : Prop := ∃ t, exec c s = .next t ∧ P t

/-- The command answers a next state. -/
def Runs (c : Instr) (s : State) : Prop := Completes c s fun _ => True

/-- The session of an admitted command once MBOX has noted its message and its request ID (02 R44, R45). -/
def Machine.State.handed (s : State) (h : Hdr) (se : Session) : Session := { se.noted s.gt h.msgSeq.toNat with lastReq := some h.reqId }

/-- The state in which an admitted command runs: nothing but its session has changed (02 R44, R45). -/
def Machine.State.taken (s : State) (h : Hdr) (se : Session) : State := s.onPort h.port.toNat fun q => { q with session := some (s.handed h se) }

/-- A command message reaches MBOX on a port, from the established session `se` of that port, and is authentic and new (02 R42, R44, R45). -/
def arrives (h : Hdr) (s : State) (se : Session) : Bool :=
  decide (h.port.toNat < 2) && s.firmwareRuns && !s.restarting 1 && (s.port h.port.toNat).session == some se && se.accepts h && decide (h.msgSeq.toNat ≤ 2 ^ 48) && se.judge h.reqId == .new

/-- A mailbox command is admitted: it arrives, and none of the checks of R54 that precede its own refuses it (02 R36, R46, R51, R54, R55, R63; 01 R26). -/
def admitted (h : Hdr) (b : Body) (s : State) (se : Session) : Bool :=
  arrives h s se
    && (s.precheck h.port.toNat (s.handed h se) b.spec (h.rsvd != 0 || h.plen.toNat != b.plen) h.plen.toNat (h.payRsvd != 0 && !b.ownRsvd) (b.early (s.handed h se) s) se.executing.length).isNone

/-- A batch is admitted (02 R51, R52, R54). -/
def admittedBatch (h : Hdr) (members : List Member) (s : State) (se : Session) : Bool :=
  arrives h s se && (s.precheck h.port.toNat (s.handed h se) (specOfCode 0x0007) (h.rsvd != 0 || decide (16 < members.length)) h.plen.toNat (h.payRsvd != 0) none se.executing.length).isNone

/-- The command is the host command of a header and a body. -/
def Carries (c : Instr) (h : Hdr) (b : Body) : Prop := ∀ s, exec c s = .next (receive (.cmd h b) s)

/-- Whenever it is admitted, the command `c` with body `b` completes: it leaves a state `t` and a reply `r` of which `P` holds, beside the state `u` in which it ran, and its response is sent, or held for the mirror. -/
def Answers (c : Instr) (h : Hdr) (b : Body) (s : State) (P : State → Reply → State → Prop) : Prop :=
  ∀ se, admitted h b s se = true →
    ∃ r t, exec c s = .next (t.respond h.port.toNat se.id h.reqId b.code r) ∧ P (s.taken h se) r t

/-- Between two states an event was written at an intake port with its code and severity, or counted as lost there (17 R450, R452). -/
def Recorded (s t : State) (port : EvPort) (code sev : Nat) : Prop :=
  (∃ e ∈ (nth t.rec_.ports port.num).waiting, e.event = code ∧ e.sev = sev ∧ e.gt = s.gt) ∨ (nth s.rec_.ports port.num).lost < (nth t.rec_.ports port.num).lost

/-- A context after its step has completed: the step `n` starts in the next tick (06 R143). -/
def Machine.ThymeCtx.goesTo (c : ThymeCtx) (n gt : Nat) : ThymeCtx := { c with idx := n, inStep := false, stepTick := gt + 1, launches := [], busWait := [], resumed := false }

/-- A context whose step has started in this tick and goes on (06 R143). -/
def Machine.ThymeCtx.stays (c : ThymeCtx) (gt : Nat) : ThymeCtx := { c with inStep := true, stepTick := gt, launches := [], busWait := [] }

/-- A scope is off at the pins: its rails and branches, and the resets and power-goods of its accelerators (07 R191, R192). -/
def Machine.State.isOff (t : State) (scope : Nat) : Prop :=
  (∀ r ∈ t.sage.rails, r.inScope scope = true → r.granted = false) ∧
  (wideScope scope = true → t.sage.branches &&& 0xDFF#12 = 0 ∧ t.sage.accReset = 0 ∧ t.thyme.pwrok = 0 ∧ t.thyme.trayPg = false) ∧
  (scope < 8 → t.sage.branches.getLsbD scope = false ∧ t.sage.accReset.getLsbD scope = false ∧ t.thyme.pwrok.getLsbD scope = false)

/-- What an immediate-off with a fault latch leaves of its scope: off, and held off until the latch is cleared (07 R191, R194). -/
def Machine.State.faultOff (t : State) (scope : Nat) : Prop :=
  t.isOff scope ∧ (wideScope scope = true → t.thyme.latchFault = true ∧ t.sage.holdFault = true) ∧ (scope < 8 → t.acc scope = .fault ∧ t.sage.holdBranch.getLsbD scope = true)

/-- An operation sent by a participant of this tray reaches the hub: a present die's over its package's link, or a bound host context's (12 R322). -/
def Machine.State.comesFrom (s : State) (src : Nat) : Prop :=
  (src < 64 ∧ s.hears (src / 8) = true ∧ s.diePresent src = true) ∨ (64 ≤ src ∧ src < 71 ∧ (nth s.link.ctxKeys (src - 64)).bound = true)

/-- The hub's objects are as they were. -/
def Machine.State.sameObjects (t s : State) : Prop := t.sync.words = s.sync.words ∧ t.sync.pairs = s.sync.pairs ∧ t.sync.barriers = s.sync.barriers

/-- An operation of a participant of this tray comes to its object `x` at the OWNER's hub: it is sent as the participant, its sequence is new, and its form fits the object (12 R322, R324, R326, R341). -/
def Machine.State.reaches (s : State) (src : Nat) (o : SyncOp) (x : SyncTarget) : Prop :=
  s.comesFrom src ∧ s.sync.awaitCopy = false ∧ o.src = src ∧ s.isOwner = true ∧ s.sync.wins.length = 72 ∧ (∃ w, (nth s.sync.wins src).judge o.seq = .fresh w) ∧
  o.formed = true ∧ s.sync.target o.addr = x ∧ o.fits x = true ∧ s.sync.underRepair o.addr = false

/-- No operation is parked and no watch is set on the object of an address. -/
def Machine.State.quiet (s : State) (a : BitVec 64) : Prop :=
  (∀ p ∈ s.sync.parked, objKey p.op.addr ≠ objKey a) ∧ ∀ w ∈ s.sync.watches, objKey w.addr ≠ objKey a

/-- A reply has left the hub, or is held for the mirror (12 R323, R343). -/
def Machine.State.replied (t : State) (dest : SyncOrigin) (r : SyncReply) : Prop :=
  .reply dest r ∈ t.sync.sent ∨ ∃ n, (n, .reply dest r) ∈ t.sync.held

/-- A notification has left the hub, or is held for the mirror (12 R335, R343). -/
def Machine.State.notified (t : State) (dest : Nat) (n : Notification) : Prop :=
  .notify dest n ∈ t.sync.sent ∨ ∃ k, (k, .notify dest n) ∈ t.sync.held

/-- The numbers of entries of the tables that the spec gives a fixed size. -/
def Machine.State.sizes (s : State) : List Nat :=
  [s.ports.length, s.sems.length, s.comps.length, s.procs.length, s.sec.slots.length, s.sec.loaders.length, s.rec_.ports.length, s.rec_.queues.length,
    s.feed.feeds.length, s.thyme.ctxs.length, s.thyme.accs.length, s.thyme.accMinOffEnd.length, s.thyme.resetAction.length, s.sage.rails.length, s.sage.buses.length,
    s.op.iAcc.length, s.phase.slots.length, s.phase.stored.length, s.cool.sensors.length, s.cool.zones.length, s.cool.fans.length, s.cool.pumps.length, s.cool.valves.length, s.cool.pressSaid.length,
    s.ledger.dies.length, s.sync.barriers.length, s.sync.channels.length, s.sync.bcRound.length, s.sync.hopTx.length, s.sync.hopRx.length, s.sync.wins.length,
    s.link.ports.length, s.link.dies.length, s.link.ctxKeys.length, s.link.queueKeys.length, s.link.imageKeys.length, s.link.buffers.length]

/-- The sizes that the spec gives those tables. -/
def tableSizes : List Nat := [2, 16, 14, 4, 2, 2, 16, 4, 2, 9, 8, 8, 8, 192, 20, 12, 8, 8, 344, 10, 16, 4, 4, 2, 64, 64, 16, 16, 65, 65, 72, 10, 64, 7, 64, 8, 8]

/-- What every reachable state of the governor has: its tables have their sizes, the hub's words and pairs are listed in rising order, no two accounts have one slot, in force or in a checkpoint, and every command that waits is well-formed. -/
def Machine.State.Inv (s : State) : Prop :=
  s.sizes = tableSizes ∧ WellFormed.rising s.sync.words = true ∧ WellFormed.rising s.sync.pairs = true ∧
  WellFormed.slotsApart s.ledger.accounts = true ∧ (∀ c ∈ s.ledger.dev.cps, WellFormed.slotsApart c.slots = true) ∧ ∀ c ∈ s.pending, c.wf = true

/-- The parts of the state, for claims about what a command leaves alone. -/
inductive Part where
  /-- supplies -/
  | sup
  /-- clocks and start-up -/
  | clk
  /-- straps -/
  | straps
  /-- pins -/
  | pins
  /-- secure start -/
  | sec
  /-- the configuration block in force -/
  | cfg
  /-- mailbox ports -/
  | ports
  /-- semaphores -/
  | sems
  /-- firmware log -/
  | log
  /-- trace points -/
  | trace
  /-- components -/
  | comps
  /-- processors -/
  | procs
  /-- Rosemary -/
  | rec_
  /-- feed controller -/
  | feed
  /-- Thyme -/
  | thyme
  /-- Sage -/
  | sage
  /-- operating point -/
  | op
  /-- phase engine -/
  | phase
  /-- cooling -/
  | cool
  /-- energy ledger -/
  | ledger
  /-- sync hub -/
  | sync
  /-- links and host path -/
  | link
  /-- reproducibility -/
  | repro
  /-- redundant pair -/
  | pair
  /-- firmware update -/
  | upd
  /-- the model's count of free values -/
  | free
  deriving DecidableEq, Repr

/-- The state with the named parts blanked out: two states agree on everything else exactly when they are equal so. -/
def Machine.State.without (ps : List Part) (s : State) : State :=
  { sup := if ps.contains .sup then default else s.sup
    clk := if ps.contains .clk then default else s.clk
    straps := if ps.contains .straps then default else s.straps
    pins := if ps.contains .pins then default else s.pins
    sec := if ps.contains .sec then default else s.sec
    cfg := if ps.contains .cfg then default else s.cfg
    ports := if ps.contains .ports then default else s.ports
    sems := if ps.contains .sems then default else s.sems
    log := if ps.contains .log then default else s.log
    trace := if ps.contains .trace then default else s.trace
    comps := if ps.contains .comps then default else s.comps
    procs := if ps.contains .procs then default else s.procs
    rec_ := if ps.contains .rec_ then default else s.rec_
    feed := if ps.contains .feed then default else s.feed
    thyme := if ps.contains .thyme then default else s.thyme
    sage := if ps.contains .sage then default else s.sage
    op := if ps.contains .op then default else s.op
    phase := if ps.contains .phase then default else s.phase
    cool := if ps.contains .cool then default else s.cool
    ledger := if ps.contains .ledger then default else s.ledger
    sync := if ps.contains .sync then default else s.sync
    link := if ps.contains .link then default else s.link
    repro := if ps.contains .repro then default else s.repro
    pair := if ps.contains .pair then default else s.pair
    upd := if ps.contains .upd then default else s.upd
    free := if ps.contains .free then default else s.free
    pending := s.pending }

end Sys2Proof
end

