-- ==== Sys2Proof/Certificates/Slice0/Obligations.lean ====
section
/-! DEFINITION. The statements about the governor. Mailbox commands are stated with `Answers`, happenings with `Completes`; a statement about every state carries as premises what a reachable state has. -/

open Sys2Proof Sys2Proof.Machine

/-! The block as a whole: the queue and the reset state -/

/-- A step takes the front command; an empty queue idles (log entry 6). -/
def Obligations.step_takes_front : Prop :=
  (∀ (c : Instr) (rest : List Instr) (s : State), step { s with pending := c :: rest } = exec c { s with pending := rest }) ∧
  ∀ s : State, s.pending = [] → step s = .next s

/-- The state after power-on reset (R11, R13, R72, R74, R79, R197, R211, R390, R404, R427). -/
def Obligations.reset_state : Prop :=
  State.reset.thyme.tray = .off ∧ (∀ n, State.reset.acc n = .off) ∧ State.reset.clk.source = .oscInt ∧ State.reset.clk.coreInReset = true ∧
  State.reset.sage.locked = false ∧ (∀ c, (State.reset.rail c).granted = false) ∧ State.reset.sage.branches = 0 ∧ State.reset.sage.accReset = 0 ∧
  (∀ f, (nth State.reset.feed.feeds f).onReleased = false) ∧ State.reset.op.pNow = 31 ∧ State.reset.repro.strict = false ∧
  State.reset.pair.role = .undecided ∧ State.reset.pair.mstate = .detached ∧ (∀ p, (State.reset.port p).session = none) ∧
  (∀ i, nth State.reset.sems i = none) ∧ State.reset.upd.phase = .idle ∧ State.reset.pending = []

/-! Mailboxes, sessions and semaphores (02) -/

/-- HELLO opens a handshake and disturbs nothing else (R37, R39, R43, R44, R49, R50; the discard of generation 0 is the model's own, log entry 16); handshake, lockout and idle time run out (R37, R40, R41, R58). -/
def Obligations.handshakes_open_and_run_out : Prop :=
  (∀ (s : State) (h : Hdr) (form : U8) (x y : BitVec 384) (nonce : BitVec 256) (features : BitVec 128),
    h.port.toNat < 2 → h.port.toNat < s.ports.length → s.firmwareRuns = true → s.restarting 1 = false →
    ((h.framed 1 = false ∨ h.session ≠ 0 ∨ h.gen = 0) → Completes (.hello h form x y nonce features) s fun t => t = s.discard h.port.toNat) ∧
    (h.framed 1 = true → h.session = 0 → h.gen ≠ 0 → (s.port h.port.toNat).lockedOut s.gt = true → Completes (.hello h form x y nonce features) s fun t => t = s) ∧
    (h.framed 1 = true → h.session = 0 → h.gen ≠ 0 → (s.port h.port.toNat).lockedOut s.gt = false →
      Completes (.hello h form x y nonce features) s fun t =>
        (t.port h.port.toNat).session = (s.port h.port.toNat).session ∧
        (∃ hs body, (t.port h.port.toNat).handshake = some hs ∧ hs.helloGt = s.gt ∧ hs.gen = min h.gen.toNat 3 ∧
          hs.features = agreedFeatures (min h.gen.toNat 3) features ∧
          (t.port h.port.toNat).outbox = (s.port h.port.toNat).outbox ++ [.clear hs.gen 2 hs.session body]) ∧
        (∀ q, q ≠ h.port.toNat → t.port q = s.port q) ∧
        t = { s with ports := t.ports, free := s.free + 1 })) ∧
  (∀ (s : State) (port : U8), port.toNat < s.ports.length →
    (∀ hs, (s.port port.toNat).handshake = some hs → hs.helloGt + secs 5 ≤ s.gt →
      Completes (.handshakeTimeout port) s fun t => (t.port port.toNat).handshake = none ∧ (t.port port.toNat).session = (s.port port.toNat).session ∧ t = { s with ports := t.ports }) ∧
    (∀ e, (s.port port.toNat).lockoutEnd = some e → e ≤ s.gt →
      Completes (.authLockoutEnd port) s fun t => (t.port port.toNat).lockoutEnd = none ∧ (t.port port.toNat).session = (s.port port.toNat).session ∧ t = { s with ports := t.ports }) ∧
    (∀ se, (s.port port.toNat).session = some se → se.lastMsg + secs 10 ≤ s.gt →
      Completes (.sessionIdleTimeout port) s fun t => (t.port port.toNat).session = none ∧ t.sems = s.sems))

/-- AUTH establishes the session, or is refused and counted (R37, R39, R41, R44, R49, R58). -/
def Obligations.auth_establishes_or_refuses : Prop :=
  ∀ (s : State) (h : Hdr) (keyHash : BitVec 384) (sigOk : Bool),
    h.port.toNat < 2 → s.firmwareRuns = true → s.restarting 1 = false →
    ((s.port h.port.toNat).handshake = none → Completes (.auth h keyHash sigOk) s fun t => t = s.discard h.port.toNat) ∧
    ∀ hs, (s.port h.port.toNat).handshake = some hs →
      if h.framed 3 = true ∧ h.tagOk = true ∧ h.session = hs.session ∧ h.gen.toNat = hs.gen ∧ h.msgSeq = 1 ∧ s.gt ≤ hs.helloGt + secs 5 then
        Completes (.auth h keyHash sigOk) s fun t =>
          (t.port h.port.toNat).handshake = none ∧ t.sems = s.sems ∧
          (∀ i, s.keyEntry h.port.toNat keyHash = some i → sigOk = true → (nth s.cfg.hostKeys i).minGen ≤ hs.gen →
            ∃ se, (t.port h.port.toNat).session = some se ∧ se.id = hs.session ∧ se.role = (nth s.cfg.hostKeys i).role ∧ se.gen = hs.gen ∧
              se.features = hs.features ∧ se.keyHash = (nth s.cfg.hostKeys i).hash) ∧
          (∀ i, s.keyEntry h.port.toNat keyHash = some i → sigOk = true → hs.gen < (nth s.cfg.hostKeys i).minGen →
            (t.port h.port.toNat).session = (s.port h.port.toNat).session) ∧
          ((s.keyEntry h.port.toNat keyHash = none ∨ sigOk = false) →
            (t.port h.port.toNat).session = (s.port h.port.toNat).session ∧ s.gt ∈ (t.port h.port.toNat).authFails ∧
            (7 ≤ ((s.port h.port.toNat).authFails.filter fun g => decide (s.gt < g + secs 60)).length → (t.port h.port.toNat).lockoutEnd = some (s.gt + secs 60)))
      else Completes (.auth h keyHash sigOk) s fun t => t = s.discard h.port.toNat

/-- The session commands (R40, R42, R44, R58, R63, R464; the layouts of SESSION_INFO and GOV_INFO are the model's own, log entry 15). -/
def Obligations.session_commands : Prop :=
  ∀ (s : State) (h : Hdr),
    Answers (.sessionInfo h) h .sessionInfo s (fun u r t => t = u ∧ ∃ se, (u.port h.port.toNat).session = some se ∧
      r = { payload := leBytes 4 se.id.toNat ++ i1 se.gen ++ i1 se.role.code ++ i2 0 ++ featureBytes se.features ++ i4 (u.port h.port.toNat).discards ++ i4 (u.port h.port.toNat).rxDropped }) ∧
    Answers (.keepalive h) h .keepalive s (fun u r t => t = u ∧ r = {}) ∧
    Answers (.govInfo h) h .govInfo s (fun u r t => t = u ∧
      r = { payload := serialBytes s.sec.serial ++ i4 s.fwVersion ++ i1 s.straps.slotId.toNat ++ i1 s.position ++ i1 (flag s.straps.coolMode) ++ i1 s.pair.role.code ++ i2 s.sec.bootCount ++ i1 s.straps.bootMode.toNat ++ i1 0 ++ i8 s.gt }) ∧
    (∀ first count, Answers (.eventPoll h first count) h (.eventPoll first count) s fun u r t => t = u ∧ ∃ se, (u.port h.port.toNat).session = some se ∧
      if count = 0 then r = Reply.fail .badArg
      else if (s.rec_.ring.head?.any fun e => !seqLe e.recSeq first.toNat) = true then r = { payload := takeBodies count.toNat se.largest s.rec_.ring, detail := 1 }
      else r = { payload := takeBodies count.toNat se.largest (s.rec_.ring.filter fun e => seqLe first.toNat e.recSeq) }) ∧
    (∀ groups sev, Answers (.eventSubscribe h groups sev) h (.eventSubscribe groups sev) s fun u r t =>
      if h.payRsvd = 0 ∧ sev.toNat ≤ 4 then r = {} ∧ t = u.onSession h.port.toNat fun se => { se with evGroups := groups, evMinSev := sev.toNat }
      else r = Reply.fail .badArg ∧ t = u) ∧
    Answers (.sessionClose h) h .sessionClose s (fun u r t => r = {} ∧ ∀ se, (u.port h.port.toNat).session = some se →
      ((t.respond h.port.toNat se.id h.reqId 0x0003 r).port h.port.toNat).session = none ∧
      ∀ id, id < 16 → nth t.sems id = if s.holds id h.port.toNat se.id = true then none else nth s.sems id)

/-- What MBOX does with a command before it runs (R36, R42, R44, R45, R46, R51, R53, R54, R63, R83). -/
def Obligations.mbox_rules : Prop :=
  (∀ (c : Instr) (h : Hdr) (b : Body) (s : State), Carries c h b → h.port.toNat < 2 →
    (s.firmwareRuns = false → Completes c s fun t => t = s) ∧
    (s.firmwareRuns = true → s.restarting 1 = true → Completes c s fun t => t = s.onPort h.port.toNat fun q =>
      if q.rxQueue.length < 256 then { q with rxQueue := q.rxQueue ++ [.cmd h b] } else { q with rxDropped := satAdd 32 q.rxDropped 1 }) ∧
    (s.firmwareRuns = true → s.restarting 1 = false →
      ((∀ se, (s.port h.port.toNat).session = some se → se.accepts h = false) → Completes c s fun t => t = s.discard h.port.toNat) ∧
      ∀ se, (s.port h.port.toNat).session = some se → se.accepts h = true →
        (2 ^ 48 < h.msgSeq.toNat → Completes c s fun t => t = s.endSession h.port.toNat) ∧
        (h.msgSeq.toNat ≤ 2 ^ 48 →
          (∀ body, se.judge h.reqId = .cached body → Completes c s fun t => t = (s.onSession h.port.toNat fun x => x.noted s.gt h.msgSeq.toNat).post h.port.toNat 0x11 body) ∧
          (se.judge h.reqId = .executing → Completes c s fun t => t = s.onSession h.port.toNat fun x => x.noted s.gt h.msgSeq.toNat) ∧
          (se.judge h.reqId = .outOfOrder → Completes c s fun t =>
            t = (s.onSession h.port.toNat fun x => x.noted s.gt h.msgSeq.toNat).post h.port.toNat 0x11 (responseBody b.code (Reply.fail .badArg) h.reqId)))) ∧
    ∀ se, arrives h s se = true → admitted h b s se = false → Completes c s fun t => ∃ st, t = (s.taken h se).respond h.port.toNat se.id h.reqId b.code (Reply.fail st) ∧
      if h.rsvd ≠ 0 ∨ h.plen.toNat ≠ b.plen then st = .badArg
      else if s.isOwner = false ∧ b.spec.standby = false then st = .notOwner
      else if se.features.getLsbD b.spec.feature = false ∨ (b.spec.sem.isSome = true ∧ se.features.getLsbD 2 = false) ∨ se.largest < h.plen.toNat then st = .notNegotiated
      else se.role.code < b.spec.role.code → st = .denied) ∧
  ∀ (s : State) (h : Hdr) (code : U16), h.port.toNat < 2 → s.firmwareRuns = true → s.restarting 1 = false →
    ((∀ se, (s.port h.port.toNat).session = some se → se.accepts h = false) → Completes (.mailboxMessageReject h code) s fun t =>
      (t.port h.port.toNat).session = (s.port h.port.toNat).session ∧ t = s.discard h.port.toNat) ∧
    ∀ se, arrives h s se = true → Completes (.mailboxMessageReject h code) s fun t =>
      ∃ st, t = (s.taken h se).respond h.port.toNat se.id h.reqId code.toNat (Reply.fail st) ∧ (knownCode code.toNat = false → st = .badArg) ∧
        (knownCode code.toNat = true → h.rsvd ≠ 0 → st = .badArg)

/-- A batch takes its members in order (R45, R52, R53). -/
def Obligations.batches : Prop :=
  ∀ (s : State) (h : Hdr) (members : List Member) (se : Session), admittedBatch h members s se = true →
    (∃ r rest, ({ s := s.taken h se } : BatchRun).members h.port.toNat h.auto h.reqId members = (r, rest) ∧
      Completes (.batch h members) s fun t =>
        t = (r.finish h.port.toNat se.id h.reqId h.auto rest).2.respond h.port.toNat se.id h.reqId 0x0007 (r.finish h.port.toNat se.id h.reqId h.auto rest).1) ∧
    (∀ rid auto plen b, members = [.cmd rid auto 0 0 plen b] → plen.toNat = b.plen → (s.handed h se).judge rid = .new → se.closing = none →
      ∀ a u, runCommand h.port.toNat rid h.reqId auto false false 1 b.plen b { s.handed h se with lastReq := some rid } ((s.taken h se).onSession h.port.toNat fun x => { x with lastReq := some rid }) = (a, u) →
        a.forwarded = false → Completes (.batch h members) s fun t =>
          t = (u.onSession h.port.toNat fun x => x.keep { reqId := rid, body := responseBody b.code a rid }).respond h.port.toNat se.id h.reqId 0x0007
            { payload := responseBody b.code a rid, hold := a.hold }) ∧
    (∀ rid code m, (m = .batch rid ∧ code = 0x0007) ∨ (m = .unknown rid (BitVec.ofNat 16 code) ∧ code < 65536) → members = [m] → (s.handed h se).judge rid = .new → se.closing = none →
      Completes (.batch h members) s fun t => ∃ u : State, u = { s with ports := u.ports } ∧
        t = u.respond h.port.toNat se.id h.reqId 0x0007 { payload := responseBody code (Reply.fail .badArg) rid }) ∧
    (∀ rid code m rid' auto plen b, m = .unknown rid code → members = [m, .cmd rid' auto 0 0 plen b] → plen.toNat = b.plen → (s.handed h se).judge rid = .new → se.closing = none →
      ({ s.handed h se with lastReq := some rid }.keep { reqId := rid, body := responseBody code.toNat (Reply.fail .badArg) rid }).judge rid' = .new →
      (h.auto = false → Completes (.batch h members) s fun t => ∃ u : State, u = { s with ports := u.ports } ∧
        t = u.respond h.port.toNat se.id h.reqId 0x0007 { payload := responseBody code.toNat (Reply.fail .badArg) rid ++ responseBody b.code (Reply.fail .stateConflict) rid' }) ∧
      (h.auto = true → ∃ v : State, v = { s with ports := v.ports } ∧ ∃ se', (v.port h.port.toNat).session = some se' ∧ ∀ a u,
        runCommand h.port.toNat rid' h.reqId auto false false 1 b.plen b se' v = (a, u) → a.forwarded = false →
          Completes (.batch h members) s fun t => ∃ x : State, x = { u with ports := x.ports } ∧
            t = x.respond h.port.toNat se.id h.reqId 0x0007 { payload := responseBody code.toNat (Reply.fail .badArg) rid ++ responseBody b.code a rid', hold := a.hold }))

/-- SEM_ACQUIRE grants a free semaphore at the OWNER, or names the holder (R56). -/
def Obligations.sem_acquire_grants : Prop :=
  ∀ (s : State) (h : Hdr) (id : U8) (lease : U16), s.isOwner = true →
    Answers (.semAcquire h id lease) h (.semAcquire id lease) s fun u r t => ∃ se, (u.port h.port.toNat).session = some se ∧
      (15 < id.toNat → r = Reply.fail .badArg ∧ t = u) ∧
      (id.toNat < 16 →
        (nth s.sems id.toNat = none →
          if 3601 ≤ lease.toNat ∨ h.payRsvd ≠ 0 then r = Reply.fail .badArg ∧ t = u
          else ∃ x : SemHolder, r.status = .ok ∧ r.payload = i8 x.token.toNat ++ i8 x.leaseEnd ∧ x.leaseEnd = s.gt + secs (if lease.toNat = 0 then 60 else lease.toNat) ∧
            x.pos = s.position ∧ x.port = h.port.toNat ∧ x.session = se.id ∧ x.keyHash = se.keyHash ∧
            t.sems = s.sems.set id.toNat (some x) ∧ t = { u with sems := t.sems, free := s.free + 1, pair := t.pair }) ∧
        (∀ x, nth s.sems id.toNat = some x →
          if x.pos = s.position ∧ x.port = h.port.toNat ∧ x.session = se.id then
            (if 3601 ≤ lease.toNat ∨ h.payRsvd ≠ 0 then r = Reply.fail .badArg else r = { payload := i8 x.token.toNat ++ i8 x.leaseEnd }) ∧ t = u
          else r = { status := .semaphoreHeld, payload := i1 x.pos ++ i1 x.port ++ i2 0 ++ i4 x.session.toNat ++ i4 ((x.leaseEnd - s.gt) / 1000) } ∧ t = u))

/-- Semaphores are renewed, adopted, queried, released, broken, and end with their lease (R55, R57, R58, R59, R61; release by any session of the key is the model's reading, log entry 18). -/
def Obligations.sem_commands_act : Prop :=
  ∀ (s : State) (h : Hdr) (id : U8) (token : U64),
    (s.isOwner = true →
      Answers (.semRenew h id token) h (.semRenew id token) s (fun u r t => ∃ se, (u.port h.port.toNat).session = some se ∧
        if h.payRsvd ≠ 0 ∨ 15 < id.toNat then r = Reply.fail .badArg ∧ t = u
        else match s.tokenHolder id.toNat token with
          | some x => x.keyHash = se.keyHash ∧ r.status = .ok ∧ r.payload = i8 (s.gt + secs x.leaseLen) ∧
            t.sems = s.sems.set id.toNat (some { x with pos := s.position, port := h.port.toNat, session := se.id, leaseEnd := s.gt + secs x.leaseLen }) ∧
            t = { u with sems := t.sems, pair := t.pair }
          | none => r = Reply.fail .stateConflict ∧ t = u) ∧
      Answers (.semRelease h id token) h (.semRelease id token) s (fun u r t =>
        if h.payRsvd ≠ 0 ∨ 15 < id.toNat then r = Reply.fail .badArg ∧ t = u
        else match s.tokenHolder id.toNat token with
          | some _ => r.status = .ok ∧ t.sems = s.sems.set id.toNat none
          | none => r = Reply.fail .stateConflict ∧ t = u) ∧
      (∀ (c : Instr) (b : Body), (c = .semRenew h id token ∧ b = .semRenew id token) ∨ (c = .semRelease h id token ∧ b = .semRelease id token) → ∀ x se, s.tokenHolder id.toNat token = some x → x.keyHash ≠ se.keyHash →
        arrives h s se = true → h.rsvd = 0 → h.plen.toNat = b.plen → se.features.getLsbD 2 = true → h.plen.toNat ≤ se.largest →
        Completes c s fun t => t = (s.taken h se).respond h.port.toNat se.id h.reqId b.code (Reply.fail .denied)) ∧
      Answers (.semBreak h id) h (.semBreak id) s (fun u r t =>
        if 15 < id.toNat then r = Reply.fail .badArg ∧ t = u
        else if nth s.sems id.toNat = none then r = Reply.fail .stateConflict ∧ t = u
        else r.status = .ok ∧ t.sems = s.sems.set id.toNat none) ∧
      Answers (.semQuery h) h .semQuery s (fun u r t => r.status = .ok ∧ r.payload.length = 12 * s.sems.length ∧ t = { u with free := s.free + 1 }) ∧
      (∀ x, nth s.sems id.toNat = some x → x.leaseEnd ≤ s.gt → Completes (.leaseEnd id) s fun t => t.sems = s.sems.set id.toNat none) ∧
      (s.mirTrained = true → s.restarting 2 = false → ∀ (port : U8) (session reqId : U32) (keyHash : BitVec 384) (free : U8) (lease : U16), free.toNat < 16 → lease.toNat ≤ 3600 → nth s.sems free.toNat = none →
        Completes (.forwardedSemaphoreCommand port { session := session, reqId := reqId } keyHash (.acquire free lease)) s fun t =>
          ∃ y : SemHolder, t.sems = s.sems.set free.toNat (some y) ∧ y.pos = 1 - s.position ∧ y.port = port.toNat ∧ y.session = session ∧ y.keyHash = keyHash ∧
            .semAnswer port.toNat session reqId .ok (i8 y.token.toNat ++ i8 y.leaseEnd) ∈ t.pair.out)) ∧
    (s.pair.role = .standby → h.payRsvd = 0 →
      ∀ lease, ∀ m ∈ [(Instr.semAcquire h id lease, Body.semAcquire id lease), (.semRenew h id token, .semRenew id token), (.semRelease h id token, .semRelease id token), (.semQuery h, .semQuery), (.semBreak h id, .semBreak id)],
        Answers m.1 h m.2 s fun u r t => r.forwarded = true ∧ t = { u with pair := { u.pair with out := t.pair.out } } ∧ t.pair.out ≠ u.pair.out)

/-! Clocks, resets and start-up (03, 01, 19) -/

/-- Power-on reset and brown-out clear all but flash and the journal device (R19, R73, R493), a supply above its absolute maximum stops the model by name (R491, log entry 59), and the boot reaches the ROM (R72, R76, R79, R474, R493). -/
def Obligations.power_on_to_rom : Prop :=
  (∀ (s : State) (a b : U16), a.toNat ≤ 900 → b.toNat ≤ 2100 →
    let cleared := fun t : State =>
      t.clk = State.reset.clk ∧ t.ports = State.reset.ports ∧ t.sems = State.reset.sems ∧ t.sage = State.reset.sage ∧ t.pair = State.reset.pair ∧ t.sync = State.reset.sync ∧
      t.sec.anchors = s.sec.anchors ∧ t.sec.slots = s.sec.slots ∧ t.sec.loaders = s.sec.loaders ∧ t.sec.bootCount = s.sec.bootCount ∧
      t.feed.trips = s.feed.trips ∧ t.ledger.dev = s.ledger.dev ∧ t.log.flash = s.log.flash ∧ t.pending = s.pending
    (s.sup.aonGood = false → 660 < a.toNat → 1550 < b.toNat →
      Completes (.powerOnReset a b) s fun t => cleared t ∧ t.sup = { vddAon := a.toNat, vddioAon := b.toNat, aonGood := true }) ∧
    (s.sup.aonGood = true ∨ a.toNat ≤ 660 ∨ b.toNat ≤ 1550 →
      Completes (.powerOnReset a b) s fun t => t = { s with sup := { s.sup with vddAon := a.toNat, vddioAon := b.toNat } }) ∧
    (∀ us : U32, us.toNat ≠ 0 → (a.toNat < 640 ∨ b.toNat < 1500) →
      Completes (.brownOut a b us) s fun t => cleared t ∧ t.sup = { vddAon := a.toNat, vddioAon := b.toNat, aonGood := false }) ∧
    (∀ us : U32, us.toNat = 0 ∨ (640 ≤ a.toNat ∧ 1500 ≤ b.toNat) → Completes (.brownOut a b us) s fun t => t = s)) ∧
  (∀ (s : State) (a b : U16) (us : U32), (900 < a.toNat ∨ 2100 < b.toNat) →
    exec (.powerOnReset a b) s = .fault .beyondRatings ∧ exec (.brownOut a b us) s = .fault .beyondRatings) ∧
  ∀ s : State,
    (∀ samples : List (BitVec 11), samples.length = 15 → s.clk.phase = .porHeld → s.sup.aonGood = true →
      let high := fun k => decide (8 ≤ samples.countP fun x => x.getLsbD k)
      Completes (.powerOnResetRelease samples) s fun t =>
        t.straps.coolMode = high 3 ∧ t.straps.pairSel = high 4 ∧ (∀ k, k < 3 → t.straps.bootMode.getLsbD k = high k) ∧ (∀ k, k < 6 → t.straps.slotId.getLsbD k = high (5 + k)) ∧
        t.sec.bootCount = (s.sec.bootCount + 1) % 65536 ∧
        t = { s with straps := t.straps, clk := { s.clk with phase := .waitClock, strapsNew := true }, sec := t.sec }) ∧
    (s.clk.phase = .waitClock → s.clk.source = .oscInt → s.sage.everLocked = false → s.clk.tempLost = false →
      Completes .clockFirstMove s fun t =>
        t = { s with clk := { s.clk with source := .pll, health := .good, goodWindows := 16, pllLocked := true, coreInReset := s.clk.resetNLow,
                                         phase := if s.clk.resetNLow then .resetHeld else .rom } }) ∧
    (s.clk.resetNLow = true → s.clk.resetLows = 0 → Completes .resetNRelease s fun t =>
      t = if s.clk.phase = .resetHeld then { s with clk := { s.clk with resetNLow := false, coreInReset := false, phase := .rom } } else { s with clk := { s.clk with resetNLow := false } }) ∧
    (∀ levels, s.sage.everLocked = false → s.aliveInRecent = true →
      Completes (.shadowResetPull levels) s fun t =>
        (∀ k, t.pins.shadowLatch.getLsbD k = (s.pins.shadowLatch.getLsbD k || (shadowNets.getLsbD k && !levels.getLsbD k))) ∧
        t = { s with pins := { s.pins with shadowLatch := t.pins.shadowLatch } })

/-- A warm reset keeps the AON domain, ends every session and starts at the ROM (R18, R19, R40, R64, R69, R73, R75, R76, R77; log entry 21). -/
def Obligations.warm_reset_keeps_aon : Prop :=
  ∀ s : State,
    let warm := fun (low : Bool) (t : State) =>
      t.sage.rails = s.sage.rails ∧ t.sage.branches = s.sage.branches ∧ t.sage.accReset = s.sage.accReset ∧ t.thyme.tray = s.thyme.tray ∧ t.thyme.accs = s.thyme.accs ∧
      t.feed = s.feed ∧ t.cool.fans = s.cool.fans ∧ t.cool.pumps = s.cool.pumps ∧ t.cool.valves = s.cool.valves ∧
      t.sems = s.sems ∧ t.ports = [{}, {}] ∧ t.pins.aliveOut = false ∧ t.pair.pull = false ∧ t.pair.role = .undecided ∧ t.pair.mstate = .detached ∧
      t.sec.bootCount = (s.sec.bootCount + 1) % 65536 ∧ t.sage.locked = false ∧ t.clk.warmInProgress = true ∧
      if s.clk.source = .pll then t.clk.phase = (if low then .resetHeld else .rom) ∧ t.clk.coreInReset = low else t.clk.phase = .waitClock ∧ t.clk.coreInReset = true
    (2 ≤ s.clk.resetLows → s.clk.resetNLow = false → s.clk.phase ≠ .porHeld → Completes (.warmReset .resetN) s (warm true)) ∧
    (2 ≤ s.clk.resetLows → s.clk.resetNLow = false → s.clk.phase = .porHeld → Completes (.warmReset .resetN) s fun t => t = { s with clk := { s.clk with resetNLow := true } }) ∧
    (s.clk.resetLows < 2 ∨ s.clk.resetNLow = true → Completes (.warmReset .resetN) s fun t => t = s) ∧
    (∀ g, s.clk.recoveryAt = some g → g ≤ s.gt → s.coreClocked = true → Completes (.warmReset .bootRecovery) s (warm s.clk.resetNLow)) ∧
    (s.upd.resetDue = true → s.coreClocked = true → Completes (.warmReset .activation) s (warm s.clk.resetNLow)) ∧
    (∀ p, ∀ x ∈ [WarmSource.refclkReturn, .watchdog p, .recoveryLoader], Completes (.warmReset x) s fun t => t = s) ∧
    (∀ f : RecovHdr, s.clk.phase = .recovery → f.frameOk = true → f.rsvd = 0 → f.len = 0 → s.sec.recov.lastSeq ≠ some f.seq.toNat →
      Completes (.recovBoot f) s fun t => warm s.clk.resetNLow t ∧
        t.sec.recov.sent = s.sec.recov.sent ++ [{ seq := f.seq.toNat, nak := none, payload := [], wire := recovWire f.seq.toNat none [] }])

/-- Loss and return of the clock; the on-die temperature (R69, R70, R71, R72, R502). -/
def Obligations.clock_loss_and_return : Prop :=
  ∀ s : State,
    (∀ pllOnly, s.clk.source = .oscInt → Completes (.refclkLoss pllOnly) s fun t => t = s) ∧
    (∀ pllOnly, s.clk.source = .pll →
      Completes (.refclkLoss pllOnly) s fun t =>
        t.clk.source = .oscInt ∧ t.clk.coreInReset = true ∧ t.clk.pllLocked = false ∧ t.clk.lossGt = some s.gt ∧
        (s.sage.everLocked = false → t.sage = s.sage ∧ t.feed = s.feed ∧ t.thyme = s.thyme ∧ t.cool = s.cool ∧ t.pins = s.pins ∧ t.op = s.op ∧ t.pair = { s.pair with mir := {} }) ∧
        (s.sage.everLocked = true → s.aliveInRecent = true →
          t.pair.role = .undecided ∧ t.pair.pull = false ∧ t.pins.aliveOut = false ∧ t.sage.rails = s.sage.rails ∧ t.sage.branches = s.sage.branches) ∧
        (s.sage.everLocked = true → s.aliveInRecent = false →
          t.sage.branches &&& 0xDFF#12 = 0 ∧ t.sage.accReset = 0 ∧ t.thyme.latchFault = true ∧ t.sage.holdFault = true)) ∧
    (s.clk.source = .oscInt → s.sage.everLocked = true → s.clk.tempLost = false →
      Completes .refclkReturn s fun t => t.clk.source = .pll ∧ t.clk.pllLocked = true ∧ t.clk.lossGt = none ∧ t.clk.warmInProgress = true ∧ t.ports = [{}, {}] ∧ t.sage.rails = s.sage.rails) ∧
    (s.clk.source = .pll ∨ s.sage.everLocked = false ∨ s.clk.tempLost = true → Completes .refclkReturn s fun t => t = s) ∧
    (∀ x : Int, s.clk.phase = .porHeld → Completes (.onDieTempRead x) s fun t => t = s) ∧
    (∀ x : Int, s.clk.phase ≠ .porHeld →
      Completes (.onDieTempRead x) s fun t =>
        t.clk.hotReadings = (if 115 ≤ x then min 10 (s.clk.hotReadings + 1) else 0) ∧
        (100 ≤ x → t.clk.tempAdvisory = true) ∧ (x < 95 → t.clk.tempAdvisory = false) ∧ (95 ≤ x → x < 100 → t.clk.tempAdvisory = s.clk.tempAdvisory) ∧
        (115 ≤ x → 9 ≤ s.clk.hotReadings → t.clk.tempLost = true ∧ (s.clk.tempLost = false → t.clk.source = .oscInt)) ∧
        (x < 95 → ∀ g, s.clk.coolSince = some g → g + secs 1 ≤ s.gt → t.clk.tempLost = false))

/-- Components and processors restart (R23, R24, R25, R26, R42, R461; log entry 21). -/
def Obligations.components_and_processors_restart : Prop :=
  ∀ (s : State) (k p : U8) (cause region : U8), s.comps.length = 14 → s.procs.length = 4 → k.toNat < 14 → p.toNat < 4 → s.firmwareRuns = true →
    (∀ c ∈ [Instr.componentFault k cause region, Instr.componentWatchdogExpiry k], Completes c s fun t =>
      (s.restarting k.toNat = true → t = s) ∧
      (s.restarting k.toNat = false → ((nth s.comps k.toNat).lastFault.any fun g => decide (s.gt ≤ g + secs 10)) = false →
        (nth t.comps k.toNat).restartUntil = some (s.gt + ms 20) ∧ (nth t.comps k.toNat).lastFault = some s.gt ∧ t = { s with comps := t.comps }) ∧
      (s.restarting k.toNat = false → ((nth s.comps k.toNat).lastFault.any fun g => decide (s.gt ≤ g + secs 10)) = true →
        (nth t.procs (procOf k.toNat)).trigger = 2 ∧ t = { s with procs := t.procs })) ∧
    (∀ n : U8, 14 ≤ n.toNat → Completes (.componentFault n cause region) s fun t => (nth t.procs (n.toNat % 4)).trigger = 3 ∧ t = { s with procs := t.procs }) ∧
    ((nth s.procs p.toNat).restartUntil = none →
      Completes (.processorWatchdogExpiry p) s fun t =>
        if (nth s.procs p.toNat).restarts.countP (fun g => decide (s.gt < g + secs 600)) < 2 then
          (nth t.procs p.toNat).restartUntil = some (s.gt + ms 150) ∧ (nth t.procs p.toNat).trigger = 0 ∧ s.gt ∈ (nth t.procs p.toNat).restarts ∧
          t = { s with procs := t.procs, comps := t.comps }
        else t.ports = [{}, {}] ∧ t.clk.warmInProgress = true ∧ t.sage.rails = s.sage.rails) ∧
    ((nth s.comps k.toNat).restartUntil.isSome = true →
      Completes (.componentRestartComplete k) s fun t => ∃ u : State, (nth u.comps k.toNat).restartUntil = none ∧ (nth u.comps k.toNat).lastService = s.gt ∧
        u.without [.comps, .rec_, .trace, .upd] = s.without [.comps, .rec_, .trace, .upd] ∧ t = if k = 1 then u.drainReceived else u) ∧
    ((nth s.procs p.toNat).restartUntil.isSome = true →
      Completes (.processorRestartComplete p) s fun t => ∃ u : State, (nth u.procs p.toNat).restartUntil = none ∧ (nth u.procs p.toNat).lastService = s.gt ∧
        u.without [.procs, .rec_, .trace, .upd] = s.without [.procs, .rec_, .trace, .upd] ∧ t = if p = 0 then u.drainReceived else u)

/-! Secure start, identity and the recovery loader (04) -/

/-- The ROM and the resident loader choose what boots (R79, R80, R81, R91, R92, R93, R95, R102, R105). -/
def Obligations.rom_and_loader_choose : Prop :=
  (∀ (s : State) (samples : List (BitVec 11)), s.clk.phase = .rom →
    let mode := if s.clk.strapsNew then s.straps.bootMode else (strapMajority samples).bootMode
    let keys := identityKeys (Config.pufSeed s.sec.helperData)
    let pick := fun i => (({ s with sec := { s.sec with anchor := some i } } : State).selectPlace s.sec.loaders 2 none).1
    Completes (.romBoot samples) s fun t =>
      t.straps = { s.straps with bootMode := mode } ∧ t.sage = s.sage ∧
      (mode = 4 → t.clk.phase = .scan) ∧ (mode = 6 ∨ mode = 7 → t.clk.phase = .halted) ∧
      (mode ≠ 4 → mode ≠ 6 → mode ≠ 7 →
        t.sec.keys = keys ∧ t.sec.serial = serialOf (keys.headD 0) ∧
        ((∀ i, i < 2 → (nth s.sec.anchors i).valid = false) ∨ mode = 3 ∨ s.clk.recoveryNext = true → t.clk.phase = .recovery) ∧
        (∀ i k, adoptedHeader s.sec.anchors = some i → mode ≠ 3 → s.clk.recoveryNext = false → pick i = some k →
          t.clk.phase = .loader ∧ t.sec.runningLoader = some k ∧ t.sec.anchor = some i) ∧
        (∀ i, adoptedHeader s.sec.anchors = some i → pick i = none → t.clk.phase = .recovery))) ∧
  (∀ s : State, s.clk.phase = .loader → s.configCopy = none → s.clk.porBoot = true → Completes .residentLoaderRun s fun t => t.clk.phase = .recovery ∧ t.sage.locked = true) ∧
  (∀ (s : State) (k j : Nat), s.clk.phase = .loader → s.configCopy = some k → s.sec.cfgStaging = none → s.sec.anchorStaging = none →
    (s.selectPlace s.sec.slots 1 s.straps.forced).1 = some j → (nth s.sec.slots j).obj.man.floor ≤ s.anchor.minVersion →
    Completes .residentLoaderRun s fun t =>
      t.clk.phase = .handoff ∧ t.sec.cfgInForce = some k ∧ t.sec.runningSlot = some j ∧ t.sage.locked = true ∧ t.sage.everLocked = true ∧
      t.sage.limits = (nth s.sec.cfgCopies k).cfg.limits ∧ t.cfg = (nth s.sec.cfgCopies k).cfg ∧ t.sec.gateOpen = false)

/-- The firmware starts, decides that it is alone, and enters STANDBY (R83, R164, R405, R406, R434, R437). -/
def Obligations.start_up_ends_in_standby : Prop :=
  ∀ s : State,
    (s.clk.phase = .handoff → Completes .handoffAcceptance s fun t => t.clk.phase = .starting ∧ t.pair.mirTrainGt = some s.gt ∧ t.phase.loadPending = true ∧ t.upd.block.pending = false ∧ t.sage = s.sage) ∧
    (∀ g, s.pair.mirTrainGt = some g → s.firmwareRuns = true → s.pair.role = .undecided → g + ms 100 ≤ s.gt → (∀ a, s.pair.aliveIn = some a → a < g) →
      Completes .aloneDecision s fun t => t = { s with pair := { s.pair with alone := true } }) ∧
    (s.clk.phase = .starting → s.sage.locked = true → s.thyme.loaded = true → (∀ k, k < 14 → s.restarting k = false) → s.ledger.begun = true → s.pair.role ≠ .undecided →
      Completes .standbyEntry s fun t =>
        t.clk = { s.clk with phase := .running, warmInProgress := false } ∧ (s.thyme.tray ≠ .off → t = { s with clk := t.clk }) ∧
        (s.thyme.tray = .off → ∃ u : State, u.thyme = { s.thyme with tray := .standby } ∧ u.without [.clk, .thyme, .pair] = s.without [.clk, .thyme, .pair] ∧
          t = if s.isOwner = true ∧ s.thyme.autoOn = true ∧ s.thyme.latched = false then u.request .trayOn else u))

/-- Identity, attestation, key enrolment and debug access (R98, R104, R106, R107, R109, R110; BOOT_STATUS as in log entry 15). -/
def Obligations.identity_and_debug : Prop :=
  ∀ (s : State) (h : Hdr),
    (∀ nonce, Answers (.attest h nonce) h (.attest nonce) s fun u r t => t = u ∧ r = { payload := s.evidence nonce ++ s.sign 1 (s.evidence nonce) }) ∧
    (∀ i : U8, Answers (.certChainRead h i) h (.certChainRead i) s fun u r t =>
      t = u ∧ r = if 2 < i.toNat then Reply.fail .badArg else { payload := if i = 0 then s.sec.idkCert else keyCertificate s.sec.serial i.toNat }) ∧
    Answers (.bootStatus h) h .bootStatus s (fun u r t => t = u ∧ r.status = .ok ∧
      r.payload = i1 s.straps.bootMode.toNat ++ i1 s.runningBits ++ i2 s.sec.bootCount ++ i4 s.runningGen ++ i4 s.fwVersion ++ i4 s.anchor.gen ++ i4 s.anchor.minVersion ++ s.sec.places) ∧
    (∀ b key ok, Answers (.customerKeyEnroll h b key ok) h (.customerKeyEnroll b key ok) s fun u r t =>
      if s.anchor.ckEnrolled = true ∧ ok = false then r.status = .integrityFail ∧ t = u
      else r.status = .accepted ∧ t = { u with sec := { s.sec with anchorStaging := some (b.toNat, .enrol key) } }) ∧
    (∀ b ok, Answers (.customerKeyEnrollRemove h b ok) h (.customerKeyEnrollRemove b ok) s fun u r t =>
      if s.anchor.ckEnrolled = true ∧ ok = true then r.status = .accepted ∧ t = { u with sec := { s.sec with anchorStaging := some (b.toNat, .remove) } }
      else r.status = .integrityFail ∧ t = u) ∧
    Answers (.debugStatus h) h .debugStatus s (fun u r t =>
      ∃ ch, r.status = .ok ∧ r.payload = leBytes 4 s.sec.unlock.scope.toNat ++ beBytes 32 ch.toNat ∧
        t = { u with free := s.free + 1, sec := { s.sec with unlock := { s.sec.unlock with challenge := some ch } } }) ∧
    (∀ magic serial ch (scope dur : U32) v c,
      Answers (.debugUnlock h magic serial ch scope dur { vendorOk := v, custOk := c }) h (.debugUnlock magic serial ch scope dur { vendorOk := v, custOk := c }) s fun u r t =>
        t.sec.unlock.challenge = none ∧
        if magic ≠ 0x5444474C ∨ 7 < scope.toNat ∨ dur.toNat = 0 ∨ 86400 < dur.toNat then r.status = .badArg ∧ t = { u with sec := { s.sec with unlock := { s.sec.unlock with challenge := none } } }
        else if serial = s.sec.serial ∧ s.sec.unlock.challenge = some ch ∧ v = true ∧ (s.anchor.ckEnrolled = false ∨ c = true) then
          r.status = .ok ∧ t.sec.unlock.scope = scope ∧ t.sec.unlock.lockAt = some (s.gt + secs dur.toNat) ∧ t.without [.sec, .rec_, .upd] = u.without [.sec, .rec_, .upd]
        else r.status = .integrityFail ∧ t = { u with sec := { s.sec with unlock := { s.sec.unlock with challenge := none } } }) ∧
    Answers (.debugLock h) h .debugLock s (fun u r t => r.status = .ok ∧ t.sec.unlock.scope = 0 ∧ t.without [.sec, .rec_, .upd] = u.without [.sec, .rec_, .upd]) ∧
    (∀ g, s.sec.unlock.lockAt = some g → Completes .debugDurationEnd s fun t =>
      if g ≤ s.gt then t.sec.unlock.scope = 0 ∧ t.without [.sec, .rec_, .upd] = s.without [.sec, .rec_, .upd] else t = s) ∧
    Answers (.bootRecovery h) h .bootRecovery s (fun u r t =>
      if s.sage.branches &&& 0xDFF#12 ≠ 0 ∧ s.pair.role ≠ .standby then r.status = .stateConflict ∧ t = u
      else r.status = .accepted ∧ t.clk = { s.clk with recoveryAt := some (s.gt + ms 1) } ∧ t.without [.clk, .rec_, .upd] = u.without [.clk, .rec_, .upd])

/-- The recovery loader: frames, transfers and what is written (R16, R88, R96, R100, R102, R103; log entry 56). -/
def Obligations.recovery_loader : Prop :=
  ∀ (s : State) (f : RecovHdr), s.clk.phase = .recovery →
    (∀ target man obj offset count m content, ∀ c ∈ [(Instr.recovInfo f, 0), (.recovBegin f target man obj, 12), (.recovData f offset count m, 4 + count.toNat), (.recovCommit f content, 0), (.recovBoot f, 0)],
      (f.frameOk = false → Completes c.1 s fun t => t = s) ∧
      (f.frameOk = true → s.sec.recov.lastSeq = some f.seq.toNat →
        Completes c.1 s fun t => t = { s with sec := { s.sec with recov := { s.sec.recov with sent := s.sec.recov.sent ++ [s.sec.recov.lastReply] } } }) ∧
      (f.frameOk = true → s.sec.recov.lastSeq ≠ some f.seq.toNat → f.rsvd ≠ 0 ∨ f.len.toNat ≠ c.2 → Completes c.1 s fun t =>
        let r : RecoveryReply := { seq := f.seq.toNat, nak := some .badArg, payload := [], wire := recovWire f.seq.toNat (some .badArg) [] }
        t = { s with sec := { s.sec with recov := { s.sec.recov with sent := s.sec.recov.sent ++ [r], lastSeq := some f.seq.toNat, lastReply := r } } })) ∧
    (f.frameOk = true → f.rsvd = 0 → s.sec.recov.lastSeq ≠ some f.seq.toNat →
      let answered := fun (nak : Option Status) (payload : List Byte) (tr : Option RecoveryTransfer) (t : State) =>
        let r : RecoveryReply := { seq := f.seq.toNat, nak := nak, payload := payload, wire := recovWire f.seq.toNat nak payload }
        t.sec.recov = { sent := s.sec.recov.sent ++ [r], lastSeq := some f.seq.toNat, lastReply := r, transfer := tr }
      let only := fun (t : State) => t = { s with sec := { s.sec with recov := t.sec.recov } }
      (f.len = 0 → Completes (.recovInfo f) s fun t =>
        answered none (serialBytes s.sec.serial ++ s.sec.idkCert ++ i4 s.anchor.gen ++ i4 s.anchor.minVersion ++ s.sec.places) s.sec.recov.transfer t ∧ only t) ∧
      (∀ (target : U8) (man obj : U32), f.len = 12 → Completes (.recovBegin f target man obj) s fun t => only t ∧
        if 5 < target.toNat ∨ man.toNat = 0 ∨ 65536 < man.toNat ∨ recovSpace target.toNat < obj.toNat then answered (some .badArg) [] none t
        else if (target.toNat = 5 ∧ s.sec.anchor.isSome = true) ∨ (target.toNat ≠ 5 ∧ s.sec.anchor = none) then answered (some .stateConflict) [] none t
        else answered none [] (some { target := target.toNat, manLen := man.toNat, objLen := obj.toNat }) t) ∧
      (∀ (offset : U32) (count : U16) m, f.len.toNat = 4 + count.toNat → Completes (.recovData f offset count m) s fun t => only t ∧
        (s.sec.recov.transfer = none → answered (some .stateConflict) [] none t) ∧
        ∀ tr, s.sec.recov.transfer = some tr →
          let b := offset.toNat + count.toNat
          let tr' := { tr with ranges := addRange offset.toNat b tr.ranges }
          if 65536 ≤ offset.toNat ∧ tr.verified = false then answered (some .stateConflict) [] (some tr) t
          else if (offset.toNat < 65536 ∧ tr.manLen < b) ∨ 65536 + tr.objLen < b then answered (some .badArg) [] (some tr) t
          else if tr.verified = true ∨ contiguous tr'.ranges < tr.manLen then answered none [] (some tr') t
          else match s.recovManifest tr.target m with
            | some st => answered (some st) [] none t
            | none => answered none [] (some { tr' with verified := true, man := m }) t) ∧
      (∀ content, f.len = 0 → Completes (.recovCommit f content) s fun t =>
        (s.sec.recov.transfer = none → answered (some .stateConflict) [] none t ∧ only t) ∧
        ∀ tr, s.sec.recov.transfer = some tr →
          (tr.verified = false → answered (some .stateConflict) [] (some tr) t ∧ only t) ∧
          (tr.verified = true → tr.whole = false → answered (some .integrityFail) [] (some tr) t ∧ only t) ∧
          (∀ o, content = .image o → tr.whole = true →
            if tr.target < 4 ∧ ({ o with man := tr.man } : ObjectImage).blocksGood = true ∧ o.imageOk = true then
              answered none [] none t ∧ ∃ x : Slot, x.obj = { o with man := tr.man } ∧ x.state = wordValid ∧
                x.generation = BitVec.ofNat 32 (nextGen (if tr.target < 2 then s.sec.loaders else s.sec.slots)) ∧
                (tr.target < 2 → t.sec.loaders = s.sec.loaders.set tr.target x ∧ t.sec.slots = s.sec.slots) ∧
                (2 ≤ tr.target → t.sec.slots = s.sec.slots.set (tr.target - 2) x ∧ t.sec.loaders = s.sec.loaders)
            else answered (some .integrityFail) [] (some tr) t ∧ only t)))

/-! Input feeds (05) -/

/-- A feed that trips opens, locks out at the fourth trip within 600 s, and takes a lone tray off (R116, R118, R120-R125, R127, R139, R504). -/
def Obligations.feed_trips : Prop :=
  ∀ (s : State) (x : U8), x.toNat < 2 → s.feed.feeds.length = 2 →
    let f := s.feedAt x.toNat
    let y := otherFeed x.toNat
    let tripped := fun (cause : BitVec 8) (t : State) =>
      let g := t.feedAt x.toNat
      g.phase = (if 3 ≤ (f.window s.gt).length then .lockout else .backoff) ∧ g.fastOff = true ∧ g.backoffEnd = s.gt + secs f.breaker.backoffS ∧
      g.trips = satAdd 32 f.trips 1 ∧ g.retryNext = true ∧ g.onReleased = (f.onReleased && cause.getLsbD 1) ∧ t.upd.lastBreaker = some s.gt ∧
      ((s.feedAt y).phase ≠ .on → s.feed.demand = true → s.downEndDue = false → t.thyme.latchFault = true ∧ t.sage.branches &&& 0xDFF#12 = 0 ∧ t.sage.accReset = 0) ∧
      ((s.feedAt y).phase = .on → t.sage = s.sage ∧ t.cool = s.cool ∧ t.sems = s.sems ∧ t.ports = s.ports)
    (f.mayTrip s.gt = true → f.due &&& 12#8 ≠ 0 → Completes (.soaTrip x) s (tripped f.due)) ∧
    (f.phase = .inrush → f.smallDrop < 4 → f.inrushGt + ms f.cfg.inrushMaxMs ≤ s.gt → Completes (.inrushTimeout x) s (tripped (f.due ||| 16))) ∧
    (f.mayTrip s.gt = true → f.due.getLsbD 0 = true → Completes (.feedCurveTrip x) s (tripped f.due)) ∧
    (∀ level : U16,
      (f.armed = true → f.breaker.cmpA * f.cfg.cmpUvPerA / 1000 < level.toNat → f.mayTrip s.gt = true → Completes (.feedComparatorTrip { feed := x, mv := level }) s (tripped (f.due ||| 2))) ∧
      (f.armed = false ∨ level.toNat ≤ f.breaker.cmpA * f.cfg.cmpUvPerA / 1000 → Completes (.feedComparatorTrip { feed := x, mv := level }) s fun t =>
        t = s.onFeed x.toNat fun f => { f with cmpMv := level.toNat }) ∧
      (f.armed = true → f.breaker.cmpA * f.cfg.cmpUvPerA / 1000 < level.toNat → f.phase = .backoff ∨ f.phase = .lockout → Completes (.feedComparatorTrip { feed := x, mv := level }) s fun t =>
        t.feed.feeds = (s.onFeed x.toNat fun f => { f with cmpMv := level.toNat }).feed.feeds ∧ t.without [.feed] = s.without [.feed] ∧
        ∀ p ∈ t.feed.present, p.2.feed = x.toNat → p.2.gtTrip = s.gt → p.2.status = .unresolved ∨ p.2.status = .lockout → p.2.cause.getLsbD 1 = true))

/-- Feed samples, the end of inrush and back-off, loss and return, sharing (R114, R116, R123, R128, R130-R134, R178, R504). -/
def Obligations.feed_events : Prop :=
  ∀ (s : State) (x : U8), x.toNat < 2 → s.feed.feeds.length = 2 →
    let f := s.feedAt x.toNat
    (∀ vin vbus i, Completes (.feedSample x vin vbus i) s fun t =>
      if s.sage.everLocked = true ∧ s.sage.adcFailed.getLsbD x.toNat = false then
        let g := t.feedAt x.toNat
        g.vinMv = voltOf vin.toNat f.cfg.vinFsMv ∧ g.vbusMv = voltOf vbus.toNat f.cfg.vbusFsMv ∧ g.iDa = currOf i.toNat f.cfg.iZero f.cfg.iFsDa ∧
        g.phase = f.phase ∧ g.onReleased = f.onReleased ∧ g.fastOff = f.fastOff ∧ t.feedAt (otherFeed x.toNat) = s.feedAt (otherFeed x.toNat) ∧ t.without [.feed] = s.without [.feed]
      else t = s) ∧
    (f.phase = .inrush → f.due = 0 → 4 ≤ f.smallDrop →
      Completes (.inrushEnd x) s fun t =>
        (t.feedAt x.toNat).phase = .on ∧ (t.feedAt x.toNat).cleanSince = s.gt ∧ t.feed.inputLoss = false ∧ t.without [.feed, .trace, .rec_] = s.without [.feed, .trace, .rec_]) ∧
    (f.phase = .backoff → f.backoffEnd ≤ s.gt →
      Completes (.backoffEnd x) s fun t =>
        (t.feedAt x.toNat).fastOff = false ∧
        (f.inputLost = true → (t.feedAt x.toNat).phase = .lost) ∧
        (f.inputLost = false → (t.feedAt x.toNat).phase = if s.feed.demand = true ∧ f.forced = false ∧ f.forceGt ≠ some s.gt then .inrush else .off)) ∧
    (f.inputLost = false → 16 ≤ f.lossRun → f.due = 0 →
      Completes (.feedLoss x) s fun t => (t.feedAt x.toNat).inputLost = true ∧ (f.live = true ∨ f.phase = .off → (t.feedAt x.toNat).phase = .lost) ∧ (f.live = true → (t.feedAt x.toNat).onReleased = false)) ∧
    (f.live = true → 4 ≤ f.reverseRun → f.due = 0 →
      Completes (.reverseCurrentOpen x) s fun t => (t.feedAt x.toNat).inputLost = true ∧ (t.feedAt x.toNat).phase = .lost ∧ (t.feedAt x.toNat).onReleased = false ∧ (t.feedAt x.toNat).fastOff = true) ∧
    (∀ g, f.inRangeSince = some g → f.inputLost = true → g + ms f.cfg.returnMs ≤ s.gt →
      Completes (.feedReturn x) s fun t => (t.feedAt x.toNat).inputLost = false ∧
        (f.phase = .lost → (t.feedAt x.toNat).fastOff = false) ∧ (f.phase = .backoff ∨ f.phase = .lockout → (t.feedAt x.toNat).phase = f.phase) ∧
        (f.phase = .lost → f.forced = false → f.forceGt ≠ some s.gt → s.feed.demand = true → (t.feedAt x.toNat).phase = .inrush ∧ (t.feedAt x.toNat).onReleased = true)) ∧
    (f.phase = .on → f.cleanSince + secs 60 ≤ s.gt → (∃ p ∈ s.feed.present, p.2.feed = x.toNat ∧ p.2.status = .unresolved) →
      Completes (.tripRecordResolved x) s fun t =>
        (∀ p ∈ t.feed.present, p.2.feed = x.toNat → p.2.status ≠ .unresolved) ∧ t.feed.feeds = s.feed.feeds ∧ t.without [.feed, .rec_, .upd] = s.without [.feed, .rec_, .upd]) ∧
    (s.feed.shareGt + 100 ≤ s.gt →
      let mean := fun k => let g := s.feedAt k; if g.iCount = 0 then tdiv g.iDa 10 else tdiv g.iSum g.iCount
      Completes .shareUpdate s fun t =>
        t.feed.shareGt = s.gt ∧
        t.feed.share = (if s.feed.sharing then max (-512) (min 511 (s.feed.share + tdiv ((mean 0 - mean 1) * s.feed.kShare) 256)) else s.feed.share) ∧
        t.without [.feed, .trace, .rec_] = s.without [.feed, .trace, .rec_]) ∧
    (∀ g, s.feed.imbalanceSince = some g → g + secs 1 ≤ s.gt → s.feed.imbalanceSaid = false →
      Completes (.shareImbalance 0) s fun t => t.feed = { s.feed with imbalanceSaid := true } ∧ t.without [.feed, .rec_, .upd] = s.without [.feed, .rec_, .upd]) ∧
    (∀ g, s.feed.limitSince = some g → g + secs 1 ≤ s.gt → s.feed.limitSaid = false →
      Completes (.shareImbalance 1) s fun t => t.feed = { s.feed with limitSaid := true } ∧ t.without [.feed, .rec_, .upd] = s.without [.feed, .rec_, .upd]) ∧
    (s.feed.inputLoss = true → s.runKind 0 = 2 ∨ s.thyme.emergencyDue.isSome = true → (∀ g ∈ s.feed.feeds, 4 ≤ g.lowBusRun) →
      Completes .lowBusImmediateOff s fun t => t.sage.branches &&& 0xDFF#12 = 0 ∧ t.sage.accReset = 0 ∧ t.thyme.pwrok = 0 ∧ t.thyme.trayPg = false ∧ t.feed.demand = false)

/-- The feed commands (R29, R118, R119, R126, R139, R140, R141). -/
def Obligations.feed_commands : Prop :=
  ∀ (s : State) (h : Hdr), s.feed.feeds.length = 2 →
    Answers (.feedStatus h) h .feedStatus s (fun u r t => t = u ∧
      r = { payload := s.feedEntry 0 ++ s.feedEntry 1 ++ i4 (s.thyme.minOffEnd.elim 0 fun g => (g - s.gt + 999) / 1000) ++ i4 0 }) ∧
    (∀ x : U8, Answers (.breakerCurveRead h x) h (.breakerCurveRead x) s fun u r t => t = u ∧
      let b := (s.feedAt x.toNat).breaker
      let lim := nth s.sage.limits.feeds x.toNat
      r = if 2 ≤ x.toNat then Reply.fail .badArg else
        { payload := i1 0 ++ i2 b.backoffS ++ i2 b.cmpA ++ i2 0 ++ curveBytes b.curve ++ i1 0 ++ curveBytes lim.envelope ++ i2 lim.cmpCeil ++ i2 0 }) ∧
    (∀ (first : U32) (n : U8), Answers (.tripRecordsRead h first n) h (.tripRecordsRead first n) s fun u r t => t = u ∧
      if n = 0 ∨ 15 < n.toNat then r = Reply.fail .badArg
      else r.status = .ok ∧ ∃ l : List TripRecord, l.length ≤ n.toNat ∧ r.payload = (l.map TripRecord.bytes).flatten ∧ ∀ q ∈ l, first.toNat ≤ q.recSeq ∧ ∃ k, (k, q) ∈ s.feed.present) ∧
    (∀ x : U8, Answers (.feedSwitchForceOff h x) h (.feedSwitchForceOff x) s fun u r t =>
      let f := s.feedAt x.toNat
      if 2 ≤ x.toNat then r = Reply.fail .badArg ∧ t = u
      else if (s.feedAt (otherFeed x.toNat)).phase ≠ .on ∧ s.thyme.reported ∈ [TrayState.poweringUp, .on, .maintenance, .poweringDown] then r = Reply.fail .stateConflict ∧ t = u
      else r = {} ∧ (f.phase = .inrush → t.feedAt x.toNat = { f with forceDue := true, forceGt := some s.gt }) ∧
        (f.phase ≠ .inrush → (t.feedAt x.toNat).forced = true ∧ (t.feedAt x.toNat).reported = (if f.phase = .lockout then .lockout else .forcedOff)) ∧
        (f.phase = .on → (t.feedAt x.toNat).phase = .off ∧ (t.feedAt x.toNat).onReleased = false)) ∧
    (∀ x : U8, Answers (.feedSwitchAuto h x) h (.feedSwitchAuto x) s fun u r t =>
      if 2 ≤ x.toNat then r = Reply.fail .badArg ∧ t = u
      else r = {} ∧ (t.feedAt x.toNat).forced = (if (s.feedAt x.toNat).forceGt = some s.gt then (s.feedAt x.toNat).forced else false)) ∧
    (∀ (x : U8) (back cmp : U16) (curve : List CurvePoint),
      Answers (.breakerCurveWrite h x back cmp curve) h (.breakerCurveWrite x back cmp curve) s fun u r t =>
        let lim := nth s.sage.limits.feeds x.toNat
        if 2 ≤ x.toNat ∨ validCurve curve = false ∨ back = 0 ∨ 600 < back.toNat then r = Reply.fail .badArg ∧ t = u
        else if curveWithin curve lim.envelope = false ∨ lim.cmpCeil < cmp.toNat then r = Reply.fail .limitExceeded ∧ t = u
        else r = {} ∧ (t.feedAt x.toNat).breaker = { curve := curve, backoffS := back.toNat, cmpA := cmp.toNat } ∧
          t.feed.stored = s.feed.stored.set x.toNat (some { curve := curve, backoffS := back.toNat, cmpA := cmp.toNat }) ∧ t.without [.feed, .rec_, .sec] = u.without [.feed, .rec_, .sec]) ∧
    (∀ x : U8, Answers (.feedLockoutClear h x) h (.feedLockoutClear x) s fun u r t =>
      if 2 ≤ x.toNat then r = Reply.fail .badArg ∧ t = u
      else if (s.feedAt x.toNat).phase ≠ .lockout then r = Reply.fail .stateConflict ∧ t = u
      else r = {} ∧ (t.feedAt x.toNat).phase = .backoff ∧ (t.feedAt x.toNat).retries = [] ∧
        (t.feedAt x.toNat).backoffEnd = s.gt + secs (s.feedAt x.toNat).breaker.backoffS)

/-! Thyme (06) -/

/-- The steps that move a context on (R143, R151-R154, R161, R165, R175). -/
def Obligations.thyme_flow_steps : Prop :=
  ∀ (s : State) (ctx : U8), s.thyme.ctxs.length = 9 → s.rec_.ports.length = 16 →
    let k := ctx.toNat
    let u := s.firstTick k
    let c := u.ctx k
    let w := u.word k
    let goes := fun (b : State) (n : Nat) (t : State) => t.ctx k = (b.ctx k).goesTo n s.gt ∧ t.without [.thyme, .trace, .rec_, .pair] = b.without [.thyme, .trace, .rec_, .pair]
    let stays := fun (t : State) => t.ctx k = c.stays s.gt ∧ t.without [.thyme, .trace, .rec_] = u.without [.thyme, .trace, .rec_]
    (u.cut k = false →
      (s.mayStart k 3 = true → Completes (.wait ctx) s fun t => if bits w 31 0 ≤ 1 then goes u (c.idx + 1) t else stays t) ∧
      (s.mayStart k 4 = true → Completes (.waitfor ctx) s fun t => if u.cond k = true then goes u (c.idx + 1) t else stays t) ∧
      (s.mayStart k 5 = true → Completes (.check ctx) s fun t =>
        (u.cond k = true → goes u (c.idx + 1) t) ∧ (u.cond k = false → stepTj w = true → goes u (stepTgt w) t) ∧ (u.cond k = false → stepTj w = false → (t.ctx k).abortCause = 3)) ∧
      (s.mayStart k 6 = true → Completes (.jump ctx) s fun t => goes u (if u.cond k = true then stepTgt w else c.idx + 1) t) ∧
      (s.mayStart k 7 = true → Completes (.call ctx) s fun t =>
        t.ctx k = { c.goesTo (u.thyme.set.first (stepIdx w % 32)) s.gt with ret := some (c.idx + 1) } ∧ t.without [.thyme, .trace, .rec_, .pair] = u.without [.thyme, .trace, .rec_, .pair]) ∧
      (s.mayStart k 8 = true → Completes (.mirror ctx) s fun t =>
        t.ctx k = { c.goesTo (c.idx + 1) s.gt with mark := some (stepIdx w, stepTgt w) } ∧ t.without [.thyme, .trace, .rec_, .pair] = u.without [.thyme, .trace, .rec_, .pair]) ∧
      (s.mayStart k 10 = true → Completes (.event ctx) s fun t =>
        t.ctx k = c.goesTo (c.idx + 1) s.gt ∧ (reservedEvent (0x0200 + stepIdx w) = false → Recorded s t .thyme (0x0200 + stepIdx w) (bits w 59 58)) ∧
        t.without [.thyme, .trace, .rec_, .pair, .upd] = u.without [.thyme, .trace, .rec_, .pair, .upd])) ∧
    (s.cut k = false →
      (s.waits k 3 = true → (s.ctx k).stepTick + bits (s.word k) 31 0 ≤ s.gt + 1 → Completes (.waitExpiry ctx) s (goes s ((s.ctx k).idx + 1))) ∧
      (s.waits k 4 = true → s.cond k = true → s.gt ≤ (s.ctx k).stepTick + stepTmo (s.word k) → Completes (.waitforConditionMet ctx) s (goes s ((s.ctx k).idx + 1))) ∧
      (s.waits k 4 = true → s.cond k = false → (s.ctx k).stepTick + stepTmo (s.word k) ≤ s.gt → Completes (.waitforTimeout ctx) s fun t =>
        (stepTj (s.word k) = true → goes s (stepTgt (s.word k)) t) ∧ (stepTj (s.word k) = false → (t.ctx k).abortCause = 2)))

/-- The steps that switch: ENABLE, VSET, PG, LAUNCH (R78, R148-R150, R155, R157, R159, R161, R165, R194, R196, R198). -/
def Obligations.thyme_switch_steps : Prop :=
  ∀ (s : State) (ctx : U8), s.thyme.ctxs.length = 9 → s.sage.rails.length = 192 → s.thyme.accs.length = 8 →
    let k := ctx.toNat
    let u := s.firstTick k
    let c := u.ctx k
    let w := u.word k
    let ts := enableTargets w (instOf k) (u.strideOf k)
    let rails := vsetRails w (instOf k) (u.strideOf k)
    let target := u.pgTarget k
    let launched := indices 8 fun n => bit w (40 + n) && u.eligible (bit w 56) n
    let level := fun (t : State) (e : EnableTarget) => match e with
      | .rail r => (t.rail r).granted
      | .branch b => t.sage.branches.getLsbD b
      | .accReset n => t.sage.accReset.getLsbD n
    let value := fun (e : EnableTarget) =>
      if stepVal w = true ∧ e ∈ u.thyme.offsNow then level u e
      else stepVal w && match e with
        | .accReset n => u.acc n != .off && u.acc n != .fault
        | _ => true
    let written := fun (r : Nat) => .rail r ∈ ts ∧ ¬(stepVal w = true ∧ .rail r ∈ u.thyme.offsNow) ∧ (u.rail r).granted ≠ stepVal w ∧ (u.rail r).map.pmBus ≠ none
    let busOf := fun (r : Nat) => if stepVal w = true then some (12 + (u.rail r).map.avs % 8) else (u.rail r).map.pmBus
    let upOf := fun (v : State) (down : Bool) (n : Nat) => some (if down then v.thyme.set.mirror (nth v.thyme.set.accUp n) else nth v.thyme.set.accUp n)
    let launchable := ∀ n, n < 8 → nth s.thyme.set.accUp n ≠ 255 → s.thyme.set.kind (nth s.thyme.set.accUp n) = 3 ∧ s.thyme.set.kind (s.thyme.set.mirror (nth s.thyme.set.accUp n)) = 4
    let parts := [Part.thyme, .sage, .trace, .rec_, .pair]
    (u.cut k = false →
      (s.mayStart k 1 = true → ts.all (permitted (u.permitOf k)) = true → (stepVal w = true → ts.any u.heldOff = false) →
        Completes (.enable ctx) s fun t =>
          (∀ e ∈ ts, level t e = value e) ∧ (∀ r, .rail r ∉ ts → t.rail r = u.rail r) ∧ (∀ b, .branch b ∉ ts → level t (.branch b) = level u (.branch b)) ∧
          (∀ n, .accReset n ∉ ts → level t (.accReset n) = level u (.accReset n)) ∧ (t.ctx k).held = heldAfter c.held ts (stepVal w) ∧ t.without parts = u.without parts ∧
          ((∀ r, ¬written r) → t.ctx k = { c.goesTo (c.idx + 1) s.gt with held := heldAfter c.held ts (stepVal w) }) ∧
          ((∃ r, written r) → (t.ctx k).inStep = true ∧ ∀ r, r ∈ (t.ctx k).busWait ↔ written r)) ∧
      (s.mayStart k 1 = true → ts.all (permitted (u.permitOf k)) = false → Completes (.enable ctx) s fun t => (t.ctx k).abortCause = 6) ∧
      (s.mayStart k 1 = true → ts.all (permitted (u.permitOf k)) = true → stepVal w = true → ts.any u.heldOff = true → Completes (.enable ctx) s fun t => (t.ctx k).abortCause = 1) ∧
      (s.mayStart k 2 = true → (∀ r ∈ rails, permitted (u.permitOf k) (.rail r) = true) →
        Completes (.vset ctx) s fun t =>
          (∀ r ∈ rails, ∀ b, busOf r = some b → (t.rail r).nominal = some (min (bits w 15 0) (u.railLimit r).vsetMax) ∧ r ∈ (t.ctx k).busWait ∧
            (b < s.sage.buses.length → ∃ x ∈ nth t.sage.buses b, x.rail = r ∧ x.kind = .setpoint (min (bits w 15 0) (u.railLimit r).vsetMax) ∧ x.owner = .thyme k)) ∧
          (∀ r, r ∉ rails → t.rail r = u.rail r) ∧ t.sage = { u.sage with rails := t.sage.rails, buses := t.sage.buses } ∧ t.without parts = u.without parts ∧
          ((∃ r ∈ rails, busOf r ≠ none) → (t.ctx k).inStep = true) ∧ ((∀ r ∈ rails, busOf r = none) → t.ctx k = c.goesTo (c.idx + 1) s.gt)) ∧
      (s.mayStart k 2 = true → (∃ r ∈ rails, permitted (u.permitOf k) (.rail r) = false) → Completes (.vset ctx) s fun t => (t.ctx k).abortCause = 6) ∧
      (s.mayStart k 9 = true → Completes (.pg ctx) s fun t =>
        t.without parts = u.without parts ∧ t.sage = u.sage ∧
        (stepVal w = false → t.pgHigh target = false ∧ t.ctx k = c.goesTo (c.idx + 1) s.gt) ∧
        (stepVal w = true → ((u.pgHigh target = true ∧ c.resumed = true) ∨ u.pgBlocker target = none) → t.pgHigh target = true ∧ t.ctx k = c.goesTo (c.idx + 1) s.gt) ∧
        (stepVal w = true → (u.pgHigh target = false ∨ c.resumed = false) → u.pgBlocker target ≠ none → t.pgHigh target = u.pgHigh target ∧ t.ctx k = c.stays s.gt)) ∧
      (s.mayStart k 11 = true → Completes (.launch ctx) s fun t =>
        (launched = [] → t.ctx k = c.goesTo (c.idx + 1) s.gt) ∧
        (∀ n l, launched = n :: l → (l = [] ∨ 0 < stepTmo w) → (t.ctx (n + 1)).prog = upOf u (bit w 56) n ∧
          (l = [] → t.ctx k = c.goesTo (c.idx + 1) s.gt) ∧
          (l ≠ [] → t.ctx k = { c.stays s.gt with launches := l.mapIdx fun i m => (m, s.gt + (i + 1) * stepTmo w) })) ∧
        (launchable → stepTmo w = 0 → (∀ n ∈ launched, (t.ctx (n + 1)).prog = upOf u (bit w 56) n) ∧ t.ctx k = c.goesTo (c.idx + 1) s.gt))) ∧
    (s.cut k = false → s.waits k 9 = true →
      (s.pgBlocker (s.pgTarget k) = none → s.gt ≤ (s.ctx k).stepTick + stepTmo (s.word k) →
        Completes (.pgAssertQualified ctx) s fun t => t.pgHigh (s.pgTarget k) = true ∧ t.ctx k = (s.ctx k).goesTo ((s.ctx k).idx + 1) s.gt ∧ t.sage = s.sage) ∧
      (s.pgBlocker (s.pgTarget k) ≠ none → (s.ctx k).stepTick + stepTmo (s.word k) ≤ s.gt → Completes (.pgTimeout ctx) s fun t => (t.ctx k).abortCause = 4)) ∧
    (∀ acc : U8, s.waits 0 11 = true → s.cut 0 = false → launchable → (∀ x ∈ (s.ctx 0).launches, x.1 < 8) → (∃ g, (acc.toNat, g) ∈ (s.ctx 0).launches ∧ g ≤ s.gt) →
      Completes (.launchTurn acc) s fun t =>
        (∀ x ∈ (s.ctx 0).launches, x.2 ≤ s.gt → s.eligible (bit (s.word 0) 56) x.1 = true → (t.ctx (x.1 + 1)).prog = upOf s (bit (s.word 0) 56) x.1) ∧
        ((∀ x ∈ (s.ctx 0).launches, x.2 ≤ s.gt) → t.ctx 0 = (s.ctx 0).goesTo ((s.ctx 0).idx + 1) s.gt) ∧
        ((∃ x ∈ (s.ctx 0).launches, s.gt < x.2) → t.ctx 0 = { s.ctx 0 with launches := (s.ctx 0).launches.filter fun x => decide (s.gt < x.2) }))

/-- Programs end and abort (R13, R135, R153, R160, R162, R164, R165, R168, R175). -/
def Obligations.thyme_programs_end : Prop :=
  ∀ (s : State) (ctx : U8), s.thyme.ctxs.length = 9 → s.thyme.accs.length = 8 → s.rec_.ports.length = 16 →
    let k := ctx.toNat
    let u := s.firstTick k
    let c := u.ctx k
    (s.mayStart k 12 = true → u.cut k = false → Completes (.endStep ctx) s fun t =>
      (∀ r, c.ret = some r → t.ctx k = { c.goesTo r s.gt with ret := none } ∧ t.without [.thyme, .trace, .rec_, .pair] = u.without [.thyme, .trace, .rec_, .pair]) ∧
      (c.ret = none →
        (t.ctx k).prog = none ∧ (t.ctx k).inStep = false ∧ Recorded u t .thyme 0x0202 0 ∧
        (u.runKind k = 1 → t.thyme.tray = .on) ∧
        (u.runKind k = 3 → 1 ≤ k → t.acc (k - 1) = if u.acc (k - 1) = .fault then .fault else .on) ∧
        (u.runKind k = 4 → 1 ≤ k → t.acc (k - 1) = if u.acc (k - 1) = .fault ∨ c.after = .toFault then .fault else .off) ∧
        (u.runKind k = 2 → t.feed.demand = false ∧
          (c.after = .normal → t.thyme.tray = .poweringDown ∧ t.thyme.minOffEnd = some (s.gt + ms s.feed.minOffMs)) ∧
          (c.after = .toFault → t.thyme.tray = .standby ∧ t.thyme.latchFault = true ∧ t.thyme.minOffEnd = none)))) ∧
    (s.mayStart k 13 = true → Completes (.abort ctx) s fun t => (t.ctx k).abortCause = 8 ∧ (t.ctx k).abortCode = stepIdx (u.word k)) ∧
    (∀ p, (s.ctx k).prog = some p → k < 9 → s.serves = true → (s.ctx k).starting = none → (s.ctx k).progTick + ms (s.thyme.set.maxMs p) ≤ s.gt →
      Completes (.programTimeExpiry ctx) s fun t => if s.endDue k = true then t = s else (t.ctx k).abortCause = 7) ∧
    (∀ g, s.thyme.minOffEnd = some g → g ≤ s.gt → s.serves = true →
      Completes .minOffTimeEnd s fun t =>
        t.thyme.tray = .standby ∧ t.thyme.minOffEnd = none ∧ (t.ctx 0).pendOn = false ∧ t.without [.thyme, .pair] = s.without [.thyme, .pair] ∧
        t.thyme.requests = if s.thyme.latched = false ∧ ((s.ctx 0).pendOn = true ∨ (s.thyme.autoOn = true ∧ s.thyme.afterInputLoss = true)) then
          s.thyme.requests ++ [(.trayOn, s.gt + 1)] else s.thyme.requests) ∧
    (∀ (acc : U8) (g : Nat), acc.toNat < 8 → s.thyme.accMinOffEnd.length = 8 → nth s.thyme.accMinOffEnd acc.toNat = some g → g ≤ s.gt → s.serves = true →
      Completes (.accMinOffTimeEnd acc) s fun t =>
        nth t.thyme.accMinOffEnd acc.toNat = none ∧ (t.ctx (acc.toNat + 1)).pendOn = false ∧ t.without [.thyme, .pair] = s.without [.thyme, .pair] ∧
        t.thyme.requests = if (s.ctx (acc.toNat + 1)).pendOn = true then s.thyme.requests ++ [(.accOn acc.toNat, s.gt + 1)] else s.thyme.requests)

/-- Power requests: accepted, deferred, answered, and taken one tick later (R78, R137, R142, R160-R162, R168, R170, R172, R175). -/
def Obligations.power_requests : Prop :=
  ∀ (s : State) (h : Hdr) (acc : U8), s.thyme.ctxs.length = 9 → s.thyme.accs.length = 8 → s.thyme.resetAction.length = 8 → s.thyme.accMinOffEnd.length = 8 → s.rec_.ports.length = 16 →
    let n := acc.toNat
    let feedOff := ∃ f ∈ s.feed.feeds, f.reported = .off
    let barred := ∀ f ∈ s.feed.feeds, f.reported = .lockout ∨ f.reported = .forcedOff
    let down := s.thyme.set.mirror s.thyme.set.trayUp
    let accUp := nth s.thyme.set.accUp n
    let busy := fun (c : ThymeCtx) (k : Nat) => c.offTaken = true ∨ c.unwinding = true ∨ s.runKind k = if k = 0 then 2 else 4
    let offIn := fun (t : State) (k : Nat) => if ((s.ctx k).inStep = true ∧ s.waitsFreely k = false) ∨ ((s.ctx k).inStep = false ∧ (s.ctx k).stepTick ≤ s.gt) then
        t.ctx k = { s.ctx k with offTaken := true }
      else (t.ctx k).prog = some (s.thyme.set.mirror ((s.ctx k).prog.getD 0)) ∧ (t.ctx k).starting = some .mirrorOff ∧ (t.ctx k).stepTick = s.gt + 1
    Answers (.trayPowerOn h) h .trayPowerOn s (fun u r t => match s.thyme.reported with
      | .off => r = Reply.fail .stateConflict ∧ t = u
      | .standby => (feedOff → r = { status := .accepted } ∧ t.thyme = { s.thyme with requests := s.thyme.requests ++ [(.trayOn, s.gt + 1)] } ∧ t.without [.thyme, .pair] = u.without [.thyme, .pair]) ∧
        (¬feedOff → barred → r = Reply.fail .stateConflict ∧ t = u) ∧
        (¬feedOff → ¬barred → r = { status := .deferred, detail := s.deferDetail } ∧ t.thyme = { s.thyme with deferredUp := true } ∧ Recorded s t .fp1 0x0206 0 ∧ t.without [.thyme, .rec_, .pair] = u.without [.thyme, .rec_, .pair])
      | .poweringDown => r.status = .deferred ∧ (t.ctx 0).pendOn = true ∧ Recorded s t .fp1 0x0206 0 ∧ t.without [.thyme, .rec_, .pair] = u.without [.thyme, .rec_, .pair]
      | .poweringUp | .on | .maintenance => r = {} ∧ t = u
      | .faultOff | .thermalOff | .leakOff => r = Reply.fail .emergencyActive ∧ t = u) ∧
    Answers (.trayPowerOff h) h .trayPowerOff s (fun u r t =>
      (t.ctx 0).pendOn = false ∧ t.thyme.deferredUp = false ∧ (∀ g, (PowerRequest.trayOn, g) ∉ t.thyme.requests) ∧ t.without [.thyme, .pair] = u.without [.thyme, .pair] ∧
      if s.thyme.reported ∈ [TrayState.poweringUp, .on, .maintenance] ∧ ¬busy (s.ctx 0) 0 ∧ ∀ q ∈ s.thyme.requests, q.1 ≠ .trayOff then
        r = { status := .accepted } ∧ (PowerRequest.trayOff, s.gt + 1) ∈ t.thyme.requests
      else r = {}) ∧
    Answers (.accPowerOn h acc) h (.accPowerOn acc) s (fun u r t =>
      if 7 < n then r = Reply.fail .badArg ∧ t = u
      else if s.trayPowered = false ∨ s.runs 0 = true then r = Reply.fail .stateConflict ∧ t = u
      else match s.acc n with
        | .off => if accUp = 255 then r = Reply.fail .stateConflict ∧ t = u
          else r = { status := .accepted } ∧ (PowerRequest.accOn n, s.gt + 1) ∈ t.thyme.requests ∧ (t.ctx (n + 1)).pendOn = false ∧ t.without [.thyme, .pair] = u.without [.thyme, .pair]
        | .down => r = { status := .deferred } ∧ (t.ctx (n + 1)).pendOn = true ∧ Recorded s t .fp1 0x0206 0 ∧ t.without [.thyme, .rec_, .pair] = u.without [.thyme, .rec_, .pair]
        | .up | .on => r = {} ∧ t = u
        | .fault => r = Reply.fail .stateConflict ∧ t = u) ∧
    Answers (.accPowerOff h acc) h (.accPowerOff acc) s (fun u r t =>
      if 7 < n then r = Reply.fail .badArg ∧ t = u
      else if s.trayPowered = false ∨ s.runs 0 = true then r = Reply.fail .stateConflict ∧ t = u
      else
        t.without [.thyme, .pair] = u.without [.thyme, .pair] ∧ (t.ctx (n + 1)).pendOn = false ∧ nth t.thyme.accMinOffEnd n = none ∧
        if (s.acc n = .up ∨ s.acc n = .on) ∧ ¬busy (s.ctx (n + 1)) (n + 1) ∧ ∀ q ∈ s.thyme.requests, q.1 ≠ .accOff n then
          r = { status := .accepted } ∧ (PowerRequest.accOff n, s.gt + 1) ∈ t.thyme.requests
        else r = {}) ∧
    Answers (.accPowerReset h acc) h (.accPowerReset acc) s (fun u r t =>
      if 7 < n then r = Reply.fail .badArg ∧ t = u
      else if s.acc n ≠ .on then r = Reply.fail .stateConflict ∧ t = u
      else r = { status := .accepted } ∧ t.sage = { s.sage with accReset := s.sage.accReset &&& ~~~(1#8 <<< n) } ∧
        t.thyme = { s.thyme with resetAction := s.thyme.resetAction.set n (some (s.gt + ms 1, h.port.toNat)) } ∧ t.without [.thyme, .sage, .pair] = u.without [.thyme, .sage, .pair]) ∧
    (∀ g p, n < 8 → nth s.thyme.resetAction n = some (g, p) → g ≤ s.gt → Completes (.accResetRelease acc) s fun t =>
      t.thyme = { s.thyme with resetAction := s.thyme.resetAction.set n none } ∧
      (s.acc n ≠ .on → t.without [.thyme] = s.without [.thyme]) ∧
      (s.acc n = .on → t.sage = { s.sage with accReset := s.sage.accReset ||| (1#8 <<< n) } ∧ Recorded s t .fp1 0x020A 0 ∧
        (t.skv n).phase = (if (s.skv n).phase = .unused then .unused else .training) ∧
        (∀ d, d < 64 → d / 8 = n → (nth t.link.dies d).rseq = none ∧ (nth t.ledger.dies d).rseq = none) ∧
        t.upd.plan.step = if s.upd.plan.step = .resetting n then .waiting n (s.gt + secs 2) else s.upd.plan.step)) ∧
    (∀ req, s.serves = true → s.waitsForT req = false → (∃ g, (req, g) ∈ s.thyme.requests ∧ g ≤ s.gt) → s.thyme.emergencyDue = none → Completes (.powerRequestTakeEffect req) s fun t =>
      (req = .trayOn → s.thyme.reported = .standby → s.runs 0 = false →
        (feedOff → (t.ctx 0).prog = some s.thyme.set.trayUp ∧ (t.ctx 0).idx = s.thyme.set.first s.thyme.set.trayUp ∧
          if (s.ctx 0).endTick = some s.gt then (t.ctx 0).stepTick = s.gt + 1 else (t.ctx 0).stepTick = s.gt ∧ (s.thyme.set.kind s.thyme.set.trayUp = 1 → t.thyme.tray = .poweringUp ∧ t.feed.demand = true)) ∧
        (¬feedOff → ¬barred → (t.ctx 0).prog = none ∧ t.thyme.deferredUp = true ∧ Recorded s t .fp1 0x0206 0)) ∧
      (req = .trayOff →
        (s.thyme.reported = .poweringUp → s.runKind 0 = 1 → (s.ctx 0).unwinding = false → (s.ctx 0).offTaken = false → offIn t 0) ∧
        (s.trayPowered = true → s.runs 0 = false → (t.ctx 0).prog = some down ∧ (t.ctx 0).idx = s.thyme.set.first down ∧
          if (s.ctx 0).endTick = some s.gt then (t.ctx 0).stepTick = s.gt + 1 else (t.ctx 0).stepTick = s.gt ∧ (s.thyme.set.kind down = 2 → t.thyme.tray = .poweringDown))) ∧
      (req = .accOn n → n < 8 → s.trayPowered = true → s.runs (n + 1) = false → s.acc n = .off → s.runs 0 = false → accUp ≠ 255 →
        (t.ctx (n + 1)).prog = some accUp ∧ (t.ctx (n + 1)).idx = s.thyme.set.first accUp ∧ ((s.ctx (n + 1)).endTick ≠ some s.gt → s.thyme.set.kind accUp = 3 → t.acc n = .up)) ∧
      (req = .accOff n → n < 8 →
        (s.runKind (n + 1) = 3 → (s.ctx (n + 1)).unwinding = false → (s.ctx (n + 1)).offTaken = false → offIn t (n + 1)) ∧
        (s.trayPowered = true → s.runs (n + 1) = false → s.acc n = .on → accUp ≠ 255 →
          (t.ctx (n + 1)).prog = some (s.thyme.set.mirror accUp) ∧ ((s.ctx (n + 1)).endTick ≠ some s.gt → s.thyme.set.kind (s.thyme.set.mirror accUp) = 4 → t.acc n = .down))))

/-- The other sequencer commands (R158, R164, R169, R171-R175, R201). -/
def Obligations.sequencer_commands : Prop :=
  ∀ (s : State) (h : Hdr), s.thyme.ctxs.length = 9 → s.thyme.accs.length = 8 → s.sage.rails.length = 192 → s.rec_.ports.length = 16 →
    Answers (.seqStatus h) h .seqStatus s (fun u r t => t = u ∧ r.payload.length = 148 ∧
      r = { payload := i1 s.thyme.reported.code ++ ib s.thyme.autoOn ++ ib ((s.ctx 0).pendOn || s.thyme.deferredUp) ++ i1 0 ++ ((List.range 9).map s.ctxEntry).flatten }) ∧
    Answers (.seqProgramLoadBegin h) h .seqProgramLoadBegin s (fun u r t => r = {} ∧ t = { u with thyme := { s.thyme with staging := some [] } }) ∧
    (∀ (o : U32) (d : List Byte), Answers (.seqProgramLoadData h o d) h (.seqProgramLoadData o d) s fun u r t =>
      if 33280 < o.toNat + d.length then r = Reply.fail .badArg ∧ t = u
      else match s.thyme.staging with
        | none => r = Reply.fail .stateConflict ∧ t = u
        | some m => r = {} ∧ t = { u with thyme := { s.thyme with staging := some (m.writeBytes o.toNat d) } }) ∧
    Answers (.seqProgramLoadCommit h) h .seqProgramLoadCommit s (fun u r t =>
      match s.thyme.staging with
      | none => r = Reply.fail .stateConflict ∧ t = u
      | some m =>
        (imageRsvdZero m = false → r = { status := .badArg, detail := 0xFFFF } ∧ t = u) ∧
        (imageRsvdZero m = true → ∀ d, (ProgramSet.ofImage m).badDetail s.railMaps s.feed.minOffMs = some d → r = { status := .badArg, detail := d } ∧ t = u) ∧
        (imageRsvdZero m = true → (ProgramSet.ofImage m).badDetail s.railMaps s.feed.minOffMs = none →
          if s.allIdle = false then r = Reply.fail .stateConflict ∧ t = u
          else match (ProgramSet.ofImage m).limitDetail s.sage.limits with
            | some d => r = { status := .limitExceeded, detail := d } ∧ t = u
            | none => r = {} ∧ t.thyme = { s.thyme with set := .ofImage m, loaded := true, staging := none } ∧ Recorded s t .fp1 0x0205 0 ∧
              t.without [.thyme, .rec_, .pair] = u.without [.thyme, .rec_, .pair])) ∧
    (∀ p : U8, Answers (.seqStart h p) h (.seqStart p) s fun u r t =>
      if 32 ≤ p.toNat ∨ s.thyme.set.kind p.toNat ≠ 6 then r = Reply.fail .badArg ∧ t = u
      else if (s.thyme.reported ≠ .standby ∧ s.thyme.reported ≠ .maintenance) ∨ s.allIdle = false ∨ s.thyme.emergencyDue ≠ none then r = Reply.fail .stateConflict ∧ t = u
      else r = { status := .accepted } ∧ (t.ctx 0).prog = some p.toNat ∧ (t.ctx 0).idx = s.thyme.set.first p.toNat ∧ (t.ctx 0).stepTick = s.gt + 1 ∧
        t.without [.thyme, .pair] = u.without [.thyme, .pair]) ∧
    Answers (.trayFaultClear h) h .trayFaultClear s (fun u r t =>
      if s.thyme.latchFault = false then r = {} ∧ t = u
      else if s.allIdle = false ∨ (∃ x ∈ s.sage.rails, x.used = true ∧ x.running = true) ∨ ∀ f ∈ s.feed.feeds, f.reported ≠ .on ∧ f.reported ≠ .off then r = Reply.fail .stateConflict ∧ t = u
      else r = {} ∧ t.thyme = { s.thyme with latchFault := false } ∧ t.sage = { s.sage with holdFault := false } ∧ Recorded s t .fp1 0x0207 0 ∧
        (s.thyme.latchThermal = false → s.thyme.latchLeak = false → s.thyme.minOffEnd = none → t.feed.demand = false) ∧
        t.without [.thyme, .sage, .feed, .rec_, .pair] = u.without [.thyme, .sage, .feed, .rec_, .pair]) ∧
    (∀ acc : U8, Answers (.accFaultClear h acc) h (.accFaultClear acc) s fun u r t =>
      if 7 < acc.toNat then r = Reply.fail .badArg ∧ t = u
      else if s.acc acc.toNat ≠ .fault then r = {} ∧ t = u
      else if (∃ x ∈ s.sage.rails, x.used = true ∧ x.map.branch = acc.toNat ∧ x.running = true) ∨ s.pins.tripLow.getLsbD acc.toNat = true then r = Reply.fail .stateConflict ∧ t = u
      else r = {} ∧ t.thyme = { s.thyme with accs := s.thyme.accs.set acc.toNat .off } ∧
        t.sage = { s.sage with accReset := s.sage.accReset &&& ~~~(1#8 <<< acc.toNat), holdBranch := s.sage.holdBranch &&& ~~~(1#8 <<< acc.toNat) } ∧ Recorded s t .fp1 0x0208 0 ∧
        t.without [.thyme, .sage, .rec_, .pair] = u.without [.thyme, .sage, .rec_, .pair]) ∧
    (∀ p : U8, Answers (.restartPolicySet h p) h (.restartPolicySet p) s fun u r t =>
      if 1 < p.toNat then r = Reply.fail .badArg ∧ t = u
      else r = {} ∧ t.thyme = { s.thyme with autoOn := p == 1 } ∧ t.without [.thyme, .pair, .sec] = u.without [.thyme, .pair, .sec]) ∧
    Answers (.modeSetOn h) h .modeSetOn s (fun u r t =>
      if s.trayPowered = false then r = Reply.fail .stateConflict ∧ t = u
      else t.thyme = { s.thyme with tray := .on } ∧ (∀ x ∈ t.sage.rails, x.margin = 0) ∧ t.without [.thyme, .sage, .pair] = u.without [.thyme, .sage, .pair] ∧
        (∀ c b, (s.rail c).margin ≠ 0 → (s.rail c).map.setBus = some b → b < s.sage.buses.length →
          ∃ x ∈ nth t.sage.buses b, x.rail = c ∧ x.kind = .setpoint (min ((s.rail c).nominal.getD 0) (s.railLimit c).vsetMax) ∧ x.owner = .margin) ∧
        if t.marginWaits = true then r = { forwarded := true } ∧ ∃ se, (u.port h.port.toNat).session = some se ∧
          t.sage.restores = s.sage.restores ++ [{ port := h.port.toNat, session := se.id, reqId := h.reqId }]
        else r = {} ∧ t.sage.restores = s.sage.restores) ∧
    Answers (.modeSetMaintenance h) h .modeSetMaintenance s (fun u r t =>
      if s.trayPowered = true then r = {} ∧ t.thyme = { s.thyme with tray := .maintenance } ∧ t.without [.thyme, .pair] = u.without [.thyme, .pair] else r = Reply.fail .stateConflict ∧ t = u)

/-! Rail supervision (07) -/

/-- Monitor samples feed the filters of their rails (R178-R180, R187-R189, R191, R192). -/
def Obligations.monitor_samples : Prop :=
  ∀ (s : State), s.sage.rails.length = 192 → s.thyme.accs.length = 8 → s.rec_.ports.length = 16 → s.feed.feeds.length = 2 →
    let out := fun (cond : Bool) (n : Nat) => if cond then min 255 (n + 1) else 0
    let confirms := fun (r : Rail) (k : ConfirmKind) (cond : Bool) (n c : Nat) => cond = true ∧ ((min 255 (c + 1) = n ∧ c ≠ n) ∨ k ∈ r.rearmed)
    (∀ (adc pos : U8) (code : BitVec 12) (c : Nat), adc.toNat < 8 → pos.toNat < 16 →
      (s.sage.everLocked = false ∨ s.sage.adcFailed.getLsbD adc.toNat = true → Completes (.monitorSample adc pos code) s fun t => t = s) ∧
      (s.sage.everLocked = true → s.sage.adcFailed.getLsbD adc.toNat = false → c < 192 → (s.rail c).used = true → (s.rail c).map.iSrc ≠ (s.rail c).map.vSrc →
        ((s.rail c).map.vSrc = 16 * adc.toNat + pos.toNat → Completes (.monitorSample adc pos code) s fun t =>
          let r := s.rail c
          let v := voltOf code.toNat r.map.vFsMv
          let armed := r.uvArmed || (r.granted && decide (r.lev.uvWarn ≤ v))
          (t.rail c).vMv = v ∧ (t.rail c).granted = r.granted ∧ (t.rail c).uvArmed = armed ∧
          (t.rail c).ovF = out (decide (r.lev.ovFault < v)) r.ovF ∧ (t.rail c).ovW = out (decide (r.lev.ovWarn < v)) r.ovW ∧
          (t.rail c).uvF = out (armed && decide (v < r.lev.uvFault)) r.uvF ∧ (t.rail c).uvW = out (armed && decide (v < r.lev.uvWarn)) r.uvW ∧
          (∀ x ∈ [(ConfirmKind.ovFault, decide (r.lev.ovFault < v), r.lev.ovN, r.ovF), (.ovWarn, decide (r.lev.ovWarn < v), r.lev.ovN, r.ovW),
              (.uvFault, armed && decide (v < r.lev.uvFault), r.lev.uvN, r.uvF), (.uvWarn, armed && decide (v < r.lev.uvWarn), min 255 (2 * r.lev.uvN), r.uvW)],
            x.1 ∈ (t.rail c).due ↔ x.1 ∈ r.due ∨ confirms r x.1 x.2.1 x.2.2.1 x.2.2.2) ∧
          t.without [.sage, .trace, .rec_] = s.without [.sage, .trace, .rec_]) ∧
        ((s.rail c).map.iSrc = 16 * adc.toNat + pos.toNat → Completes (.monitorSample adc pos code) s fun t =>
          let r := s.rail c
          let i := currOf code.toNat r.map.iZero r.map.iFsDa
          (t.rail c).iDa = i ∧ (t.rail c).granted = r.granted ∧ (t.rail c).ocF = out (decide ((r.lev.ocFault : Int) < i)) r.ocF ∧ (t.rail c).ocW = out (decide ((r.lev.ocWarn : Int) < i)) r.ocW ∧
          (ConfirmKind.ocFault ∈ (t.rail c).due ↔ .ocFault ∈ r.due ∨ confirms r .ocFault (decide ((r.lev.ocFault : Int) < i)) r.lev.ocN r.ocF) ∧
          (ConfirmKind.ocWarn ∈ (t.rail c).due ↔ .ocWarn ∈ r.due ∨ confirms r .ocWarn (decide ((r.lev.ocWarn : Int) < i)) r.lev.ocwN r.ocW) ∧
          t.without [.sage, .trace, .rec_] = s.without [.sage, .trace, .rec_]))) ∧
    (∀ (c : U8) (pg : Bool), c.toNat < 192 → (s.rail c.toNat).used = true → (s.rail c.toNat).map.pgSrc ≠ 255 →
      Completes (.railPgSample c pg) s fun t =>
        let r := s.rail c.toNat
        (t.rail c.toNat).pg = pg ∧ (t.rail c.toNat).pgArmed = (r.pgArmed || (r.uvArmed && pg)) ∧ (t.rail c.toNat).pgF = out (r.pgArmed && !pg) r.pgF ∧
        (ConfirmKind.pgLoss ∈ (t.rail c.toNat).due ↔ .pgLoss ∈ r.due ∨ confirms r .pgLoss (r.pgArmed && !pg) r.lev.pgN r.pgF) ∧
        (∀ d, d ≠ c.toNat → t.rail d = s.rail d) ∧ t.without [.sage] = s.without [.sage]) ∧
    (∀ adc : U8, adc.toNat < 8 → s.sage.everLocked = true → s.sage.adcFailed.getLsbD adc.toNat = false →
      Completes (.converterFailure adc) s fun t =>
        t.sage.adcFailed.getLsbD adc.toNat = true ∧ (∃ sev, Recorded s t .monitor 0x010A sev) ∧ (adc.toNat < 2 → (t.feedAt adc.toNat).inputLost = true) ∧
        ∀ c n, c < 192 → (s.rail c).used = true → ((s.rail c).map.vSrc < 128 ∧ (s.rail c).map.vSrc / 16 = adc.toNat) ∨ ((s.rail c).map.iSrc < 128 ∧ (s.rail c).map.iSrc / 16 = adc.toNat) →
          (s.rail c).faultScope = some n → t.faultOff n)

/-- What a confirmed warning and a confirmed fault do (R190). -/
def Obligations.confirmed_warning_and_fault : Prop :=
  ∀ (s : State) (c : U8) (k : ConfirmKind), s.sage.rails.length = 192 → s.rec_.ports.length = 16 → s.thyme.accs.length = 8 → c.toNat < 192 → k ∈ (s.rail c.toNat).due →
    (k.warning = true → Completes (.warningConfirm c k) s fun t =>
      (t.rail c.toNat).cWarn = satAdd 32 (s.rail c.toNat).cWarn 1 ∧ Recorded s t .sage 0x0103 1 ∧
      (∃ due last held gt incs, t.rail c.toNat = { s.rail c.toNat with cWarn := satAdd 32 (s.rail c.toNat).cWarn 1, due := due, last := last, warnHeld := held, incGt := gt, incs := incs }) ∧
      (∀ d, d ≠ c.toNat → t.rail d = s.rail d) ∧ t.sage = { s.sage with rails := t.sage.rails } ∧ t.without [.sage, .rec_, .trace] = s.without [.sage, .rec_, .trace]) ∧
    (∀ i ∈ [Instr.faultConfirm c k] ++ (if k = .busLost then [Instr.busLost c] else []), k.isFault = true → Completes i s fun t =>
      (k = .ocFault → (t.rail c.toNat).cOc = satAdd 32 (s.rail c.toNat).cOc 1 ∧ (t.rail c.toNat).cFault = (s.rail c.toNat).cFault) ∧
      (k ≠ .ocFault → (t.rail c.toNat).cFault = satAdd 32 (s.rail c.toNat).cFault 1 ∧ (t.rail c.toNat).cOc = (s.rail c.toNat).cOc) ∧
      (∃ sev, Recorded s t .sage 0x0104 sev) ∧ ∀ n, (s.rail c.toNat).faultScope = some n → t.faultOff n)

/-- Polls, bus writes, readback, THERMTRIP and the end of an immediate-off (R149, R181-R183, R189, R192, R203, R206, R264, R271, R505; the order of polled values is the model's own, log entry 57). -/
def Obligations.buses_and_readback : Prop :=
  ∀ (s : State), s.sage.rails.length = 192 → s.sage.buses.length = 20 → s.sage.polls.length = 12 → s.rec_.ports.length = 16 → s.thyme.accs.length = 8 → s.thyme.ctxs.length = 9 →
    (∀ (b : U8) (xs : List (Option PollReply)) (hubs : List (U16 × Int)), b.toNat < 12 →
      ((∃ w ∈ nth s.sage.buses b.toNat, w.started ≠ none) ∨ (∃ x ∈ s.sage.groups, x.bus = b.toNat) → Completes (.pollRound b xs hubs) s fun t => t = s) ∧
      ((∀ w ∈ nth s.sage.buses b.toNat, w.started = none) → (∀ x ∈ s.sage.groups, x.bus ≠ b.toNat) →
        (∀ w, (nth s.sage.buses b.toNat).find? s.mayBegin = some w → Completes (.pollRound b xs hubs) s fun t =>
          t = { s with sage := { s.sage with buses := s.sage.buses.set b.toNat ({ w with started := some s.gt } :: (nth s.sage.buses b.toNat).erase w) } }) ∧
        ((nth s.sage.buses b.toNat).find? s.mayBegin = none →
          (∀ i v, Completes (.pollRound b [] [(i, v)]) s fun t => t = s.reading i.toNat v) ∧
          ∀ c p, s.pollNext b.toNat = some (c, p) → c < 192 →
            Completes (.pollRound b [none] []) s (fun t =>
              t.sage.polls = s.sage.polls.set b.toNat (pollAfter (c, p)) ∧ t.without [.sage, .rec_] = s.without [.sage, .rec_] ∧
              ((s.rail c).pollFails < 2 → t.rail c = { s.rail c with pollFails := (s.rail c).pollFails + 1 }) ∧
              (2 ≤ (s.rail c).pollFails → (t.rail c).pollFails = 0 ∧
                ((s.rail c).granted = true → ConfirmKind.busLost ∈ (t.rail c).due) ∧ ((s.rail c).granted = false → (t.rail c).due = (s.rail c).due ∧ Recorded s t .sage 0x0109 2))) ∧
            ∀ x, Completes (.pollRound b [some x] []) s fun t =>
              t.sage.polls = s.sage.polls.set b.toNat (pollAfter (c, p)) ∧ (t.rail c).pollFails = 0 ∧ t.without [.sage, .rec_, .trace] = s.without [.sage, .rec_, .trace] ∧
              (p = .mode → (t.rail c).voutMode = some (x.word.truncate 8) ∧ ((x.word.truncate 8 : BitVec 8) >>> 5 ≠ 0 → Recorded s t .sage 0x0109 2)) ∧
              (p = .vout → (s.rail c).linear16 = true → t.rail c = ({ s.rail c with pollFails := 0 }).volt (linear16Mv (s.rail c).voutExp x.word)) ∧
              (p = .iout → t.rail c = ({ s.rail c with pollFails := 0 }).curr (linear11Da x.word)) ∧
              (p = .status → ((s.rail c).map.pgSrc = 255 → (t.rail c).pg = x.pg) ∧ (x.ov = true → ConfirmKind.ovFault ∈ (t.rail c).due) ∧
                (x.uv = true → (s.rail c).uvArmed = true → ConfirmKind.uvFault ∈ (t.rail c).due) ∧ (x.oc = true → ConfirmKind.ocFault ∈ (t.rail c).due) ∧
                (x.ov = true ∨ x.oc = true → ∃ w ∈ nth t.sage.buses b.toNat, w.rail = c ∧ w.kind = .clearFaults))))) ∧
    (∀ (b : U8) (w : BusWrite) (rest : List BusWrite) (g : Nat), b.toNat < 20 → (∀ x ∈ s.sage.groups, x.bus ≠ b.toNat) → nth s.sage.buses b.toNat = w :: rest → w.started = some g →
      Completes (.busWriteAck b true) s (fun t =>
        (∀ mv, w.kind = .setpoint mv → w.rail < 192 → (w.owner = .margin ∨ w.owner = .sage ∨ w.owner = .pstate) → (t.rail w.rail).outMv = mv) ∧
        (w.owner = .margin ∨ w.owner = .sage → (nth t.sage.buses b.toNat).length = rest.length) ∧
        (∀ k, w.owner = .thyme k → k < 9 → (s.ctx k).inStep = true → (s.ctx k).busWait = [w.rail] → s.cut k = false → t.ctx k = (s.ctx k).goesTo ((s.ctx k).idx + 1) s.gt)) ∧
      (w.refused < 2 → Completes (.busWriteAck b false) s fun t =>
        t = { s with sage := { s.sage with buses := s.sage.buses.set b.toNat ({ w with refused := w.refused + 1, started := if 12 ≤ b.toNat then some s.gt else none } :: rest) } }) ∧
      (∀ c ∈ (if 2 ≤ w.refused then [Instr.busWriteAck b false] else []) ++ (if g + ms 1 ≤ s.gt then [.busWriteTimeout b] else []), Completes c s fun t =>
        (w.owner = .margin ∨ w.owner = .sage → (nth t.sage.buses b.toNat).length = rest.length ∧ Recorded s t .sage 0x0109 2 ∧ t.without [.sage, .rec_] = s.without [.sage, .rec_]) ∧
        (w.owner = .pstate → Recorded s t .sage 0x0109 2 ∧ ∃ x ∈ nth t.sage.buses b.toNat, x.rail = w.rail ∧ x.owner = .pstate) ∧
        (∀ k, w.owner = .thyme k → k < 9 → s.runs k = true → (s.ctx k).inStep = true → w.rail ∈ (s.ctx k).busWait → (t.ctx k).abortCause = 5)) ∧
      (s.gt < g + ms 1 → Completes (.busWriteTimeout b) s fun t => t = s)) ∧
    (∀ (b : U8) (good : Bool) (x : GroupOff), s.sage.groups.find? (fun y => y.bus == b.toNat) = some x → (∀ k, (s.ctx k).inStep = false) → Completes (.busWriteAck b good) s fun t =>
      t.sage = { s.sage with groups := s.sage.groups.erase x } ∧ (good = false → Recorded s t .sage 0x0109 2) ∧ t.without [.sage, .rec_, .trace] = s.without [.sage, .rec_, .trace]) ∧
    (∀ (scope : U8) (o : OffRun), s.sage.offs.find? (fun y => y.scope == scope.toNat) = some o →
      Completes (.immediateOffComplete scope) s fun t =>
        if o.low = true ∧ ∀ x ∈ s.sage.groups, x.scope ≠ scope.toNat then t.sage = { s.sage with offs := s.sage.offs.filter fun y => y ≠ o } ∧ Recorded s t .sage 0x0105 0 ∧ t.without [.sage, .rec_] = s.without [.sage, .rec_]
        else t = s) ∧
    (∀ net : U8, s.netUsed net.toNat = true → (∀ d ∈ s.sage.disagreements, d.net ≠ net.toNat) →
      (s.pulls.getLsbD net.toNat = false → Completes (.readbackDisagreement net false) s fun t =>
        ({ net := net.toNat, level := false } : Disagreement) ∈ t.sage.disagreements ∧ Recorded s t .sage 0x010B (if s.pair.alive then 1 else 2) ∧
        (s.pair.role ≠ .standby → t.sage.rails = s.sage.rails ∧ t.without [.sage, .rec_, .trace] = s.without [.sage, .rec_, .trace])) ∧
      (s.pulls.getLsbD net.toNat = true → Completes (.readbackDisagreement net true) s fun t =>
        Recorded s t .sage 0x010B 3 ∧ ({ net := net.toNat, level := true } : Disagreement) ∈ t.sage.disagreements ∧
        (∀ c n, net.toNat < 64 → s.railOfIndex net.toNat = some c → (s.rail c).faultScope = some n → t.faultOff n) ∧
        (64 ≤ net.toNat → net.toNat < 76 → t.faultOff 15) ∧ (93 ≤ net.toNat → t.faultOff 15))) ∧
    (∀ (net : U8) (d : Disagreement), s.sage.disagreements.find? (fun x => x.net == net.toNat) = some d →
      Completes (.readbackAgreement net) s fun t => t.sage = { s.sage with disagreements := s.sage.disagreements.filter fun x => x ≠ d } ∧ Recorded s t .sage 0x010B 0 ∧
        t.without [.sage, .rec_, .trace] = s.without [.sage, .rec_, .trace]) ∧
    (∀ acc : U8, acc.toNat < 8 → Completes (.accThermtrip acc) s fun t =>
      if nth s.thyme.set.accUp acc.toNat = 255 then t = s else t.faultOff acc.toNat ∧ t.pins.tripLow.getLsbD acc.toNat = true ∧ Recorded s t .sage 0x0606 3)

/-- The rail commands (R179, R186, R187, R195, R198-R200, R204, R205). -/
def Obligations.rail_commands : Prop :=
  ∀ (s : State) (h : Hdr) (first n : U8), s.sage.rails.length = 192 → s.rec_.ports.length = 16 →
    let range := fun (limit : Nat) => n ≠ 0 ∧ n.toNat ≤ limit ∧ first.toNat + n.toNat ≤ 192
    (∀ m ∈ [(Instr.railStatus h first n, Body.railStatus first n, s.railStatus), (.railCountersRead h first n, .railCountersRead first n, fun c => let r := s.rail c
        if r.used = true then i4 r.cWarn ++ i4 r.cFault ++ i4 r.cOc ++ i4 r.cMargin ++ i4 r.cPg else zeros 20), (.railMapRead h first n, .railMapRead first n, fun c => (s.rail c).map.bytes)],
      Answers m.1 h m.2.1 s fun u r t => t = u ∧
        ((range 64) → r = { payload := ((List.range n.toNat).map fun i => m.2.2 (i + first.toNat)).flatten }) ∧ (¬(range 64) → r = Reply.fail .badArg)) ∧
    (∀ (o : U32) (l : U16), Answers (.limitsRead h o l) h (.limitsRead o l) s fun u r t => t = u ∧ ∃ se, (u.port h.port.toNat).session = some se ∧
      r = if 4608 < o.toNat + l.toNat then Reply.fail .badArg
        else { payload := ib s.sage.locked ++ ib s.sage.lockWarm ++ i2 0 ++ digestBytes (Config.sha384 s.sage.limits.bytes) ++ (s.sage.limits.bytes.drop o.toNat).take (min l.toNat (se.largest - 52)) }) ∧
    (∀ levels : List RailLevels, Answers (.railLevelsSet h first n levels) h (.railLevelsSet first n levels) s fun u r t =>
      (¬(range 32) ∨ levels.length ≠ n.toNat → r = Reply.fail .badArg ∧ t = u) ∧
      ((range 32) → levels.length = n.toNat →
        if ∃ i, i < n.toNat ∧ (s.rail (first.toNat + i)).used = true ∧ (levels[i]?.map RailLevels.valid) = some false then r = Reply.fail .badArg ∧ t = u
        else if ∃ i, i < n.toNat ∧ (s.rail (first.toNat + i)).used = true ∧ (levels[i]?.map fun l => l.within (s.railLimit (first.toNat + i))) = some false then r = Reply.fail .limitExceeded ∧ t = u
        else r = {} ∧ Recorded s t .sage 0x0108 0 ∧ t.without [.sage, .rec_] = u.without [.sage, .rec_] ∧
          (∀ i l, i < n.toNat → levels[i]? = some l → t.rail (first.toNat + i) = if (s.rail (first.toNat + i)).used = true then { s.rail (first.toNat + i) with lev := l, rearmed := (t.rail (first.toNat + i)).rearmed } else s.rail (first.toNat + i)) ∧
          (∀ c, c < first.toNat ∨ first.toNat + n.toNat ≤ c → t.rail c = s.rail c))) ∧
    Answers (.railCountersClear h first n) h (.railCountersClear first n) s (fun u r t =>
      (¬(range 192) → r = Reply.fail .badArg ∧ t = u) ∧
      ((range 192) → r = {} ∧ Recorded s t .sage 0x0107 0 ∧ t.without [.sage, .rec_] = u.without [.sage, .rec_] ∧
        (∀ c, first.toNat ≤ c → c < first.toNat + n.toNat →
          let kept := fun k => if (s.rail c).incGt = s.gt then (s.rail c).incs.count k else 0
          t.rail c = { s.rail c with cWarn := kept 0, cFault := kept 1, cOc := kept 2, cMargin := kept 3, cPg := kept 4 }) ∧
        (∀ c, c < first.toNat ∨ first.toNat + n.toNat ≤ c → t.rail c = s.rail c))) ∧
    (∀ (c steps : U8) (device : Option U16), Answers (.marginSet h c steps device) h (.marginSet c steps device) s fun u r t =>
      let rail := s.rail c.toNat
      let known : Option Nat := match rail.nominal with
        | some v => some v
        | none => device.bind fun w => if rail.map.avsSet = true then some w.toNat else if rail.linear16 = true then some (linear16Mv rail.voutExp w) else none
      let v : Nat := known.getD 0
      let out := ((v : Int) * (400 + steps.toInt) + 200).toNat / 400
      if 192 ≤ c.toNat ∨ 20 < steps.toInt.natAbs then r = Reply.fail .badArg ∧ t = u
      else if s.thyme.reported ≠ .maintenance ∨ rail.used = false ∨ rail.map.setBus = none ∨ s.owned c.toNat = true ∨ known = none then r = Reply.fail .stateConflict ∧ t = u
      else if (s.railLimit c.toNat).marginSpan < steps.toInt.natAbs ∨ (s.railLimit c.toNat).vsetMax < out then r = Reply.fail .limitExceeded ∧ t = u
      else r = { payload := i2 v ++ i2 out } ∧ (t.rail c.toNat).margin = steps.toInt ∧ (t.rail c.toNat).nominal = some v ∧
        (t.rail c.toNat).cMargin = satAdd 32 rail.cMargin 1 ∧ Recorded s t .sage 0x0106 0 ∧
        (∀ b, rail.map.setBus = some b → b < s.sage.buses.length → ∃ x ∈ nth t.sage.buses b, x.rail = c.toNat ∧ x.kind = .setpoint out ∧ x.owner = .margin) ∧
        (∀ d, d ≠ c.toNat → t.rail d = s.rail d) ∧ t.without [.sage, .rec_, .pair] = u.without [.sage, .rec_, .pair])

/-! Operating point and capping (08) -/

/-- The P-state table, the preferred points, the caps and OPPOINT_STATUS (R209, R211, R212, R227-R229). -/
def Obligations.operating_point_commands : Prop :=
  ∀ (s : State) (h : Hdr), s.rec_.ports.length = 16 →
    Answers (.pstateTableLoadBegin h) h .pstateTableLoadBegin s (fun u r t => r = {} ∧ t = { u with op := { u.op with staging := some [] } }) ∧
    (∀ (o : U32) (data : List Byte), Answers (.pstateTableLoadData h o data) h (.pstateTableLoadData o data) s fun u r t =>
      if 4496 < o.toNat + data.length then r = Reply.fail .badArg ∧ t = u
      else match s.op.staging with
        | none => r = Reply.fail .stateConflict ∧ t = u
        | some m => r = {} ∧ t = { u with op := { u.op with staging := some (m.writeBytes o.toNat data) } }) ∧
    Answers (.pstateTableLoadCommit h) h .pstateTableLoadCommit s (fun u r t => match s.op.staging with
      | none => r = Reply.fail .stateConflict ∧ t = u
      | some m =>
        let table := PTable.ofImage m
        let bad := tableFormOffsets m ++ table.badOffsets s.railMaps s.thyme.set.accUp
        (∀ d, leastOf bad = some d → r = { status := .badArg, detail := d } ∧ t = u) ∧
        (bad = [] → (s.thyme.reported ≠ .standby ∧ s.thyme.reported ≠ .maintenance) ∨ s.op.armed ≠ [] → r = Reply.fail .stateConflict ∧ t = u) ∧
        (bad = [] → s.thyme.reported = .standby ∨ s.thyme.reported = .maintenance → s.op.armed = [] →
          (∀ d, leastOf (table.overOffsets s.sage.limits) = some d → r = { status := .limitExceeded, detail := d } ∧ t = u) ∧
          (table.overOffsets s.sage.limits = [] → r = {} ∧ t.op.table = table ∧ t.op.staging = none ∧ Recorded s t .fp1 0x0404 0 ∧ t.thyme = s.thyme ∧
            (s.thyme.reported = .standby → t.op = { s.op with table := table, staging := none } ∧ t.without [.op, .rec_] = u.without [.op, .rec_])))) ∧
    (∀ (first : U8) (count : U16) (points : List U8), Answers (.prefPointSet h first count points) h (.prefPointSet first count points) s fun u r t =>
      if count = 0 ∨ 256 < first.toNat + count.toNat ∨ points.length ≠ count.toNat ∨ (∃ p ∈ points, 31 < p.toNat ∧ p ≠ 255) then r = Reply.fail .badArg ∧ t = u
      else r = {} ∧ t.op = { s.op with pref := s.op.pref.take first.toNat ++ points.map BitVec.toNat ++ s.op.pref.drop (first.toNat + count.toNat) } ∧ Recorded s t .fp1 0x0408 0 ∧
        t.without [.op, .rec_, .pair] = u.without [.op, .rec_, .pair]) ∧
    (∀ (tray : U32) (a b g : U16) (bud : List U32), Answers (.capSet h tray a b g bud) h (.capSet tray a b g bud) s fun u r t =>
      let lim := s.sage.limits
      let top := fun x => (nth (nth lim.feeds x).envelope 7).iA
      if tray.toNat < 1000 ∨ a.toNat < 10 ∨ b.toNat < 10 ∨ 102 < g.toNat ∨ bud.length ≠ 12 ∨ bud.getD 9 0 ≠ 0 then r = Reply.fail .badArg ∧ t = u
      else if lim.trayCapMaxW < tray.toNat ∨ top 0 < a.toNat ∨ top 1 < b.toNat ∨ (∃ k ∈ List.range 12, nth lim.budgetMax k < (bud.getD k 0).toNat) then r = Reply.fail .limitExceeded ∧ t = u
      else r = { payload := t.capBytes } ∧ Recorded s t .fp1 0x0405 0 ∧
        t.op = { s.op with trayCapW := tray.toNat, feedCapA := [a.toNat, b.toNat], guard := g.toNat, budget := t.op.budget } ∧
        (∀ k, k < 12 → nth t.op.budget k = if bud.getD k 0 = 0 then nth lim.budgetMax k else (bud.getD k 0).toNat) ∧
        t.without [.op, .rec_, .pair] = u.without [.op, .rec_, .pair]) ∧
    Answers (.oppointStatus h) h .oppointStatus s (fun u r t => t = u ∧ r = { payload := i1 s.op.pNow ++ i1 s.op.ceil ++ (s.op.contrib.map i1).flatten ++ i1 (packBits [s.traySlow, s.op.throttle != .none && s.op.throttle != .waitHigh, s.op.faster.isSome]) ++ i1 ((s.groups.map s.unapplied).foldl max 0) ++ i2 s.op.alertLow.toNat ++ i4 s.op.chgSeq ++ i8s s.op.trayAdj ++ i8s s.op.predMw ++ ((List.range 8).map fun n => i4s (nth s.op.meas n) ++ i4s (nth s.op.adj n)).flatten ++ i4 s.op.slowUs })

/-- The control tick moves the cap ceiling; changes are sent and acknowledged; an alert pulls TRAY_SLOW_N until its release (R33, R210, R215, R216, R218-R222, R225-R227). -/
def Obligations.changes_and_throttle : Prop :=
  ∀ (s : State), s.rec_.ports.length = 16 → s.thyme.accs.length = 8 → s.sage.rails.length = 192 →
    (s.gt % 50 ≠ 0 → Completes .controlTick s fun t => t = s) ∧
    (s.sage.everLocked = true → s.gt % 50 = 0 → s.op.ctlGt ≠ some s.gt → s.firmwareRuns = true → s.thermalTick.caplRuns = true →
      Completes .controlTick s fun t =>
        let u := s.thermalTick.measureTick
        t.op.ctlGt = some s.gt ∧ t.op.capCeil = (u.op.follow (if u.op.slower = true then min 31 (u.neededP + 1) else u.neededP)).capCeil ∧
        t.op.ceil = min 31 (t.op.contrib.foldl max 0) ∧ t.op.contrib.length = 6 ∧ nth t.op.contrib 3 = t.op.capCeil) ∧
    (∀ f, s.op.faster = some f → Completes .fasterChangeSend s fun t =>
      if s.maySend = true ∧ s.settled = true ∧ f.p = s.op.ceil ∧ s.groupsFull = false then
        t.op.chgSeq = (s.op.chgSeq + 1) % 2 ^ 32 ∧ t.op.lastSent = some f.p ∧ t.op.faster = none ∧
        t.op.armed = s.op.armed ++ s.groups.map (s.groupChange ((s.op.chgSeq + 1) % 2 ^ 32) f.p) ∧ t.sage = s.sage ∧ t.thyme = s.thyme
      else t = s) ∧
    (∀ (pkg : U8) (seq : U32) (kind : U8) (step : U64) (a : ArmedChange), pkg.toNat < 8 → s.hears pkg.toNat = true →
      s.op.armed.find? (fun a => a.seq == seq.toNat && a.pkgs.getLsbD pkg.toNat) = some a →
      Completes (.pstateAck pkg seq kind step) s fun t =>
        t.op = { s.op with armed := s.op.armed.map fun x => if x = a then { x with acked := x.acked ||| (1#8 <<< pkg.toNat) } else x } ∧
        (kind = 1 → Recorded s t .fp1 0x0403 1) ∧ t.without [.op, .trace, .rec_, .pair, .link] = s.without [.op, .trace, .rec_, .pair, .link]) ∧
    (400 ≤ s.op.unmet → s.isOwner = true → s.restarting 4 = false →
      ((∀ g, s.op.unmetGt = some g → g + secs 1 ≤ s.gt) → Completes .capUnmet s fun t => t.op = { s.op with unmetGt := some s.gt } ∧ Recorded s t .fp1 0x0407 2 ∧ t.without [.op, .rec_] = s.without [.op, .rec_]) ∧
      (∀ g, s.op.unmetGt = some g → s.gt < g + secs 1 → Completes .capUnmet s fun t => t = s)) ∧
    (∀ line : U8, line.toNat < 16 → Completes (.vrAlertFall line) s fun t =>
      t.op.alertLow = s.op.alertLow ||| (1#16 <<< line.toNat) ∧ t.op.armed = s.op.armed ∧ t.sage = s.sage ∧ t.without [.op, .upd, .phase] = s.without [.op, .upd, .phase] ∧
      (s.op.alertMask.getLsbD line.toNat = true → t.traySlow = true ∧ t.op.slow = true ∧ t.op.throttle = .waitHigh ∧ t.op.faster = none ∧ (s.op.slow = false → t.op.slowGt = s.gt)) ∧
      (s.op.alertMask.getLsbD line.toNat = false → t = { s with op := { s.op with alertLow := s.op.alertLow ||| (1#16 <<< line.toNat) } })) ∧
    (∀ g, s.op.throttle = .waitHigh → s.op.highSince = some g → Completes .throttleReleaseStart s fun t =>
      if s.gt < g + 999 then t = s
      else if s.isOwner = false then t = { s with op := { s.op with throttle := .none, slow := false } }
      else t.op.slow = s.op.slow ∧ (t.op.throttle = .volts ∨ ∃ q, t.op.throttle = .acks q ∧ t.op.chgSeq = q ∧ t.op.lastSent = some s.op.ceil)) ∧
    (∀ q, s.op.throttle = .acks q → s.isOwner = true →
      ((∀ a ∈ s.op.armed, a.seq = q → a.pkgs &&& ~~~a.acked &&& s.onSet = 0) → Completes .throttleRelease s fun t =>
        t.op = { s.op with throttle := .none, slow := false } ∧ Recorded s t .arbiter 0x0402 0 ∧ t.without [.op, .rec_, .trace, .pair] = s.without [.op, .rec_, .trace, .pair]) ∧
      (∀ a, s.op.armed.find? (fun a => a.seq == q) = some a → a.pkgs &&& ~~~a.acked &&& s.onSet ≠ 0 → Completes .throttleRelease s fun t => t = s))

/-- The tick of the always-on domain (R29, R74, R76, R120, R139, R152, R213, R225, R405, R474). -/
def Obligations.arbiter_tick : Prop :=
  ∀ (s : State) (bc : List (Int × Int)) (fc : List (List (Int × Int))) (p : TickPins),
    let lows := if p.resetLow = true then min 2 (s.clk.resetLows + 1) else 0
    (s.clk.phase = .porHeld → Completes (.arbiterTick bc fc p) s fun t =>
      t.clk = { s.clk with resetLows := lows } ∧ t.pair = { s.pair with aliveIn := if p.aliveChanged = true then some s.gt else s.pair.aliveIn } ∧ t.without [.pair, .clk] = s.without [.pair, .clk]) ∧
    (s.clk.phase ≠ .porHeld → (s.port 0).batches = [] → (s.port 1).batches = [] → Completes (.arbiterTick bc fc p) s fun t =>
      let low := p.ownLow || s.pair.pull
      t.clk = { s.clk with gt := s.clk.gt + 1, resetLows := lows } ∧ t.pair.ownSince = (if s.pair.ownLow = low then s.pair.ownSince else s.gt + 1) ∧ t.pair.ownLow = low ∧
      t.pair.aliveIn = (if p.aliveChanged = true then some (s.gt + 1) else s.pair.aliveIn) ∧ t.pins.aliveOut = (s.pair.qualifier && !s.pins.aliveOut) ∧ t.pins.tripLow = p.tripLow ∧
      t.thyme.view = s.condView ∧ t.thyme.offsNow = [] ∧
      (s.sage.everLocked = false → s.sage.offs = [] → s.sage.restores = [] → s.feed.demand = false → s.feed.feeds.any Feed.forceDue = false →
        t.pair = { s.pair with ownSince := t.pair.ownSince, ownLow := low, aliveIn := t.pair.aliveIn } ∧ t.thyme = { s.thyme with offsNow := [], view := s.condView } ∧
        t.feed = { s.feed with feeds := t.feed.feeds, onFalls := [false, false] } ∧
        (∀ x, x < s.feed.feeds.length → t.feedAt x = { s.feedAt x with onReleased := (s.feedAt x).onReleased && !nth s.feed.onFalls x, armed := (s.feedAt x).live, cmpMv := nth p.cmpMv x }) ∧
        (∀ n, n < 12 → s.op.iAcc.length = 12 → nth t.op.iAcc n = nth s.op.iAcc n + ((nth s.ledger.cfg.calib (5 + 2 * n)).value (nth bc n).2 16)) ∧
        t.without [.clk, .pins, .feed, .op, .ledger, .thyme, .pair] = s.without [.clk, .pins, .feed, .op, .ledger, .thyme, .pair]) ∧
      (s.sage.everLocked = true →
        t.op.slowNet = (p.slowLow || s.op.slow) ∧ t.op.alertLow = p.alertLow ∧ t.op.slowUs = (if p.slowLow || s.op.slow then satAdd 32 s.op.slowUs 1 else s.op.slowUs) ∧
        t.op.classCeil = (if p.slowLow || s.op.slow then 31 else s.op.ceil) ∧ t.op.highSince = if p.alertLow &&& s.op.alertMask = 0 then some (s.op.highSince.getD (s.gt + 1)) else none))

/-! Phase engine (09) -/

/-- rhe rounds half to even; sat8 and sat32 clamp (R235). -/
def Obligations.rounding_and_saturation : Prop :=
  (∀ (y : Int) (sh : Nat), 2 * (rhe y sh * (2 ^ sh : Nat) - y).natAbs ≤ 2 ^ sh ∧ (2 * (rhe y sh * (2 ^ sh : Nat) - y).natAbs = 2 ^ sh → rhe y sh % 2 = 0)) ∧
  (∀ y : Int, rhe y 0 = y) ∧
  (∀ v : Int, -128 ≤ sat8 v ∧ sat8 v ≤ 127 ∧ (-128 ≤ v → v ≤ 127 → sat8 v = v) ∧ (v < -128 → sat8 v = -128) ∧ (127 < v → sat8 v = 127)) ∧
  (∀ v : Int, -2 ^ 31 ≤ sat32 v ∧ sat32 v < 2 ^ 31 ∧ (-2 ^ 31 ≤ v → v < 2 ^ 31 → sat32 v = v) ∧ (v < -2 ^ 31 → sat32 v = -2 ^ 31) ∧ (2 ^ 31 ≤ v → sat32 v = 2 ^ 31 - 1))

/-- A sparse matrix gives the results of the dense matrix (R237, R239, R240). -/
def Obligations.sparse_equals_dense : Prop :=
  ∀ (w d : Tensor) (bias : Option Tensor) (a : List Int) (r : Nat),
    d.bitmap = false → d.tileCols = w.tileCols →
    (∀ k q, w.hasTile k = true → d.rowWeights k q = w.rowWeights k q ∧ d.shift k q = w.shift k q) →
    (∀ k q, w.hasTile k = false → d.rowWeights k q = List.replicate 32 0) →
    matRow d bias a r = matRow w bias a r

/-- Models are loaded, started at reset, and reloaded after an uncorrectable error (R101, R242, R244, R250-R252, R254, R257, R260; where a container lies in the staged object is the model's own, log entry 11). -/
def Obligations.model_loading : Prop :=
  ∀ (s : State) (h : Hdr) (slot flags : U8), s.phase.slots.length = 8 → s.phase.stored.length = 8 → s.rec_.ports.length = 16 →
    let k := slot.toNat
    let wrong := 7 < k ∨ 1 < flags.toNat
    Answers (.modelLoadBegin h slot flags) h (.modelLoadBegin slot flags) s (fun u r t =>
      if wrong then r = Reply.fail .badArg ∧ t = u else r = {} ∧ t = { u with phase := { u.phase with staging := some (k, flags == 1, []) } }) ∧
    (∀ (o : U32) (data : List Byte), Answers (.modelLoadData h slot flags o data) h (.modelLoadData slot flags o data) s fun u r t =>
      if wrong ∨ 2 ^ 24 < o.toNat + data.length then r = Reply.fail .badArg ∧ t = u
      else match s.phase.staging with
        | none => r = Reply.fail .stateConflict ∧ t = u
        | some (j, b, m) => r = {} ∧ t = { u with phase := { u.phase with staging := some (j, b, m.writeBytes o.toNat data) } }) ∧
    (∀ obj : ObjectImage, Answers (.modelLoadCommit h slot flags obj) h (.modelLoadCommit slot flags obj) s fun u r t =>
      if wrong then r = Reply.fail .badArg ∧ t = u
      else match s.phase.staging with
        | none => r = Reply.fail .stateConflict ∧ t = u
        | some (_, _, m) =>
          let cont := Container.ofImage m containerBase obj.man.length
          let refused := (s.slot k).phase = .running ∨ ∃ x ∈ s.upd.plan.models, x.1 = k
          (obj.verifies 4 s.anchor.custKey = false →
            (refused → r = Reply.fail .stateConflict ∧ t = u) ∧ (¬refused → r = Reply.fail .integrityFail ∧ t.phase = u.phase ∧ Recorded u t .fp1 0x0C07 2)) ∧
          (obj.verifies 4 s.anchor.custKey = true →
            (cont = none → r = { status := .badArg, detail := 0xFFFF } ∧ t.phase = u.phase ∧ Recorded u t .fp1 0x0505 1) ∧
            ∀ x, cont = some x →
              (∀ d, x.fault m containerBase k (s.modelRoom k) = some d → r = { status := .badArg, detail := d } ∧ t.phase = u.phase ∧ Recorded u t .fp1 0x0505 1) ∧
              (x.fault m containerBase k (s.modelRoom k) = none → refused → r = Reply.fail .stateConflict ∧ t = u) ∧
              (x.fault m containerBase k (s.modelRoom k) = none → ¬refused →
                r = {} ∧ (t.slot k).phase = .loaded ∧ (t.slot k).cont = x ∧ (t.slot k).digest = obj.man.digest ∧ t.phase.staging = none ∧
                nth t.phase.stored k = some { cont := x, obj := obj, autostart := flags == 1 } ∧ Recorded u t .fp1 0x0501 0 ∧
                (s.phase.ringCap ≠ 0 → ∃ y, t.phase.ring.getLast? = some y ∧ y.marker = true ∧ y.mSlot = k ∧ y.mAction = 1) ∧
                t.phase.regs = s.phase.regs ∧ ∀ j, j ≠ k → t.slot j = s.slot j))) ∧
    (s.phase.loadPending = true → s.clk.phase = .running → Completes .modelSlotsLoad s fun t =>
      t.phase.loadPending = false ∧ t.phase.autoDue = true ∧
      ∀ j x, j < 8 → nth s.phase.stored j = some x → (s.slot j).phase ≠ .running →
        (x.obj.verifies 4 s.anchor.custKey = true → (t.slot j).phase = .loaded ∧ (t.slot j).cont = x.cont) ∧ (x.obj.verifies 4 s.anchor.custKey = false → t.slot j = {})) ∧
    (s.phase.autoDue = true → Completes .modelAutostart s fun t =>
      let auto := fun j => (s.slot j).phase == .loaded && (s.slot j).autostart && s.pair.role != .standby
      t = { s with phase := { s.phase with autoDue := false, slots := t.phase.slots } } ∧ (∀ j, auto j = false → t.slot j = s.slot j) ∧
      (∀ j, t.slot j = s.slot j ∨ t.slot j = { s.slot j with pend := some true }) ∧
      (((indices 8 fun j => s.willRun j || auto j).map fun j => (s.slot j).cont.cycles + 200).foldl (· + ·) 0 ≤ 48000 → ∀ j, j < 8 → auto j = true → t.slot j = { s.slot j with pend := some true })) ∧
    Completes (.modelStoreEccError slot) s (fun t =>
      if s.phase.inRun = true ∧ k < 8 ∧ (s.slot k).phase = .running then
        t.phase = { s.phase with void := true, slots := t.phase.slots } ∧ t.slot k = { s.slot k with restart := true } ∧ Recorded s t .phase 0x0506 2 ∧
        (∀ j, j ≠ k → t.slot j = s.slot j) ∧ t.without [.phase, .rec_] = s.without [.phase, .rec_]
      else t = s)

/-- Starting, stopping and reading models (R244, R247, R254, R255, R258, R259). -/
def Obligations.model_commands : Prop :=
  ∀ (s : State) (h : Hdr) (slot : U8), s.phase.slots.length = 8 →
    let k := slot.toNat
    let m := s.slot k
    Answers (.modelStart h slot) h (.modelStart slot) s (fun u r t =>
      if 7 < k then r = Reply.fail .badArg ∧ t = u
      else if m.phase = .empty then r = Reply.fail .stateConflict ∧ t = u
      else if m.phase = .running ∧ m.pend ≠ some false then r = {} ∧ t = u
      else if 48000 < ((indices 8 fun j => j != k && s.willRun j).map fun j => (s.slot j).cont.cycles + 200).foldl (· + ·) 0 + m.cont.cycles + 200 then r = Reply.fail .noResource ∧ t = u
      else r = {} ∧ t.slot k = { m with pend := if m.phase = .running then none else some true } ∧ (∀ j, j ≠ k → t.slot j = s.slot j) ∧
        t = { u with phase := { u.phase with slots := t.phase.slots } }) ∧
    Answers (.modelStop h slot) h (.modelStop slot) s (fun u r t =>
      if 7 < k then r = Reply.fail .badArg ∧ t = u
      else r = {} ∧ t.slot k = { m with pend := if m.phase = .running then some false else none, restart := m.restart && m.phase == .running } ∧
        t = { u with phase := { u.phase with slots := t.phase.slots } } ∧ ∀ j, j ≠ k → t.slot j = s.slot j) ∧
    Answers (.modelStatus h) h .modelStatus s (fun u r t => t = u ∧
      r = { payload := i8 s.phase.frameNo ++ i4 s.budgetInUse ++ i4 0 ++ (s.phase.slots.map ModelSlot.entry).flatten }) ∧
    (∀ pkg first n : U8, Answers (.phaseTableRead h pkg first n) h (.phaseTableRead pkg first n) s fun u r t => t = u ∧
      r = if 7 < pkg.toNat ∨ n = 0 ∨ 64 < n.toNat ∨ 256 < first.toNat + n.toNat then Reply.fail .badArg
        else { payload := ((List.range n.toNat).map fun i => (look s.phase.table (256 * pkg.toNat + first.toNat + i)).bytes).flatten }) ∧
    (∀ (kind : U8) (f : U64) (o : U32) (l : U16), Answers (.decisionLogRead h kind f o l) h (.decisionLogRead kind f o l) s fun u r t => t = u ∧ ∃ se, (u.port h.port.toNat).session = some se ∧
      let nos := if kind = 0 then s.phase.ring.map DecisionRecord.frameNo else s.phase.snaps.map Snapshot.frameNo
      let head := i8 (nos.headD 0) ++ i8 (nos.getLastD 0)
      if 1 < kind.toNat ∨ se.largest - 16 < l.toNat then r = Reply.fail .badArg
      else match (if kind = 0 then (s.phase.ring.find? fun x => x.frameNo == f.toNat && !x.marker).map fun x => x.body ++ x.chain else (s.phase.snaps.find? fun x => x.frameNo == f.toNat).map s.snapBytes) with
        | some b => r = { payload := head ++ (b.drop o.toNat).take l.toNat }
        | none => r = { payload := head, detail := 1 })

/-- A run ends, and the pair's engines follow each other (R231, R244-R246, R253, R254, R257). -/
def Obligations.engine_runs : Prop :=
  ∀ (s : State), s.phase.slots.length = 8 → s.rec_.ports.length = 16 →
    (s.phase.inRun = false → Completes .phaseEngineRunEnd s fun t => t = s) ∧
    (s.phase.inRun = true → Completes .phaseEngineRunEnd s fun t =>
      t.phase.inRun = false ∧ t.phase.void = false ∧ t.phase.frameNo = s.phase.frameNo + 1 ∧
      t.phase.regs = (if s.phase.void = true then List.replicate 16 none else s.runModels.2.1) ∧
      (s.isOwner = true → t.phase.latched = t.phase.regs.mapIdx fun i r => r.bind (s.sage.limits.latch i)) ∧
      (s.isOwner = false → (s.phase.void = false ∨ ∀ k, (s.slot k).restart = false) → t.phase.latched = s.phase.latched) ∧
      (∀ k, k < 8 → s.phase.void = true → (s.slot k).phase = .running → (s.slot k).restart = true → (t.slot k).phase ≠ .running) ∧
      (s.phase.ringCap ≠ 0 → (s.phase.void = false ∨ ∀ k, (s.slot k).restart = false) → ∃ r, t.phase.ring.getLast? = some r ∧ r.marker = false ∧ r.frameNo = s.phase.frameNo ∧ r.frame = s.phase.frame ∧ r.out = t.phase.regs ∧
        r.models = s.runningMask ∧ r.cycles = if s.phase.void = true then 0 else s.runModels.2.2) ∧
      t.op = s.op ∧ t.sage = s.sage ∧ t.thyme = s.thyme) ∧
    (∀ (f : U64) (d : List Byte), (s.mirrors = false → Completes (.outputDigestReceive f d) s fun t => t = s) ∧ (s.mirrors = true → Completes (.outputDigestReceive f d) s fun t =>
      (f.toNat ≠ s.phase.digestFrame → t = { s with phase := { s.phase with partnerDigest := some (f.toNat, d) } }) ∧
      (f.toNat = s.phase.digestFrame → d = s.phase.digest → t = { s with phase := { s.phase with partnerDigest := none } }) ∧
      (f.toNat = s.phase.digestFrame → d ≠ s.phase.digest → t.phase = { s.phase with partnerDigest := none } ∧ Recorded s t .phase 0x0504 2))) ∧
    (∀ (f g st : U64) (words : List Int),
      (s.pair.role ≠ .standby ∨ s.mirrors = false ∨ s.phase.inRun = true → Completes (.forwardedInputFrame f g st words) s fun t => t = s) ∧
      (s.pair.role = .standby → s.mirrors = true → s.phase.inRun = false → Completes (.forwardedInputFrame f g st words) s fun t =>
        t.phase.frame = words ∧ t.phase.frameNo = f.toNat ∧ t.phase.frameGt = g.toNat ∧ t.phase.inRun = true ∧ t.phase.void = false ∧ t.op = s.op ∧ t.sage = s.sage))

/-! Cooling, thermal supervision and leaks (10) -/

/-- Readings, thermal states and the critical off (R263, R264, R266, R267, R269, R270). -/
def Obligations.thermal_states : Prop :=
  ∀ (s : State) (i : U16), i.toNat < 344 → s.cool.sensors.length = 344 → s.rec_.ports.length = 16 → s.thyme.accs.length = 8 →
    let x := s.sensor i.toNat
    let l := s.levelOf i.toNat
    let run := fun (b : Bool) (n : Nat) => if b then min 31 (n + 1) else 0
    let only := fun (t : State) => (∀ j, j ≠ i.toNat → t.sensor j = s.sensor j) ∧ t.without [.cool, .rec_, .trace] = s.without [.cool, .rec_, .trace]
    (∀ xs : List Int, Completes (.temperatureReading i xs) s fun t =>
      if xs = [] ∨ s.sensorActive i.toNat = false then t = s
      else
        let v := if 336 ≤ i.toNat then Int.tdiv (sumInt xs) xs.length else xs.getLastD 0
        let x := if x.active = true then x else { active := true, gt := s.gt }
        t.sensor i.toNat = { x with x := some v, gt := s.gt, stale := false, nWarn := run (decide (l.warn ≤ v)) x.nWarn, nThr := run (decide (l.throttle ≤ v)) x.nThr, nCrit := run (decide (l.critical ≤ v)) x.nCrit, nExitT := run (decide (v < l.throttle - l.hyst)) x.nExitT, nExitW := run (decide (v < l.warn - l.hyst)) x.nExitW } ∧
        (∀ j, j ≠ i.toNat → t.sensor j = s.sensor j) ∧ t.without [.cool] = s.without [.cool]) ∧
    Completes (.thermalWarn i) s (fun t =>
      if x.active = true ∧ x.phase = .normal ∧ l.count ≤ x.nWarn then t.sensor i.toNat = { x with phase := .warn } ∧ Recorded s t .sage 0x0601 1 ∧ only t else t = s) ∧
    Completes (.thermalAdvisory i) s (fun t =>
      if x.active = true ∧ (x.phase = .normal ∨ x.phase = .warn) ∧ l.count ≤ x.nThr then
        Recorded s t .sage 0x0602 1 ∧ only t ∧
        (if (∃ g ∈ x.leftEnf, s.gt < g + secs 10) then t.sensor i.toNat = { x with phase := .enforced, grace := none } ∧ Recorded s t .sage 0x0603 2
          else t.sensor i.toNat = { x with phase := .advisory, grace := some s.gt })
      else t = s) ∧
    Completes (.graceExpiry i) s (fun t =>
      if x.active = true ∧ x.phase = .advisory ∧ (∃ g ∈ x.grace, g + ms s.cool.graceMs ≤ s.gt) then t.sensor i.toNat = { x with phase := .enforced, grace := none } ∧ Recorded s t .sage 0x0603 2 ∧ only t else t = s) ∧
    Completes (.thermalExit i) s (fun t =>
      if x.active = true ∧ (x.phase = .advisory ∨ x.phase = .enforced) ∧ l.count ≤ x.nExitT then
        t.sensor i.toNat = { x with phase := .warn, grace := none, leftEnf := if x.phase = .enforced then some s.gt else x.leftEnf } ∧ Recorded s t .sage 0x0604 0 ∧ only t
      else if x.active = true ∧ x.phase = .warn ∧ l.count ≤ x.nExitW then t.sensor i.toNat = { x with phase := .normal } ∧ Recorded s t .sage 0x0604 0 ∧ only t
      else t = s) ∧
    Completes (.thermalCritical i) s (fun t =>
      if x.active = true ∧ 0 < x.nCrit ∧ l.count ≤ x.nCrit then
        t.isOff 15 ∧ t.thyme.latchThermal = true ∧ t.sage.holdThermal = true ∧ Recorded s t .sage 0x0605 4 ∧ (s.isOwner = false → .notice false i.toNat ∈ t.pair.out)
      else t = s) ∧
    Completes (.sensorStale i) s (fun t =>
      if x.active = true ∧ x.stale = false ∧ x.gt + 10 * periodOf i.toNat ≤ s.gt then
        (t.sensor i.toNat).stale = true ∧ (t.sensor i.toNat).x = some l.throttle ∧ (t.sensor i.toNat).phase = x.phase ∧ Recorded s t .sage 0x060A 2 ∧ only t
      else t = s)

/-- The thermal ceiling, the loops, fans and flow (R168, R268, R272, R273, R275, R277). -/
def Obligations.cooling_events : Prop :=
  ∀ (s : State), s.rec_.ports.length = 16 → s.cool.fans.length = 16 → s.cool.pumps.length = 4 → s.thyme.accs.length = 8 → s.thyme.ctxs.length = 9 →
    (s.gt % 50 = 0 → s.cool.thermGt ≠ some s.gt → s.cool.flowLow = none → s.cool.enforced = true → s.cool.wasEnforced = true → s.cool.k = 99 →
      Completes .thermalEnforceStep s fun t => t.cool = { s.cool with th := (if s.hot = true then min 31 (s.cool.th + 1) else s.cool.th), k := 0, thermGt := some s.gt } ∧
        t.without [.cool, .trace, .rec_] = s.without [.cool, .trace, .rec_]) ∧
    (s.gt % 50 = 0 → s.cool.thermGt ≠ some s.gt → s.cool.flowLow = none → s.cool.enforced = false → s.cool.wasEnforced = false → s.cool.k = 1999 → 0 < s.cool.th →
      Completes .thermalRelaxStep s fun t => t.cool = { s.cool with th := s.cool.th - 1, k := 0, thermGt := some s.gt } ∧ t.without [.cool, .trace, .rec_] = s.without [.cool, .trace, .rec_]) ∧
    (∀ lo hi pp fl, (s.gt % 10000 ≠ 0 ∨ s.sage.everLocked = false → Completes (.coolingLoop lo hi pp fl) s fun t => t = s) ∧
      (s.gt % 10000 = 0 → s.cool.loopGt ≠ some s.gt → s.sage.everLocked = true → Completes (.coolingLoop lo hi pp fl) s fun t =>
        let counted := fun (l : List Mover) (p : List Nat) => (if s.gt % 500000 = 0 then l.mapIdx fun i m => { m with pulses := p.getD i m.pulses } else l).map fun m => m.timed s.gt
        t.cool.loopGt = some s.gt ∧ t.cool.fans = counted s.cool.fans (lo ++ hi) ∧ t.cool.pumps = (if s.liquid = true then counted s.cool.pumps pp else s.cool.pumps) ∧
        t.cool.flow = (if s.liquid = true ∧ s.gt % 100000 = 0 then s.cool.flowOf fl else s.cool.flow) ∧
        t.cool.press = s.cool.press ∧ t.cool.sensors = s.cool.sensors ∧ t.cool.th = s.cool.th ∧ t.cool.zones = s.cool.zones ∧
        (s.isOwner = true → s.firmwareRuns = true → s.restarting 5 = false → t.cool.fanLoop = s.cool.fanLoop.eval s.fanValue ∧ t.cool.pumpLoop = if s.liquid = true then s.cool.pumpLoop.eval s.pumpValue else s.cool.pumpLoop) ∧
        t.without [.cool, .trace, .rec_, .pair] = s.without [.cool, .trace, .rec_, .pair])) ∧
    (∀ (pump : Bool) (k : U8) (g : Nat), k.toNat < (if pump = true then 4 else 16) → s.restarting 5 = false →
      ((s.mover pump k.toNat).slowSince = some g → (s.mover pump k.toNat).failed = false → g + secs 2 ≤ s.gt →
        Completes (.fanFailure pump k) s fun t => t.mover pump k.toNat = { s.mover pump k.toNat with failed := true } ∧ Recorded s t .fp1 0x060B 2 ∧
          t.without [.cool, .rec_, .trace] = s.without [.cool, .rec_, .trace]) ∧
      ((s.mover pump k.toNat).fastSince = some g → (s.mover pump k.toNat).failed = true → g + secs 2 ≤ s.gt →
        Completes (.fanRecovery pump k) s fun t => t.mover pump k.toNat = { s.mover pump k.toNat with failed := false } ∧ Recorded s t .fp1 0x060B 0 ∧
          t.without [.cool, .rec_, .trace] = s.without [.cool, .rec_, .trace])) ∧
    (∀ g, s.cool.flowLowSince = some g → s.cool.flowLow = none → g + secs 1 ≤ s.gt →
      Completes .flowLow s fun t => t.cool = { s.cool with flowLow := some s.gt, th := 31 } ∧ Recorded s t .fp1 0x060C 3 ∧ t.without [.cool, .rec_, .trace, .upd] = s.without [.cool, .rec_, .trace, .upd]) ∧
    (∀ a g, s.cool.flowLowSince = some a → s.cool.flowLow = some g → a + secs 5 ≤ s.gt → g + secs 5 ≤ s.gt → s.isOwner = true → s.cool.flowPd = false → s.restarting 5 = false →
      Completes .flowLowPowerDown s fun t => t.cool = { s.cool with flowPd := true } ∧ Recorded s t .fp1 0x060C 4 ∧ (t.ctx 0).pendOn = false ∧
        (s.trayPowered = true → s.runs 0 = false → (s.ctx 0).offTaken = false → (s.ctx 0).unwinding = false → ∃ g, (PowerRequest.trayOff, g) ∈ t.thyme.requests)) ∧
    (∀ g, s.cool.flowOkSince = some g → s.cool.flowLow ≠ none → g + secs 1 ≤ s.gt →
      Completes .flowRecovery s fun t => t.cool.flowLow = none ∧ t.cool.k = 0 ∧ t.cool.th = s.cool.th ∧ t.without [.cool] = s.without [.cool]) ∧
    (∀ (i : U8) (g : Nat), i.toNat < 2 → s.cool.pressSaid.length = 2 → nth s.cool.pressSince i.toNat = some g → nth s.cool.pressSaid i.toNat = false → g + secs 1 ≤ s.gt →
      Completes (.pressureOutOfRange i) s fun t => t.cool = { s.cool with pressSaid := s.cool.pressSaid.set i.toNat true } ∧ Recorded s t .fp1 0x060D 2 ∧ t.without [.cool, .rec_] = s.without [.cool, .rec_])

/-- Leaks (R163, R262, R279-R282) and the cooling commands (R265, R267, R274, R284). -/
def Obligations.leaks_and_cooling_commands : Prop :=
  (∀ (s : State), s.cool.zones.length = 10 → s.rec_.ports.length = 16 → s.thyme.accs.length = 8 →
    (∀ (z : U8) (mv : U16), z.toNat < 10 → s.cool.zonesUsed.getLsbD z.toNat = true → Completes (.leakReading z mv) s fun t =>
      let x := nth s.cool.zones z.toNat
      let y := nth t.cool.zones z.toNat
      let g := x.gradeOf z.toNat mv.toNat
      y.grade = (if g = .wet ∧ x.grade = .confirmed then .confirmed else g) ∧ y.wetRun = (if g = .wet then x.wetRun + 1 else 0) ∧
      (g ≠ .dry → y.drySince = none) ∧ (g = .dry → x.drySince = none → y.drySince = some s.gt) ∧
      (z.toNat < 8 → mv.toNat < 450 → g = .wet) ∧ (z.toNat < 8 → 600 ≤ mv.toNat → mv.toNat ≤ 1200 → g = .dry) ∧ (z.toNat < 8 → 1350 < mv.toNat → g = .opened) ∧
      (8 ≤ z.toNat → g = if mv = 0 then .wet else .dry) ∧
      t.without [.cool, .rec_, .trace] = s.without [.cool, .rec_, .trace] ∧ ∀ w, w ≠ z.toNat → nth t.cool.zones w = nth s.cool.zones w) ∧
    (∀ z : U8, z.toNat < 10 → s.cool.zonesUsed.getLsbD z.toNat = true → (nth s.cool.zones z.toNat).grade = .wet → Completes (.leakConfirm z) s fun t =>
      if (nth s.cool.zones z.toNat).wetRun < 200 then t = s
      else
        (nth t.cool.zones z.toNat).grade = .confirmed ∧ t.thyme.latchLeak = true ∧ t.cool.valveHold = true ∧ Recorded s t .monitor 0x0608 4 ∧
        (s.thyme.latchLeak = false → s.serves = true → s.thyme.emergencyDue = none → s.thyme.emergency = none → s.thyme.reported ∈ [TrayState.poweringUp, .on, .maintenance] →
          t.thyme.leakAfter = true ∧ (t.thyme.emergencyDue = some .leak ∨ t.thyme.emergency = some .leak)) ∧
        (s.isOwner = false → .notice true z.toNat ∈ t.pair.out)) ∧
    (∀ (leak : Bool) (x : U16), Completes (.partnerConfirmationNotice leak x) s fun t =>
      (s.isOwner = false → t = s) ∧
      (s.isOwner = true → leak = true → t.thyme.latchLeak = true ∧ t.cool.valveHold = true ∧ Recorded s t .monitor 0x0608 4) ∧
      (s.isOwner = true → leak = false → t.isOff 15 ∧ t.thyme.latchThermal = true ∧ Recorded s t .sage 0x0605 4)) ∧
    (∀ h : Hdr, Answers (.leakClear h) h .leakClear s fun u r t =>
      if s.thyme.latchLeak = false then r = {} ∧ t = u
      else if s.notDry ≠ 0 ∨ s.thyme.leakAfter = true then r = { status := .stateConflict, detail := s.notDry.toNat + if s.thyme.leakAfter = true then 2 ^ 15 else 0 } ∧ t = u
      else r = {} ∧ t.thyme = { s.thyme with latchLeak := false } ∧ t.cool = { s.cool with valveHold := false } ∧ Recorded u t .fp1 0x0609 0 ∧
        t.without [.thyme, .cool, .feed, .rec_, .pair] = u.without [.thyme, .cool, .feed, .rec_, .pair])) ∧
  (∀ (s : State) (h : Hdr), s.rec_.ports.length = 16 → s.cool.fans.length = 16 → s.cool.pumps.length = 4 → s.cool.valves.length = 4 →
    let count := fun p => countIf (fun (x : Sensor) => x.phase == p) s.cool.sensors
    Answers (.coolStatus h) h .coolStatus s (fun u r t => t = u ∧ r.status = .ok ∧ r.detail = 0 ∧
      r.payload.take 1 = i1 (flag s.straps.coolMode) ∧ (r.payload.drop 2).take 4 = i1 s.cool.th ++ i1 (count .enforced) ++ i2 (count .advisory)) ∧
    (∀ (first n : U8) (ls : List ThermLevel), ls.length = n.toNat →
      Answers (.thermalLevelsSet h first n ls) h (.thermalLevelsSet first n ls) s fun u r t =>
        if n = 0 ∨ 27 < first.toNat + n.toNat ∨ ls.all ThermLevel.valid = false then r = Reply.fail .badArg ∧ t = u
        else if ∃ i ∈ List.range n.toNat, (nth ls i).within (nth s.cool.cfgLevels (first.toNat + i)) = false then r = Reply.fail .limitExceeded ∧ t = u
        else r = {} ∧ t.cool = { s.cool with levels := t.cool.levels } ∧ (∀ i, i < n.toNat → first.toNat + i < s.cool.levels.length → nth t.cool.levels (first.toNat + i) = nth ls i) ∧
          (∀ i, i < first.toNat ∨ first.toNat + n.toNat ≤ i → nth t.cool.levels i = nth s.cool.levels i) ∧
          Recorded u t .fp1 0x060E 0 ∧ t.without [.cool, .rec_, .pair] = u.without [.cool, .rec_, .pair]) ∧
    (∀ v : U32, Answers (.graceSet h v) h (.graceSet v) s fun u r t =>
      if v.toNat < 100 ∨ 30000 < v.toNat then r = Reply.fail .badArg ∧ t = u
      else r = {} ∧ t.cool = { s.cool with graceMs := v.toNat } ∧ Recorded u t .fp1 0x060E 0 ∧ t.without [.cool, .rec_, .pair] = u.without [.cool, .rec_, .pair]) ∧
    (∀ (target k v : U8), Answers (.coolOverride h target k v) h (.coolOverride target k v) s fun u r t =>
      let n := if target = 0 then 16 else 4
      let floors := if target = 0 then s.sage.limits.fanFloor else s.sage.limits.pumpFloor
      let named := fun (i : Nat) => k = 255 ∨ i = k.toNat
      let value := if v = 255 then none else some v.toNat
      if 2 < target.toNat ∨ (k ≠ 255 ∧ n ≤ k.toNat) ∨ (v ≠ 255 ∧ (if target = 2 then 0 else 100) < v.toNat) then r = Reply.fail .badArg ∧ t = u
      else if target ≠ 0 ∧ s.straps.coolMode = true then r = Reply.fail .stateConflict ∧ t = u
      else if target ≠ 2 ∧ v ≠ 255 ∧ ∃ i ∈ List.range n, named i ∧ v.toNat < nth floors i then r = Reply.fail .limitExceeded ∧ t = u
      else r = {} ∧ Recorded u t .fp1 0x060E 0 ∧ t.without [.cool, .rec_, .pair] = u.without [.cool, .rec_, .pair] ∧
        t.cool = { s.cool with fans := t.cool.fans, pumps := t.cool.pumps, valves := t.cool.valves } ∧
        (∀ i, i < 16 → nth t.cool.fans i = if target = 0 ∧ named i then { nth s.cool.fans i with override := value } else nth s.cool.fans i) ∧
        (∀ i, i < 4 → nth t.cool.pumps i = if target = 1 ∧ named i then { nth s.cool.pumps i with override := value } else nth s.cool.pumps i) ∧
        (∀ i, i < 4 → nth t.cool.valves i = if target = 2 ∧ named i then { nth s.cool.valves i with override := value.isSome } else nth s.cool.valves i)))

/-! Energy ledger (11) -/

/-- Attribution conserves energy, under every policy (R2, R294, R295, R315). -/
def Obligations.attribution_conserves_energy : Prop :=
  (∀ (t : TickWork) (oh res : Bool), t.branch.length = 12 →
    sumInt ((t.credits oh res).map Prod.snd) = sumInt t.feed ∧
    sumInt ((Credits.overflowed (t.credits oh res)).map Prod.snd) = sumInt t.feed ∧
    ∀ slot, slot < keyOverhead → look (Credits.overflowed (t.credits oh res)) slot = 0) ∧
  (∀ (e : Int) (w : List (Nat × Nat)), 0 < weightSum w → sumInt ((splitOver e w []).map Prod.snd) = e)

/-- Ledger ticks, reports, second boundaries and signing (R288, R290, R292, R297, R298, R305, R306, R311, R312, R314). -/
def Obligations.ledger_events : Prop :=
  ∀ (s : State), s.rec_.ports.length = 16 → s.ledger.dies.length = 64 →
    Completes .ledgerTick s (fun t =>
      if s.gt % 1000 = 0 ∧ s.ledger.tickGt ≠ some s.gt ∧ s.pair.role ≠ .standby then
        t.ledger.tickGt = some s.gt ∧ (s.ledger.inSession = true → t.ledger.l = s.ledger.l + 1) ∧ t.ledger.w = List.replicate 8 [] ∧
        (∀ n, n < s.ledger.fineBranch.length → nth t.ledger.fineBranch n = nth s.ledger.fineBranch n % 1000000000) ∧
        (∀ n, n < s.ledger.fineFeed.length → nth t.ledger.fineFeed n = nth s.ledger.fineFeed n % 32000000) ∧
        (s.ledger.inSession = true → s.attrRuns = false → t.ledger.accounts = s.ledger.accounts ∧
          ∃ work, t.ledger.queue = s.ledger.queue ++ [work] ∧ work.branch = s.ledger.fineBranch.map (fun f => f / 1000000000) ∧ work.feed = s.ledger.fineFeed.map fun f => f / 32000000) ∧
        (s.ledger.inSession = true → s.attrRuns = true → s.ledger.queue = [] → s.ledger.boundaryDue = false → t.ledger.queue = []) ∧
        t.ledger.dev = s.ledger.dev ∧ t.without [.ledger, .rec_, .trace, .pair] = s.without [.ledger, .rec_, .trace, .pair]
      else t = s) ∧
    (∀ m : TickMarker, Completes (.ledgerTickMarker m) s fun t =>
      if s.pair.role = .standby ∧ s.mirrors = true then
        t.ledger.accounts = s.ledger.accounts.map (fun a => a.credited (look m.credits a.slot) s.ledger.ovf) ∧
        t.ledger.overhead = s.ledger.overhead.credited (look m.credits keyOverhead) s.ledger.ovf ∧
        t.ledger.residual = s.ledger.residual.credited (look m.credits keyResidual) s.ledger.ovf ∧
        t.ledger.overflow = s.ledger.overflow.credited (look m.credits keyOverflow) s.ledger.ovf ∧
        t.ledger.total = s.ledger.total.credited (look m.credits keyTotal) s.ledger.ovf ∧ t.ledger.l = m.l.toNat + 1 ∧ t.ledger.queue = [] ∧
        (∀ n, n < s.ledger.fineFeed.length → nth t.ledger.fineFeed n = nth s.ledger.fineFeed n % 32000000) ∧ t.without [.ledger, .rec_] = s.without [.ledger, .rec_]
      else t = s) ∧
    (∀ (pkg : U8) (r : TagReport), Completes (.tagReport pkg r) s fun t =>
      let n := pkg.toNat
      let i := r.part.toNat
      let x := nth s.ledger.dies i
      let ent := (r.ent.take r.n.toNat).map fun e => (e.1.toNat, e.2.toNat)
      if s.hears n = false then t = s
      else if 8 ≤ n then t = (s.received n 2 64).dropReport n
      else
        t.link = (s.received n 2 64).link ∧ t.without [.ledger, .link, .rec_, .trace] = s.without [.ledger, .link, .rec_, .trace] ∧
        (if i < 64 ∧ i / 8 = n ∧ ∀ old ∈ x.rseq, old < r.rseq.toNat then
          t.ledger.dies = s.ledger.dies.set i { report := some { ent := ent, gt := s.gt }, rseq := some r.rseq.toNat, upTo := s.gt, staleSaid := false } ∧
          t.ledger.w = (modAt s.ledger.w n fun w => (s.ledger.contributes (nth s.op.table.acc n).kind (s.acc n == .on) i x.upTo s.gt).foldl (fun w e => addWeight w e.1 e.2) w) ∧
          t.ledger = { s.ledger with dies := t.ledger.dies, w := t.ledger.w, unopened := t.ledger.unopened }
        else t.ledger = { s.ledger with discarded := satAdd 32 s.ledger.discarded 1 })) ∧
    (∀ die : U8, Completes (.dieStale die) s fun t =>
      let x := nth s.ledger.dies die.toNat
      if die.toNat < 64 ∧ (∃ r ∈ x.report, r.gt + 4000 ≤ s.gt) ∧ s.acc (die.toNat / 8) = .on ∧ x.staleSaid = false then
        t.ledger = { s.ledger with dies := s.ledger.dies.set die.toNat { x with staleSaid := true } } ∧ Recorded s t .metering 0x0704 1 ∧
        t.without [.ledger, .rec_, .trace] = s.without [.ledger, .rec_, .trace]
      else t = s) ∧
    ((s.ledger.accounts.map Account.slot).Nodup → Completes .ledgerSecondBoundary s fun t =>
      let n := s.ledger.second + 1
      if s.pair.role ≠ .standby ∧ s.ledger.boundaryDue = true ∧ s.attrRuns = true ∧ s.restarting 8 = false then
        t.ledger.second = n ∧
        (∀ a ∈ s.ledger.accounts, a.phase = .openPending → a.effective ≤ n → (∃ b ∈ t.ledger.accounts, b.slot = a.slot ∧ b.tag = a.tag ∧ b.phase = .open_ ∧ b.fromS = n) ∧ Recorded s t .fp2 0x0701 0) ∧
        (∀ a ∈ s.ledger.accounts, a.phase = .closePending → a.effective ≤ n → (∀ b ∈ t.ledger.accounts, b.slot ≠ a.slot) ∧ Recorded s t .fp2 0x0702 0) ∧
        (∀ a ∈ s.ledger.accounts, a.phase = .open_ → ∃ b ∈ t.ledger.accounts, b.slot = a.slot ∧ b.tag = a.tag ∧ b.phase = .open_) ∧
        (s.ledger.journal = .normal → s.ledger.badReads = false → t.ledger.journal = .normal ∧ t.ledger.cpSeq = s.ledger.cpSeq + 1 ∧
          (∃ c ∈ t.ledger.dev.cps, c.cpSeq = t.ledger.cpSeq ∧ c.second = n ∧ c.headSeq = t.ledger.head ∧ c.chainHead = t.ledger.chainHead) ∧
          ∀ r ∈ t.ledger.dev.ring, s.ledger.head ≤ r.recSeq → (r, s.gt) ∈ t.ledger.unsigned_) ∧
        (s.ledger.journal = .normal → s.ledger.badReads = true → t.ledger.journal = .failed ∧ Recorded s t .fp2 0x070C 3) ∧
        (s.ledger.journal ≠ .normal ∨ s.ledger.badReads = true → t.ledger.head = s.ledger.head ∧ t.ledger.chainHead = s.ledger.chainHead ∧ t.ledger.cpSeq = s.ledger.cpSeq ∧ t.ledger.unsigned_ = s.ledger.unsigned_) ∧
        t.without [.ledger, .rec_, .trace, .pair, .upd] = s.without [.ledger, .rec_, .trace, .pair, .upd]
      else t = s) ∧
    Completes .recordSigned s (fun t =>
      match s.ledger.unsigned_ with
      | [] => t = s
      | (r, _) :: rest =>
        if s.isOwner = true ∧ s.firmwareRuns = true ∧ s.restarting 9 = false then
          t.ledger = { s.ledger with unsigned_ := rest, export_ := s.ledger.export_ ++ [s.signedRecord r], backlogSaid := t.ledger.backlogSaid } ∧
          t.without [.ledger, .trace, .rec_] = s.without [.ledger, .trace, .rec_]
        else t = s) ∧
    Completes .signingBacklog s fun t =>
      if s.ledger.backlogSaid = false ∧ ∃ x ∈ s.ledger.unsigned_.head?, x.2 + secs 60 < s.gt then
        t.ledger = { s.ledger with backlogSaid := true } ∧ Recorded s t .fp2 0x070A 1 ∧ t.without [.ledger, .rec_] = s.without [.ledger, .rec_]
      else t = s

/-- The ledger commands (R289, R295-R297, R300, R307, R308, R313, R316). -/
def Obligations.ledger_commands : Prop :=
  ∀ (s : State) (h : Hdr), s.rec_.ports.length = 16 →
    let kept := fun (u t : State) => t.without [.ledger, .pair] = u.without [.ledger, .pair]
    (∀ (n : U16) (oh res : U8) (ws wo : U16), Answers (.ledgerCfgSet h n oh res ws wo) h (.ledgerCfgSet n oh res ws wo) s fun u r t =>
      if n = 0 ∨ 3600 < n.toNat ∨ 1 < oh.toNat ∨ 1 < res.toNat ∨ ws = 0 then r = Reply.fail .badArg ∧ t = u
      else if s.ledger.epochsFull = true then r = Reply.fail .noResource ∧ t = u
      else r = { payload := i2 ((s.ledger.epoch + 1) % 65536) ++ i2 0 } ∧ kept u t ∧
        t.ledger = { s.ledger with nextCfg := some ({ s.ledger.pendingCfg with interimS := n.toNat, ohSpread := oh == 1, resSpread := res == 1, wStale := ws.toNat, wOff := wo.toNat }, h.port.toNat), nextCfgAt := s.ledger.effective }) ∧
    (∀ (first n : U8) (es : List Calib), Answers (.calibrationSet h first n es) h (.calibrationSet first n es) s fun u r t =>
      if n = 0 ∨ 24 < n.toNat ∨ 24 < first.toNat + n.toNat then r = Reply.fail .badArg ∧ t = u
      else if s.ledger.epochsFull = true then r = Reply.fail .noResource ∧ t = u
      else r = {} ∧ kept u t ∧ ∃ g, t.ledger = { s.ledger with nextCfg := some ({ s.ledger.pendingCfg with calib := g }, h.port.toNat), nextCfgAt := s.ledger.effective } ∧
        g.length = s.ledger.pendingCfg.calib.length ∧
        ∀ i, i < g.length → nth g i = if 4 + first.toNat ≤ i ∧ i < 4 + first.toNat + n.toNat then nth es (i - first.toNat - 4) else nth s.ledger.pendingCfg.calib i) ∧
    (∀ tag : U64, Answers (.accountOpen h tag) h (.accountOpen tag) s fun u r t =>
      if tag = 0 ∨ tag = BitVec.allOnes 64 then r = Reply.fail .badArg ∧ t = u
      else match s.ledger.accounts.find? fun a => a.tag == tag.toNat && a.slot != 0 with
        | some a => t = u ∧ r = if a.phase = .closePending then Reply.fail .stateConflict else { payload := i4 a.slot ++ i4 a.effective }
        | none =>
          match (if s.ledger.ovf = true then none else (List.range s.ledger.slots).find? fun k => !s.ledger.accounts.any fun a => a.slot == k) with
          | none => r = Reply.fail .noResource ∧ t = u
          | some k => r = { status := .accepted, payload := i4 k ++ i4 s.ledger.effective } ∧ kept u t ∧
            t.ledger = { s.ledger with accounts := insertAccount { slot := k, tag := tag.toNat, phase := .openPending, port := h.port.toNat, effective := s.ledger.effective } s.ledger.accounts }) ∧
    (∀ tag : U64, Answers (.accountClose h tag) h (.accountClose tag) s fun u r t =>
      if tag = 0 then r = Reply.fail .badArg ∧ t = u
      else match s.ledger.accounts.find? fun a => a.tag == tag.toNat && a.slot != 0 with
        | none => r = Reply.fail .stateConflict ∧ t = u
        | some a => match a.phase with
          | .openPending => r = { payload := i4 s.ledger.effective ++ i4 0 } ∧ kept u t ∧ t.ledger = { s.ledger with accounts := s.ledger.accounts.filter fun b => b.slot != a.slot }
          | .closePending => r = { status := .accepted, payload := i4 a.effective ++ i4 0 } ∧ t = u
          | .open_ => r = { status := .accepted, payload := i4 s.ledger.effective ++ i4 0 } ∧ kept u t ∧
            t.ledger = { s.ledger with accounts := s.ledger.accounts.map fun b => if b.slot = a.slot then { a with phase := .closePending, port := h.port.toNat, effective := s.ledger.effective } else b }) ∧
    (∀ (sel : U8) (tag : U64), Answers (.accountRead h sel tag) h (.accountRead sel tag) s fun u r t => t = u ∧
      let l := s.ledger
      if 3 < sel.toNat then r = Reply.fail .badArg
      else r.status = .ok ∧ r.payload.length = 32 ∧
        (sel = 0 → ∀ a, l.accounts.find? (fun a => a.tag == tag.toNat) = some a → r = { payload := a.bytes a.slot }) ∧
        (sel = 0 → (∀ a ∈ l.accounts, a.tag ≠ tag.toNat) → r = { payload := zeros 32 }) ∧
        (sel = 1 → r = { payload := l.overhead.bytes 0xFFFFFFFD }) ∧ (sel = 2 → r = { payload := l.residual.bytes 0xFFFFFFFE }) ∧ (sel = 3 → r = { payload := l.overflow.bytes 0xFFFFFFFF })) ∧
    Answers (.ledgerStatus h) h .ledgerStatus s (fun u r t => t = u ∧ r.status = .ok ∧ r.payload.take 8 = i2 s.ledger.lsess ++ i2 s.ledger.epoch ++ i4 (s.ledger.next / 1000)) ∧
    Answers (.journalStatus h) h .journalStatus s (fun u r t => t = u ∧ r.status = .ok ∧ (r.payload.drop 8).take 16 = i8 s.ledger.dev.header.baseSeq ++ i8 s.ledger.head) ∧
    (∀ (first : U64) (n : U8), Answers (.recordsFetch h first n) h (.recordsFetch first n) s fun u r t => t = u ∧ ∃ se, (u.port h.port.toNat).session = some se ∧
      let rs := takeExport n.toNat first.toNat s.ledger.export_
      if n = 0 ∨ se.ledgerRecords < n.toNat then r = Reply.fail .badArg
      else if first.toNat < s.ledger.dev.header.baseSeq then r = { detail := 1, payload := i8 first.toNat ++ zeros 8 }
      else r = { payload := i8 first.toNat ++ i1 rs.length ++ zeros 7 ++ (rs.map fun x => x.bytes s.straps.slotId.toNat).flatten }) ∧
    (∀ seq : U64, Answers (.recordsAck h seq) h (.recordsAck seq) s fun u r t =>
      let n := seq.toNat
      if s.ledger.firstUnsigned ≤ n then r = Reply.fail .stateConflict ∧ t = u
      else if n < s.ledger.dev.header.baseSeq then r = { payload := i8 s.ledger.dev.header.baseSeq } ∧ t = u
      else r = { payload := i8 (n + 1) } ∧ t.ledger = { s.ledger with export_ := s.ledger.export_.filter (fun x => decide (n < x.body.recSeq)), dev := t.ledger.dev } ∧
        t.ledger.dev.header.baseSeq = n + 1 ∧ t.ledger.dev.header.gen = s.ledger.dev.header.gen + 1 ∧ t.ledger.dev.ring = s.ledger.dev.ring.filter (fun x => decide (n < x.recSeq)) ∧
        t.ledger.dev.cps = s.ledger.dev.cps ∧ Recorded u t .fp2 0x0709 0 ∧ t.without [.ledger, .rec_, .trace, .pair] = u.without [.ledger, .rec_, .trace, .pair])

/-! Sync hub (12) -/

/-- Operations at the hub, and what they do to full/empty words (R322-R327, R335, R341, R343, R345, R349). -/
def Obligations.word_operations : Prop :=
  ∀ (s : State) (src : U8) (o : SyncOp), s.rec_.ports.length = 16 →
    let who : SyncOrigin := { src := src.toNat }
    let st := s.repro.strict
    (∀ (c : Instr) (code : Nat), (c, code) ∈ [(Instr.readfe src o, 1), (.take src o, 2), (.fill src o, 3), (.store src o, 4), (.clear src o, 5), (.add src o, 6), (.padv src o, 7), (.cadv src o, 8),
        (.arrive src o, 9), (.watch src o, 10), (.unwatch src o, 11), (.read src o, 12)] →
      let q := o.withCode code
      let same := fun (t : State) => t.sameObjects s ∧ t.sync.parked = s.sync.parked ∧ t.sync.watches = s.sync.watches
      let x := s.sync.target q.addr
      let win := nth s.sync.wins src.toNat
      (¬s.comesFrom src.toNat → Completes c s fun t => t = s) ∧
      (s.comesFrom src.toNat → s.sync.awaitCopy = true → Completes c s fun t => t.without [.link] = s.without [.link]) ∧
      (s.comesFrom src.toNat → s.sync.awaitCopy = false →
        (o.src ≠ src → Completes c s fun t => t.replied who (q.reply .badArg 0 0) ∧ same t) ∧
        (o.src = src → s.isOwner = false → Completes c s fun t => same t ∧
          ((∃ r, win.judge q.seq = .duplicate r ∧ t.replied who r) ∨
            (∀ r, win.judge q.seq ≠ .duplicate r) ∧ t.replied who (q.reply (if q.formed = true ∧ q.fits x = true then .notOwner else .badArg) 0 0))) ∧
        (o.src = src → s.isOwner = true →
          (∀ r, win.judge q.seq = .duplicate r → Completes c s fun t => t.replied who r ∧ same t ∧ t.sync.dups = s.sync.dups + 1) ∧
          (win.judge q.seq = .outside → Completes c s fun t => t.replied who (q.reply .stateConflict 0 0) ∧ same t ∧ Recorded s t .hub 0x0806 1) ∧
          (∀ w, win.judge q.seq = .fresh w →
            (q.formed = false ∨ q.fits x = false → Completes c s fun t => t.replied who (q.reply .badArg 0 0) ∧ same t) ∧
            (q.formed = true → q.fits x = true → (∀ h, x ≠ .remote h) →
              (s.sync.underRepair q.addr = true → Completes c s fun t => same t ∧ ∃ r ∈ t.sync.repairs, ∃ p, r.2 = some p ∧ p.origin = who ∧ p.op.seq = q.seq) ∧
              (s.sync.underRepair q.addr = false → ∀ z, s.sync.refusal st src.toNat q x = some z → Completes c s fun t => t.replied who (q.reply z 0 0) ∧ same t)))))) ∧
    ∀ (i : Nat), (s.sync.words.map Prod.fst).Pairwise (· < ·) →
      let w := s.sync.word i
      let tk := o.ticket
      let up := fun (b : BitVec 8) => if st = true then b + 1 else b
      let old := if st = true then 0 else w.val
      let bit := if st = true then 0 else bitWord w.full
      (∀ (c : Instr) (code : Nat) (ready : Bool) (new : SyncWord) (x y : BitVec 64), (c, code, ready, new, x, y) ∈ [
          (Instr.readfe src o, 1, w.full && (!st || w.fillTurn == tk + 1), w, w.val, 0),
          (Instr.take src o, 2, w.full && (!st || w.takeTurn == tk), { w with full := false, takeTurn := up w.takeTurn }, w.val, 0),
          (Instr.fill src o, 3, !w.full && (!st || w.fillTurn == tk), { w with val := o.val, full := true, fillTurn := up w.fillTurn }, 0, 0),
          (Instr.store src o, 4, true, { w with val := o.val, full := true, fillTurn := up w.fillTurn }, old, bit),
          (Instr.clear src o, 5, true, { w with val := o.val, full := false }, old, bit),
          (Instr.add src o, 6, true, { w with val := w.val + o.val }, old, bit),
          (Instr.read src o, 12, true, w, w.val, bitWord w.full ||| (w.takeTurn.zeroExtend 64 <<< 8) ||| (w.fillTurn.zeroExtend 64 <<< 16))] →
        let q := o.withCode code
        s.reaches src.toNat q (.word i) → s.sync.refusal st src.toNat q (.word i) = none →
          (ready = false → Completes c s fun t => t.replied who (q.reply .accepted 0 0) ∧ t.sync.words = s.sync.words ∧ t.sync.parked = s.sync.parked ++ [{ op := q, origin := who, gt := s.gt }]) ∧
          (ready = true → Completes c s fun t => t.replied who (q.reply .ok x y) ∧ t.sync.applied = s.sync.applied + 1 ∧ t.sync.pairs = s.sync.pairs ∧ t.sync.barriers = s.sync.barriers ∧
            (s.quiet q.addr → t.sync.word i = new ∧ (∀ j, j ≠ i → t.sync.word j = s.sync.word j) ∧ t.sync.parked = s.sync.parked ∧ t.sync.watches = s.sync.watches))) ∧
      (let q := o.withCode 3;
        s.reaches src.toNat q (.word i) → s.sync.refusal st src.toNat q (.word i) = none → st = false → w.full = false →
          (∀ p : Parked, s.sync.parked.filter (fun p => objKey p.op.addr == objKey q.addr) = [p] → s.sync.target p.op.addr = .word i → p.op.code = 2 → (∀ x ∈ s.sync.watches, objKey x.addr ≠ objKey q.addr) →
            Completes (.fill src o) s fun t => t.replied who (q.reply .ok 0 0) ∧ t.replied p.origin (p.op.reply .ok o.val 0) ∧ t.sync.word i = { w with val := o.val } ∧ t.sync.parked = s.sync.parked.erase p) ∧
          (∀ x : Watch, s.sync.watches.filter (fun x => objKey x.addr == objKey q.addr) = [x] → x.cond = 0 → (∀ p ∈ s.sync.parked, objKey p.op.addr ≠ objKey q.addr) →
            Completes (.fill src o) s fun t => t.replied who (q.reply .ok 0 0) ∧ t.sync.word i = { w with val := o.val, full := true } ∧
              t.notified x.src { kind := 1, cond := 0, fepoch := o.fepoch, handle := x.handle, cookie := x.cookie, fire := x.fire + 1, val := o.val } ∧
              t.sync.watches = if x.persist = true then s.sync.watches.map (fun y => if y.handle = x.handle then { y with fire := x.fire + 1 } else y) else s.sync.watches.filter fun y => y.handle != x.handle))

/-- Counter pairs, barriers and watches (R323-R325, R329-R331, R334, R335, R352). -/
def Obligations.pair_barrier_watch_operations : Prop :=
  ∀ (s : State) (src : U8) (o : SyncOp), s.sync.barriers.length = 64 → (s.sync.pairs.map Prod.fst).Pairwise (· < ·) →
    let who : SyncOrigin := { src := src.toNat }
    let fits := fun (q : SyncOp) (x : SyncTarget) => s.reaches src.toNat q x ∧ s.sync.refusal s.repro.strict src.toNat q x = none
    let parked := fun (q : SyncOp) => s.sync.parked ++ [{ op := q, origin := who, gt := s.gt }]
    (∀ i, let q := o.withCode 7
      let p := s.sync.pair i
      fits q (.pair i) → Completes (.padv src o) s fun t =>
        (p.p.toNat + o.val.toNat ≤ p.cap + p.c.toNat → t.replied who (q.reply .ok p.p p.c) ∧
          (s.quiet q.addr → t.sync.pair i = { p with p := p.p + o.val, prodOwner := if s.repro.strict = true then some src.toNat else p.prodOwner } ∧ ∀ j, j ≠ i → t.sync.pair j = s.sync.pair j)) ∧
        (p.cap + p.c.toNat < p.p.toNat + o.val.toNat → q.nowait = false → t.replied who (q.reply .accepted 0 0) ∧ t.sync.pair i = p.claim s.repro.strict src.toNat q ∧ (∀ j, j ≠ i → t.sync.pair j = s.sync.pair j) ∧
          t.sync.parked = parked q)) ∧
    (∀ i, let q := o.withCode 8
      let p := s.sync.pair i
      fits q (.pair i) → Completes (.cadv src o) s fun t =>
        (p.c.toNat + o.val.toNat ≤ p.p.toNat → t.replied who (q.reply .ok p.c p.p) ∧
          (s.quiet q.addr → t.sync.pair i = { p with c := (if q.peek = true then p.c else p.c + o.val), consOwner := if s.repro.strict = true then some src.toNat else p.consOwner } ∧ ∀ j, j ≠ i → t.sync.pair j = s.sync.pair j)) ∧
        (p.p.toNat < p.c.toNat + o.val.toNat → q.nowait = false → t.replied who (q.reply .accepted 0 0) ∧ t.sync.pair i = p.claim s.repro.strict src.toNat q ∧ (∀ j, j ≠ i → t.sync.pair j = s.sync.pair j) ∧
          t.sync.parked = parked q)) ∧
    (let q := o.withCode 4;
      (∀ i, fits q (.pair i) → Completes (.store src o) s fun t => t.replied who (q.reply .ok (BitVec.ofNat 64 (s.sync.pair i).cap) 0) ∧
        t.sync.pair i = { s.sync.pair i with cap := o.val.toNat } ∧ (∀ j, j ≠ i → t.sync.pair j = s.sync.pair j) ∧ t.sync.words = s.sync.words ∧ t.sync.barriers = s.sync.barriers) ∧
      (∀ i, fits q (.barrier i) → let b := s.sync.barrier i
        Completes (.store src o) s fun t => t.replied who (q.reply .ok (b.mask.truncate 64) ((b.mask >>> 64).truncate 64)) ∧ t.sync.barriers = s.sync.barriers.set i { b with mask := o.mask } ∧
          t.sync.words = s.sync.words ∧ t.sync.pairs = s.sync.pairs)) ∧
    (let q := o.withCode 12
      let gives := fun (v a : BitVec 64) => Completes (.read src o) s fun t => t.replied who (q.reply .ok v a) ∧ t.sameObjects s ∧ t.sync.parked = s.sync.parked ∧ t.sync.watches = s.sync.watches
      (∀ i, fits q (.pair i) → gives (s.sync.pair i).p (s.sync.pair i).c) ∧
      (∀ i, fits q (.barrier i) → let b := s.sync.barrier i
        gives (b.arrived.truncate 64) (((b.arrived >>> 64).truncate 64) ||| (b.gen.zeroExtend 64 <<< 16))) ∧
      (∀ h w, fits q (.handle h) → s.sync.watch h = some w → gives w.addr (BitVec.ofNat 64 (w.cond + 256 * flag w.persist) ||| (w.fire.zeroExtend 64 <<< 32)))) ∧
    (∀ i, let q := o.withCode 9
      let b := s.sync.barrier i
      let arrived := b.arrived ||| (1#72 <<< src.toNat)
      let joined := fun (t : State) => if q.nowait = true then t.replied who (q.reply .ok (b.gen.zeroExtend 64) (b.gen.zeroExtend 64)) else t.replied who (q.reply .accepted 0 0)
      fits q (.barrier i) → Completes (.arrive src o) s fun t =>
        (arrived ≠ b.mask → b.tree = none → t.sync.barrier i = { b with arrived := arrived, since := some (b.since.getD s.gt) } ∧ joined t ∧ t.sync.parked = if q.nowait = true then s.sync.parked else parked q) ∧
        (∀ num n tb, arrived ≠ b.mask → b.tree = some num → s.sync.node = some n → s.sync.treeBars.find? (fun x => x.num == num) = some tb → tb.engine = i → tb.upSent = false → joined t ∧
          (if arrived &&& ~~~(1#72 <<< 71) = b.mask &&& ~~~(1#72 <<< 71) ∧ ∀ c ∈ List.range n.children.length, (c, tb.round) ∈ tb.ups then
            (n.parent ≠ 0 → ∃ f ∈ t.sync.treeOut, f.nbr = 0 ∧ f.body = .up num tb.round) ∧
            (n.parent = 0 → (t.sync.barrier i).gen = b.gen + 1 ∧ (t.sync.barrier i).arrived = 0 ∧ ∀ c ∈ List.range n.children.length, ∃ f ∈ t.sync.treeOut, f.nbr = c + 1 ∧ f.body = .release num tb.round)
          else (t.sync.barrier i).arrived = arrived ∧ (t.sync.barrier i).gen = b.gen ∧ t.sync.treeBars = s.sync.treeBars)) ∧
        (arrived = b.mask → t.sync.barrier i = { b with gen := b.gen + 1, arrived := 0, since := none } ∧
          (∀ p ∈ parked q, s.sync.target p.op.addr = .barrier i → p.op.code = 9 → p.origin.who < 72 →
            t.replied p.origin (p.op.reply .ok (b.gen.zeroExtend 64) ((b.gen + 1).zeroExtend 64)) ∧ p ∉ t.sync.parked))) ∧
    (∀ x, let q := o.withCode 10
      let new : Watch := { handle := s.sync.freeHandle, src := src.toNat, addr := o.addr, cond := bits o.arg.toNat 7 0, persist := o.arg.getLsbD 8, cookie := (o.arg >>> 32).truncate 32 }
      let now := ∃ i, x = .word i ∧ ((new.cond = 0 ∧ (s.sync.word i).full = true) ∨ (new.cond = 1 ∧ (s.sync.word i).full = false))
      fits q x → Completes (.watch src o) s fun t =>
        t.replied who (q.reply .ok (BitVec.ofNat 64 s.sync.freeHandle) 0) ∧ t.sameObjects s ∧ (¬now → t.sync.watches = insertWatch new s.sync.watches) ∧
        (now → t.sync.watches = (if new.persist = true then insertWatch { new with fire := 1 } s.sync.watches else s.sync.watches) ∧
          ∀ i, x = .word i → t.notified src.toNat { kind := 1, cond := new.cond, fepoch := o.fepoch, handle := new.handle, cookie := new.cookie, fire := 1, val := (s.sync.word i).val })) ∧
    (∀ h w, let q := o.withCode 11
      fits q (.handle h) → s.sync.watch h = some w → Completes (.unwatch src o) s fun t =>
        t.replied who (q.reply .ok (w.fire.zeroExtend 64) 0) ∧ t.sync.watches = s.sync.watches.filter (fun x => x.handle != h) ∧ t.sameObjects s)

/-- Hangs, memory errors and the cross-tray tree (R320, R347, R349-R354). -/
def Obligations.hub_events : Prop :=
  ∀ (s : State), s.rec_.ports.length = 16 → s.sync.hopRx.length = 65 → s.sync.barriers.length = 64 → s.sync.bcRound.length = 16 → s.sync.tray < 2 ^ 17 → (s.sync.words.map Prod.fst).Pairwise (· < ·) →
    (∀ n, s.sync.node = some n → n.children.length ≤ 64) →
    let takes := fun (nbr hop : Nat) (n : TreeNode) => s.isOwner = true ∧ s.sync.node = some n ∧ nbr ≤ n.children.length ∧ (nbr = 0 → n.parent ≠ 0) ∧ hop = nth s.sync.hopRx nbr
    let same := fun (t : State) => t.sameObjects s
    (∀ a : U64, Completes (.hangTimeout a) s fun t =>
      if s.isOwner = true ∧ (s.hangKind a).isSome = true ∧ s.sync.hung.any (fun h => sameObject h a) = false then
        t.sync = { s.sync with hung := s.sync.hung ++ [a] } ∧ Recorded s t .hub 0x0804 1 ∧ t.without [.sync, .rec_, .trace] = s.without [.sync, .rec_, .trace]
      else t = s) ∧
    (∀ (i : U32) (bad : U8), Completes (.syncScrub i bad) s fun t =>
      let a := BitVec.ofNat 64 (s.sync.tray * 2 ^ 43 + i.toNat)
      if 524288 ≤ i.toNat then t = s
      else t.sync.scrub = (i.toNat + 1) % 524288 ∧ t.sync.pairs = s.sync.pairs ∧ t.sync.barriers = s.sync.barriers ∧ (∀ j, j ≠ i.toNat → t.sync.word j = s.sync.word j) ∧
        (bad = 0 → t = { s with sync := { s.sync with scrub := (i.toNat + 1) % 524288 } }) ∧
        (bad = 1 → t.sync.eccCorr = satAdd 32 s.sync.eccCorr 1 ∧ t.sync.words = s.sync.words) ∧
        (1 < bad.toNat → t.sync.eccUnc = satAdd 32 s.sync.eccUnc 1 ∧
          (s.pair.mstate ≠ .mirroring → t.sync.word i.toNat = { s.sync.word i.toNat with poison := true } ∧ Recorded s t .hub 0x0805 3 ∧
            ∀ p ∈ s.sync.parked, objKey p.op.addr = objKey a → t.replied p.origin (p.op.reply .integrityFail 0 0) ∧ p ∉ t.sync.parked) ∧
          (s.pair.mstate = .mirroring → t.sync.words = s.sync.words ∧ t.sync.repairs = s.sync.repairs ++ [(a, none)]))) ∧
    (∀ (a : U64) (content : SyncContent), Completes (.syncObjectRepaired a content) s fun t =>
      if s.sync.underRepair a = false then t = s
      else ∃ v : State, t = (((s.sync.repairs.filter fun r => objKey r.1 == objKey a).filterMap Prod.snd).foldl (fun s p => s.resumeOp p) v).mirrored .hub ∧
        v.sync.repairs = s.sync.repairs.filter (fun r => objKey r.1 != objKey a) ∧
        (∀ w i, content = .word w → s.sync.target a = .word i → v.sync.word i = w ∧ (∀ j, j ≠ i → v.sync.word j = s.sync.word j) ∧ Recorded s v .hub 0x0805 1) ∧
        (∀ p i, content = .pair p → s.sync.target a = .pair i → (s.sync.pairs.map Prod.fst).Pairwise (· < ·) → v.sync.pair i = p ∧ Recorded s v .hub 0x0805 1) ∧
        (∀ b i, content = .barrier b → s.sync.target a = .barrier i → v.sync.barrier i = b ∧ Recorded s v .hub 0x0805 1) ∧
        (∀ i, content = .lost → s.sync.target a = .word i → (v.sync.word i).poison = true ∧ Recorded s v .hub 0x0805 3)) ∧
    (∀ (c : Instr) (code : Nat) (src : U8) (o : SyncOp), (c, code) ∈ [(Instr.readfe src o, 1), (.take src o, 2), (.fill src o, 3), (.store src o, 4), (.clear src o, 5), (.add src o, 6), (.padv src o, 7), (.cadv src o, 8), (.read src o, 12)] →
      let q := o.withCode code
      ∀ home, s.reaches src.toNat q (.remote home) → Completes c s fun t => same t ∧
        ∀ n, s.sync.node = some n →
          (∀ k, n.hopTo home = some k → t.sync.remoteOut = s.sync.remoteOut ++ [{ src := src.toNat, seq := q.seq, addr := q.addr, gt := s.gt }] ∧ ∃ f ∈ t.sync.treeOut, f.nbr = k ∧ f.body = .remote home s.sync.tray q) ∧
          (n.hopTo home = none → t.replied { src := src.toNat } (q.reply .badArg 0 0) ∧ t.sync.remoteOut = s.sync.remoteOut)) ∧
    (∀ (c : Instr) (nbr hop : Nat),
      (∃ ch h b r, c = .treeUp ch h b r ∧ nbr = ch.toNat + 1 ∧ hop = h.toNat) ∨ (∃ h b r, c = .treeRelease h b r ∧ nbr = 0 ∧ hop = h.toNat) ∨
      (∃ x h m g q, c = .remoteOperation x h m g q ∧ nbr = x.toNat ∧ hop = h.toNat) ∨ (∃ x h g u r, c = .remoteOperationReply x h g u r ∧ nbr = x.toNat ∧ hop = h.toNat) ∨
      (∃ x h ch r v e, c = .treeBroadcast x h ch r v e ∧ ch.toNat < 16 ∧ nbr = x.toNat ∧ hop = h.toNat) →
      Completes c s fun t =>
        (s.isOwner = false ∨ s.sync.node = none → t = s) ∧
        ∀ n, s.isOwner = true → s.sync.node = some n →
          (n.children.length < nbr ∨ (nbr = 0 ∧ n.parent = 0) → t = s) ∧
          (nbr ≤ n.children.length → (nbr = 0 → n.parent ≠ 0) →
            (hop = nth s.sync.hopRx nbr → nth t.sync.hopRx nbr = (hop + 1) % 2 ^ 32 ∧ EthOut.treeAck nbr hop ∈ t.link.ethSent) ∧
            (hop ≠ nth s.sync.hopRx nbr → t = if seqLe hop (nth s.sync.hopRx nbr) = true then s.ethOut (.treeAck nbr hop) else s))) ∧
    (∀ (ch : U8) (hop : U32) (b : U8) (r : U32) (n : TreeNode), takes (ch.toNat + 1) hop.toNat n → Completes (.treeUp ch hop b r) s fun t =>
      let add := fun (x : TreeBarrier) => if x.num = b.toNat then { x with ups := x.ups ++ [(ch.toNat, r.toNat)] } else x
      (63 < b.toNat → (∀ x ∈ s.sync.treeBars, x.num < 64) → t.sync.treeBars = s.sync.treeBars ∧ t.sync.treeEarly = s.sync.treeEarly) ∧
      (∀ x, b.toNat < 64 → s.sync.treeBars.find? (fun x => x.num == b.toNat) = some x → x.upSent = false →
        (s.sync.barrier x.engine).arrived &&& ~~~(1#72 <<< 71) ≠ (s.sync.barrier x.engine).mask &&& ~~~(1#72 <<< 71) → t.sync.treeBars = s.sync.treeBars.map add ∧ same t) ∧
      (∀ x, b.toNat < 64 → s.sync.treeBars.find? (fun x => x.num == b.toNat) = some x → x.upSent = false → n.parent ≠ 0 →
        (s.sync.barrier x.engine).arrived &&& ~~~(1#72 <<< 71) = (s.sync.barrier x.engine).mask &&& ~~~(1#72 <<< 71) → (∀ c ∈ List.range n.children.length, (c, x.round) ∈ x.ups ++ [(ch.toNat, r.toNat)]) →
          ∃ f ∈ t.sync.treeOut, f.nbr = 0 ∧ f.body = .up b.toNat x.round) ∧
      (b.toNat < 64 → (∀ x ∈ s.sync.treeBars, x.num ≠ b.toNat) → same t ∧ ∃ x ∈ t.sync.treeEarly, x.num = b.toNat ∧ (ch.toNat, r.toNat) ∈ x.ups)) ∧
    (∀ (hop : U32) (b : U8) (r : U32) (n : TreeNode), takes 0 hop.toNat n → Completes (.treeRelease hop b r) s fun t =>
      (∀ x, s.sync.treeBars.find? (fun x => x.num == b.toNat) = some x → b.toNat < 64 → x.upSent = true → x.round = r.toNat → x.engine < 64 →
        (t.sync.barrier x.engine).gen = (s.sync.barrier x.engine).gen + 1 ∧ (t.sync.barrier x.engine).arrived = 0 ∧
        ∀ c ∈ List.range n.children.length, ∃ f ∈ t.sync.treeOut, f.nbr = c + 1 ∧ f.body = .release b.toNat r.toNat) ∧
      (b.toNat < 64 → (∀ x ∈ s.sync.treeBars, x.num ≠ b.toNat) → same t ∧ ∃ x ∈ t.sync.treeEarly, x.num = b.toNat ∧ r.toNat ∈ x.releases)) ∧
    (∀ (x : U8) (hop home origin : U32) (q : SyncOp) (n : TreeNode), takes x.toNat hop.toNat n → Completes (.remoteOperation x hop home origin q) s fun t =>
      let from_ : SyncOrigin := { tray := some origin.toNat, src := q.src }
      let known := s.sync.remotes.any fun r => r.tray == origin.toNat && r.src == q.src
      (home.toNat ≠ s.sync.tray → same t ∧ (∀ k, n.hopTo home.toNat = some k → ∃ f ∈ t.sync.treeOut, f.nbr = k ∧ f.body = .remote home.toNat origin.toNat q) ∧
        (n.hopTo home.toNat = none → .reply from_ (q.reply .badArg 0 0) ∈ t.sync.sent)) ∧
      (home.toNat = s.sync.tray → s.sync.awaitCopy = true → same t) ∧
      (home.toNat = s.sync.tray → s.sync.awaitCopy = false → known = false → 4096 ≤ s.sync.remotes.length → t.replied from_ (q.reply .noResource 0 0) ∧ same t ∧ Recorded s t .hub 0x080A 2) ∧
      (home.toNat = s.sync.tray → s.sync.awaitCopy = false → known = false → s.sync.remotes.length < 4096 → (∃ y ∈ t.sync.remotes, y.tray = origin.toNat ∧ y.src = q.src ∧ y.gt = s.gt) ∧
        ∀ i, q.formed = true → s.sync.target q.addr = .word i → q.fits (.word i) = true → q.code ≠ 10 → s.sync.underRepair q.addr = false →
          (∀ z, s.sync.refusal s.repro.strict 71 q (.word i) = some z → t.replied from_ (q.reply z 0 0) ∧ same t) ∧
          (s.sync.refusal s.repro.strict 71 q (.word i) = none → s.sync.ready s.repro.strict q = true → s.quiet q.addr →
            let e := (s.sync.word i).effect s.repro.strict q
            t.sync.word i = e.1 ∧ t.replied from_ (q.reply .ok e.2.val e.2.aux)))) ∧
    (∀ (x : U8) (hop origin : U32) (src : U8) (r : SyncReply) (n : TreeNode), takes x.toNat hop.toNat n → Completes (.remoteOperationReply x hop origin src r) s fun t => same t ∧
      (origin.toNat = s.sync.tray → ∀ y, s.sync.remoteOut.find? (fun y => y.src == src.toNat && y.seq == r.seq) = some y →
        t.replied { src := src.toNat } r ∧ t.sync.remoteOut = if r.status = .accepted then s.sync.remoteOut else s.sync.remoteOut.filter fun k => k != y) ∧
      (origin.toNat ≠ s.sync.tray → ∀ k, n.hopTo origin.toNat = some k → ∃ f ∈ t.sync.treeOut, f.nbr = k ∧ f.body = .remoteReply origin.toNat src.toNat r)) ∧
    (∀ (x : U8) (hop : U32) (ch : U8) (r : U32) (v : U64) (e : U16) (n : TreeNode), ch.toNat < 16 → takes x.toNat hop.toNat n → Completes (.treeBroadcast x hop ch r v e) s fun t =>
      let down := fun (k : Nat) => ∀ c ∈ List.range n.children.length, ∃ f ∈ t.sync.treeOut, f.nbr = c + 1 ∧ f.body = .broadcast ch.toNat k v true e
      let last := nth s.sync.bcRound ch.toNat
      let stored := ∀ i, nth s.sync.channels ch.toNat = some i → i < 524288 → let a := BitVec.ofNat 64 (s.sync.tray * 2 ^ 43 + i)
        s.sync.underRepair a = false → s.sync.refusal s.repro.strict 71 { op := 4, src := 71, fepoch := e, addr := a, val := v } (.word i) = none → s.quiet a →
          (t.sync.word i).val = v ∧ (t.sync.word i).full = true
      (x = 0 → if seqLe last r.toNat = true then nth t.sync.bcRound ch.toNat = (r.toNat + 1) % 2 ^ 32 ∧ down r.toNat ∧ stored else t.sync.bcRound = s.sync.bcRound ∧ same t) ∧
      (x ≠ 0 → n.parent = 0 → nth t.sync.bcRound ch.toNat = (last + 1) % 2 ^ 32 ∧ down last ∧ stored) ∧
      (x ≠ 0 → n.parent ≠ 0 → same t ∧ ∃ f ∈ t.sync.treeOut, f.nbr = 0 ∧ f.body = .broadcast ch.toNat 0 v false e)) ∧
    (∀ (x : U8) (hop : U32),
      let mine := fun (f : TreeFrame) => f.nbr == x.toNat && f.hop == hop.toNat
      Completes (.treeFrameAck x hop) s (fun t =>
        if s.isOwner = true ∧ s.sync.treeOut.any mine = true then
          t.sync = { s.sync with treeOut := s.sync.treeOut.filter (fun f => !mine f), lost := s.sync.lost.filter fun k => k != x.toNat } ∧ (x.toNat ∈ s.sync.lost → Recorded s t .hub 0x0808 0) ∧
          t.without [.sync, .rec_, .pair] = s.without [.sync, .rec_, .pair]
        else t = s) ∧
      Completes (.treeResendTimeout x hop) s (fun t =>
        match s.sync.treeOut.find? mine with
        | none => t = s
        | some f =>
          let lost := s.sync.lost.contains f.nbr
          if s.isOwner = true ∧ f.gt + (if lost = true then 10000 else 20) ≤ s.gt ∧ (f.resends < 50 ∨ lost = true) then
            let g := { f with gt := s.gt, resends := f.resends + 1 }
            t.sync = { s.sync with treeOut := s.sync.treeOut.map fun y => if y = f then g else y } ∧ t.link.ethSent = s.link.ethSent ++ [.tree g] ∧ t.without [.sync, .link] = s.without [.sync, .link]
          else t = s)) ∧
    (∀ x : U8, Completes (.treeNeighbourLost x) s fun t =>
      if s.isOwner = true ∧ s.sync.lost.contains x.toNat = false ∧ ∃ f ∈ s.sync.treeOut, f.nbr = x.toNat ∧ 50 ≤ f.resends then
        t.sync = { s.sync with lost := s.sync.lost ++ [x.toNat] } ∧ Recorded s t .hub 0x0808 2 ∧ t.without [.sync, .rec_] = s.without [.sync, .rec_]
      else t = s) ∧
    (∀ (tray : U32) (src : U8), Completes (.remoteWindowExpiry tray src) s fun t =>
      let mine := fun (r : RemoteWindow) => r.tray == tray.toNat && r.src == src.toNat
      if s.isOwner = true ∧ ∃ r ∈ s.sync.remotes, mine r = true ∧ r.gt + secs 10 ≤ s.gt then
        t.sync = { s.sync with remotes := s.sync.remotes.filter fun r => !mine r } ∧ t.without [.sync, .pair] = s.without [.sync, .pair]
      else t = s)

/-- The sync hub's commands (R336-R338, R341, R345, R347, R348, R350, R352, R354, R358, R394). -/
def Obligations.hub_commands : Prop :=
  ∀ (s : State) (h : Hdr), s.rec_.ports.length = 16 → s.sync.barriers.length = 64 → s.link.ctxKeys.length = 7 → s.sync.wins.length = 72 → s.sync.channels.length = 16 →
    (∀ (job : U8) (cap : U16) (quota wFirst wCount : U32) (pFirst pCount : U16) (engines : U64) (parts bmask : BitVec 72),
      let j : Job := { num := job.toNat, quota := quota.toNat, wFirst := wFirst.toNat, wCount := wCount.toNat, pFirst := pFirst.toNat, pCount := pCount.toNat, engines := engines, parts := parts }
      let bind := s.repro.binds.find? fun b => b.job == job.toNat
      let differ := bind.bind fun b => b.differs ((List.range 8).map fun n => if j.pkgs.getLsbD n then s.coreCount n else 0)
      Answers (.jobOpen h job cap quota wFirst wCount pFirst pCount engines parts bmask) h (.jobOpen job cap quota wFirst wCount pFirst pCount engines parts bmask) s fun u r t =>
        if jobNumber job.toNat = false ∨ cap = 0 ∨ 524288 < j.wFirst + j.wCount ∨ 4096 < j.pFirst + j.pCount ∨ bmask &&& ~~~parts ≠ 0 ∨ (parts.getLsbD 71 = true ∧ s.sync.node = none) ∨
            partsWith (parts ||| bmask) (fun i => decide (i < 64) && s.dieMissing i) = true then r = Reply.fail .badArg ∧ t = u
        else if s.repro.strict = true ∧ bind = none then r = Reply.fail .strictMode ∧ t = u
        else if s.repro.strict = true ∧ differ ≠ none then r = Reply.fail .strictMode ∧ Recorded u t .fp3 0x0A04 1 ∧ t.without [.rec_] = u.without [.rec_]
        else if s.sync.jobs.any (fun x => x.num == job.toNat) = true then r = Reply.fail .stateConflict ∧ t = u
        else match s.sync.jobs.findSome? fun x => j.overlap x with
          | some p => r = { status := .stateConflict, payload := jobOpenPayload job.toNat (s.sync.addrOf p.1 p.2) } ∧ t = u
          | none =>
            if partsWith parts (fun i => decide (64 ≤ i ∧ i < 71) && !(nth s.link.ctxKeys (i - 64)).bound) = true ∨ partsWith parts (fun i => decide (i < 64) && s.dieUnready i) = true then r = Reply.fail .stateConflict ∧ t = u
            else match s.sync.dirtyOf j with
              | a :: _ => r = { status := .stateConflict, payload := jobOpenPayload job.toNat a } ∧ t = u
              | [] =>
                if 65536 < (s.sync.jobs.map Job.quota).foldl (· + ·) j.quota then r = Reply.fail .noResource ∧ t = u
                else r = { payload := jobOpenPayload job.toNat 0 } ∧ t.sync = s.sync.openJob j cap.toNat bmask ∧ Recorded u t .hub 0x0802 0 ∧
                  (∀ i, engines.getLsbD i = true → i < 64 → (t.sync.barrier i).mask = bmask) ∧
                  (bind = none → t.without [.sync, .trace, .rec_, .pair] = u.without [.sync, .trace, .rec_, .pair]) ∧
                  (bind ≠ none → t.repro.rpSeq = u.repro.rpSeq + 1 ∧ (∀ b ∈ t.repro.binds, b.job ≠ job.toNat) ∧ t.without [.sync, .trace, .rec_, .pair, .repro, .sec] = u.without [.sync, .trace, .rec_, .pair, .repro, .sec])) ∧
    (∀ (job : U8), Answers (.jobClose h job) h (.jobClose job) s fun u r t =>
      if jobNumber job.toNat = false then r = Reply.fail .badArg ∧ t = u
      else match s.sync.jobs.find? fun j => j.num == job.toNat with
        | none => r = Reply.fail .stateConflict ∧ t = u
        | some j =>
          let owned := s.sync.parked.filter fun p => j.owns (s.sync.target p.op.addr)
          if owned ≠ [] ∧ h.auto = false then r = Reply.fail .stateConflict ∧ t = u
          else r.status = .ok ∧ r.payload.take 8 = i4 (t.sync.dirtyOf j).length ++ i4 owned.length ∧ t.sync.jobs = s.sync.jobs.filter (fun x => x.num != j.num) ∧ t.sameObjects s ∧
            (∀ p ∈ owned, t.replied p.origin (p.op.reply .stateConflict 0 0)) ∧ t.sync.parked = s.sync.parked.filter (fun p => !j.owns (s.sync.target p.op.addr)) ∧
            (∀ w ∈ s.sync.watches, j.owns (s.sync.target w.addr) = true → t.notified w.src { kind := 2, cond := w.cond, handle := w.handle, cookie := w.cookie, fire := w.fire } ∧ ∀ x ∈ t.sync.watches, x.handle ≠ w.handle) ∧
            Recorded u t .hub 0x0803 (if t.sync.dirtyOf j = [] then 0 else 1)) ∧
    (∀ (a v : U64) (c : Instr) (b : Body) (x : SyncWord → SyncWord) (un : Bool),
      (c, b, un, x) ∈ [(Instr.feSetEmpty h a v, Body.feSetEmpty a v, false, fun w => { w with val := v, full := false, poison := false }), (.feSetFull h a v, .feSetFull a v, false, fun w => { w with val := v, full := true, poison := false }),
        (.feSetUnpoison h a v, .feSetUnpoison a v, true, fun w => { w with val := 0, full := false, poison := false })] →
      Answers c h b s fun u r t =>
        if (s.sync.target a).isWord = false then r = Reply.fail .badArg ∧ t = u
        else if s.repro.strict = true then r = Reply.fail .strictMode ∧ t = u
        else if un = false ∧ s.sync.poisoned (s.sync.target a) = true then r = Reply.fail .integrityFail ∧ t = u
        else r = { payload := i8 (s.sync.reads a).1.toNat ++ i8 (s.sync.reads a).2.toNat } ∧ Recorded u t .hub 0x0807 1 ∧ t.sync.pairs = s.sync.pairs ∧ t.sync.barriers = s.sync.barriers ∧
          ∀ i, s.sync.target a = .word i → s.quiet a → (s.sync.words.map Prod.fst).Pairwise (· < ·) → t.sync.word i = x (s.sync.word i) ∧ ∀ j, j ≠ i → t.sync.word j = s.sync.word j) ∧
    (∀ (a v : U64), Answers (.feSetPair h a v) h (.feSetPair a v) s fun u r t =>
      if (s.sync.target a).isPair = false then r = Reply.fail .badArg ∧ t = u
      else if s.repro.strict = true then r = Reply.fail .strictMode ∧ t = u
      else if s.sync.poisoned (s.sync.target a) = true then r = Reply.fail .integrityFail ∧ t = u
      else Recorded u t .hub 0x0807 1 ∧ t.sync.words = s.sync.words ∧ t.sync.barriers = s.sync.barriers ∧ ∀ i, s.sync.target a = .pair i →
        r = { payload := i8 (s.sync.pair i).p.toNat ++ i8 (s.sync.pair i).c.toNat } ∧
        (s.quiet a → (s.sync.pairs.map Prod.fst).Pairwise (· < ·) → t.sync.pair i = { s.sync.pair i with c := (s.sync.pair i).p } ∧ ∀ j, j ≠ i → t.sync.pair j = s.sync.pair j)) ∧
    (∀ (a v : U64), Answers (.feSetBarrier h a v) h (.feSetBarrier a v) s fun u r t =>
      if (s.sync.target a).isBarrier = false then r = Reply.fail .badArg ∧ t = u
      else if s.repro.strict = true then r = Reply.fail .strictMode ∧ t = u
      else if s.sync.poisoned (s.sync.target a) = true then r = Reply.fail .integrityFail ∧ t = u
      else r.status = .ok ∧ Recorded u t .hub 0x0807 1 ∧ t.sync.words = s.sync.words ∧ t.sync.pairs = s.sync.pairs ∧
        ∀ i, s.sync.target a = .barrier i → (∀ p ∈ s.sync.parked, objKey p.op.addr = objKey a → p.op.code = 9) →
          t.sync.barriers = s.sync.barriers.set i { s.sync.barrier i with arrived := 0, since := none } ∧
          ∀ p ∈ s.sync.parked, s.sync.target p.op.addr = .barrier i → p.op.code = 9 → t.replied p.origin (p.op.reply .stateConflict 0 0) ∧ p ∉ t.sync.parked) ∧
    (∀ first n : U16, Answers (.hangReport h first n) h (.hangReport first n) s fun u r t => t = u ∧
      if n = 0 ∨ 32 < n.toNat then r = Reply.fail .badArg else r = { payload := i4 s.hungNow.length ++ i4 0 ++ (((s.hungNow.drop first.toNat).take n.toNat).map s.hangEntry).flatten }) ∧
    Answers (.syncStatus h) h .syncStatus s (fun u r t => t = u ∧ r.status = .ok ∧ r.payload.take 24 = i8 s.sync.applied ++ i8 s.sync.dups ++ i4 s.sync.parked.length ++ i4 s.sync.watches.length) ∧
    (∀ (x : U8) (n : U32), Answers (.syncCfgHangTimeout h x n) h (.syncCfgHangTimeout x n) s fun u r t =>
      if n = 0 ∨ 3600 < n.toNat then r = Reply.fail .badArg ∧ t = u else r = {} ∧ t.sync = { s.sync with hangS := n.toNat } ∧ t.without [.sync, .pair] = u.without [.sync, .pair]) ∧
    (∀ (x : U8) (k : BitVec 256),
      Answers (.syncCfgBind h x k) h (.syncCfgBind x k) s (fun u r t =>
        if hostContext x.toNat = false then r = Reply.fail .badArg ∧ t = u
        else r = {} ∧ nth t.link.ctxKeys (x.toNat - 64) = { bound := true, key := k } ∧ t.sync = { s.sync with wins := modAt s.sync.wins x.toNat fun w => { w with restart := true, seen := [] } } ∧
          Recorded u t .hub 0x0809 0 ∧ t.without [.link, .sync, .rec_, .pair] = u.without [.link, .sync, .rec_, .pair]) ∧
      Answers (.syncCfgUnbind h x) h (.syncCfgUnbind x) s (fun u r t =>
        if hostContext x.toNat = false then r = Reply.fail .badArg ∧ t = u
        else if s.sync.jobs.any (fun j => j.parts.getLsbD x.toNat) = true ∨ (nth s.link.ctxKeys (x.toNat - 64)).bound = false then r = Reply.fail .stateConflict ∧ t = u
        else r = {} ∧ nth t.link.ctxKeys (x.toNat - 64) = {} ∧ Recorded u t .hub 0x0809 0 ∧ t.without [.link, .rec_, .pair] = u.without [.link, .rec_, .pair])) ∧
    (∀ (k : U8) (tray : U32) (parent : BitVec 128) (ch : List TreeChild), Answers (.treeCfgNode h k tray parent ch) h (.treeCfgNode k tray parent ch) s fun u r t =>
      if k.toNat < 2 ∨ 64 < k.toNat ∨ k.toNat < ch.length ∨ 131072 < tray.toNat + 1 + (ch.map TreeChild.trays).foldl (· + ·) 0 ∨ (∃ c ∈ ch, c.trays = 0) then r = Reply.fail .badArg ∧ t = u
      else if s.sync.treeBusy = true then r = Reply.fail .stateConflict ∧ t = u
      else r = {} ∧ t.sync.tray = tray.toNat ∧ t.sync.node = some { tray := tray.toNat, k := k.toNat, parent := parent, children := ch } ∧ t.sync.treeOut = [] ∧ t.sync.lost = [] ∧ t.sameObjects s ∧
        Recorded u t .hub 0x0808 0 ∧ t.without [.sync, .rec_, .pair] = u.without [.sync, .rec_, .pair]) ∧
    (∀ e b : U8,
      let x := s.sync.barrier e.toNat
      let own : BitVec 72 := ~~~(1#72 <<< 71)
      Answers (.treeCfgBindBarrier h e b) h (.treeCfgBindBarrier e b) s (fun u r t =>
        if 63 < e.toNat ∨ 63 < b.toNat then r = Reply.fail .badArg ∧ t = u
        else if s.sync.node = none ∨ x.mask.getLsbD 71 = false ∨ x.tree ≠ none ∨ s.sync.treeBars.any (fun t => t.num == b.toNat) = true then r = Reply.fail .stateConflict ∧ t = u
        else r = {} ∧ (t.sync.barrier e.toNat).tree = some b.toNat ∧ t.sync.treeBars.map TreeBarrier.num = s.sync.treeBars.map TreeBarrier.num ++ [b.toNat] ∧ t.sync.words = s.sync.words ∧ t.sync.pairs = s.sync.pairs ∧
          t.sync.treeEarly = s.sync.treeEarly.filter (fun y => y.num != b.toNat) ∧
          (x.arrived &&& own ≠ x.mask &&& own → (∀ y ∈ s.sync.treeEarly, y.upSent = false) → t.sync.barriers = s.sync.barriers.set e.toNat { x with tree := some b.toNat } ∧
            t.sync.treeBars = s.sync.treeBars ++ [{ (s.sync.treeEarly.find? fun y => y.num == b.toNat).getD {} with num := b.toNat, engine := e.toNat }])) ∧
      Answers (.treeCfgUnbindBarrier h e b) h (.treeCfgUnbindBarrier e b) s (fun u r t =>
        if 63 < e.toNat ∨ 63 < b.toNat then r = Reply.fail .badArg ∧ t = u
        else if x.tree ≠ some b.toNat then r = Reply.fail .stateConflict ∧ t = u
        else r = {} ∧ t.sync = { s.sync with barriers := s.sync.barriers.set e.toNat { x with tree := none }, treeBars := s.sync.treeBars.filter fun t => t.num != b.toNat } ∧ t.without [.sync, .pair] = u.without [.sync, .pair])) ∧
    (∀ (c : U8) (w : U32), Answers (.treeCfgBindChannel h c w) h (.treeCfgBindChannel c w) s fun u r t =>
      if 15 < c.toNat ∨ 524288 ≤ w.toNat then r = Reply.fail .badArg ∧ t = u
      else r = {} ∧ t.sync = { s.sync with channels := s.sync.channels.set c.toNat (some w.toNat) } ∧ t.without [.sync, .pair] = u.without [.sync, .pair]) ∧
    Answers (.treeCfgLeave h) h .treeCfgLeave s (fun u r t =>
      if s.sync.node = none ∨ s.sync.treeBusy = true then r = Reply.fail .stateConflict ∧ t = u
      else r = {} ∧ t.sync.node = none ∧ t.sync.treeBars = [] ∧ t.sync.treeEarly = [] ∧ (∀ b ∈ t.sync.barriers, b.tree = none) ∧ t.sync.words = s.sync.words ∧ t.sync.pairs = s.sync.pairs ∧ Recorded u t .hub 0x0808 0 ∧
        t.without [.sync, .rec_, .pair] = u.without [.sync, .rec_, .pair])

/-! Links and host path (13) -/

/-- Flits, replays, retrains, training, and the reports of the packages (R361, R362, R365-R371, R384, R385). -/
def Obligations.links : Prop :=
  ∀ (s : State), s.link.ports.length = 10 → s.rec_.ports.length = 16 → s.link.dies.length = 64 → s.cool.sensors.length = 344 →
    let same := fun (ps : List Part) (t : State) => t.without ps = s.without ps
    (∀ (n : U8), let p := s.skv n.toNat
      let live := n.toNat ≤ 10 ∧ p.trained = true
      (∀ nak ack cr, Completes (.linkFlit n nak ack cr) s fun t =>
        let a := p.acknowledged ack.toNat s.gt
        if live then
          (t.skv n.toNat).rx = p.rx + 1 ∧ t.sync = { s.sync with issued := t.sync.issued } ∧ same [.link, .pair, .sync, .trace, .rec_] t ∧
          (p.txq = [] → (t.skv n.toNat).replay = a.replay ∧ (t.skv n.toNat).credits = (List.range 7).map fun i => nth p.credits i + cr.getD i 0) ∧
          (nak = false → (t.skv n.toNat).replays = p.replays) ∧ (nak = true → a.replay ≠ [] → (t.skv n.toNat).replays = satAdd 32 p.replays 1) ∧
          (∀ k, k < p.replay.length → (nth p.replay k).seq = ack.toNat → (∀ j, j < k → (nth p.replay j).seq ≠ ack.toNat) → a.replay = p.replay.drop (k + 1)) ∧
          ((∀ f ∈ p.replay, f.seq ≠ ack.toNat) → a.replay = p.replay)
        else t = s) ∧
      Completes (.flitCrcFail n) s (fun t =>
        let ack := (p.rxSeq + 4095) % 4096
        if live then
          t.skv n.toNat = { p with rx := p.rx + 1, tx := p.tx + 1, crcErr := satAdd 32 p.crcErr 1, discarding := true, linkSent := p.linkSent ++ [(true, ack, List.replicate 7 0)], wire := p.wire ++ [linkFlit true ack (List.replicate 7 0)] } ∧
          same [.link, .pair] t
        else t = s) ∧
      Completes (.replayTimeout n) s (fun t =>
        if live ∧ p.retrain = none ∧ p.replay ≠ [] ∧ p.ackGt + 2 ≤ s.gt ∧ p.stuck < 8 then
          t.skv n.toNat = { p with replays := satAdd 32 p.replays 1, tx := p.tx + p.replay.length, ackGt := s.gt, stuck := p.stuck + 1, wire := p.wire ++ p.replay.map Flit.bytes } ∧ same [.link, .pair, .trace, .rec_] t
        else t = s) ∧
      Completes (.retrain n) s (fun t =>
        if live ∧ p.retrain = none ∧ 8 ≤ p.stuck then
          t.skv n.toNat = { p with retrain := some s.gt, retrains := satAdd 32 p.retrains 1, stuck := 0 } ∧ Recorded s t .hostSwitch 0x0903 1 ∧ same [.link, .pair, .trace, .rec_] t
        else t = s) ∧
      Completes (.retrainTimeout n) s (fun t =>
        if n.toNat ≤ 10 ∧ ∃ g ∈ p.retrain, g + ms 100 ≤ s.gt then
          ((t.skv n.toNat).phase = .down ∨ (t.skv n.toNat).phase = .partnerPath) ∧ (t.skv n.toNat).retrain = none ∧ (t.skv n.toNat).replay = [] ∧ (t.skv n.toNat).credits = List.replicate 7 0 ∧
          Recorded s t (if n.toNat = 10 then .mirror else .hostSwitch) 0x0902 (if n.toNat < 8 ∧ s.acc n.toNat = .on then 3 else 1)
        else t = s) ∧
      (∀ g : U8, Completes (.linkTrainingComplete n g) s fun t =>
        let q := t.skv n.toNat
        if 10 < n.toNat ∨ p.phase = .unused ∨ s.clk.coreInReset = true ∨ (p.retrain = none ∧ p.trained = true) then t = s
        else (p.retrain ≠ none → q.retrain = none ∧ q.phase = p.phase) ∧
          (p.retrain = none → n.toNat < 10 → q.phase = .up ∧ q.gen = (if g = 1 ∨ (n.toNat < 8 ∧ (s.op.table.sec n.toNat).kind = 2) then 1 else 2) ∧
            (p.replay = [] → (∀ m ∈ p.txq, m.cls ≠ 7) → ∃ m ∈ q.sent, m.cls = 7 ∧ m.body = s.ownCapability)) ∧
          (p.retrain = none → n.toNat = 10 → q.phase = .linkUp ∧ .straps s.straps.slotId.toNat s.straps.coolMode s.straps.pairSel s.runningManifest.mirrorProto ∈ t.pair.out)) ∧
      (∀ c : Capability, Completes (.capabilityMessage n c) s fun t =>
        if n.toNat < 10 ∧ p.trained = true then
          if s.capOk n.toNat c = true then (t.skv n.toNat).phase = .linkUp ∧ (t.skv n.toNat).cap = some c ∧ Recorded s t .hostSwitch 0x0901 0 else (t.skv n.toNat).phase = .up ∧ Recorded s t .hostSwitch 0x0904 2
        else t = s)) ∧
    (∀ (pkg : U8) (r : PhaseReport), Completes (.phaseReport pkg r) s fun t =>
      let n := pkg.toNat
      let i := r.part.toNat
      if s.hears n = false then t = s
      else if n < 8 ∧ i < 64 ∧ i / 8 = n ∧ ∀ old ∈ (nth s.link.dies i).rseq, old < r.rseq.toNat then
        t.link.dies = s.link.dies.set i { rseq := some r.rseq.toNat, phase := some r.phase.toNat, step := some r.step.toNat, chgSeq := r.chgSeq.toNat } ∧ t.link.topStep = max s.link.topStep r.step.toNat
      else t = (s.received n 3 24).dropReport n) ∧
    (∀ (pkg : U8) (r : TempReport), Completes (.temperatureReport pkg r) s fun t =>
      let n := pkg.toNat
      let shown := fun (i : Nat) (v : BitVec 16) => if v ≠ 0x8000 ∧ s.sensorActive i = true then (t.sensor i).x = some v.toInt ∧ (t.sensor i).gt = s.gt ∧ (t.sensor i).stale = false else t.sensor i = s.sensor i
      if s.hears n = false then t = s
      else if r.pkg ≠ pkg ∨ 8 ≤ n then t = (s.received n 4 80).dropReport n
      else (∀ d, d < 8 → shown (8 * n + d) (r.die.getD d 0x8000)) ∧ (∀ k, k < 24 → shown (64 + 24 * n + k) (r.hbm.getD k 0x8000)) ∧ same [.cool, .link] t) ∧
    (∀ (pkg cls : U8) (body : List Byte), Completes (.partnerPathMessage pkg cls body) s fun t =>
      t = if s.pair.role = .standby ∧ pkg.toNat < 8 ∧ (s.skv pkg.toNat).trained = true ∧ (cls = 1 ∨ cls = 5 ∨ cls = 6) ∧ s.mirTrained = true then (s.received pkg.toNat cls.toNat body.length).mirOut (.path pkg.toNat cls.toNat body) else s) ∧
    (∀ h : Hdr,
      Answers (.linkStatus h) h .linkStatus s (fun u r t => t = u ∧ r.status = .ok ∧ r.detail = 0 ∧
        r.payload.take 8 = i1 s.link.ethMode ++ i1 s.link.media ++ i1 (packBits [s.link.trayAddr, s.link.jumbo]) ++ i1 0 ++ i4 s.link.dropped) ∧
      (∀ n : U8, Answers (.linkRetrain h n) h (.linkRetrain n) s fun u r t =>
        let p := s.skv n.toNat
        if 10 < n.toNat then r = Reply.fail .badArg ∧ t = u
        else if n.toNat ≠ 10 ∧ p.trained = false then r = Reply.fail .stateConflict ∧ t = u
        else if n.toNat = 10 ∨ p.retrain ≠ none then r = {} ∧ t = u
        else r = {} ∧ t.skv n.toNat = { p with retrain := some s.gt, retrains := satAdd 32 p.retrains 1, stuck := 0 } ∧ t.without [.link, .trace, .rec_] = u.without [.link, .trace, .rec_]) ∧
      (∀ w : List U8, w.length = 5 → Answers (.bwShareSet h w) h (.bwShareSet w) s fun u r t =>
        if ∃ x ∈ w, x = 0 ∨ 15 < x.toNat then r = Reply.fail .badArg ∧ t = u else r = {} ∧ t = { u with link := { u.link with weights := w.map BitVec.toNat } }))

/-- Ethernet, host-path frames, queues and image pushes (R373, R374, R376, R377, R379, R380, R382, R383, R386). -/
def Obligations.host_path_events : Prop :=
  ∀ (s : State), s.rec_.ports.length = 16 → s.link.ctxKeys.length = 7 → s.link.queueKeys.length = 64 → s.link.imageKeys.length = 8 → s.link.buffers.length = 8 → s.link.ports.length = 10 →
    let off := s.clk.coreInReset = true
    let same := fun (ps : List Part) (t : State) => t.without ps = s.without ps
    let dropped := fun (t : State) => if off then t = s else
      same [.link, .trace, .rec_] t ∧ t.link = { s.link with dropped := satAdd 32 s.link.dropped 1, authFail := t.link.authFail, ctxKeys := t.link.ctxKeys, queueKeys := t.link.queueKeys, imageKeys := t.link.imageKeys }
    (∀ (c : U8) (f : HostFrame) (ops : List SyncOp), Completes (.hostSyncFrame c f ops) s fun t =>
      let i := c.toNat - 64
      let k := s.link.hostKey 0 i
      if off then t = s
      else if c.toNat < 64 ∨ 70 < c.toNat ∨ ops = [] ∨ 32 < ops.length ∨ f.formed 0 1 (32 * ops.length) = false then dropped t ∧ t.link.authFail = s.link.authFail
      else match k.refuses f with
        | some z => dropped t ∧ t.link.authFail = (if z = 3 then satAdd 32 s.link.authFail 1 else s.link.authFail) ∧ (z = 3 → s.gt ∈ (t.link.hostKey 0 i).fails)
        | none => (t.link.hostKey 0 i).high = some (max f.fseq.toNat (k.high.getD 0)) ∧ t.link.dropped = s.link.dropped ∧
          t = (ops.foldl (fun (s : State) o => s.syncArrival c.toNat o) (s.onLink fun l => l.onHostKey 0 i fun x => x.noted f.fseq.toNat)).mirrored .host) ∧
    (∀ (n : U8) (f : HostFrame) (cack : U32) (es : List QueueEntry), Completes (.queueEntriesFrame n f cack es) s fun t =>
      match (if n.toNat < 64 ∧ s.isOwner = true then s.queue n.toNat else none) with
      | none => dropped t
      | some q =>
        if (∃ e ∈ es, q.entryBytes < e.data.length) ∨ off ∨ f.formed 1 3 (queueFrameLen es) = false ∨ (s.link.hostKey 1 n.toNat).refuses f ≠ none then dropped t
        else ∃ x k, t.queue n.toNat = some x ∧ x.c = q.c ∧
          let acked := fun (st : Status) => EthOut.queueAck n.toNat k x.a x.c st ∈ t.link.ethSent ∨ ∃ m, (m, EthOut.queueAck n.toNat k x.a x.c st) ∈ t.link.heldAcks
          if q.detached = true then x.a = q.a ∧ x.entries = q.entries ∧ x.comps = q.comps ∧ acked .stateConflict
          else x.a = (q.takeAll es).1.a ∧ x.entries = (q.takeAll es).1.entries ∧ x.cack = max q.cack cack.toNat ∧
            x.comps = (if q.cack < cack.toNat then q.comps.filter fun c => decide (cack.toNat < c.cseq) else q.comps) ∧ acked (q.takeAll es).2) ∧
    (∀ (port queue : U8) (k : U32), Completes (.consumedCount port queue k) s fun t =>
      if s.hears port.toNat = false then t = s
      else
        let u := s.received port.toNat 5 8
        match s.queue queue.toNat with
        | none => t = u
        | some q =>
          if q.port = port.toNat ∧ q.detached = false ∧ q.c < k.toNat ∧ k.toNat ≤ q.delivered then
            ∃ x, t.queue queue.toNat = some x ∧ x.c = k.toNat ∧ x.a = q.a ∧ x.comps = q.comps ∧ x.entries = q.entries.filter fun e => decide (k.toNat < e.qseq)
          else t = u) ∧
    (∀ (port queue : U8) (k : U32) (data : List Byte), Completes (.completion port queue k data) s fun t =>
      if s.hears port.toNat = false then t = s
      else
        let u := s.received port.toNat 5 (8 + data.length)
        match s.queue queue.toNat with
        | none => t = u
        | some q =>
          if q.port ≠ port.toNat ∨ q.detached = true ∨ k.toNat ≤ q.cack ∨ (∃ c ∈ q.comps, c.cseq = k.toNat) then t = u
          else if q.depth ≤ q.comps.length ∨ 1024 < data.length then t = u.onLink fun l => { l with compDropped := satAdd 32 l.compDropped 1 }
          else
            let c : QueueCompletion := { cseq := k.toNat, data := data, gt := s.gt }
            t.queue queue.toNat = some { q with comps := q.comps ++ [c] } ∧ ∃ m, EthOut.completions queue.toNat m [c] ∈ t.link.ethSent) ∧
    (∀ queue : U8, Completes (.completionResend queue) s fun t =>
      match s.queue queue.toNat with
      | none => t = s
      | some q =>
        let due := q.comps.filter fun c => s.since c.gt (ms 1)
        if due = [] ∨ s.isOwner = false then t = s
        else ∃ m, t.link.ethSent = s.link.ethSent ++ [.completions queue.toNat m due] ∧ t.queue queue.toNat = some { q with comps := q.comps.map fun c => if c ∈ due then { c with gt := s.gt } else c }) ∧
    (∀ (b : U8) (f : HostFrame) (o : U32) (data : List Byte) (obj : ObjectImage), Completes (.imageDataFrame b f o data obj) s fun t =>
      match (if b.toNat < 8 ∧ s.isOwner = true then nth s.link.buffers b.toNat else none) with
      | none => dropped t
      | some x =>
        if x.size < o.toNat + data.length ∨ off ∨ f.formed 2 6 (4 + data.length) = false ∨ (s.link.hostKey 2 b.toNat).refuses f ≠ none then dropped t
        else ∃ m, let y : ImageBuffer := { x with ranges := addRange o.toNat (o.toNat + data.length) x.ranges, content := x.content.writeBytes o.toNat data, obj := obj }
          t.link.buffers = s.link.buffers.set b.toNat (some y) ∧ t.link.ethSent = s.link.ethSent ++ [.imageAck b.toNat m (contiguous y.ranges)]) ∧
    (∀ id : U32, Completes (.imageBlockSend id) s fun t =>
      match (if s.isOwner = true then s.link.pushes.find? fun p => p.id == id.toNat && !p.ended else none) with
      | none => t = s
      | some p =>
        if p.obj.man.nblocks ≤ p.next then { p with ended := true } ∈ t.link.pushes
        else if nth p.obj.blocksOk p.next = true then { p with next := p.next + 1, ended := decide (p.obj.man.nblocks ≤ p.next + 1) } ∈ t.link.pushes
        else (∀ x ∈ t.link.pushes, x.id = p.id → x.mask &&& p.mask = 0) ∧ Recorded s t .fp3 0x0C07 2) ∧
    (∀ (pkg : U8) (push : U32) (st : U8), Completes (.done pkg push st) s fun t =>
      if 8 ≤ pkg.toNat ∨ s.hears pkg.toNat = false then t = s
      else if s.link.pushes.any (fun p => p.id == push.toNat && p.mask.getLsbD pkg.toNat) = false then t = s.received pkg.toNat 6 12
      else (∀ p ∈ t.link.pushes, p.id = push.toNat → p.mask.getLsbD pkg.toNat = false) ∧ Recorded s t .fp3 0x0907 (if st = 0 then 0 else 2)) ∧
    (∀ cls i : U8, Completes (.hostTagFailBurst cls i) s fun t =>
      if 64 < ((s.link.hostKey cls.toNat i.toNat).fails.filter fun t => decide (s.gt < t + secs 1)).length then
        (t.link.hostKey cls.toNat i.toNat).fails = [] ∧ Recorded s t .hostSwitch 0x0908 1 ∧ same [.link, .rec_] t
      else t = s) ∧
    (∀ m : U8, Completes (.ethernetLinkChange m) s fun t =>
      if m.toNat ≤ 4 ∧ m.toNat ≠ s.link.ethMode ∧ (m = 0 ∨ s.cfg.eth.modes.getLsbD (m.toNat - 1) = true) ∧ ¬off then
        t.link = { s.link with ethMode := m.toNat } ∧ Recorded s t .hostSwitch 0x0906 (if m = 0 then 1 else 0) ∧ same [.link, .rec_] t
      else t = s) ∧
    (∀ n : U32, Completes (.fecUncorrectableBurst n) s fun t =>
      if 1000 < n.toNat ∧ ¬off then t.link = { s.link with fecUnc := s.link.fecUnc + n.toNat } ∧ Recorded s t .hostSwitch 0x090A 1 ∧ same [.link, .rec_] t else t = s) ∧
    (∀ r : U8, Completes (.ethernetFrameDiscard r) s fun t => t = if off then s else { s with link := { s.link with dropped := satAdd 32 s.link.dropped 1 } }) ∧
    (∀ ip : U32, Completes (.arpRequest ip) s fun t => t = if off then s else if ip.toNat = s.cfg.eth.own.2.1 then s.ethOut (.arpReply false)
      else if s.isOwner = true ∧ s.link.trayAddr = true ∧ ip.toNat = s.cfg.eth.tray.2.1 then s.ethOut (.arpReply true) else s) ∧
    (∀ ip : BitVec 128, Completes (.neighbourSolicitation ip) s fun t => t = if off then s else if ip.toNat = s.cfg.eth.own.2.2 then s.ethOut (.neighbourAdvert false true)
      else if s.isOwner = true ∧ s.link.trayAddr = true ∧ ip.toNat = s.cfg.eth.tray.2.2 then s.ethOut (.neighbourAdvert true true) else s) ∧
    (∀ (v6 : Bool) (ip : BitVec 128) (data : List Byte),
      let at_ := fun (a : Nat × Nat × Nat) => if v6 = true then a.2.2 else a.2.1
      Completes (.icmpEchoRequest v6 ip data) s fun t => t = if off then s else if ip.toNat = at_ s.cfg.eth.own then s.ethOut (.echoReply v6 false data)
        else if s.isOwner = true ∧ s.link.trayAddr = true ∧ ip.toNat = at_ s.cfg.eth.tray then s.ethOut (.echoReply v6 true data) else s)

/-- The host-path commands (R101, R378, R381-R383, R385). -/
def Obligations.host_path_commands : Prop :=
  ∀ (s : State) (h : Hdr), s.rec_.ports.length = 16 → s.link.queueKeys.length = 64 → s.link.imageKeys.length = 8 → s.link.buffers.length = 8 → s.link.ports.length = 10 →
    (∀ (q n : U8) (depth bytes : U16) (key : BitVec 256), Answers (.hostqCreate h q n depth bytes key) h (.hostqCreate q n depth bytes key) s fun u r t =>
      if 63 < q.toNat ∨ 9 < n.toNat ∨ depth.toNat < 16 ∨ 4096 < depth.toNat ∨ bytes.toNat < 64 ∨ 4096 < bytes.toNat then r = Reply.fail .badArg ∧ t = u
      else if s.queue q.toNat ≠ none ∨ s.portFitted n.toNat = false then r = Reply.fail .stateConflict ∧ t = u
      else if 256 * 2 ^ 20 < (s.link.queues.map fun x => x.depth * x.entryBytes).foldl (· + ·) (depth.toNat * bytes.toNat) then r = Reply.fail .noResource ∧ t = u
      else r = {} ∧ t.link = { s.link with queueKeys := s.link.queueKeys.set q.toNat { bound := true, key := key }, queues := insertQueue { num := q.toNat, port := n.toNat, depth := depth.toNat, entryBytes := bytes.toNat } s.link.queues } ∧
        Recorded u t .fp3 0x090B 0 ∧ t.without [.link, .rec_, .pair] = u.without [.link, .rec_, .pair]) ∧
    (∀ q : U8, Answers (.hostqDelete h q) h (.hostqDelete q) s fun u r t =>
      if 63 < q.toNat then r = Reply.fail .badArg ∧ t = u
      else match s.queue q.toNat with
        | none => r = Reply.fail .stateConflict ∧ t = u
        | some x => r = { payload := i4 x.entries.length ++ i4 x.comps.length } ∧ t.link = { s.link with queueKeys := s.link.queueKeys.set q.toNat {}, queues := s.link.queues.filter fun y => y.num != q.toNat } ∧
          Recorded u t .fp3 0x090B 0 ∧ t.without [.link, .rec_, .pair] = u.without [.link, .rec_, .pair]) ∧
    (∀ (b m src : U8) (size : U32) (key : BitVec 256), Answers (.imagePushOpen h b m src size key) h (.imagePushOpen b m src size key) s fun u r t =>
      if 7 < b.toNat ∨ size.toNat < 65536 ∨ 96 * 2 ^ 20 < size.toNat then r = Reply.fail .badArg ∧ t = u
      else r = {} ∧ t.link = { s.link with imageKeys := s.link.imageKeys.set b.toNat { bound := true, key := key }, buffers := s.link.buffers.set b.toNat (some { size := size.toNat }) } ∧ t.without [.link, .pair] = u.without [.link, .pair]) ∧
    (∀ (b m src : U8) (o : U32), Answers (.imagePushStart h b m src o) h (.imagePushStart b m src o) s fun u r t =>
      if sourceBad src.toNat b.toNat o.toNat = true ∨ m = 0 then r = Reply.fail .badArg ∧ t = u
      else if ∃ n ∈ members m, s.pushable n = false then r = Reply.fail .stateConflict ∧ t = u
      else match s.imageSource src.toNat b.toNat o.toNat with
        | none => r = Reply.fail (if src = 0 then .integrityFail else .stateConflict) ∧ t = u
        | some (obj, content) =>
          if src = 0 ∧ s.updateOverlaps o.toNat obj.span = true then r = Reply.fail .stateConflict ∧ t = u
          else if s.imageVerifies obj [5, 6] = false then r = Reply.fail .integrityFail ∧ Recorded u t .fp3 0x0C07 2 ∧ t.without [.rec_] = u.without [.rec_]
          else r = { status := .accepted, payload := i4 t.link.pushId } ∧ t.link.pushId = (s.link.pushId + 1) % 2 ^ 32 ∧
            t.link.pushes = s.link.pushes ++ [{ id := t.link.pushId, mask := m, obj := obj, content := content }] ∧ t.without [.link, .pair] = u.without [.link, .pair]) ∧
    (∀ (b m src : U8) (o : U32), Answers (.imagePushAbort h b m src o) h (.imagePushAbort b m src o) s fun u r t =>
      if m = 0 then r = Reply.fail .badArg ∧ t = u
      else r = {} ∧ (∀ p ∈ t.link.pushes, p.mask &&& m = 0) ∧ ((∃ p ∈ s.link.pushes, p.mask &&& m ≠ 0) → Recorded u t .fp3 0x0907 2))

/-! Reproducibility (14) -/

/-- Strict mode, replay bindings and records, spare substitution (R101, R390, R393, R396-R399, R401-R403; an offset and length beyond the record are refused by the model's own choice, log entry 42). -/
def Obligations.reproducibility : Prop :=
  ∀ (s : State) (h : Hdr), s.rec_.ports.length = 16 →
    (∀ v : U8, Answers (.strictSet h v) h (.strictSet v) s fun u r t =>
      if 1 < v.toNat then r = Reply.fail .badArg ∧ t = u
      else if (v == 1) = s.repro.strict then r = {} ∧ t = u
      else if s.sync.parked ≠ [] ∨ s.sync.jobs.any (fun j => s.recordOpen j.num) = true then r = Reply.fail .stateConflict ∧ t = u
      else r = {} ∧ t.repro = { s.repro with strict := v == 1 } ∧ Recorded u t .fp3 0x0A01 0 ∧ t.without [.repro, .rec_, .pair] = u.without [.repro, .rec_, .pair]) ∧
    (∀ (j : U8) (iv : U64) (prog input ref : BitVec 384) (cores : List U32) (seeds : List U64),
      Answers (.replayBind h j iv prog input ref cores seeds) h (.replayBind j iv prog input ref cores seeds) s fun u r t =>
        if jobNumber j.toNat = false ∨ 2 ^ 48 < iv.toNat ∨ 16 < seeds.length ∨ cores.length ≠ 8 then r = Reply.fail .badArg ∧ t = u
        else if s.sync.jobs.any (fun x => x.num == j.toNat) = true then r = Reply.fail .stateConflict ∧ t = u
        else r = {} ∧ Recorded u t .fp3 0x0A02 0 ∧ t.without [.repro, .rec_, .pair] = u.without [.repro, .rec_, .pair] ∧
          t.repro = { s.repro with binds := insertBind { job := j.toNat, prog := prog, input := input, ref := ref, refCores := cores.map BitVec.toNat, seeds := seeds, interval := iv.toNat } s.repro.binds }) ∧
    (∀ (j : U8) (step : U64) (d : BitVec 384), Answers (.replayBindResult h j step d) h (.replayBindResult j step d) s fun u r t =>
      if jobNumber j.toNat = false then r = Reply.fail .badArg ∧ t = u
      else match (s.repro.records.find? fun x => x.job == j.toNat && x.isOpen).bind fun x => (x.cps.findIdx? fun k => k.step == step.toNat && k.result.isNone).map fun i => (x, i) with
        | none => r = Reply.fail .stateConflict ∧ t = u
        | some (x, i) => r = { payload := i1 i ++ zeros 3 } ∧ { x with cps := modAt x.cps i fun k => { k with result := some d } } ∈ t.repro.records ∧ t.without [.repro, .pair] = u.without [.repro, .pair]) ∧
    (∀ j : U8, Answers (.replayBindRemove h j) h (.replayBindRemove j) s fun u r t =>
      if jobNumber j.toNat = false then r = Reply.fail .badArg ∧ t = u
      else if s.repro.binds.any (fun b => b.job == j.toNat) = false then r = Reply.fail .stateConflict ∧ t = u
      else r = {} ∧ t.repro = { s.repro with binds := s.repro.binds.filter fun b => b.job != j.toNat } ∧ Recorded u t .fp3 0x0A02 0 ∧ t.without [.repro, .rec_, .pair] = u.without [.repro, .rec_, .pair]) ∧
    (∀ (sel job : U8) (rp : U64) (o n : U16), Answers (.replayRecordRead h sel job rp o n) h (.replayRecordRead sel job rp o n) s fun u r t => ∃ se, (u.port h.port.toNat).session = some se ∧
      if 1 < sel.toNat ∨ se.largest < n.toNat + 12 ∨ 3680 < o.toNat + n.toNat ∨ (sel = 1 ∧ jobNumber job.toNat = false) then r = Reply.fail .badArg ∧ t = u
      else match (if sel = 0 then s.repro.records.find? fun x => x.rpSeq == rp.toNat && !x.isOpen else s.repro.records.find? fun x => x.job == job.toNat && x.isOpen) with
        | none => r = { payload := i1 0 ++ zeros 3 ++ i8 0 } ∧ t = u
        | some x => r = { payload := i1 (if x.isOpen = true then 1 else 2) ++ zeros 3 ++ i8 x.rpSeq ++ ((x.bytes s.straps.slotId.toNat).drop o.toNat).take n.toNat } ∧
          (x.isOpen = true → t = u) ∧ (x.isOpen = false → { x with read := true } ∈ t.repro.records ∧ t.without [.repro, .pair] = u.without [.repro, .pair])) ∧
    (∀ (n k src b : U8) (cores failed spare o : U32), Answers (.spareSubstitute h n k src b cores failed spare o) h (.spareSubstitute n k src b cores failed spare o) s fun u r t =>
      if 7 < n.toNat ∨ 1 < k.toNat ∨ sourceBad src.toNat b.toNat o.toNat = true then r = Reply.fail .badArg ∧ t = u
      else if src = 1 ∧ nth s.link.buffers b.toNat = none then r = Reply.fail .stateConflict ∧ t = u
      else if 2 ≤ countIf (fun x => x.pkg == n.toNat) s.repro.inForce then r = Reply.fail .noResource ∧ t = u
      else match s.imageSource src.toNat b.toNat o.toNat with
        | none => r = Reply.fail .integrityFail ∧ t = u
        | some (obj, content) => r = { status := .accepted } ∧ t.without [.repro, .pair] = u.without [.repro, .pair] ∧
          t.repro = { s.repro with pending := s.repro.pending ++ [{ pkg := n.toNat, changed := k == 1, coresAfter := cores.toNat, failed := failed, spare := spare, obj := obj, content := content }] }) ∧
    (∀ n : U8, Answers (.spareSubstituteRemove h n) h (.spareSubstituteRemove n) s fun u r t =>
      if 7 < n.toNat then r = Reply.fail .badArg ∧ t = u
      else r = { status := .accepted } ∧ t.repro = { s.repro with inForce := s.repro.inForce.map fun x => if x.pkg = n.toNat then { x with ended := true } else x } ∧ t.without [.repro, .pair, .sec] = u.without [.repro, .pair, .sec]) ∧
    (∀ n : U8, Completes (.substitutionStart n) s fun t =>
      match (if s.isOwner = true ∧ s.restarting 11 = false ∧ s.pushable n.toNat = true ∧ nth s.repro.overlays n.toNat = [] ∧ s.inJob (1#8 <<< n.toNat) = false then s.repro.pending.find? fun x => x.pkg == n.toNat else none) with
      | none => t = s
      | some x =>
        if s.imageVerifies x.obj [6] = true then ∃ p, t.link.pushes = s.link.pushes ++ [p] ∧ p.mask = 1#8 <<< n.toNat ∧ p.obj = x.obj ∧ p.overlay = true ∧
          t.repro = { s.repro with pending := s.repro.pending.erase x, pushing := s.repro.pushing ++ [(p.id, x)] } ∧ t.without [.repro, .link, .pair] = s.without [.repro, .link, .pair]
        else t.repro = { s.repro with pending := s.repro.pending.erase x } ∧ Recorded s t .fp3 0x0C07 2 ∧ Recorded s t .fp3 0x0A05 2 ∧ t.without [.repro, .rec_, .pair] = s.without [.repro, .rec_, .pair])

/-! Redundant pair (15) -/

/-- Ownership, ALIVE and the heartbeat (R404-R407, R411, R414, R417, R418, R421, R422). -/
def Obligations.ownership : Prop :=
  ∀ (s : State), s.rec_.ports.length = 16 →
    let p := s.pair
    (∀ levels, Completes (.ownershipClaim levels) s fun t =>
      let owns := t.pair.role = .owner ∧ t.pair.pull = true ∧ t.pair.claimGt = some s.gt ∧ t.pair.lostPending = false
      let restarts := s.clk.porBoot = false → Recorded s t .hub 0x0801 3
      if p.qualifier = false ∨ p.role = .owner ∨ s.ownHigh (if s.position = 0 then 20 else 40) = false then t = s
      else if s.handoverTarget = true then owns ∧ t.pair.handovers = satAdd 32 p.handovers 1 ∧ t.pair.handover = .none ∧ Recorded s t .mirror 0x0B04 0
      else if s.partnerGone = true then owns ∧ t.pair.takeovers = satAdd 32 p.takeovers 1 ∧
        (p.role = .standby → t.pair.mstate = .detached ∧ Recorded s t .mirror 0x0B01 (if p.mstate = .mirroring then 2 else 3) ∧ (p.mstate ≠ .mirroring → Recorded s t .hub 0x0801 3)) ∧
        (p.role = .undecided → restarts)
      else if s.position = 0 ∧ p.alive = true ∧ p.aliveOutSince + 1000 ≤ s.gt ∧ s.ownHigh 1000 = true then owns ∧ t.pair.takeovers = p.takeovers ∧ (p.role = .undecided → restarts)
      else t = s) ∧
    Completes .claimRecord s (fun t =>
      if s.mirTrained = true ∧ s.position = 1 ∧ p.role = .owner ∧ ∃ c ∈ p.claimGt, s.gt ≤ c + 10 then t.pair.role = .standby ∧ t.pair.pull = false ∧ Recorded s t .mirror 0x0B05 3 ∧ t.sage = s.sage ∧ t.thyme = s.thyme
      else t = s) ∧
    Completes .ownNLowStandby s (fun t =>
      let given := ∃ g q, p.handover = .released g q
      if p.qualifier = true ∧ p.ownLow = true ∧ p.pull = false ∧ p.ownSince + 20 ≤ s.gt then
        (p.role = .undecided → t.pair.role = .standby ∧ t.sync.awaitCopy = true) ∧ (p.role ≠ .undecided → t.pair.role = p.role) ∧
        (given → t.pair.handover = .none ∧ t.pair.handovers = satAdd 32 p.handovers 1 ∧ t.sync.held = [] ∧ Recorded s t .mirror 0x0B04 0) ∧ (¬given → p.role ≠ .undecided → t = s)
      else t = s) ∧
    Completes .heartbeatSend s (fun t =>
      if s.clk.source = .pll ∧ s.clk.coreInReset = false ∧ s.firmwareRuns = true ∧ ∀ g ∈ p.hbGen, g + 10 ≤ s.gt then
        t = { s with pair := { p with hbGen := some s.gt, qualifier := true, aliveOutSince := (if p.qualifier = true then p.aliveOutSince else s.gt), out := p.out ++ (if s.mirTrained = true then [s.heartbeat] else []) } }
      else t = s) ∧
    Completes .qualifierDrop s (fun t =>
      if p.qualifier = true ∧ ∀ g ∈ p.hbGen, g + 40 < s.gt then
        t.pair.qualifier = false ∧ t.pair.pull = false ∧ t.pair.role = .undecided ∧ t.pair.mstate = .detached ∧ t.pair.handover = .none ∧ t.pair.outstanding = [] ∧ t.sync.held = [] ∧ t.pins.aliveOut = false ∧
        t.sage = s.sage ∧ t.thyme = s.thyme ∧ t.cool = s.cool
      else t = s) ∧
    (∀ hb, Completes (.heartbeatReceive hb) s fun t =>
      let n := hb.mstate.toNat
      if s.mirTrained = true ∧ s.clk.coreInReset = false then
        t.pair.hbRx = some s.gt ∧ t.pair.hbEcho = hb.gtSend.toNat ∧ t.cool = { s.cool with partnerTh := hb.th.toNat } ∧ t.pair.role = p.role ∧
        t.pair.offset = Int.tdiv (((hb.gtSend.toNat : Int) - s.gt) + ((hb.echoRx.toNat : Int) - hb.echo.toNat)) 2 ∧
        (p.role = .standby → hb.role = 1 → t.pair.mstate = (if n = 1 ∨ (n = 2 ∧ p.mstate = .mirroring) ∨ (n = 2 ∧ p.mstate = .syncing) ∨ (n = 2 ∧ p.mstate = .detached) then
            (if n = 1 then .syncing else if p.mstate = .syncing then .mirroring else p.mstate) else .detached)) ∧
        (p.role ≠ .standby ∨ hb.role ≠ 1 → t.pair.mstate = p.mstate ∧ t.pair.outstanding = p.outstanding.filter fun r => !seqLe r.mseq hb.ack.toNat)
      else t = s) ∧
    Completes .partnerAlive s (fun t =>
      if p.alive = false ∧ s.aliveInRecent = true then t.pair.alive = true ∧ t.pair.aliveSince = some s.gt ∧ t.pair.role = p.role ∧ t.without [.pair, .link, .trace, .rec_] = s.without [.pair, .link, .trace, .rec_] else t = s) ∧
    Completes .partnerNotAlive s (fun t =>
      if p.alive = true ∧ s.aliveInRecent = false then t.pair.alive = false ∧ t.pair.aliveSince = none ∧ t.pair.hbRx = none ∧ t.pair.lostPending = s.isOwner ∧ t.pair.role = p.role ∧
        t.without [.pair, .link, .trace, .rec_] = s.without [.pair, .link, .trace, .rec_]
      else t = s) ∧
    Completes .partnerLostAtOwner s (fun t =>
      if s.isOwner = true ∧ p.lostPending = true ∧ p.alive = false then
        Recorded s t .mirror 0x0B07 2 ∧ t.pair.mstate = .detached ∧ t.pair.role = .owner ∧ t.pair.lostPending = false ∧ t.pair.outstanding = [] ∧ t.sync.held = [] ∧ t.sage = s.sage ∧ t.thyme = s.thyme
      else t = s) ∧
    Completes .shadowDriveRelease s fun t => t = if ∃ g ∈ p.releaseAt, g ≤ s.gt then { s with pair := { p with releaseAt := none, shadowReleased := true } } else s

/-- Mirror records, mirror states, handover and the pair commands (R82, R343, R410-R416, R423, R424; the conversion of times and the STANDBY's own latches are the model's reading, log entries 52 and 53). -/
def Obligations.mirror_and_handover : Prop :=
  ∀ (s : State), s.rec_.ports.length = 16 →
    let p := s.pair
    (∀ (n : U32) (x : MirContent), Completes (.mirrorRecordApply n x) s fun t =>
      if p.role = .standby ∧ s.mirTrained = true ∧ p.mstate = .detached ∧ x.unnumbered = true then t = s.takeRecord x
      else if p.role = .owner ∧ s.mirTrained = true ∧ p.mstate ≠ .detached ∧ x.recorder = true then t.pair.mseqApplied = n.toNat ∧ (∃ l, t.pair.out = l ++ [.recordAck n.toNat]) ∧ t.without [.pair, .rec_] = s.without [.pair, .rec_]
      else if p.role = .standby ∧ s.mirTrained = true ∧ p.mstate ≠ .detached ∧ (n.toNat = (p.mseqApplied + 1) % 2 ^ 32 ∨ (p.mstate = .syncing ∧ p.bulkLeft = 1)) then
        t.pair.mseqApplied = n.toNat ∧ (∃ l, t.pair.out = l ++ [.recordAck n.toNat]) ∧
        (match x with
        | .hub st => t.sync = { st.shifted s.ownTime with sent := s.sync.sent, awaitCopy := false } ∧ t.without [.sync, .pair, .sec] = s.without [.sync, .pair, .sec]
        | .sems l => t.sems = (List.range 16).map fun i => (nth l i).map fun y => { y with leaseEnd := s.ownTime y.leaseEnd }
        | .thyme ctxs rq on set dup off due => t.thyme.ctxs = ctxs.map (fun c => c.shifted s.ownTime) ∧ t.thyme.requests = rq.map (fun r => (r.1, s.ownTime r.2)) ∧ t.thyme.autoOn = on ∧ t.thyme.set = set ∧
          t.thyme.deferredUp = dup ∧ t.thyme.accMinOffEnd = off.map (fun t => t.map s.ownTime) ∧ t.thyme.emergencyDue = due ∧ t.thyme.tray = s.thyme.tray ∧ t.thyme.accs = s.thyme.accs ∧ t.without [.thyme, .pair, .sec] = s.without [.thyme, .pair, .sec]
        | .grants rails sp du bu ce nets =>
          (∀ c, c < s.sage.rails.length → ((nth t.sage.rails c).granted = true ↔ c ∈ rails ∧ s.heldOff (.rail c) = false)) ∧
          (∀ b, b < 12 → t.sage.branches.getLsbD b = (nets.getLsbD (64 + b) && !s.heldOff (.branch b))) ∧ (∀ k, k < 8 → t.sage.accReset.getLsbD k = (nets.getLsbD (76 + k) && !s.heldOff (.accReset k))) ∧
          (∀ k, k < 8 → t.thyme.pwrok.getLsbD k = (nets.getLsbD (84 + k) && !s.heldOff (.accReset k))) ∧ t.op.budgetSent = bu ∧ t.op.ceil = ce ∧ t.pair.mirNets = nets
        | .tray ty accs demand fault leak forced off loss => t.thyme.tray = ty ∧ t.thyme.latchLeak = leak ∧ t.feed.demand = demand ∧ t.thyme.minOffEnd = off.map s.ownTime ∧
          (∀ k, k < accs.length → s.sage.holdBranch.getLsbD k = false → nth t.thyme.accs k = nth accs k) ∧ (fault = true → t.thyme.latchFault = true)
        | .op pn ce cc up armed seq w f g b pf => t.op = (s.op.mirrored pn ce cc up armed seq w f g b pf).capped s.sage.limits ∧ t.without [.op, .pair, .sec] = s.without [.op, .pair, .sec]
        | .phaseState tb ac sl od fr => t.phase = { s.phase with table := tb, acc := ac, slots := sl, order := od, frameNo := fr, snapDue := true } ∧ t.without [.phase, .pair, .sec] = s.without [.phase, .pair, .sec]
        | .ledger st => t.ledger = s.ledger.copied st ∧ t.pair.fromPartner = false ∧ t.without [.ledger, .pair, .sec] = s.without [.ledger, .pair, .sec]
        | .host k q i qs b pu => t.link = { s.link with ctxKeys := k, queueKeys := q, imageKeys := i, queues := qs, buffers := b, pushes := pu } ∧ t.without [.link, .pair, .sec] = s.without [.link, .pair, .sec]
        | .repro st => t.repro = st ∧ t.without [.repro, .pair, .sec] = s.without [.repro, .pair, .sec]
        | .plan q => t.upd.plan = q ∧ t.without [.upd, .pair, .sec] = s.without [.upd, .pair, .sec]
        | _ => True)
      else t = s) ∧
    (∀ n : U32, Completes (.mirrorAckReceive n) s fun t =>
      if s.mirTrained = false ∨ ∀ r ∈ p.outstanding, seqLe r.mseq n.toNat = false then t = s
      else t.pair.outstanding = p.outstanding.filter (fun r => !seqLe r.mseq n.toNat) ∧
        (s.isOwner = true → t.sync.held = s.sync.held.filter (fun h => !seqLe h.1 n.toNat) ∧ ∀ x ∈ s.sync.held, seqLe x.1 n.toNat = true → x.2 ∈ t.sync.sent) ∧ (s.isOwner = false → t.sync = s.sync)) ∧
    (∀ q : PartnerStraps, Completes (.strapExchange q) s fun t =>
      let ok := decide (q.slotId = s.straps.slotId ∧ q.coolMode = s.straps.coolMode ∧ q.pairSel ≠ s.straps.pairSel)
      let own := s.runningManifest.mirrorProto
      if s.mirTrained = true ∧ s.clk.coreInReset = false then
        t.pair = { p with strapsOk := some ok, limitsDiffer := !q.limitsEqual, protoPartner := q.proto.toNat, partnerSerial := q.serial, partnerFw := q.fw.toNat } ∧
        (ok = false → Recorded s t .mirror 0x0B10 2) ∧ (own + 1 < q.proto.toNat ∨ q.proto.toNat + 1 < own → Recorded s t .mirror 0x0B11 2) ∧ (q.limitsEqual = false → Recorded s t .mirror 0x0B12 1) ∧
        t.without [.pair, .rec_] = s.without [.pair, .rec_]
      else t = s) ∧
    Completes .syncingStart s (fun t =>
      let k := bulkKinds.length + s.rec_.ring.length
      if s.maySync = true then t.pair.mstate = .syncing ∧ t.pair.outstanding.map MirRecord.kind = bulkKinds ++ List.replicate s.rec_.ring.length .events ∧ t.pair.bulkLeft = k ∧ t.pair.mseqSent = (p.mseqSent + k) % 2 ^ 32
      else t = s) ∧
    Completes .mirroringEntry s (fun t =>
      if s.isOwner = true ∧ p.mstate = .syncing ∧ p.bulkLeft = 0 ∧ s.restarting 13 = false then
        t.pair.mstate = .mirroring ∧ t.pins = { s.pins with shadowHold := none } ∧ Recorded s t .mirror 0x0B02 0 ∧ t.without [.pair, .rec_, .trace, .pins] = s.without [.pair, .rec_, .trace, .pins]
      else t = s) ∧
    Completes .mirrorLoss s (fun t =>
      if p.mstate ≠ .detached ∧ p.alive = true ∧ p.role ≠ .undecided ∧ ((∀ g ∈ p.hbRx, g + 50 ≤ s.gt) ∨ s.mirTrained = false) then
        t.pair.mstate = .detached ∧ t.pair.losses = satAdd 32 p.losses 1 ∧ Recorded s t .mirror 0x0B03 2 ∧ t.pair.role = p.role ∧ t.pair.outstanding = [] ∧ t.sync.held = [] ∧ t.sage = s.sage ∧ t.thyme = s.thyme
      else t = s) ∧
    Completes .handoverRelease s (fun t =>
      match p.handover with
      | .accepted q =>
        if s.isOwner = true ∧ p.mstate = .mirroring ∧ s.gt % 50 = 0 then
          t.pair.role = .standby ∧ t.pair.pull = false ∧ t.pair.handover = .released s.gt q ∧ t.pair.qualifier = p.qualifier ∧ .handover p.mseqSent ∈ t.pair.out ∧ t.pins = s.pins ∧ t.sage = s.sage ∧ t.sync = s.sync
        else t = s
      | _ => t = s) ∧
    (∀ n : U32, Completes (.handoverRecord n) s fun t =>
      if p.role = .standby ∧ s.mirTrained = true ∧ p.mstate = .mirroring then t.pair = { p with handover := .target s.gt n.toNat } ∧ t.without [.pair, .trace, .rec_] = s.without [.pair, .trace, .rec_] else t = s) ∧
    Completes .handoverAbandon s (fun t =>
      match p.handover with
      | .released g _ =>
        if p.qualifier = true ∧ p.role = .standby ∧ g + 1000 ≤ s.gt ∧ s.ownHigh 1000 = true then t.pair.role = .owner ∧ t.pair.pull = true ∧ t.pair.handover = .none ∧ Recorded s t .mirror 0x0B04 1 else t = s
      | _ => t = s) ∧
    (∀ h : Hdr,
      Answers (.pairHandover h) h .pairHandover s (fun u r t =>
        if s.thyme.latched = true ∨ s.deferConds.getLsbD 0 = true then r = Reply.fail .emergencyActive ∧ t = u
        else if p.mstate ≠ .mirroring ∨ s.allIdle = false then r = Reply.fail .stateConflict ∧ t = u
        else r = { status := .accepted } ∧ t = { u with pair := { u.pair with handover := .accepted h.port.toNat } }) ∧
      Answers (.pairStatus h) h .pairStatus s (fun u r t => t = u ∧ r.status = .ok ∧ r.detail = 0 ∧
        r.payload.take 4 = i1 p.role.code ++ i1 s.position ++ i1 p.mstate.code ++ i1 (packBits [p.alive, p.ownLow, p.pull, s.mirTrained, p.limitsDiffer, s.isOwner && p.mstate == .detached && p.alive])) ∧
      Answers (.mirrorStatus h) h .mirrorStatus s fun u r t => r.status = .ok ∧ r.detail = 0 ∧ r.payload.take 24 = i8 p.sent ++ i8 p.acked ++ i4 (1000 * p.lagMax) ++ i4 (1000 * p.lagSum / p.lagCount) ∧
        t = { u with pair := { u.pair with lagMax := 0, lagSum := 0, lagCount := 0 } })

/-! Firmware update (16) -/

/-- The update commands (R427-R431, R435, R436, R444, R446, R447). -/
def Obligations.update_commands : Prop :=
  ∀ (s : State) (h : Hdr), s.rec_.ports.length = 16 → s.sec.slots.length = 2 → s.sec.loaders.length = 2 →
    (∀ len idx : U32, Answers (.updateBegin h len idx) h (.updateBegin len idx) s fun u r t =>
      let n := len.toNat; let k := idx.toNat
      if k < 65536 ∨ 2 ^ 20 < k ∨ k % 65536 ≠ 0 ∨ n < k ∨ (n - k) % 65536 ≠ 0 then r = Reply.fail .badArg ∧ t = u
      else if s.upd.activates = true then r = Reply.fail .stateConflict ∧ t = u
      else if 512 * 2 ^ 20 < n then r = Reply.fail .noResource ∧ t = u
      else r = {} ∧ t.upd = { s.upd with phase := .receiving, staging := some { length := n, idxLen := k }, objects := [], plan := {}, last := .ok, genNew := 0, verNew := 0, port := h.port.toNat } ∧
        t.without [.upd, .pair] = u.without [.upd, .pair]) ∧
    (∀ (off : U32) (cnt : U16) (idx : BundleIndex) (bad : List Nat), Answers (.updateData h off cnt idx bad) h (.updateData off cnt idx bad) s fun u r t =>
      let e := off.toNat + cnt.toNat
      let now := fun (x : Option BundleStaging) => t = { u with upd := { s.upd with staging := x } }
      match s.upd.staging with
      | none => r = Reply.fail .stateConflict ∧ t = u
      | some b =>
        let b' := b.write off.toNat e bad
        if b.length < e then r = Reply.fail .badArg ∧ t = u
        else if s.upd.phase ≠ .receiving then r = Reply.fail .stateConflict ∧ t = u
        else if b.idx = none ∧ holdsRange b'.ranges 0 b.idxLen = false then r = { payload := b'.progress } ∧ now (some b')
        else if b.idx = none ∧ idx.verifies b' s.anchor.custKey = false then r = Reply.fail .integrityFail ∧ t = { u with upd := { s.upd with staging := none, phase := .idle } }
        else ∃ x : BundleStaging, now (some x) ∧ x.idx = (if b.idx = none then some idx else b.idx) ∧ x.length = b.length ∧ x.idxLen = b.idxLen ∧ x.bad = [] ∧
          (∀ j, j < b.blocks → (j ∈ x.good ↔ x.has j = true)) ∧ (∀ j ∈ b'.bad, b'.has j = true → x.has j = false) ∧
          (∀ j, j < b.blocks → j ∈ b.good → j ∉ b.bad → b.has j = true → x.has j = true) ∧
          (b.bad = [] → r = if b'.bad = [] then { payload := x.progress } else Reply.fail .integrityFail)) ∧
    Answers (.updateVerify h) h .updateVerify s (fun u r t =>
      match s.upd.staging with
      | none => r = Reply.fail .stateConflict ∧ t = u
      | some b =>
        if s.upd.activates = true ∨ s.upd.phase = .idle ∨ s.upd.phase = .planRunning then r = Reply.fail .stateConflict ∧ t = u
        else match b.idx with
          | none => r = { status := .stateConflict, payload := i4 b.missing } ∧ t = u
          | some x =>
            if b.missing ≠ 0xFFFFFFFF then r = { status := .stateConflict, payload := i4 b.missing } ∧ t = u
            else r = { status := .accepted } ∧
              match s.updateFault x.objects with
              | some (st, _) => Recorded u t .fp0 0x0C10 2 ∧ t.upd = { s.upd with last := st } ∧ t.without [.upd, .rec_] = u.without [.upd, .rec_]
              | none => Recorded u t .fp0 0x0C10 0 ∧ t.without [.upd, .rec_, .sec, .link] = u.without [.upd, .rec_, .sec, .link] ∧
                t.upd.phase = .installed ∧ t.upd.last = .ok ∧ t.upd.objects = x.objects ∧ t.upd.staging = some b ∧
                (∀ k, s.sec.runningSlot = some k → k < 2 → nth t.sec.slots k = nth s.sec.slots k ∧ ∀ o, x.objects.filter (fun y => y.target == 0) = [o] →
                  nth t.sec.slots (1 - k) = { Slot.written o.obj (nextGen s.sec.slots) with cfgRange := some (o.cfgLo, o.cfgHi) } ∧ t.upd.genNew = nextGen s.sec.slots ∧ t.upd.verNew = o.obj.man.version) ∧
                (∀ k, s.sec.runningLoader = some k → k < 2 → nth t.sec.loaders k = nth s.sec.loaders k)) ∧
    Answers (.configBlockWriteBegin h) h .configBlockWriteBegin s (fun u r t => r = {} ∧ t = { u with upd := { u.upd with cfgWrite := some [] } }) ∧
    (∀ (off : U32) (cnt : U16), Answers (.configBlockWriteData h off cnt) h (.configBlockWriteData off cnt) s fun u r t =>
      if 262144 < off.toNat + cnt.toNat then r = Reply.fail .badArg ∧ t = u
      else if s.upd.cfgWrite = none then r = Reply.fail .stateConflict ∧ t = u
      else r = {} ∧ t = { u with upd := { u.upd with cfgWrite := u.upd.cfgWrite.map (addRange off.toNat (off.toNat + cnt.toNat)) } }) ∧
    (∀ obj : ConfigObject, Answers (.configBlockWriteCommit h obj) h (.configBlockWriteCommit obj) s fun u r t =>
      match s.upd.cfgWrite with
      | none => r = Reply.fail .stateConflict ∧ t = u
      | some l =>
        if s.upd.activates = true then r = Reply.fail .stateConflict ∧ t = u
        else match cfgMissing l obj.obj.man with
          | some k => r = { status := .stateConflict, payload := i4 k } ∧ t = u
          | none =>
            let o : BundleObject := { type := 3, target := 2, nBlk := 1 + obj.obj.man.nblocks, digestOk := true, obj := obj.obj, cfg := obj.cfg }
            r = { status := .accepted } ∧ t.without [.upd, .rec_] = u.without [.upd, .rec_] ∧
            match s.updateFault [o] with
            | some (st, _) => Recorded u t .fp0 0x0C10 2 ∧ t.upd = { s.upd with last := st }
            | none => Recorded u t .fp0 0x0C10 0 ∧ t.upd.phase = .installed ∧ t.upd.last = .ok ∧ t.upd.objects = [o] ∧ t.upd.cfgWrite = none ∧ t.upd.staging = none) ∧
    (∀ lone : U8, Answers (.updateActivate h lone) h (.updateActivate lone) s fun u r t =>
      if 1 < lone.toNat then r = Reply.fail .badArg ∧ t = u
      else if s.thyme.latched = true then r = Reply.fail .emergencyActive ∧ t = u
      else if s.activateConflict lone.toNat = true then r = Reply.fail .stateConflict ∧ t = u
      else t.upd.lone = (lone == 1) ∧ t.upd.port = h.port.toNat ∧
        if s.deferConds ≠ 0 then
          r = { status := .deferred, detail := s.deferConds.toNat } ∧ t.upd.phase = .deferred ∧ t.upd.conds = s.deferConds ∧ t.upd.auto = (s.upd.auto || h.auto) ∧ t.upd.cleared = false ∧
          t.upd.deferGt = (if s.upd.phase = .deferred then s.upd.deferGt else some s.gt) ∧ Recorded u t .fp0 0x0C11 1 ∧ t.without [.upd, .rec_] = u.without [.upd, .rec_]
        else r = { status := .accepted } ∧
          if s.writtenPlaces.any (fun p => !(p.2.2.state == wordWritten && p.2.2.obj.verifies p.2.1 s.anchor.custKey)) = true then
            t.upd.phase = .failed ∧ t.upd.last = .integrityFail ∧ Recorded u t .fp0 0x0C13 2 ∧ t.without [.upd, .rec_] = u.without [.upd, .rec_]
          else t.upd.phase = .activating ∧ t.upd.conds = 0 ∧ t.upd.deferGt = none ∧ t.upd.block.pending = true ∧ Recorded u t .fp0 0x0C13 0 ∧ t.without [.upd, .rec_, .sec, .pair] = u.without [.upd, .rec_, .sec, .pair] ∧
            ((objectFor s.upd.objects 0).isSome = true → nth t.sec.slots (spare s.sec.runningSlot) = (nth s.sec.slots (spare s.sec.runningSlot)).validated) ∧
            ((objectFor s.upd.objects 1).isSome = true → nth t.sec.loaders (spare s.sec.runningLoader) = (nth s.sec.loaders (spare s.sec.runningLoader)).validated) ∧
            (∀ o, objectFor s.upd.objects 2 = some o → t.sec.cfgStaging = some (s.anchor.gen, { obj := o.obj, cfg := o.cfg })) ∧
            if s.isOwner = true ∧ s.pair.mstate = .mirroring then t.upd.atStep6 = true ∧ t.pair = { s.pair with handover := .accepted h.port.toNat }
            else t.upd.resetDue = true ∧ t.pair = s.pair) ∧
    Answers (.updateStatus h) h .updateStatus s (fun u r t => t = u ∧ r.status = .ok ∧ r.detail = 0 ∧
      r.payload.take 12 = i1 s.upd.phase.code ++ i1 s.upd.last.code ++ i1 s.upd.conds.toNat ++ i1 s.upd.handoff ++ i4 (s.upd.staging.elim 0 fun b => b.good.length) ++ i4 (s.upd.staging.elim 0 BundleStaging.blocks))

/-- The activation goes on, deferrals end, and the plan runs (R436, R439-R443, R445, R448). -/
def Obligations.activation_and_plan : Prop :=
  ∀ (s : State), s.rec_.ports.length = 16 → s.sec.loaders.length = 2 → s.phase.slots.length = 8 → s.phase.stored.length = 8 →
    let badPlace := s.writtenPlaces.any (fun p => !(p.2.2.state == wordWritten && p.2.2.obj.verifies p.2.1 s.anchor.custKey)) = true
    let plan := s.upd.plan
    (Completes .activationResume s fun t =>
      if s.upd.phase = .activating ∧ s.upd.atStep6 = true ∧ s.pair.handover = .none ∧ s.restarting 3 = false then
        if s.pair.role = .standby ∨ s.upd.lone = true then t.clk.warmInProgress = true ∧ t.sage.rails = s.sage.rails ∧ t.thyme.tray = s.thyme.tray
        else t.upd = { s.upd with phase := .failed, last := .integrityFail, atStep6 := false } ∧ Recorded s t .fp0 0x0C13 2 ∧ t.without [.upd, .rec_] = s.without [.upd, .rec_]
      else t = s) ∧
    (Completes .deferralClear s fun t =>
      if s.upd.phase = .deferred ∧ s.upd.cleared = false ∧ s.deferConds = 0 ∧ s.thyme.latched = false ∧ s.restarting 3 = false then
        (s.upd.auto = false → t.upd = { s.upd with conds := 0, cleared := true } ∧ Recorded s t .fp0 0x0C11 0 ∧ t.without [.upd, .rec_] = s.without [.upd, .rec_]) ∧
        (s.upd.auto = true → s.upd.resetDue = false → if badPlace then t.upd.phase = .failed ∧ Recorded s t .fp0 0x0C11 0 ∧ Recorded s t .fp0 0x0C13 2
          else if s.isOwner = true ∧ s.pair.mstate = .mirroring then t.upd.phase = .activating ∧ t.upd.atStep6 = true ∧ t.pair = { s.pair with handover := .accepted s.upd.port }
          else t.clk.warmInProgress = true ∧ t.sage.rails = s.sage.rails)
      else t = s) ∧
    (Completes .deferralExpiry s fun t =>
      if s.upd.phase = .deferred ∧ ((∃ g ∈ s.upd.deferGt, g + secs 600 ≤ s.gt) ∨ s.thyme.latched = true) ∧ s.restarting 3 = false then
        t.upd = { s.upd with phase := .installed, conds := 0, auto := false, cleared := false, deferGt := none } ∧ Recorded s t .fp0 0x0C12 1 ∧ t.without [.upd, .rec_] = s.without [.upd, .rec_]
      else t = s) ∧
    (Completes .loaderCopyStep s fun t =>
      match s.sec.runningLoader with
      | none => t = s
      | some k =>
        if s.planWorks = true ∧ plan.loader = true ∧ (nth s.sec.loaders (1 - k)).gen < (nth s.sec.loaders k).gen then
          (nth t.sec.loaders (1 - k)).obj = (nth s.sec.loaders k).obj ∧ (nth t.sec.loaders (1 - k)).state = wordValid ∧ nth t.sec.loaders k = nth s.sec.loaders k ∧
          ((nth s.sec.loaders k).gen + 1 < 2 ^ 32 - 1 → (nth t.sec.loaders (1 - k)).gen = (nth s.sec.loaders k).gen + 1) ∧
          t.upd.plan = { plan with loader := false } ∧ Recorded s t .fp0 0x0C16 0 ∧ t.without [.sec, .upd, .pair, .rec_] = s.without [.sec, .upd, .pair, .rec_]
        else t = s) ∧
    (Completes .modelStep s fun t =>
      match plan.models with
      | [] => t = s
      | (k, cont, obj) :: rest =>
        if s.planWorks = true ∧ s.isOwner = true ∧ plan.loader = false ∧ s.gt % 50 = 0 ∧ s.restarting 4 = false ∧ k < 8 then
          t.upd.plan = { plan with models := rest } ∧
          if (s.slot k).phase ≠ .empty ∧ (s.slot k).digest = obj.man.digest then t.phase = s.phase ∧ t.without [.sec, .upd, .pair] = s.without [.sec, .upd, .pair]
          else (∃ x, nth t.phase.stored k = some x ∧ x.cont = cont ∧ x.obj = obj ∧ x.autostart = (nth s.phase.stored k).any fun y => y.autostart) ∧ (∀ j, j < 8 → j ≠ k → t.slot j = s.slot j) ∧
            t.without [.phase, .sec, .upd, .pair, .rec_, .trace] = s.without [.phase, .sec, .upd, .pair, .rec_, .trace] ∧
            if obj.verifies 4 s.anchor.custKey = true then (t.slot k).phase = .loaded ∧ (t.slot k).digest = obj.man.digest ∧ (t.slot k).cont = cont ∧ Recorded s t .fp1 0x0501 0
            else (t.slot k).phase = .empty ∧ Recorded s t .fp1 0x0C07 2
        else t = s) ∧
    (Completes .programStep s fun t =>
      if s.planWorks = true ∧ s.isOwner = true ∧ plan.loader = false ∧ plan.models = [] ∧ plan.programs = true ∧ s.allIdle = true then
        t.thyme = { s.thyme with set := s.cfg.programs, loaded := true } ∧ t.upd.plan = { plan with programs := false } ∧ Recorded s t .fp1 0x0205 0 ∧
        t.without [.thyme, .sec, .upd, .pair, .rec_] = s.without [.thyme, .sec, .upd, .pair, .rec_]
      else t = s) ∧
    (Completes .acceleratorStep s fun t =>
      let q := plan.pruned s.noProgram
      let fails := fun (n : Nat) => t.upd.plan.accs = [] ∧ t.upd.plan.step = .none ∧ t.upd.plan.accFail = plan.accFail ||| (1#8 <<< n) ∧ Recorded s t .fp0 0x0C17 2 ∧ t.without [.sec, .upd, .pair, .rec_] = s.without [.sec, .upd, .pair, .rec_]
      if s.planWorks = true ∧ s.isOwner = true ∧ plan.loader = false ∧ plan.models = [] ∧ plan.programs = false ∧ s.restarting 11 = false then
        match plan.step with
        | .none =>
          match q.accs.findSome? fun a => ((members a.1).find? s.accEligible).map fun n => (n, a.2) with
          | none => t.upd.plan = q ∧ (q = plan → t = s)
          | some (n, obj) =>
            if s.imageVerifies obj [5] = true then
              t.link.pushes = s.link.pushes ++ [{ id := (s.link.pushId + 1) % 2 ^ 32, mask := 1#8 <<< n, obj := obj, content := none, overlay := false }] ∧
              t.upd.plan = { q with step := .pushing n ((s.link.pushId + 1) % 2 ^ 32) } ∧ t.without [.link, .sec, .upd, .pair] = s.without [.link, .sec, .upd, .pair]
            else fails n ∧ Recorded s t .fp3 0x0C07 2
        | .pushing n id => if s.link.pushes.any (fun x => x.id == id && x.mask.getLsbD n) = true then t = s else fails n
        | .resetting n => if s.acc n = .on then t = s else fails n
        | .waiting _ _ => t = s
      else t = s) ∧
    (∀ n : U8, Completes (.accUpdateConfirmTimeout n) s fun t =>
      (∀ k g, plan.step = .waiting k g → k = n.toNat → g < s.gt → s.isOwner = true →
        t.upd.plan = { plan with accs := [], step := .none, accFail := plan.accFail ||| (1#8 <<< k) } ∧ Recorded s t .fp0 0x0C17 2 ∧ t.without [.sec, .upd, .pair, .rec_] = s.without [.sec, .upd, .pair, .rec_]) ∧
      ((∀ g, plan.step = .waiting n.toNat g → s.isOwner = true → s.gt ≤ g) → t = s))

/-! Errors and recorder (17, 02) -/

/-- Rosemary: intake, merging, handlers, losses, repeats, telemetry and the spill (R48, R451, R452, R454-R459, R466). -/
def Obligations.recorder_events : Prop :=
  ∀ (s : State), s.rec_.ports.length = 16 → s.rec_.queues.length = 4 → (∀ p se, (s.port p).session = some se → se.txSeq < 2 ^ 48) →
    (firstWaiting s.rec_.ports 0 = none → Completes .recordIntake s fun t => t = s) ∧
    (∀ i e p, firstWaiting s.rec_.ports 0 = some (i, e, p) → e.size ≤ 4 → Completes .recordIntake s fun t =>
      t.rec_.bySev = modAt s.rec_.bySev e.sev (· + 1) ∧
      (∀ k, s.rec_.mergesInto e = some k → t.rec_.nextSeq = s.rec_.nextSeq ∧ t.rec_.ports = s.rec_.ports.set i p ∧ t.rec_.queues = s.rec_.queues ∧
        t.rec_.ring = s.rec_.ring.map (fun x => if x.recSeq = k.recSeq then x.repeated e.gt else x) ∧ k.recSeq ∈ t.rec_.repeatDue ∧ t.without [.rec_] = s.without [.rec_]) ∧
      (s.rec_.mergesInto e = none →
        let r := { e with recSeq := s.rec_.nextSeq }
        let f := procOf (compOfCode e.event)
        let old := nth s.rec_.queues f
        let new := nth t.rec_.queues f
        t.rec_.nextSeq = (s.rec_.nextSeq + 1) % 2 ^ 32 ∧ t.rec_.ring.getLast? = some r ∧ t.without [.rec_, .trace, .pair, .ports] = s.without [.rec_, .trace, .pair, .ports] ∧
        (s.rec_.spilling = true → 4 ≤ s.rec_.spillBytes / 32 → t.rec_.spill.getLast? = some r) ∧
        (s.mirrors = true → ∃ m ∈ t.pair.outstanding, m.kind = .events ∧ m.item = s.rec_.nextSeq) ∧
        (e.sev = 0 ∨ e.event = 0x0D03 → t.rec_.queues = s.rec_.queues ∧ t.rec_.ports = s.rec_.ports.set i p) ∧
        (0 < e.sev → e.event ≠ 0x0D03 → old.entries.length < 64 → t.rec_.ports = s.rec_.ports.set i p ∧ new.overflow = old.overflow ∧
          let x : HandleEntry := { recSeq := s.rec_.nextSeq, sev := e.sev }
          if (nth s.procs f).restartUntil = none ∧ old.entries = [] ∧ (∀ y ∈ old.running.head?, y.sev < e.sev) then new.running = x :: old.running ∧ new.entries = []
          else x ∈ new.entries ∨ x ∈ new.running))) ∧
    (∀ n : U8, let q := nth s.rec_.queues n.toNat
      Completes (.handlerComplete n) s fun t =>
        if n.toNat < 4 ∧ (nth s.procs n.toNat).restartUntil = none then
          match q.running with
          | [] => t = s
          | _ :: rest =>
            t.without [.rec_, .trace] = s.without [.rec_, .trace] ∧ (∀ j, j ≠ n.toNat → nth t.rec_.queues j = nth s.rec_.queues j) ∧
            match nextEntry q.entries with
            | none => nth t.rec_.queues n.toNat = { q with running := rest }
            | some e => nth t.rec_.queues n.toNat = if ∃ y ∈ rest.head?, e.sev ≤ y.sev then { q with running := rest } else { q with running := e :: rest, entries := q.entries.filter fun x => x ≠ e }
        else t = s) ∧
    (Completes .intakeLossReport s fun t =>
      if (∀ g ∈ s.rec_.lostReport, g + secs 1 ≤ s.gt) ∧ ∃ p ∈ s.rec_.ports.drop 1, 0 < p.lost then
        t.rec_.lostReport = some s.gt ∧ (∀ i, 0 < i → (nth t.rec_.ports i).lost = 0) ∧ t.without [.rec_] = s.without [.rec_] ∧
        ∃ e ∈ (nth t.rec_.ports 0).waiting, e.event = 0x0D05 ∧ e.sev = 1 ∧ e.gt = s.gt ∧ e.payload = ((s.rec_.ports.drop 1).map fun p => i2 (min 65535 p.lost)).flatten
      else t = s) ∧
    (∀ (n : U32), Completes (.repeatPush n) s fun t =>
      if (∃ r ∈ s.rec_.ring, r.recSeq = n.toNat) ∧ s.rec_.repeatDue.contains n.toNat = true ∧ (look s.rec_.repeatLast n.toNat = 0 ∨ look s.rec_.repeatLast n.toNat + secs 1 ≤ s.gt) then
        n.toNat ∉ t.rec_.repeatDue ∧ t.rec_.repeatLast = put s.rec_.repeatLast n.toNat s.gt ∧ t.without [.rec_, .ports] = s.without [.rec_, .ports] ∧ t.rec_.ring = s.rec_.ring ∧
        ∀ r, s.rec_.ring.find? (fun x => x.recSeq == n.toNat) = some r → ∀ p se, p < 2 → (s.port p).session = some se →
          (t.port p).outbox = (s.port p).outbox ++ (if se.wants r = true then [.encrypted se.keys se.gen 0x12 se.id (se.txSeq + 1) (eventBody r true)] else [])
      else t = s) ∧
    (Completes .telemetryFrameTimeout s fun t =>
      (s.rec_.stream = none → t = s) ∧
      ∀ st, s.rec_.stream = some st →
        if st.frame ≠ [] ∧ st.frameGt + 100 ≤ s.gt then
          let f := TelemetryFrame.make (((nth s.ports st.port).session.map Session.keys).getD {}) st.session st.frameType st.tseq st.frame
          (∃ l, t.rec_.frames = s.rec_.frames ++ f :: l) ∧ t.without [.rec_, .trace] = s.without [.rec_, .trace] ∧
          f.wire.take 24 = i4 0x4D54474C ++ i1 st.frameType ++ i1 st.frame.length ++ i2 0 ++ i8 st.tseq ++ leBytes 4 st.session.toNat ++ i4 0 ∧
          (st.bits.getLsbD 0 = false → t.rec_.frames = s.rec_.frames ++ [f] ∧ t.rec_.stream = some { st with tseq := st.tseq + 1, frame := [] })
        else t = s) ∧
    (∀ c : U8, Completes (.spillStop c) s fun t =>
      if (c = 1 ∨ c = 2) ∧ s.rec_.spilling = true then
        t.rec_.spilling = false ∧ t.rec_.ring = s.rec_.ring ∧ t.rec_.spill = s.rec_.spill ∧ Recorded s t .rosemary 0x0D06 2 ∧ t.without [.rec_] = s.without [.rec_]
      else t = s)

/-- The recorder, log and trace commands (R65, R66, R453, R462, R463, R465, R467; the reads at the edge of what is held are the model's choice, log entries 55 and 58). -/
def Obligations.recorder_commands : Prop :=
  ∀ (s : State) (h : Hdr), s.rec_.ports.length = 16 →
    (∀ (sel fl : U8) (first : U32) (cnt : U8), Answers (.recRead h sel fl first cnt) h (.recRead sel fl first cnt) s fun u r t => t = u ∧
      if 2 ≤ sel.toNat ∨ 2 ≤ fl.toNat ∨ cnt = 0 then r = Reply.fail .badArg
      else r.status = .ok ∧ (sel = 1 ∨ s.rec_.spill = [] →
        match (if sel = 1 then s.rec_.partner else s.rec_.ring) with
        | [] => r.payload = i4 s.rec_.newest ++ i4 s.rec_.newest ∧ r.detail = 0
        | e :: rest =>
          let last := (rest.getLast?.getD e).recSeq
          r.payload.take 8 = i4 e.recSeq ++ i4 last ∧
          r.detail = (if seqLe first.toNat last = true ∧ ∀ x ∈ e :: rest, x.recSeq ≠ first.toNat then 1 else 0) ∧
          (first.toNat = e.recSeq → (sel = 1 ∨ fl = 1 ∨ s.rec_.cleared e.recSeq = false) → e.size ≤ cnt.toNat → e.size ≤ 31 → ∃ l, r.payload.drop 8 = e.records.flatten ++ l))) ∧
    (∀ m : U32, Answers (.recClear h m) h (.recClear m) s fun u r t =>
      if seqLe m.toNat s.rec_.newest = false ∨ (s.rec_.nextSeq = 0 ∧ s.rec_.ring = []) then r = Reply.fail .badArg ∧ t = u
      else if s.rec_.cleared m.toNat = true then r = { payload := i4 (s.rec_.mark.getD 0) ++ i4 0 } ∧ t = u
      else r = { payload := i4 m.toNat ++ i4 0 } ∧ t.rec_.mark = some m.toNat ∧ t.rec_.ring = s.rec_.ring ∧
        t.rec_.merge = s.rec_.merge.filter (fun k => !seqLe k.recSeq m.toNat) ∧ Recorded u t .rosemary 0x0D04 0 ∧ t.without [.rec_] = u.without [.rec_]) ∧
    Answers (.recStatus h) h .recStatus s (fun u r t => t = u ∧ r.status = .ok ∧ r.detail = 0 ∧
      r.payload.take 16 = i4 s.rec_.newest ++ i4 (s.rec_.ring.head?.elim s.rec_.newest EventRec.recSeq) ++ i4 (s.rec_.spill.head?.elim s.rec_.newest EventRec.recSeq) ++ i4 (s.rec_.mark.getD (2 ^ 32 - 1))) ∧
    (∀ (boot : U16) (first : U32) (cnt : U16), Answers (.logRead h boot first cnt) h (.logRead boot first cnt) s fun u r t =>
      let held := s.log.held
      t = u ∧ r.status = .ok ∧ r.payload.length % 64 = 0 ∧ r.payload.length ≤ 64 * cnt.toNat ∧
      (∀ e ∈ s.log.ring, e ∈ held) ∧ (∀ e ∈ s.log.flash, ∃ x ∈ held, x.boot = e.boot ∧ x.logSeq = e.logSeq) ∧
      match held.filter fun e => e.atOrAfter boot.toNat first.toNat with
      | [] => r.payload = [] ∧ r.detail = 0
      | e :: _ =>
        if e.boot = boot.toNat ∧ e.logSeq = first.toNat then r.detail = 0 ∧ (cnt ≠ 0 → r.payload.take 64 = e.bytes)
        else r.detail = 1 ∧ ∀ x xs, held = x :: xs → cnt ≠ 0 → r.payload.take 64 = x.bytes) ∧
    (∀ c l : U8, Answers (.logLevelSet h c l) h (.logLevelSet c l) s fun u r t =>
      if 14 ≤ c.toNat ∨ 4 ≤ l.toNat then r = Reply.fail .badArg ∧ t = u
      else r = {} ∧ t = { u with log := { u.log with level := u.log.level.set c.toNat l.toNat } }) ∧
    (∀ (m : BitVec 256) (st : U8), Answers (.traceEnable h m st) h (.traceEnable m st) s fun u r t =>
      if 4 ≤ st.toNat then r = Reply.fail .badArg ∧ t = u
      else r = {} ∧ t.trace.mask = m ∧ t.without [.trace, .rec_] = u.without [.trace, .rec_] ∧ ∃ se, (u.port h.port.toNat).session = some se ∧
        let runs := fun (x : StreamState) => ∃ y, t.rec_.stream = some y ∧ y.port = x.port ∧ y.session = x.session ∧ y.bits = x.bits
        let mine : StreamState := { port := h.port.toNat, session := se.id, bits := BitVec.ofNat 2 st.toNat }
        match s.rec_.stream with
        | none => if st = 0 then t.rec_ = u.rec_ ∧ t.trace = { u.trace with mask := m } else runs mine ∧ Recorded u t .fp0 0x0D07 0
        | some x =>
          if x.session = se.id then (if st = 0 then t.rec_.stream = none ∧ Recorded u t .fp0 0x0D07 0 else runs { x with bits := BitVec.ofNat 2 st.toNat })
          else if st = 0 then runs x
          else runs mine ∧ Recorded u t .fp0 0x0D07 0) ∧
    (∀ n : U16, Answers (.traceRead h n) h (.traceRead n) s fun u r t => ∃ se, (u.port h.port.toNat).session = some se ∧
      let k := min n.toNat (se.largest / 32)
      r = { payload := ((s.trace.buffer.take k).map TraceRecord.bytes).flatten } ∧ t = { u with trace := { u.trace with buffer := u.trace.buffer.drop k } })

/-! The governor as a whole: the invariant, and what its encodings carry -/

/-- The reset state has the invariant. -/
def Obligations.invariant_at_reset : Prop := State.reset.Inv

/-- Every step keeps the invariant. -/
def Obligations.invariant_kept : Prop := ∀ s t : State, s.Inv → step s = .next t → t.Inv

/-- What the encodings carry can be read back (R43, R147, R323, R453). -/
def Obligations.encodings_read_back : Prop :=
  (∀ (n v : Nat), v < 256 ^ n → (leBytes n v).length = n ∧ ofLe (leBytes n v) = v) ∧
  (∀ (op idx cnt tgt tmo : Nat) (rel val tj : Bool), op < 16 → idx < 256 → cnt < 16 → tgt < 4096 → tmo < 2 ^ 24 →
    let w := op * 2 ^ 60 + flag rel * 2 ^ 59 + flag val * 2 ^ 58 + flag tj * 2 ^ 57 + idx * 2 ^ 48 + cnt * 2 ^ 44 + tgt * 2 ^ 24 + tmo
    w < 2 ^ 64 ∧ stepOp w = op ∧ stepRel w = rel ∧ stepVal w = val ∧ stepTj w = tj ∧ stepIdx w = idx ∧ stepCnt w = cnt ∧ stepTgt w = tgt ∧ stepTmo w = tmo) ∧
  (∀ r : SyncReply, r.bytes.length = 24 ∧ ofLe (r.bytes.take 1) = r.op.toNat ∧ ofLe ((r.bytes.drop 1).take 1) = r.status.code ∧ ofLe ((r.bytes.drop 2).take 2) = r.fepoch.toNat ∧
    ofLe ((r.bytes.drop 4).take 4) = r.seq.toNat ∧ ofLe ((r.bytes.drop 8).take 8) = r.val.toNat ∧ ofLe (r.bytes.drop 16) = r.aux.toNat) ∧
  (∀ e : EventRec, e.payload.length ≤ 72 → e.event < 2 ^ 16 → e.recSeq < 2 ^ 32 →
    e.records.length = e.size ∧ (∀ r ∈ e.records, r.length = 32 ∧ ofLe (r.take 2) = e.event ∧ ofLe ((r.drop 4).take 4) = e.recSeq) ∧
    (((e.records.drop 1).map fun r => (r.drop 8).take (ofLe ((r.drop 2).take 1))).flatten = e.payload))
end

