-- ==== Sys2Proof/Laws/State.lean ====
section
/-! SUPPORT. One lemma per field and updater: what each shared update of the state leaves alone. -/

namespace Sys2Proof.Machine

open Sys2Proof

/-! `onPort` -/

@[simp] theorem State.onPort_sup (s : State) (p : Nat) (f : PortState → PortState) : (s.onPort p f).sup = s.sup := rfl
@[simp] theorem State.onPort_clk (s : State) (p : Nat) (f : PortState → PortState) : (s.onPort p f).clk = s.clk := rfl
@[simp] theorem State.onPort_straps (s : State) (p : Nat) (f : PortState → PortState) : (s.onPort p f).straps = s.straps := rfl
@[simp] theorem State.onPort_pins (s : State) (p : Nat) (f : PortState → PortState) : (s.onPort p f).pins = s.pins := rfl
@[simp] theorem State.onPort_sec (s : State) (p : Nat) (f : PortState → PortState) : (s.onPort p f).sec = s.sec := rfl
@[simp] theorem State.onPort_cfg (s : State) (p : Nat) (f : PortState → PortState) : (s.onPort p f).cfg = s.cfg := rfl
@[simp] theorem State.onPort_sems (s : State) (p : Nat) (f : PortState → PortState) : (s.onPort p f).sems = s.sems := rfl
@[simp] theorem State.onPort_log (s : State) (p : Nat) (f : PortState → PortState) : (s.onPort p f).log = s.log := rfl
@[simp] theorem State.onPort_trace (s : State) (p : Nat) (f : PortState → PortState) : (s.onPort p f).trace = s.trace := rfl
@[simp] theorem State.onPort_comps (s : State) (p : Nat) (f : PortState → PortState) : (s.onPort p f).comps = s.comps := rfl
@[simp] theorem State.onPort_procs (s : State) (p : Nat) (f : PortState → PortState) : (s.onPort p f).procs = s.procs := rfl
@[simp] theorem State.onPort_rec_ (s : State) (p : Nat) (f : PortState → PortState) : (s.onPort p f).rec_ = s.rec_ := rfl
@[simp] theorem State.onPort_feed (s : State) (p : Nat) (f : PortState → PortState) : (s.onPort p f).feed = s.feed := rfl
@[simp] theorem State.onPort_thyme (s : State) (p : Nat) (f : PortState → PortState) : (s.onPort p f).thyme = s.thyme := rfl
@[simp] theorem State.onPort_sage (s : State) (p : Nat) (f : PortState → PortState) : (s.onPort p f).sage = s.sage := rfl
@[simp] theorem State.onPort_op (s : State) (p : Nat) (f : PortState → PortState) : (s.onPort p f).op = s.op := rfl
@[simp] theorem State.onPort_phase (s : State) (p : Nat) (f : PortState → PortState) : (s.onPort p f).phase = s.phase := rfl
@[simp] theorem State.onPort_cool (s : State) (p : Nat) (f : PortState → PortState) : (s.onPort p f).cool = s.cool := rfl
@[simp] theorem State.onPort_ledger (s : State) (p : Nat) (f : PortState → PortState) : (s.onPort p f).ledger = s.ledger := rfl
@[simp] theorem State.onPort_sync (s : State) (p : Nat) (f : PortState → PortState) : (s.onPort p f).sync = s.sync := rfl
@[simp] theorem State.onPort_link (s : State) (p : Nat) (f : PortState → PortState) : (s.onPort p f).link = s.link := rfl
@[simp] theorem State.onPort_repro (s : State) (p : Nat) (f : PortState → PortState) : (s.onPort p f).repro = s.repro := rfl
@[simp] theorem State.onPort_pair (s : State) (p : Nat) (f : PortState → PortState) : (s.onPort p f).pair = s.pair := rfl
@[simp] theorem State.onPort_upd (s : State) (p : Nat) (f : PortState → PortState) : (s.onPort p f).upd = s.upd := rfl
@[simp] theorem State.onPort_free (s : State) (p : Nat) (f : PortState → PortState) : (s.onPort p f).free = s.free := rfl
@[simp] theorem State.onPort_pending (s : State) (p : Nat) (f : PortState → PortState) : (s.onPort p f).pending = s.pending := rfl

/-! `onSession` -/

@[simp] theorem State.onSession_sup (s : State) (p : Nat) (f : Session → Session) : (s.onSession p f).sup = s.sup := rfl
@[simp] theorem State.onSession_clk (s : State) (p : Nat) (f : Session → Session) : (s.onSession p f).clk = s.clk := rfl
@[simp] theorem State.onSession_straps (s : State) (p : Nat) (f : Session → Session) : (s.onSession p f).straps = s.straps := rfl
@[simp] theorem State.onSession_pins (s : State) (p : Nat) (f : Session → Session) : (s.onSession p f).pins = s.pins := rfl
@[simp] theorem State.onSession_sec (s : State) (p : Nat) (f : Session → Session) : (s.onSession p f).sec = s.sec := rfl
@[simp] theorem State.onSession_cfg (s : State) (p : Nat) (f : Session → Session) : (s.onSession p f).cfg = s.cfg := rfl
@[simp] theorem State.onSession_sems (s : State) (p : Nat) (f : Session → Session) : (s.onSession p f).sems = s.sems := rfl
@[simp] theorem State.onSession_log (s : State) (p : Nat) (f : Session → Session) : (s.onSession p f).log = s.log := rfl
@[simp] theorem State.onSession_trace (s : State) (p : Nat) (f : Session → Session) : (s.onSession p f).trace = s.trace := rfl
@[simp] theorem State.onSession_comps (s : State) (p : Nat) (f : Session → Session) : (s.onSession p f).comps = s.comps := rfl
@[simp] theorem State.onSession_procs (s : State) (p : Nat) (f : Session → Session) : (s.onSession p f).procs = s.procs := rfl
@[simp] theorem State.onSession_rec_ (s : State) (p : Nat) (f : Session → Session) : (s.onSession p f).rec_ = s.rec_ := rfl
@[simp] theorem State.onSession_feed (s : State) (p : Nat) (f : Session → Session) : (s.onSession p f).feed = s.feed := rfl
@[simp] theorem State.onSession_thyme (s : State) (p : Nat) (f : Session → Session) : (s.onSession p f).thyme = s.thyme := rfl
@[simp] theorem State.onSession_sage (s : State) (p : Nat) (f : Session → Session) : (s.onSession p f).sage = s.sage := rfl
@[simp] theorem State.onSession_op (s : State) (p : Nat) (f : Session → Session) : (s.onSession p f).op = s.op := rfl
@[simp] theorem State.onSession_phase (s : State) (p : Nat) (f : Session → Session) : (s.onSession p f).phase = s.phase := rfl
@[simp] theorem State.onSession_cool (s : State) (p : Nat) (f : Session → Session) : (s.onSession p f).cool = s.cool := rfl
@[simp] theorem State.onSession_ledger (s : State) (p : Nat) (f : Session → Session) : (s.onSession p f).ledger = s.ledger := rfl
@[simp] theorem State.onSession_sync (s : State) (p : Nat) (f : Session → Session) : (s.onSession p f).sync = s.sync := rfl
@[simp] theorem State.onSession_link (s : State) (p : Nat) (f : Session → Session) : (s.onSession p f).link = s.link := rfl
@[simp] theorem State.onSession_repro (s : State) (p : Nat) (f : Session → Session) : (s.onSession p f).repro = s.repro := rfl
@[simp] theorem State.onSession_pair (s : State) (p : Nat) (f : Session → Session) : (s.onSession p f).pair = s.pair := rfl
@[simp] theorem State.onSession_upd (s : State) (p : Nat) (f : Session → Session) : (s.onSession p f).upd = s.upd := rfl
@[simp] theorem State.onSession_free (s : State) (p : Nat) (f : Session → Session) : (s.onSession p f).free = s.free := rfl
@[simp] theorem State.onSession_pending (s : State) (p : Nat) (f : Session → Session) : (s.onSession p f).pending = s.pending := rfl

/-! `onThyme` -/

@[simp] theorem State.onThyme_sup (s : State) (f : ThymeState → ThymeState) : (s.onThyme f).sup = s.sup := rfl
@[simp] theorem State.onThyme_clk (s : State) (f : ThymeState → ThymeState) : (s.onThyme f).clk = s.clk := rfl
@[simp] theorem State.onThyme_straps (s : State) (f : ThymeState → ThymeState) : (s.onThyme f).straps = s.straps := rfl
@[simp] theorem State.onThyme_pins (s : State) (f : ThymeState → ThymeState) : (s.onThyme f).pins = s.pins := rfl
@[simp] theorem State.onThyme_sec (s : State) (f : ThymeState → ThymeState) : (s.onThyme f).sec = s.sec := rfl
@[simp] theorem State.onThyme_cfg (s : State) (f : ThymeState → ThymeState) : (s.onThyme f).cfg = s.cfg := rfl
@[simp] theorem State.onThyme_ports (s : State) (f : ThymeState → ThymeState) : (s.onThyme f).ports = s.ports := rfl
@[simp] theorem State.onThyme_sems (s : State) (f : ThymeState → ThymeState) : (s.onThyme f).sems = s.sems := rfl
@[simp] theorem State.onThyme_log (s : State) (f : ThymeState → ThymeState) : (s.onThyme f).log = s.log := rfl
@[simp] theorem State.onThyme_trace (s : State) (f : ThymeState → ThymeState) : (s.onThyme f).trace = s.trace := rfl
@[simp] theorem State.onThyme_comps (s : State) (f : ThymeState → ThymeState) : (s.onThyme f).comps = s.comps := rfl
@[simp] theorem State.onThyme_procs (s : State) (f : ThymeState → ThymeState) : (s.onThyme f).procs = s.procs := rfl
@[simp] theorem State.onThyme_rec_ (s : State) (f : ThymeState → ThymeState) : (s.onThyme f).rec_ = s.rec_ := rfl
@[simp] theorem State.onThyme_feed (s : State) (f : ThymeState → ThymeState) : (s.onThyme f).feed = s.feed := rfl
@[simp] theorem State.onThyme_sage (s : State) (f : ThymeState → ThymeState) : (s.onThyme f).sage = s.sage := rfl
@[simp] theorem State.onThyme_op (s : State) (f : ThymeState → ThymeState) : (s.onThyme f).op = s.op := rfl
@[simp] theorem State.onThyme_phase (s : State) (f : ThymeState → ThymeState) : (s.onThyme f).phase = s.phase := rfl
@[simp] theorem State.onThyme_cool (s : State) (f : ThymeState → ThymeState) : (s.onThyme f).cool = s.cool := rfl
@[simp] theorem State.onThyme_ledger (s : State) (f : ThymeState → ThymeState) : (s.onThyme f).ledger = s.ledger := rfl
@[simp] theorem State.onThyme_sync (s : State) (f : ThymeState → ThymeState) : (s.onThyme f).sync = s.sync := rfl
@[simp] theorem State.onThyme_link (s : State) (f : ThymeState → ThymeState) : (s.onThyme f).link = s.link := rfl
@[simp] theorem State.onThyme_repro (s : State) (f : ThymeState → ThymeState) : (s.onThyme f).repro = s.repro := rfl
@[simp] theorem State.onThyme_pair (s : State) (f : ThymeState → ThymeState) : (s.onThyme f).pair = s.pair := rfl
@[simp] theorem State.onThyme_upd (s : State) (f : ThymeState → ThymeState) : (s.onThyme f).upd = s.upd := rfl
@[simp] theorem State.onThyme_free (s : State) (f : ThymeState → ThymeState) : (s.onThyme f).free = s.free := rfl
@[simp] theorem State.onThyme_pending (s : State) (f : ThymeState → ThymeState) : (s.onThyme f).pending = s.pending := rfl

/-! `onSage` -/

@[simp] theorem State.onSage_sup (s : State) (f : SageState → SageState) : (s.onSage f).sup = s.sup := rfl
@[simp] theorem State.onSage_clk (s : State) (f : SageState → SageState) : (s.onSage f).clk = s.clk := rfl
@[simp] theorem State.onSage_straps (s : State) (f : SageState → SageState) : (s.onSage f).straps = s.straps := rfl
@[simp] theorem State.onSage_pins (s : State) (f : SageState → SageState) : (s.onSage f).pins = s.pins := rfl
@[simp] theorem State.onSage_sec (s : State) (f : SageState → SageState) : (s.onSage f).sec = s.sec := rfl
@[simp] theorem State.onSage_cfg (s : State) (f : SageState → SageState) : (s.onSage f).cfg = s.cfg := rfl
@[simp] theorem State.onSage_ports (s : State) (f : SageState → SageState) : (s.onSage f).ports = s.ports := rfl
@[simp] theorem State.onSage_sems (s : State) (f : SageState → SageState) : (s.onSage f).sems = s.sems := rfl
@[simp] theorem State.onSage_log (s : State) (f : SageState → SageState) : (s.onSage f).log = s.log := rfl
@[simp] theorem State.onSage_trace (s : State) (f : SageState → SageState) : (s.onSage f).trace = s.trace := rfl
@[simp] theorem State.onSage_comps (s : State) (f : SageState → SageState) : (s.onSage f).comps = s.comps := rfl
@[simp] theorem State.onSage_procs (s : State) (f : SageState → SageState) : (s.onSage f).procs = s.procs := rfl
@[simp] theorem State.onSage_rec_ (s : State) (f : SageState → SageState) : (s.onSage f).rec_ = s.rec_ := rfl
@[simp] theorem State.onSage_feed (s : State) (f : SageState → SageState) : (s.onSage f).feed = s.feed := rfl
@[simp] theorem State.onSage_thyme (s : State) (f : SageState → SageState) : (s.onSage f).thyme = s.thyme := rfl
@[simp] theorem State.onSage_op (s : State) (f : SageState → SageState) : (s.onSage f).op = s.op := rfl
@[simp] theorem State.onSage_phase (s : State) (f : SageState → SageState) : (s.onSage f).phase = s.phase := rfl
@[simp] theorem State.onSage_cool (s : State) (f : SageState → SageState) : (s.onSage f).cool = s.cool := rfl
@[simp] theorem State.onSage_ledger (s : State) (f : SageState → SageState) : (s.onSage f).ledger = s.ledger := rfl
@[simp] theorem State.onSage_sync (s : State) (f : SageState → SageState) : (s.onSage f).sync = s.sync := rfl
@[simp] theorem State.onSage_link (s : State) (f : SageState → SageState) : (s.onSage f).link = s.link := rfl
@[simp] theorem State.onSage_repro (s : State) (f : SageState → SageState) : (s.onSage f).repro = s.repro := rfl
@[simp] theorem State.onSage_pair (s : State) (f : SageState → SageState) : (s.onSage f).pair = s.pair := rfl
@[simp] theorem State.onSage_upd (s : State) (f : SageState → SageState) : (s.onSage f).upd = s.upd := rfl
@[simp] theorem State.onSage_free (s : State) (f : SageState → SageState) : (s.onSage f).free = s.free := rfl
@[simp] theorem State.onSage_pending (s : State) (f : SageState → SageState) : (s.onSage f).pending = s.pending := rfl

/-! `onRail` -/

@[simp] theorem State.onRail_sup (s : State) (c : Nat) (f : Rail → Rail) : (s.onRail c f).sup = s.sup := rfl
@[simp] theorem State.onRail_clk (s : State) (c : Nat) (f : Rail → Rail) : (s.onRail c f).clk = s.clk := rfl
@[simp] theorem State.onRail_straps (s : State) (c : Nat) (f : Rail → Rail) : (s.onRail c f).straps = s.straps := rfl
@[simp] theorem State.onRail_pins (s : State) (c : Nat) (f : Rail → Rail) : (s.onRail c f).pins = s.pins := rfl
@[simp] theorem State.onRail_sec (s : State) (c : Nat) (f : Rail → Rail) : (s.onRail c f).sec = s.sec := rfl
@[simp] theorem State.onRail_cfg (s : State) (c : Nat) (f : Rail → Rail) : (s.onRail c f).cfg = s.cfg := rfl
@[simp] theorem State.onRail_ports (s : State) (c : Nat) (f : Rail → Rail) : (s.onRail c f).ports = s.ports := rfl
@[simp] theorem State.onRail_sems (s : State) (c : Nat) (f : Rail → Rail) : (s.onRail c f).sems = s.sems := rfl
@[simp] theorem State.onRail_log (s : State) (c : Nat) (f : Rail → Rail) : (s.onRail c f).log = s.log := rfl
@[simp] theorem State.onRail_trace (s : State) (c : Nat) (f : Rail → Rail) : (s.onRail c f).trace = s.trace := rfl
@[simp] theorem State.onRail_comps (s : State) (c : Nat) (f : Rail → Rail) : (s.onRail c f).comps = s.comps := rfl
@[simp] theorem State.onRail_procs (s : State) (c : Nat) (f : Rail → Rail) : (s.onRail c f).procs = s.procs := rfl
@[simp] theorem State.onRail_rec_ (s : State) (c : Nat) (f : Rail → Rail) : (s.onRail c f).rec_ = s.rec_ := rfl
@[simp] theorem State.onRail_feed (s : State) (c : Nat) (f : Rail → Rail) : (s.onRail c f).feed = s.feed := rfl
@[simp] theorem State.onRail_thyme (s : State) (c : Nat) (f : Rail → Rail) : (s.onRail c f).thyme = s.thyme := rfl
@[simp] theorem State.onRail_op (s : State) (c : Nat) (f : Rail → Rail) : (s.onRail c f).op = s.op := rfl
@[simp] theorem State.onRail_phase (s : State) (c : Nat) (f : Rail → Rail) : (s.onRail c f).phase = s.phase := rfl
@[simp] theorem State.onRail_cool (s : State) (c : Nat) (f : Rail → Rail) : (s.onRail c f).cool = s.cool := rfl
@[simp] theorem State.onRail_ledger (s : State) (c : Nat) (f : Rail → Rail) : (s.onRail c f).ledger = s.ledger := rfl
@[simp] theorem State.onRail_sync (s : State) (c : Nat) (f : Rail → Rail) : (s.onRail c f).sync = s.sync := rfl
@[simp] theorem State.onRail_link (s : State) (c : Nat) (f : Rail → Rail) : (s.onRail c f).link = s.link := rfl
@[simp] theorem State.onRail_repro (s : State) (c : Nat) (f : Rail → Rail) : (s.onRail c f).repro = s.repro := rfl
@[simp] theorem State.onRail_pair (s : State) (c : Nat) (f : Rail → Rail) : (s.onRail c f).pair = s.pair := rfl
@[simp] theorem State.onRail_upd (s : State) (c : Nat) (f : Rail → Rail) : (s.onRail c f).upd = s.upd := rfl
@[simp] theorem State.onRail_free (s : State) (c : Nat) (f : Rail → Rail) : (s.onRail c f).free = s.free := rfl
@[simp] theorem State.onRail_pending (s : State) (c : Nat) (f : Rail → Rail) : (s.onRail c f).pending = s.pending := rfl

/-! `onCtx` -/

@[simp] theorem State.onCtx_sup (s : State) (k : Nat) (f : ThymeCtx → ThymeCtx) : (s.onCtx k f).sup = s.sup := rfl
@[simp] theorem State.onCtx_clk (s : State) (k : Nat) (f : ThymeCtx → ThymeCtx) : (s.onCtx k f).clk = s.clk := rfl
@[simp] theorem State.onCtx_straps (s : State) (k : Nat) (f : ThymeCtx → ThymeCtx) : (s.onCtx k f).straps = s.straps := rfl
@[simp] theorem State.onCtx_pins (s : State) (k : Nat) (f : ThymeCtx → ThymeCtx) : (s.onCtx k f).pins = s.pins := rfl
@[simp] theorem State.onCtx_sec (s : State) (k : Nat) (f : ThymeCtx → ThymeCtx) : (s.onCtx k f).sec = s.sec := rfl
@[simp] theorem State.onCtx_cfg (s : State) (k : Nat) (f : ThymeCtx → ThymeCtx) : (s.onCtx k f).cfg = s.cfg := rfl
@[simp] theorem State.onCtx_ports (s : State) (k : Nat) (f : ThymeCtx → ThymeCtx) : (s.onCtx k f).ports = s.ports := rfl
@[simp] theorem State.onCtx_sems (s : State) (k : Nat) (f : ThymeCtx → ThymeCtx) : (s.onCtx k f).sems = s.sems := rfl
@[simp] theorem State.onCtx_log (s : State) (k : Nat) (f : ThymeCtx → ThymeCtx) : (s.onCtx k f).log = s.log := rfl
@[simp] theorem State.onCtx_trace (s : State) (k : Nat) (f : ThymeCtx → ThymeCtx) : (s.onCtx k f).trace = s.trace := rfl
@[simp] theorem State.onCtx_comps (s : State) (k : Nat) (f : ThymeCtx → ThymeCtx) : (s.onCtx k f).comps = s.comps := rfl
@[simp] theorem State.onCtx_procs (s : State) (k : Nat) (f : ThymeCtx → ThymeCtx) : (s.onCtx k f).procs = s.procs := rfl
@[simp] theorem State.onCtx_rec_ (s : State) (k : Nat) (f : ThymeCtx → ThymeCtx) : (s.onCtx k f).rec_ = s.rec_ := rfl
@[simp] theorem State.onCtx_feed (s : State) (k : Nat) (f : ThymeCtx → ThymeCtx) : (s.onCtx k f).feed = s.feed := rfl
@[simp] theorem State.onCtx_sage (s : State) (k : Nat) (f : ThymeCtx → ThymeCtx) : (s.onCtx k f).sage = s.sage := rfl
@[simp] theorem State.onCtx_op (s : State) (k : Nat) (f : ThymeCtx → ThymeCtx) : (s.onCtx k f).op = s.op := rfl
@[simp] theorem State.onCtx_phase (s : State) (k : Nat) (f : ThymeCtx → ThymeCtx) : (s.onCtx k f).phase = s.phase := rfl
@[simp] theorem State.onCtx_cool (s : State) (k : Nat) (f : ThymeCtx → ThymeCtx) : (s.onCtx k f).cool = s.cool := rfl
@[simp] theorem State.onCtx_ledger (s : State) (k : Nat) (f : ThymeCtx → ThymeCtx) : (s.onCtx k f).ledger = s.ledger := rfl
@[simp] theorem State.onCtx_sync (s : State) (k : Nat) (f : ThymeCtx → ThymeCtx) : (s.onCtx k f).sync = s.sync := rfl
@[simp] theorem State.onCtx_link (s : State) (k : Nat) (f : ThymeCtx → ThymeCtx) : (s.onCtx k f).link = s.link := rfl
@[simp] theorem State.onCtx_repro (s : State) (k : Nat) (f : ThymeCtx → ThymeCtx) : (s.onCtx k f).repro = s.repro := rfl
@[simp] theorem State.onCtx_pair (s : State) (k : Nat) (f : ThymeCtx → ThymeCtx) : (s.onCtx k f).pair = s.pair := rfl
@[simp] theorem State.onCtx_upd (s : State) (k : Nat) (f : ThymeCtx → ThymeCtx) : (s.onCtx k f).upd = s.upd := rfl
@[simp] theorem State.onCtx_free (s : State) (k : Nat) (f : ThymeCtx → ThymeCtx) : (s.onCtx k f).free = s.free := rfl
@[simp] theorem State.onCtx_pending (s : State) (k : Nat) (f : ThymeCtx → ThymeCtx) : (s.onCtx k f).pending = s.pending := rfl

/-! `onFeed` -/

@[simp] theorem State.onFeed_sup (s : State) (x : Nat) (f : Feed → Feed) : (s.onFeed x f).sup = s.sup := rfl
@[simp] theorem State.onFeed_clk (s : State) (x : Nat) (f : Feed → Feed) : (s.onFeed x f).clk = s.clk := rfl
@[simp] theorem State.onFeed_straps (s : State) (x : Nat) (f : Feed → Feed) : (s.onFeed x f).straps = s.straps := rfl
@[simp] theorem State.onFeed_pins (s : State) (x : Nat) (f : Feed → Feed) : (s.onFeed x f).pins = s.pins := rfl
@[simp] theorem State.onFeed_sec (s : State) (x : Nat) (f : Feed → Feed) : (s.onFeed x f).sec = s.sec := rfl
@[simp] theorem State.onFeed_cfg (s : State) (x : Nat) (f : Feed → Feed) : (s.onFeed x f).cfg = s.cfg := rfl
@[simp] theorem State.onFeed_ports (s : State) (x : Nat) (f : Feed → Feed) : (s.onFeed x f).ports = s.ports := rfl
@[simp] theorem State.onFeed_sems (s : State) (x : Nat) (f : Feed → Feed) : (s.onFeed x f).sems = s.sems := rfl
@[simp] theorem State.onFeed_log (s : State) (x : Nat) (f : Feed → Feed) : (s.onFeed x f).log = s.log := rfl
@[simp] theorem State.onFeed_trace (s : State) (x : Nat) (f : Feed → Feed) : (s.onFeed x f).trace = s.trace := rfl
@[simp] theorem State.onFeed_comps (s : State) (x : Nat) (f : Feed → Feed) : (s.onFeed x f).comps = s.comps := rfl
@[simp] theorem State.onFeed_procs (s : State) (x : Nat) (f : Feed → Feed) : (s.onFeed x f).procs = s.procs := rfl
@[simp] theorem State.onFeed_rec_ (s : State) (x : Nat) (f : Feed → Feed) : (s.onFeed x f).rec_ = s.rec_ := rfl
@[simp] theorem State.onFeed_thyme (s : State) (x : Nat) (f : Feed → Feed) : (s.onFeed x f).thyme = s.thyme := rfl
@[simp] theorem State.onFeed_sage (s : State) (x : Nat) (f : Feed → Feed) : (s.onFeed x f).sage = s.sage := rfl
@[simp] theorem State.onFeed_op (s : State) (x : Nat) (f : Feed → Feed) : (s.onFeed x f).op = s.op := rfl
@[simp] theorem State.onFeed_phase (s : State) (x : Nat) (f : Feed → Feed) : (s.onFeed x f).phase = s.phase := rfl
@[simp] theorem State.onFeed_cool (s : State) (x : Nat) (f : Feed → Feed) : (s.onFeed x f).cool = s.cool := rfl
@[simp] theorem State.onFeed_ledger (s : State) (x : Nat) (f : Feed → Feed) : (s.onFeed x f).ledger = s.ledger := rfl
@[simp] theorem State.onFeed_sync (s : State) (x : Nat) (f : Feed → Feed) : (s.onFeed x f).sync = s.sync := rfl
@[simp] theorem State.onFeed_link (s : State) (x : Nat) (f : Feed → Feed) : (s.onFeed x f).link = s.link := rfl
@[simp] theorem State.onFeed_repro (s : State) (x : Nat) (f : Feed → Feed) : (s.onFeed x f).repro = s.repro := rfl
@[simp] theorem State.onFeed_pair (s : State) (x : Nat) (f : Feed → Feed) : (s.onFeed x f).pair = s.pair := rfl
@[simp] theorem State.onFeed_upd (s : State) (x : Nat) (f : Feed → Feed) : (s.onFeed x f).upd = s.upd := rfl
@[simp] theorem State.onFeed_free (s : State) (x : Nat) (f : Feed → Feed) : (s.onFeed x f).free = s.free := rfl
@[simp] theorem State.onFeed_pending (s : State) (x : Nat) (f : Feed → Feed) : (s.onFeed x f).pending = s.pending := rfl

/-! `onFeeds` -/

@[simp] theorem State.onFeeds_sup (s : State) (f : FeedState → FeedState) : (s.onFeeds f).sup = s.sup := rfl
@[simp] theorem State.onFeeds_clk (s : State) (f : FeedState → FeedState) : (s.onFeeds f).clk = s.clk := rfl
@[simp] theorem State.onFeeds_straps (s : State) (f : FeedState → FeedState) : (s.onFeeds f).straps = s.straps := rfl
@[simp] theorem State.onFeeds_pins (s : State) (f : FeedState → FeedState) : (s.onFeeds f).pins = s.pins := rfl
@[simp] theorem State.onFeeds_sec (s : State) (f : FeedState → FeedState) : (s.onFeeds f).sec = s.sec := rfl
@[simp] theorem State.onFeeds_cfg (s : State) (f : FeedState → FeedState) : (s.onFeeds f).cfg = s.cfg := rfl
@[simp] theorem State.onFeeds_ports (s : State) (f : FeedState → FeedState) : (s.onFeeds f).ports = s.ports := rfl
@[simp] theorem State.onFeeds_sems (s : State) (f : FeedState → FeedState) : (s.onFeeds f).sems = s.sems := rfl
@[simp] theorem State.onFeeds_log (s : State) (f : FeedState → FeedState) : (s.onFeeds f).log = s.log := rfl
@[simp] theorem State.onFeeds_trace (s : State) (f : FeedState → FeedState) : (s.onFeeds f).trace = s.trace := rfl
@[simp] theorem State.onFeeds_comps (s : State) (f : FeedState → FeedState) : (s.onFeeds f).comps = s.comps := rfl
@[simp] theorem State.onFeeds_procs (s : State) (f : FeedState → FeedState) : (s.onFeeds f).procs = s.procs := rfl
@[simp] theorem State.onFeeds_rec_ (s : State) (f : FeedState → FeedState) : (s.onFeeds f).rec_ = s.rec_ := rfl
@[simp] theorem State.onFeeds_thyme (s : State) (f : FeedState → FeedState) : (s.onFeeds f).thyme = s.thyme := rfl
@[simp] theorem State.onFeeds_sage (s : State) (f : FeedState → FeedState) : (s.onFeeds f).sage = s.sage := rfl
@[simp] theorem State.onFeeds_op (s : State) (f : FeedState → FeedState) : (s.onFeeds f).op = s.op := rfl
@[simp] theorem State.onFeeds_phase (s : State) (f : FeedState → FeedState) : (s.onFeeds f).phase = s.phase := rfl
@[simp] theorem State.onFeeds_cool (s : State) (f : FeedState → FeedState) : (s.onFeeds f).cool = s.cool := rfl
@[simp] theorem State.onFeeds_ledger (s : State) (f : FeedState → FeedState) : (s.onFeeds f).ledger = s.ledger := rfl
@[simp] theorem State.onFeeds_sync (s : State) (f : FeedState → FeedState) : (s.onFeeds f).sync = s.sync := rfl
@[simp] theorem State.onFeeds_link (s : State) (f : FeedState → FeedState) : (s.onFeeds f).link = s.link := rfl
@[simp] theorem State.onFeeds_repro (s : State) (f : FeedState → FeedState) : (s.onFeeds f).repro = s.repro := rfl
@[simp] theorem State.onFeeds_pair (s : State) (f : FeedState → FeedState) : (s.onFeeds f).pair = s.pair := rfl
@[simp] theorem State.onFeeds_upd (s : State) (f : FeedState → FeedState) : (s.onFeeds f).upd = s.upd := rfl
@[simp] theorem State.onFeeds_free (s : State) (f : FeedState → FeedState) : (s.onFeeds f).free = s.free := rfl
@[simp] theorem State.onFeeds_pending (s : State) (f : FeedState → FeedState) : (s.onFeeds f).pending = s.pending := rfl

/-! `onOp` -/

@[simp] theorem State.onOp_sup (s : State) (f : OpState → OpState) : (s.onOp f).sup = s.sup := rfl
@[simp] theorem State.onOp_clk (s : State) (f : OpState → OpState) : (s.onOp f).clk = s.clk := rfl
@[simp] theorem State.onOp_straps (s : State) (f : OpState → OpState) : (s.onOp f).straps = s.straps := rfl
@[simp] theorem State.onOp_pins (s : State) (f : OpState → OpState) : (s.onOp f).pins = s.pins := rfl
@[simp] theorem State.onOp_sec (s : State) (f : OpState → OpState) : (s.onOp f).sec = s.sec := rfl
@[simp] theorem State.onOp_cfg (s : State) (f : OpState → OpState) : (s.onOp f).cfg = s.cfg := rfl
@[simp] theorem State.onOp_ports (s : State) (f : OpState → OpState) : (s.onOp f).ports = s.ports := rfl
@[simp] theorem State.onOp_sems (s : State) (f : OpState → OpState) : (s.onOp f).sems = s.sems := rfl
@[simp] theorem State.onOp_log (s : State) (f : OpState → OpState) : (s.onOp f).log = s.log := rfl
@[simp] theorem State.onOp_trace (s : State) (f : OpState → OpState) : (s.onOp f).trace = s.trace := rfl
@[simp] theorem State.onOp_comps (s : State) (f : OpState → OpState) : (s.onOp f).comps = s.comps := rfl
@[simp] theorem State.onOp_procs (s : State) (f : OpState → OpState) : (s.onOp f).procs = s.procs := rfl
@[simp] theorem State.onOp_rec_ (s : State) (f : OpState → OpState) : (s.onOp f).rec_ = s.rec_ := rfl
@[simp] theorem State.onOp_feed (s : State) (f : OpState → OpState) : (s.onOp f).feed = s.feed := rfl
@[simp] theorem State.onOp_thyme (s : State) (f : OpState → OpState) : (s.onOp f).thyme = s.thyme := rfl
@[simp] theorem State.onOp_sage (s : State) (f : OpState → OpState) : (s.onOp f).sage = s.sage := rfl
@[simp] theorem State.onOp_phase (s : State) (f : OpState → OpState) : (s.onOp f).phase = s.phase := rfl
@[simp] theorem State.onOp_cool (s : State) (f : OpState → OpState) : (s.onOp f).cool = s.cool := rfl
@[simp] theorem State.onOp_ledger (s : State) (f : OpState → OpState) : (s.onOp f).ledger = s.ledger := rfl
@[simp] theorem State.onOp_sync (s : State) (f : OpState → OpState) : (s.onOp f).sync = s.sync := rfl
@[simp] theorem State.onOp_link (s : State) (f : OpState → OpState) : (s.onOp f).link = s.link := rfl
@[simp] theorem State.onOp_repro (s : State) (f : OpState → OpState) : (s.onOp f).repro = s.repro := rfl
@[simp] theorem State.onOp_pair (s : State) (f : OpState → OpState) : (s.onOp f).pair = s.pair := rfl
@[simp] theorem State.onOp_upd (s : State) (f : OpState → OpState) : (s.onOp f).upd = s.upd := rfl
@[simp] theorem State.onOp_free (s : State) (f : OpState → OpState) : (s.onOp f).free = s.free := rfl
@[simp] theorem State.onOp_pending (s : State) (f : OpState → OpState) : (s.onOp f).pending = s.pending := rfl

/-! `onPhase` -/

@[simp] theorem State.onPhase_sup (s : State) (f : PhaseState → PhaseState) : (s.onPhase f).sup = s.sup := rfl
@[simp] theorem State.onPhase_clk (s : State) (f : PhaseState → PhaseState) : (s.onPhase f).clk = s.clk := rfl
@[simp] theorem State.onPhase_straps (s : State) (f : PhaseState → PhaseState) : (s.onPhase f).straps = s.straps := rfl
@[simp] theorem State.onPhase_pins (s : State) (f : PhaseState → PhaseState) : (s.onPhase f).pins = s.pins := rfl
@[simp] theorem State.onPhase_sec (s : State) (f : PhaseState → PhaseState) : (s.onPhase f).sec = s.sec := rfl
@[simp] theorem State.onPhase_cfg (s : State) (f : PhaseState → PhaseState) : (s.onPhase f).cfg = s.cfg := rfl
@[simp] theorem State.onPhase_ports (s : State) (f : PhaseState → PhaseState) : (s.onPhase f).ports = s.ports := rfl
@[simp] theorem State.onPhase_sems (s : State) (f : PhaseState → PhaseState) : (s.onPhase f).sems = s.sems := rfl
@[simp] theorem State.onPhase_log (s : State) (f : PhaseState → PhaseState) : (s.onPhase f).log = s.log := rfl
@[simp] theorem State.onPhase_trace (s : State) (f : PhaseState → PhaseState) : (s.onPhase f).trace = s.trace := rfl
@[simp] theorem State.onPhase_comps (s : State) (f : PhaseState → PhaseState) : (s.onPhase f).comps = s.comps := rfl
@[simp] theorem State.onPhase_procs (s : State) (f : PhaseState → PhaseState) : (s.onPhase f).procs = s.procs := rfl
@[simp] theorem State.onPhase_rec_ (s : State) (f : PhaseState → PhaseState) : (s.onPhase f).rec_ = s.rec_ := rfl
@[simp] theorem State.onPhase_feed (s : State) (f : PhaseState → PhaseState) : (s.onPhase f).feed = s.feed := rfl
@[simp] theorem State.onPhase_thyme (s : State) (f : PhaseState → PhaseState) : (s.onPhase f).thyme = s.thyme := rfl
@[simp] theorem State.onPhase_sage (s : State) (f : PhaseState → PhaseState) : (s.onPhase f).sage = s.sage := rfl
@[simp] theorem State.onPhase_op (s : State) (f : PhaseState → PhaseState) : (s.onPhase f).op = s.op := rfl
@[simp] theorem State.onPhase_cool (s : State) (f : PhaseState → PhaseState) : (s.onPhase f).cool = s.cool := rfl
@[simp] theorem State.onPhase_ledger (s : State) (f : PhaseState → PhaseState) : (s.onPhase f).ledger = s.ledger := rfl
@[simp] theorem State.onPhase_sync (s : State) (f : PhaseState → PhaseState) : (s.onPhase f).sync = s.sync := rfl
@[simp] theorem State.onPhase_link (s : State) (f : PhaseState → PhaseState) : (s.onPhase f).link = s.link := rfl
@[simp] theorem State.onPhase_repro (s : State) (f : PhaseState → PhaseState) : (s.onPhase f).repro = s.repro := rfl
@[simp] theorem State.onPhase_pair (s : State) (f : PhaseState → PhaseState) : (s.onPhase f).pair = s.pair := rfl
@[simp] theorem State.onPhase_upd (s : State) (f : PhaseState → PhaseState) : (s.onPhase f).upd = s.upd := rfl
@[simp] theorem State.onPhase_free (s : State) (f : PhaseState → PhaseState) : (s.onPhase f).free = s.free := rfl
@[simp] theorem State.onPhase_pending (s : State) (f : PhaseState → PhaseState) : (s.onPhase f).pending = s.pending := rfl

/-! `onSlot` -/

@[simp] theorem State.onSlot_sup (s : State) (k : Nat) (f : ModelSlot → ModelSlot) : (s.onSlot k f).sup = s.sup := rfl
@[simp] theorem State.onSlot_clk (s : State) (k : Nat) (f : ModelSlot → ModelSlot) : (s.onSlot k f).clk = s.clk := rfl
@[simp] theorem State.onSlot_straps (s : State) (k : Nat) (f : ModelSlot → ModelSlot) : (s.onSlot k f).straps = s.straps := rfl
@[simp] theorem State.onSlot_pins (s : State) (k : Nat) (f : ModelSlot → ModelSlot) : (s.onSlot k f).pins = s.pins := rfl
@[simp] theorem State.onSlot_sec (s : State) (k : Nat) (f : ModelSlot → ModelSlot) : (s.onSlot k f).sec = s.sec := rfl
@[simp] theorem State.onSlot_cfg (s : State) (k : Nat) (f : ModelSlot → ModelSlot) : (s.onSlot k f).cfg = s.cfg := rfl
@[simp] theorem State.onSlot_ports (s : State) (k : Nat) (f : ModelSlot → ModelSlot) : (s.onSlot k f).ports = s.ports := rfl
@[simp] theorem State.onSlot_sems (s : State) (k : Nat) (f : ModelSlot → ModelSlot) : (s.onSlot k f).sems = s.sems := rfl
@[simp] theorem State.onSlot_log (s : State) (k : Nat) (f : ModelSlot → ModelSlot) : (s.onSlot k f).log = s.log := rfl
@[simp] theorem State.onSlot_trace (s : State) (k : Nat) (f : ModelSlot → ModelSlot) : (s.onSlot k f).trace = s.trace := rfl
@[simp] theorem State.onSlot_comps (s : State) (k : Nat) (f : ModelSlot → ModelSlot) : (s.onSlot k f).comps = s.comps := rfl
@[simp] theorem State.onSlot_procs (s : State) (k : Nat) (f : ModelSlot → ModelSlot) : (s.onSlot k f).procs = s.procs := rfl
@[simp] theorem State.onSlot_rec_ (s : State) (k : Nat) (f : ModelSlot → ModelSlot) : (s.onSlot k f).rec_ = s.rec_ := rfl
@[simp] theorem State.onSlot_feed (s : State) (k : Nat) (f : ModelSlot → ModelSlot) : (s.onSlot k f).feed = s.feed := rfl
@[simp] theorem State.onSlot_thyme (s : State) (k : Nat) (f : ModelSlot → ModelSlot) : (s.onSlot k f).thyme = s.thyme := rfl
@[simp] theorem State.onSlot_sage (s : State) (k : Nat) (f : ModelSlot → ModelSlot) : (s.onSlot k f).sage = s.sage := rfl
@[simp] theorem State.onSlot_op (s : State) (k : Nat) (f : ModelSlot → ModelSlot) : (s.onSlot k f).op = s.op := rfl
@[simp] theorem State.onSlot_cool (s : State) (k : Nat) (f : ModelSlot → ModelSlot) : (s.onSlot k f).cool = s.cool := rfl
@[simp] theorem State.onSlot_ledger (s : State) (k : Nat) (f : ModelSlot → ModelSlot) : (s.onSlot k f).ledger = s.ledger := rfl
@[simp] theorem State.onSlot_sync (s : State) (k : Nat) (f : ModelSlot → ModelSlot) : (s.onSlot k f).sync = s.sync := rfl
@[simp] theorem State.onSlot_link (s : State) (k : Nat) (f : ModelSlot → ModelSlot) : (s.onSlot k f).link = s.link := rfl
@[simp] theorem State.onSlot_repro (s : State) (k : Nat) (f : ModelSlot → ModelSlot) : (s.onSlot k f).repro = s.repro := rfl
@[simp] theorem State.onSlot_pair (s : State) (k : Nat) (f : ModelSlot → ModelSlot) : (s.onSlot k f).pair = s.pair := rfl
@[simp] theorem State.onSlot_upd (s : State) (k : Nat) (f : ModelSlot → ModelSlot) : (s.onSlot k f).upd = s.upd := rfl
@[simp] theorem State.onSlot_free (s : State) (k : Nat) (f : ModelSlot → ModelSlot) : (s.onSlot k f).free = s.free := rfl
@[simp] theorem State.onSlot_pending (s : State) (k : Nat) (f : ModelSlot → ModelSlot) : (s.onSlot k f).pending = s.pending := rfl

/-! `onCool` -/

@[simp] theorem State.onCool_sup (s : State) (f : CoolState → CoolState) : (s.onCool f).sup = s.sup := rfl
@[simp] theorem State.onCool_clk (s : State) (f : CoolState → CoolState) : (s.onCool f).clk = s.clk := rfl
@[simp] theorem State.onCool_straps (s : State) (f : CoolState → CoolState) : (s.onCool f).straps = s.straps := rfl
@[simp] theorem State.onCool_pins (s : State) (f : CoolState → CoolState) : (s.onCool f).pins = s.pins := rfl
@[simp] theorem State.onCool_sec (s : State) (f : CoolState → CoolState) : (s.onCool f).sec = s.sec := rfl
@[simp] theorem State.onCool_cfg (s : State) (f : CoolState → CoolState) : (s.onCool f).cfg = s.cfg := rfl
@[simp] theorem State.onCool_ports (s : State) (f : CoolState → CoolState) : (s.onCool f).ports = s.ports := rfl
@[simp] theorem State.onCool_sems (s : State) (f : CoolState → CoolState) : (s.onCool f).sems = s.sems := rfl
@[simp] theorem State.onCool_log (s : State) (f : CoolState → CoolState) : (s.onCool f).log = s.log := rfl
@[simp] theorem State.onCool_trace (s : State) (f : CoolState → CoolState) : (s.onCool f).trace = s.trace := rfl
@[simp] theorem State.onCool_comps (s : State) (f : CoolState → CoolState) : (s.onCool f).comps = s.comps := rfl
@[simp] theorem State.onCool_procs (s : State) (f : CoolState → CoolState) : (s.onCool f).procs = s.procs := rfl
@[simp] theorem State.onCool_rec_ (s : State) (f : CoolState → CoolState) : (s.onCool f).rec_ = s.rec_ := rfl
@[simp] theorem State.onCool_feed (s : State) (f : CoolState → CoolState) : (s.onCool f).feed = s.feed := rfl
@[simp] theorem State.onCool_thyme (s : State) (f : CoolState → CoolState) : (s.onCool f).thyme = s.thyme := rfl
@[simp] theorem State.onCool_sage (s : State) (f : CoolState → CoolState) : (s.onCool f).sage = s.sage := rfl
@[simp] theorem State.onCool_op (s : State) (f : CoolState → CoolState) : (s.onCool f).op = s.op := rfl
@[simp] theorem State.onCool_phase (s : State) (f : CoolState → CoolState) : (s.onCool f).phase = s.phase := rfl
@[simp] theorem State.onCool_ledger (s : State) (f : CoolState → CoolState) : (s.onCool f).ledger = s.ledger := rfl
@[simp] theorem State.onCool_sync (s : State) (f : CoolState → CoolState) : (s.onCool f).sync = s.sync := rfl
@[simp] theorem State.onCool_link (s : State) (f : CoolState → CoolState) : (s.onCool f).link = s.link := rfl
@[simp] theorem State.onCool_repro (s : State) (f : CoolState → CoolState) : (s.onCool f).repro = s.repro := rfl
@[simp] theorem State.onCool_pair (s : State) (f : CoolState → CoolState) : (s.onCool f).pair = s.pair := rfl
@[simp] theorem State.onCool_upd (s : State) (f : CoolState → CoolState) : (s.onCool f).upd = s.upd := rfl
@[simp] theorem State.onCool_free (s : State) (f : CoolState → CoolState) : (s.onCool f).free = s.free := rfl
@[simp] theorem State.onCool_pending (s : State) (f : CoolState → CoolState) : (s.onCool f).pending = s.pending := rfl

/-! `onSensor` -/

@[simp] theorem State.onSensor_sup (s : State) (i : Nat) (f : Sensor → Sensor) : (s.onSensor i f).sup = s.sup := rfl
@[simp] theorem State.onSensor_clk (s : State) (i : Nat) (f : Sensor → Sensor) : (s.onSensor i f).clk = s.clk := rfl
@[simp] theorem State.onSensor_straps (s : State) (i : Nat) (f : Sensor → Sensor) : (s.onSensor i f).straps = s.straps := rfl
@[simp] theorem State.onSensor_pins (s : State) (i : Nat) (f : Sensor → Sensor) : (s.onSensor i f).pins = s.pins := rfl
@[simp] theorem State.onSensor_sec (s : State) (i : Nat) (f : Sensor → Sensor) : (s.onSensor i f).sec = s.sec := rfl
@[simp] theorem State.onSensor_cfg (s : State) (i : Nat) (f : Sensor → Sensor) : (s.onSensor i f).cfg = s.cfg := rfl
@[simp] theorem State.onSensor_ports (s : State) (i : Nat) (f : Sensor → Sensor) : (s.onSensor i f).ports = s.ports := rfl
@[simp] theorem State.onSensor_sems (s : State) (i : Nat) (f : Sensor → Sensor) : (s.onSensor i f).sems = s.sems := rfl
@[simp] theorem State.onSensor_log (s : State) (i : Nat) (f : Sensor → Sensor) : (s.onSensor i f).log = s.log := rfl
@[simp] theorem State.onSensor_trace (s : State) (i : Nat) (f : Sensor → Sensor) : (s.onSensor i f).trace = s.trace := rfl
@[simp] theorem State.onSensor_comps (s : State) (i : Nat) (f : Sensor → Sensor) : (s.onSensor i f).comps = s.comps := rfl
@[simp] theorem State.onSensor_procs (s : State) (i : Nat) (f : Sensor → Sensor) : (s.onSensor i f).procs = s.procs := rfl
@[simp] theorem State.onSensor_rec_ (s : State) (i : Nat) (f : Sensor → Sensor) : (s.onSensor i f).rec_ = s.rec_ := rfl
@[simp] theorem State.onSensor_feed (s : State) (i : Nat) (f : Sensor → Sensor) : (s.onSensor i f).feed = s.feed := rfl
@[simp] theorem State.onSensor_thyme (s : State) (i : Nat) (f : Sensor → Sensor) : (s.onSensor i f).thyme = s.thyme := rfl
@[simp] theorem State.onSensor_sage (s : State) (i : Nat) (f : Sensor → Sensor) : (s.onSensor i f).sage = s.sage := rfl
@[simp] theorem State.onSensor_op (s : State) (i : Nat) (f : Sensor → Sensor) : (s.onSensor i f).op = s.op := rfl
@[simp] theorem State.onSensor_phase (s : State) (i : Nat) (f : Sensor → Sensor) : (s.onSensor i f).phase = s.phase := rfl
@[simp] theorem State.onSensor_ledger (s : State) (i : Nat) (f : Sensor → Sensor) : (s.onSensor i f).ledger = s.ledger := rfl
@[simp] theorem State.onSensor_sync (s : State) (i : Nat) (f : Sensor → Sensor) : (s.onSensor i f).sync = s.sync := rfl
@[simp] theorem State.onSensor_link (s : State) (i : Nat) (f : Sensor → Sensor) : (s.onSensor i f).link = s.link := rfl
@[simp] theorem State.onSensor_repro (s : State) (i : Nat) (f : Sensor → Sensor) : (s.onSensor i f).repro = s.repro := rfl
@[simp] theorem State.onSensor_pair (s : State) (i : Nat) (f : Sensor → Sensor) : (s.onSensor i f).pair = s.pair := rfl
@[simp] theorem State.onSensor_upd (s : State) (i : Nat) (f : Sensor → Sensor) : (s.onSensor i f).upd = s.upd := rfl
@[simp] theorem State.onSensor_free (s : State) (i : Nat) (f : Sensor → Sensor) : (s.onSensor i f).free = s.free := rfl
@[simp] theorem State.onSensor_pending (s : State) (i : Nat) (f : Sensor → Sensor) : (s.onSensor i f).pending = s.pending := rfl

/-! `onZone` -/

@[simp] theorem State.onZone_sup (s : State) (z : Nat) (f : LeakZone → LeakZone) : (s.onZone z f).sup = s.sup := rfl
@[simp] theorem State.onZone_clk (s : State) (z : Nat) (f : LeakZone → LeakZone) : (s.onZone z f).clk = s.clk := rfl
@[simp] theorem State.onZone_straps (s : State) (z : Nat) (f : LeakZone → LeakZone) : (s.onZone z f).straps = s.straps := rfl
@[simp] theorem State.onZone_pins (s : State) (z : Nat) (f : LeakZone → LeakZone) : (s.onZone z f).pins = s.pins := rfl
@[simp] theorem State.onZone_sec (s : State) (z : Nat) (f : LeakZone → LeakZone) : (s.onZone z f).sec = s.sec := rfl
@[simp] theorem State.onZone_cfg (s : State) (z : Nat) (f : LeakZone → LeakZone) : (s.onZone z f).cfg = s.cfg := rfl
@[simp] theorem State.onZone_ports (s : State) (z : Nat) (f : LeakZone → LeakZone) : (s.onZone z f).ports = s.ports := rfl
@[simp] theorem State.onZone_sems (s : State) (z : Nat) (f : LeakZone → LeakZone) : (s.onZone z f).sems = s.sems := rfl
@[simp] theorem State.onZone_log (s : State) (z : Nat) (f : LeakZone → LeakZone) : (s.onZone z f).log = s.log := rfl
@[simp] theorem State.onZone_trace (s : State) (z : Nat) (f : LeakZone → LeakZone) : (s.onZone z f).trace = s.trace := rfl
@[simp] theorem State.onZone_comps (s : State) (z : Nat) (f : LeakZone → LeakZone) : (s.onZone z f).comps = s.comps := rfl
@[simp] theorem State.onZone_procs (s : State) (z : Nat) (f : LeakZone → LeakZone) : (s.onZone z f).procs = s.procs := rfl
@[simp] theorem State.onZone_rec_ (s : State) (z : Nat) (f : LeakZone → LeakZone) : (s.onZone z f).rec_ = s.rec_ := rfl
@[simp] theorem State.onZone_feed (s : State) (z : Nat) (f : LeakZone → LeakZone) : (s.onZone z f).feed = s.feed := rfl
@[simp] theorem State.onZone_thyme (s : State) (z : Nat) (f : LeakZone → LeakZone) : (s.onZone z f).thyme = s.thyme := rfl
@[simp] theorem State.onZone_sage (s : State) (z : Nat) (f : LeakZone → LeakZone) : (s.onZone z f).sage = s.sage := rfl
@[simp] theorem State.onZone_op (s : State) (z : Nat) (f : LeakZone → LeakZone) : (s.onZone z f).op = s.op := rfl
@[simp] theorem State.onZone_phase (s : State) (z : Nat) (f : LeakZone → LeakZone) : (s.onZone z f).phase = s.phase := rfl
@[simp] theorem State.onZone_ledger (s : State) (z : Nat) (f : LeakZone → LeakZone) : (s.onZone z f).ledger = s.ledger := rfl
@[simp] theorem State.onZone_sync (s : State) (z : Nat) (f : LeakZone → LeakZone) : (s.onZone z f).sync = s.sync := rfl
@[simp] theorem State.onZone_link (s : State) (z : Nat) (f : LeakZone → LeakZone) : (s.onZone z f).link = s.link := rfl
@[simp] theorem State.onZone_repro (s : State) (z : Nat) (f : LeakZone → LeakZone) : (s.onZone z f).repro = s.repro := rfl
@[simp] theorem State.onZone_pair (s : State) (z : Nat) (f : LeakZone → LeakZone) : (s.onZone z f).pair = s.pair := rfl
@[simp] theorem State.onZone_upd (s : State) (z : Nat) (f : LeakZone → LeakZone) : (s.onZone z f).upd = s.upd := rfl
@[simp] theorem State.onZone_free (s : State) (z : Nat) (f : LeakZone → LeakZone) : (s.onZone z f).free = s.free := rfl
@[simp] theorem State.onZone_pending (s : State) (z : Nat) (f : LeakZone → LeakZone) : (s.onZone z f).pending = s.pending := rfl

/-! `onLedger` -/

@[simp] theorem State.onLedger_sup (s : State) (f : LedgerState → LedgerState) : (s.onLedger f).sup = s.sup := rfl
@[simp] theorem State.onLedger_clk (s : State) (f : LedgerState → LedgerState) : (s.onLedger f).clk = s.clk := rfl
@[simp] theorem State.onLedger_straps (s : State) (f : LedgerState → LedgerState) : (s.onLedger f).straps = s.straps := rfl
@[simp] theorem State.onLedger_pins (s : State) (f : LedgerState → LedgerState) : (s.onLedger f).pins = s.pins := rfl
@[simp] theorem State.onLedger_sec (s : State) (f : LedgerState → LedgerState) : (s.onLedger f).sec = s.sec := rfl
@[simp] theorem State.onLedger_cfg (s : State) (f : LedgerState → LedgerState) : (s.onLedger f).cfg = s.cfg := rfl
@[simp] theorem State.onLedger_ports (s : State) (f : LedgerState → LedgerState) : (s.onLedger f).ports = s.ports := rfl
@[simp] theorem State.onLedger_sems (s : State) (f : LedgerState → LedgerState) : (s.onLedger f).sems = s.sems := rfl
@[simp] theorem State.onLedger_log (s : State) (f : LedgerState → LedgerState) : (s.onLedger f).log = s.log := rfl
@[simp] theorem State.onLedger_trace (s : State) (f : LedgerState → LedgerState) : (s.onLedger f).trace = s.trace := rfl
@[simp] theorem State.onLedger_comps (s : State) (f : LedgerState → LedgerState) : (s.onLedger f).comps = s.comps := rfl
@[simp] theorem State.onLedger_procs (s : State) (f : LedgerState → LedgerState) : (s.onLedger f).procs = s.procs := rfl
@[simp] theorem State.onLedger_rec_ (s : State) (f : LedgerState → LedgerState) : (s.onLedger f).rec_ = s.rec_ := rfl
@[simp] theorem State.onLedger_feed (s : State) (f : LedgerState → LedgerState) : (s.onLedger f).feed = s.feed := rfl
@[simp] theorem State.onLedger_thyme (s : State) (f : LedgerState → LedgerState) : (s.onLedger f).thyme = s.thyme := rfl
@[simp] theorem State.onLedger_sage (s : State) (f : LedgerState → LedgerState) : (s.onLedger f).sage = s.sage := rfl
@[simp] theorem State.onLedger_op (s : State) (f : LedgerState → LedgerState) : (s.onLedger f).op = s.op := rfl
@[simp] theorem State.onLedger_phase (s : State) (f : LedgerState → LedgerState) : (s.onLedger f).phase = s.phase := rfl
@[simp] theorem State.onLedger_cool (s : State) (f : LedgerState → LedgerState) : (s.onLedger f).cool = s.cool := rfl
@[simp] theorem State.onLedger_sync (s : State) (f : LedgerState → LedgerState) : (s.onLedger f).sync = s.sync := rfl
@[simp] theorem State.onLedger_link (s : State) (f : LedgerState → LedgerState) : (s.onLedger f).link = s.link := rfl
@[simp] theorem State.onLedger_repro (s : State) (f : LedgerState → LedgerState) : (s.onLedger f).repro = s.repro := rfl
@[simp] theorem State.onLedger_pair (s : State) (f : LedgerState → LedgerState) : (s.onLedger f).pair = s.pair := rfl
@[simp] theorem State.onLedger_upd (s : State) (f : LedgerState → LedgerState) : (s.onLedger f).upd = s.upd := rfl
@[simp] theorem State.onLedger_free (s : State) (f : LedgerState → LedgerState) : (s.onLedger f).free = s.free := rfl
@[simp] theorem State.onLedger_pending (s : State) (f : LedgerState → LedgerState) : (s.onLedger f).pending = s.pending := rfl

/-! `onSync` -/

@[simp] theorem State.onSync_sup (s : State) (f : SyncState → SyncState) : (s.onSync f).sup = s.sup := rfl
@[simp] theorem State.onSync_clk (s : State) (f : SyncState → SyncState) : (s.onSync f).clk = s.clk := rfl
@[simp] theorem State.onSync_straps (s : State) (f : SyncState → SyncState) : (s.onSync f).straps = s.straps := rfl
@[simp] theorem State.onSync_pins (s : State) (f : SyncState → SyncState) : (s.onSync f).pins = s.pins := rfl
@[simp] theorem State.onSync_sec (s : State) (f : SyncState → SyncState) : (s.onSync f).sec = s.sec := rfl
@[simp] theorem State.onSync_cfg (s : State) (f : SyncState → SyncState) : (s.onSync f).cfg = s.cfg := rfl
@[simp] theorem State.onSync_ports (s : State) (f : SyncState → SyncState) : (s.onSync f).ports = s.ports := rfl
@[simp] theorem State.onSync_sems (s : State) (f : SyncState → SyncState) : (s.onSync f).sems = s.sems := rfl
@[simp] theorem State.onSync_log (s : State) (f : SyncState → SyncState) : (s.onSync f).log = s.log := rfl
@[simp] theorem State.onSync_trace (s : State) (f : SyncState → SyncState) : (s.onSync f).trace = s.trace := rfl
@[simp] theorem State.onSync_comps (s : State) (f : SyncState → SyncState) : (s.onSync f).comps = s.comps := rfl
@[simp] theorem State.onSync_procs (s : State) (f : SyncState → SyncState) : (s.onSync f).procs = s.procs := rfl
@[simp] theorem State.onSync_rec_ (s : State) (f : SyncState → SyncState) : (s.onSync f).rec_ = s.rec_ := rfl
@[simp] theorem State.onSync_feed (s : State) (f : SyncState → SyncState) : (s.onSync f).feed = s.feed := rfl
@[simp] theorem State.onSync_thyme (s : State) (f : SyncState → SyncState) : (s.onSync f).thyme = s.thyme := rfl
@[simp] theorem State.onSync_sage (s : State) (f : SyncState → SyncState) : (s.onSync f).sage = s.sage := rfl
@[simp] theorem State.onSync_op (s : State) (f : SyncState → SyncState) : (s.onSync f).op = s.op := rfl
@[simp] theorem State.onSync_phase (s : State) (f : SyncState → SyncState) : (s.onSync f).phase = s.phase := rfl
@[simp] theorem State.onSync_cool (s : State) (f : SyncState → SyncState) : (s.onSync f).cool = s.cool := rfl
@[simp] theorem State.onSync_ledger (s : State) (f : SyncState → SyncState) : (s.onSync f).ledger = s.ledger := rfl
@[simp] theorem State.onSync_link (s : State) (f : SyncState → SyncState) : (s.onSync f).link = s.link := rfl
@[simp] theorem State.onSync_repro (s : State) (f : SyncState → SyncState) : (s.onSync f).repro = s.repro := rfl
@[simp] theorem State.onSync_pair (s : State) (f : SyncState → SyncState) : (s.onSync f).pair = s.pair := rfl
@[simp] theorem State.onSync_upd (s : State) (f : SyncState → SyncState) : (s.onSync f).upd = s.upd := rfl
@[simp] theorem State.onSync_free (s : State) (f : SyncState → SyncState) : (s.onSync f).free = s.free := rfl
@[simp] theorem State.onSync_pending (s : State) (f : SyncState → SyncState) : (s.onSync f).pending = s.pending := rfl

/-! `onLink` -/

@[simp] theorem State.onLink_sup (s : State) (f : LinkState → LinkState) : (s.onLink f).sup = s.sup := rfl
@[simp] theorem State.onLink_clk (s : State) (f : LinkState → LinkState) : (s.onLink f).clk = s.clk := rfl
@[simp] theorem State.onLink_straps (s : State) (f : LinkState → LinkState) : (s.onLink f).straps = s.straps := rfl
@[simp] theorem State.onLink_pins (s : State) (f : LinkState → LinkState) : (s.onLink f).pins = s.pins := rfl
@[simp] theorem State.onLink_sec (s : State) (f : LinkState → LinkState) : (s.onLink f).sec = s.sec := rfl
@[simp] theorem State.onLink_cfg (s : State) (f : LinkState → LinkState) : (s.onLink f).cfg = s.cfg := rfl
@[simp] theorem State.onLink_ports (s : State) (f : LinkState → LinkState) : (s.onLink f).ports = s.ports := rfl
@[simp] theorem State.onLink_sems (s : State) (f : LinkState → LinkState) : (s.onLink f).sems = s.sems := rfl
@[simp] theorem State.onLink_log (s : State) (f : LinkState → LinkState) : (s.onLink f).log = s.log := rfl
@[simp] theorem State.onLink_trace (s : State) (f : LinkState → LinkState) : (s.onLink f).trace = s.trace := rfl
@[simp] theorem State.onLink_comps (s : State) (f : LinkState → LinkState) : (s.onLink f).comps = s.comps := rfl
@[simp] theorem State.onLink_procs (s : State) (f : LinkState → LinkState) : (s.onLink f).procs = s.procs := rfl
@[simp] theorem State.onLink_rec_ (s : State) (f : LinkState → LinkState) : (s.onLink f).rec_ = s.rec_ := rfl
@[simp] theorem State.onLink_feed (s : State) (f : LinkState → LinkState) : (s.onLink f).feed = s.feed := rfl
@[simp] theorem State.onLink_thyme (s : State) (f : LinkState → LinkState) : (s.onLink f).thyme = s.thyme := rfl
@[simp] theorem State.onLink_sage (s : State) (f : LinkState → LinkState) : (s.onLink f).sage = s.sage := rfl
@[simp] theorem State.onLink_op (s : State) (f : LinkState → LinkState) : (s.onLink f).op = s.op := rfl
@[simp] theorem State.onLink_phase (s : State) (f : LinkState → LinkState) : (s.onLink f).phase = s.phase := rfl
@[simp] theorem State.onLink_cool (s : State) (f : LinkState → LinkState) : (s.onLink f).cool = s.cool := rfl
@[simp] theorem State.onLink_ledger (s : State) (f : LinkState → LinkState) : (s.onLink f).ledger = s.ledger := rfl
@[simp] theorem State.onLink_sync (s : State) (f : LinkState → LinkState) : (s.onLink f).sync = s.sync := rfl
@[simp] theorem State.onLink_repro (s : State) (f : LinkState → LinkState) : (s.onLink f).repro = s.repro := rfl
@[simp] theorem State.onLink_pair (s : State) (f : LinkState → LinkState) : (s.onLink f).pair = s.pair := rfl
@[simp] theorem State.onLink_upd (s : State) (f : LinkState → LinkState) : (s.onLink f).upd = s.upd := rfl
@[simp] theorem State.onLink_free (s : State) (f : LinkState → LinkState) : (s.onLink f).free = s.free := rfl
@[simp] theorem State.onLink_pending (s : State) (f : LinkState → LinkState) : (s.onLink f).pending = s.pending := rfl

/-! `onRepro` -/

@[simp] theorem State.onRepro_sup (s : State) (f : ReproState → ReproState) : (s.onRepro f).sup = s.sup := rfl
@[simp] theorem State.onRepro_clk (s : State) (f : ReproState → ReproState) : (s.onRepro f).clk = s.clk := rfl
@[simp] theorem State.onRepro_straps (s : State) (f : ReproState → ReproState) : (s.onRepro f).straps = s.straps := rfl
@[simp] theorem State.onRepro_pins (s : State) (f : ReproState → ReproState) : (s.onRepro f).pins = s.pins := rfl
@[simp] theorem State.onRepro_sec (s : State) (f : ReproState → ReproState) : (s.onRepro f).sec = s.sec := rfl
@[simp] theorem State.onRepro_cfg (s : State) (f : ReproState → ReproState) : (s.onRepro f).cfg = s.cfg := rfl
@[simp] theorem State.onRepro_ports (s : State) (f : ReproState → ReproState) : (s.onRepro f).ports = s.ports := rfl
@[simp] theorem State.onRepro_sems (s : State) (f : ReproState → ReproState) : (s.onRepro f).sems = s.sems := rfl
@[simp] theorem State.onRepro_log (s : State) (f : ReproState → ReproState) : (s.onRepro f).log = s.log := rfl
@[simp] theorem State.onRepro_trace (s : State) (f : ReproState → ReproState) : (s.onRepro f).trace = s.trace := rfl
@[simp] theorem State.onRepro_comps (s : State) (f : ReproState → ReproState) : (s.onRepro f).comps = s.comps := rfl
@[simp] theorem State.onRepro_procs (s : State) (f : ReproState → ReproState) : (s.onRepro f).procs = s.procs := rfl
@[simp] theorem State.onRepro_rec_ (s : State) (f : ReproState → ReproState) : (s.onRepro f).rec_ = s.rec_ := rfl
@[simp] theorem State.onRepro_feed (s : State) (f : ReproState → ReproState) : (s.onRepro f).feed = s.feed := rfl
@[simp] theorem State.onRepro_thyme (s : State) (f : ReproState → ReproState) : (s.onRepro f).thyme = s.thyme := rfl
@[simp] theorem State.onRepro_sage (s : State) (f : ReproState → ReproState) : (s.onRepro f).sage = s.sage := rfl
@[simp] theorem State.onRepro_op (s : State) (f : ReproState → ReproState) : (s.onRepro f).op = s.op := rfl
@[simp] theorem State.onRepro_phase (s : State) (f : ReproState → ReproState) : (s.onRepro f).phase = s.phase := rfl
@[simp] theorem State.onRepro_cool (s : State) (f : ReproState → ReproState) : (s.onRepro f).cool = s.cool := rfl
@[simp] theorem State.onRepro_ledger (s : State) (f : ReproState → ReproState) : (s.onRepro f).ledger = s.ledger := rfl
@[simp] theorem State.onRepro_sync (s : State) (f : ReproState → ReproState) : (s.onRepro f).sync = s.sync := rfl
@[simp] theorem State.onRepro_link (s : State) (f : ReproState → ReproState) : (s.onRepro f).link = s.link := rfl
@[simp] theorem State.onRepro_pair (s : State) (f : ReproState → ReproState) : (s.onRepro f).pair = s.pair := rfl
@[simp] theorem State.onRepro_upd (s : State) (f : ReproState → ReproState) : (s.onRepro f).upd = s.upd := rfl
@[simp] theorem State.onRepro_free (s : State) (f : ReproState → ReproState) : (s.onRepro f).free = s.free := rfl
@[simp] theorem State.onRepro_pending (s : State) (f : ReproState → ReproState) : (s.onRepro f).pending = s.pending := rfl

/-! `onPair` -/

@[simp] theorem State.onPair_sup (s : State) (f : PairState → PairState) : (s.onPair f).sup = s.sup := rfl
@[simp] theorem State.onPair_clk (s : State) (f : PairState → PairState) : (s.onPair f).clk = s.clk := rfl
@[simp] theorem State.onPair_straps (s : State) (f : PairState → PairState) : (s.onPair f).straps = s.straps := rfl
@[simp] theorem State.onPair_pins (s : State) (f : PairState → PairState) : (s.onPair f).pins = s.pins := rfl
@[simp] theorem State.onPair_sec (s : State) (f : PairState → PairState) : (s.onPair f).sec = s.sec := rfl
@[simp] theorem State.onPair_cfg (s : State) (f : PairState → PairState) : (s.onPair f).cfg = s.cfg := rfl
@[simp] theorem State.onPair_ports (s : State) (f : PairState → PairState) : (s.onPair f).ports = s.ports := rfl
@[simp] theorem State.onPair_sems (s : State) (f : PairState → PairState) : (s.onPair f).sems = s.sems := rfl
@[simp] theorem State.onPair_log (s : State) (f : PairState → PairState) : (s.onPair f).log = s.log := rfl
@[simp] theorem State.onPair_trace (s : State) (f : PairState → PairState) : (s.onPair f).trace = s.trace := rfl
@[simp] theorem State.onPair_comps (s : State) (f : PairState → PairState) : (s.onPair f).comps = s.comps := rfl
@[simp] theorem State.onPair_procs (s : State) (f : PairState → PairState) : (s.onPair f).procs = s.procs := rfl
@[simp] theorem State.onPair_rec_ (s : State) (f : PairState → PairState) : (s.onPair f).rec_ = s.rec_ := rfl
@[simp] theorem State.onPair_feed (s : State) (f : PairState → PairState) : (s.onPair f).feed = s.feed := rfl
@[simp] theorem State.onPair_thyme (s : State) (f : PairState → PairState) : (s.onPair f).thyme = s.thyme := rfl
@[simp] theorem State.onPair_sage (s : State) (f : PairState → PairState) : (s.onPair f).sage = s.sage := rfl
@[simp] theorem State.onPair_op (s : State) (f : PairState → PairState) : (s.onPair f).op = s.op := rfl
@[simp] theorem State.onPair_phase (s : State) (f : PairState → PairState) : (s.onPair f).phase = s.phase := rfl
@[simp] theorem State.onPair_cool (s : State) (f : PairState → PairState) : (s.onPair f).cool = s.cool := rfl
@[simp] theorem State.onPair_ledger (s : State) (f : PairState → PairState) : (s.onPair f).ledger = s.ledger := rfl
@[simp] theorem State.onPair_sync (s : State) (f : PairState → PairState) : (s.onPair f).sync = s.sync := rfl
@[simp] theorem State.onPair_link (s : State) (f : PairState → PairState) : (s.onPair f).link = s.link := rfl
@[simp] theorem State.onPair_repro (s : State) (f : PairState → PairState) : (s.onPair f).repro = s.repro := rfl
@[simp] theorem State.onPair_upd (s : State) (f : PairState → PairState) : (s.onPair f).upd = s.upd := rfl
@[simp] theorem State.onPair_free (s : State) (f : PairState → PairState) : (s.onPair f).free = s.free := rfl
@[simp] theorem State.onPair_pending (s : State) (f : PairState → PairState) : (s.onPair f).pending = s.pending := rfl

/-! `onSec` -/

@[simp] theorem State.onSec_sup (s : State) (f : SecureState → SecureState) : (s.onSec f).sup = s.sup := rfl
@[simp] theorem State.onSec_clk (s : State) (f : SecureState → SecureState) : (s.onSec f).clk = s.clk := rfl
@[simp] theorem State.onSec_straps (s : State) (f : SecureState → SecureState) : (s.onSec f).straps = s.straps := rfl
@[simp] theorem State.onSec_pins (s : State) (f : SecureState → SecureState) : (s.onSec f).pins = s.pins := rfl
@[simp] theorem State.onSec_cfg (s : State) (f : SecureState → SecureState) : (s.onSec f).cfg = s.cfg := rfl
@[simp] theorem State.onSec_ports (s : State) (f : SecureState → SecureState) : (s.onSec f).ports = s.ports := rfl
@[simp] theorem State.onSec_sems (s : State) (f : SecureState → SecureState) : (s.onSec f).sems = s.sems := rfl
@[simp] theorem State.onSec_log (s : State) (f : SecureState → SecureState) : (s.onSec f).log = s.log := rfl
@[simp] theorem State.onSec_trace (s : State) (f : SecureState → SecureState) : (s.onSec f).trace = s.trace := rfl
@[simp] theorem State.onSec_comps (s : State) (f : SecureState → SecureState) : (s.onSec f).comps = s.comps := rfl
@[simp] theorem State.onSec_procs (s : State) (f : SecureState → SecureState) : (s.onSec f).procs = s.procs := rfl
@[simp] theorem State.onSec_rec_ (s : State) (f : SecureState → SecureState) : (s.onSec f).rec_ = s.rec_ := rfl
@[simp] theorem State.onSec_feed (s : State) (f : SecureState → SecureState) : (s.onSec f).feed = s.feed := rfl
@[simp] theorem State.onSec_thyme (s : State) (f : SecureState → SecureState) : (s.onSec f).thyme = s.thyme := rfl
@[simp] theorem State.onSec_sage (s : State) (f : SecureState → SecureState) : (s.onSec f).sage = s.sage := rfl
@[simp] theorem State.onSec_op (s : State) (f : SecureState → SecureState) : (s.onSec f).op = s.op := rfl
@[simp] theorem State.onSec_phase (s : State) (f : SecureState → SecureState) : (s.onSec f).phase = s.phase := rfl
@[simp] theorem State.onSec_cool (s : State) (f : SecureState → SecureState) : (s.onSec f).cool = s.cool := rfl
@[simp] theorem State.onSec_ledger (s : State) (f : SecureState → SecureState) : (s.onSec f).ledger = s.ledger := rfl
@[simp] theorem State.onSec_sync (s : State) (f : SecureState → SecureState) : (s.onSec f).sync = s.sync := rfl
@[simp] theorem State.onSec_link (s : State) (f : SecureState → SecureState) : (s.onSec f).link = s.link := rfl
@[simp] theorem State.onSec_repro (s : State) (f : SecureState → SecureState) : (s.onSec f).repro = s.repro := rfl
@[simp] theorem State.onSec_pair (s : State) (f : SecureState → SecureState) : (s.onSec f).pair = s.pair := rfl
@[simp] theorem State.onSec_upd (s : State) (f : SecureState → SecureState) : (s.onSec f).upd = s.upd := rfl
@[simp] theorem State.onSec_free (s : State) (f : SecureState → SecureState) : (s.onSec f).free = s.free := rfl
@[simp] theorem State.onSec_pending (s : State) (f : SecureState → SecureState) : (s.onSec f).pending = s.pending := rfl

/-! `onUpd` -/

@[simp] theorem State.onUpd_sup (s : State) (f : UpdateState → UpdateState) : (s.onUpd f).sup = s.sup := rfl
@[simp] theorem State.onUpd_clk (s : State) (f : UpdateState → UpdateState) : (s.onUpd f).clk = s.clk := rfl
@[simp] theorem State.onUpd_straps (s : State) (f : UpdateState → UpdateState) : (s.onUpd f).straps = s.straps := rfl
@[simp] theorem State.onUpd_pins (s : State) (f : UpdateState → UpdateState) : (s.onUpd f).pins = s.pins := rfl
@[simp] theorem State.onUpd_sec (s : State) (f : UpdateState → UpdateState) : (s.onUpd f).sec = s.sec := rfl
@[simp] theorem State.onUpd_cfg (s : State) (f : UpdateState → UpdateState) : (s.onUpd f).cfg = s.cfg := rfl
@[simp] theorem State.onUpd_ports (s : State) (f : UpdateState → UpdateState) : (s.onUpd f).ports = s.ports := rfl
@[simp] theorem State.onUpd_sems (s : State) (f : UpdateState → UpdateState) : (s.onUpd f).sems = s.sems := rfl
@[simp] theorem State.onUpd_log (s : State) (f : UpdateState → UpdateState) : (s.onUpd f).log = s.log := rfl
@[simp] theorem State.onUpd_trace (s : State) (f : UpdateState → UpdateState) : (s.onUpd f).trace = s.trace := rfl
@[simp] theorem State.onUpd_comps (s : State) (f : UpdateState → UpdateState) : (s.onUpd f).comps = s.comps := rfl
@[simp] theorem State.onUpd_procs (s : State) (f : UpdateState → UpdateState) : (s.onUpd f).procs = s.procs := rfl
@[simp] theorem State.onUpd_rec_ (s : State) (f : UpdateState → UpdateState) : (s.onUpd f).rec_ = s.rec_ := rfl
@[simp] theorem State.onUpd_feed (s : State) (f : UpdateState → UpdateState) : (s.onUpd f).feed = s.feed := rfl
@[simp] theorem State.onUpd_thyme (s : State) (f : UpdateState → UpdateState) : (s.onUpd f).thyme = s.thyme := rfl
@[simp] theorem State.onUpd_sage (s : State) (f : UpdateState → UpdateState) : (s.onUpd f).sage = s.sage := rfl
@[simp] theorem State.onUpd_op (s : State) (f : UpdateState → UpdateState) : (s.onUpd f).op = s.op := rfl
@[simp] theorem State.onUpd_phase (s : State) (f : UpdateState → UpdateState) : (s.onUpd f).phase = s.phase := rfl
@[simp] theorem State.onUpd_cool (s : State) (f : UpdateState → UpdateState) : (s.onUpd f).cool = s.cool := rfl
@[simp] theorem State.onUpd_ledger (s : State) (f : UpdateState → UpdateState) : (s.onUpd f).ledger = s.ledger := rfl
@[simp] theorem State.onUpd_sync (s : State) (f : UpdateState → UpdateState) : (s.onUpd f).sync = s.sync := rfl
@[simp] theorem State.onUpd_link (s : State) (f : UpdateState → UpdateState) : (s.onUpd f).link = s.link := rfl
@[simp] theorem State.onUpd_repro (s : State) (f : UpdateState → UpdateState) : (s.onUpd f).repro = s.repro := rfl
@[simp] theorem State.onUpd_pair (s : State) (f : UpdateState → UpdateState) : (s.onUpd f).pair = s.pair := rfl
@[simp] theorem State.onUpd_free (s : State) (f : UpdateState → UpdateState) : (s.onUpd f).free = s.free := rfl
@[simp] theorem State.onUpd_pending (s : State) (f : UpdateState → UpdateState) : (s.onUpd f).pending = s.pending := rfl

/-! `onClk` -/

@[simp] theorem State.onClk_sup (s : State) (f : ClockState → ClockState) : (s.onClk f).sup = s.sup := rfl
@[simp] theorem State.onClk_straps (s : State) (f : ClockState → ClockState) : (s.onClk f).straps = s.straps := rfl
@[simp] theorem State.onClk_pins (s : State) (f : ClockState → ClockState) : (s.onClk f).pins = s.pins := rfl
@[simp] theorem State.onClk_sec (s : State) (f : ClockState → ClockState) : (s.onClk f).sec = s.sec := rfl
@[simp] theorem State.onClk_cfg (s : State) (f : ClockState → ClockState) : (s.onClk f).cfg = s.cfg := rfl
@[simp] theorem State.onClk_ports (s : State) (f : ClockState → ClockState) : (s.onClk f).ports = s.ports := rfl
@[simp] theorem State.onClk_sems (s : State) (f : ClockState → ClockState) : (s.onClk f).sems = s.sems := rfl
@[simp] theorem State.onClk_log (s : State) (f : ClockState → ClockState) : (s.onClk f).log = s.log := rfl
@[simp] theorem State.onClk_trace (s : State) (f : ClockState → ClockState) : (s.onClk f).trace = s.trace := rfl
@[simp] theorem State.onClk_comps (s : State) (f : ClockState → ClockState) : (s.onClk f).comps = s.comps := rfl
@[simp] theorem State.onClk_procs (s : State) (f : ClockState → ClockState) : (s.onClk f).procs = s.procs := rfl
@[simp] theorem State.onClk_rec_ (s : State) (f : ClockState → ClockState) : (s.onClk f).rec_ = s.rec_ := rfl
@[simp] theorem State.onClk_feed (s : State) (f : ClockState → ClockState) : (s.onClk f).feed = s.feed := rfl
@[simp] theorem State.onClk_thyme (s : State) (f : ClockState → ClockState) : (s.onClk f).thyme = s.thyme := rfl
@[simp] theorem State.onClk_sage (s : State) (f : ClockState → ClockState) : (s.onClk f).sage = s.sage := rfl
@[simp] theorem State.onClk_op (s : State) (f : ClockState → ClockState) : (s.onClk f).op = s.op := rfl
@[simp] theorem State.onClk_phase (s : State) (f : ClockState → ClockState) : (s.onClk f).phase = s.phase := rfl
@[simp] theorem State.onClk_cool (s : State) (f : ClockState → ClockState) : (s.onClk f).cool = s.cool := rfl
@[simp] theorem State.onClk_ledger (s : State) (f : ClockState → ClockState) : (s.onClk f).ledger = s.ledger := rfl
@[simp] theorem State.onClk_sync (s : State) (f : ClockState → ClockState) : (s.onClk f).sync = s.sync := rfl
@[simp] theorem State.onClk_link (s : State) (f : ClockState → ClockState) : (s.onClk f).link = s.link := rfl
@[simp] theorem State.onClk_repro (s : State) (f : ClockState → ClockState) : (s.onClk f).repro = s.repro := rfl
@[simp] theorem State.onClk_pair (s : State) (f : ClockState → ClockState) : (s.onClk f).pair = s.pair := rfl
@[simp] theorem State.onClk_upd (s : State) (f : ClockState → ClockState) : (s.onClk f).upd = s.upd := rfl
@[simp] theorem State.onClk_free (s : State) (f : ClockState → ClockState) : (s.onClk f).free = s.free := rfl
@[simp] theorem State.onClk_pending (s : State) (f : ClockState → ClockState) : (s.onClk f).pending = s.pending := rfl

/-! `onComp` -/

@[simp] theorem State.onComp_sup (s : State) (k : Nat) (f : Component → Component) : (s.onComp k f).sup = s.sup := rfl
@[simp] theorem State.onComp_clk (s : State) (k : Nat) (f : Component → Component) : (s.onComp k f).clk = s.clk := rfl
@[simp] theorem State.onComp_straps (s : State) (k : Nat) (f : Component → Component) : (s.onComp k f).straps = s.straps := rfl
@[simp] theorem State.onComp_pins (s : State) (k : Nat) (f : Component → Component) : (s.onComp k f).pins = s.pins := rfl
@[simp] theorem State.onComp_sec (s : State) (k : Nat) (f : Component → Component) : (s.onComp k f).sec = s.sec := rfl
@[simp] theorem State.onComp_cfg (s : State) (k : Nat) (f : Component → Component) : (s.onComp k f).cfg = s.cfg := rfl
@[simp] theorem State.onComp_ports (s : State) (k : Nat) (f : Component → Component) : (s.onComp k f).ports = s.ports := rfl
@[simp] theorem State.onComp_sems (s : State) (k : Nat) (f : Component → Component) : (s.onComp k f).sems = s.sems := rfl
@[simp] theorem State.onComp_log (s : State) (k : Nat) (f : Component → Component) : (s.onComp k f).log = s.log := rfl
@[simp] theorem State.onComp_trace (s : State) (k : Nat) (f : Component → Component) : (s.onComp k f).trace = s.trace := rfl
@[simp] theorem State.onComp_procs (s : State) (k : Nat) (f : Component → Component) : (s.onComp k f).procs = s.procs := rfl
@[simp] theorem State.onComp_rec_ (s : State) (k : Nat) (f : Component → Component) : (s.onComp k f).rec_ = s.rec_ := rfl
@[simp] theorem State.onComp_feed (s : State) (k : Nat) (f : Component → Component) : (s.onComp k f).feed = s.feed := rfl
@[simp] theorem State.onComp_thyme (s : State) (k : Nat) (f : Component → Component) : (s.onComp k f).thyme = s.thyme := rfl
@[simp] theorem State.onComp_sage (s : State) (k : Nat) (f : Component → Component) : (s.onComp k f).sage = s.sage := rfl
@[simp] theorem State.onComp_op (s : State) (k : Nat) (f : Component → Component) : (s.onComp k f).op = s.op := rfl
@[simp] theorem State.onComp_phase (s : State) (k : Nat) (f : Component → Component) : (s.onComp k f).phase = s.phase := rfl
@[simp] theorem State.onComp_cool (s : State) (k : Nat) (f : Component → Component) : (s.onComp k f).cool = s.cool := rfl
@[simp] theorem State.onComp_ledger (s : State) (k : Nat) (f : Component → Component) : (s.onComp k f).ledger = s.ledger := rfl
@[simp] theorem State.onComp_sync (s : State) (k : Nat) (f : Component → Component) : (s.onComp k f).sync = s.sync := rfl
@[simp] theorem State.onComp_link (s : State) (k : Nat) (f : Component → Component) : (s.onComp k f).link = s.link := rfl
@[simp] theorem State.onComp_repro (s : State) (k : Nat) (f : Component → Component) : (s.onComp k f).repro = s.repro := rfl
@[simp] theorem State.onComp_pair (s : State) (k : Nat) (f : Component → Component) : (s.onComp k f).pair = s.pair := rfl
@[simp] theorem State.onComp_upd (s : State) (k : Nat) (f : Component → Component) : (s.onComp k f).upd = s.upd := rfl
@[simp] theorem State.onComp_free (s : State) (k : Nat) (f : Component → Component) : (s.onComp k f).free = s.free := rfl
@[simp] theorem State.onComp_pending (s : State) (k : Nat) (f : Component → Component) : (s.onComp k f).pending = s.pending := rfl

/-! `onProc` -/

@[simp] theorem State.onProc_sup (s : State) (p : Nat) (f : Processor → Processor) : (s.onProc p f).sup = s.sup := rfl
@[simp] theorem State.onProc_clk (s : State) (p : Nat) (f : Processor → Processor) : (s.onProc p f).clk = s.clk := rfl
@[simp] theorem State.onProc_straps (s : State) (p : Nat) (f : Processor → Processor) : (s.onProc p f).straps = s.straps := rfl
@[simp] theorem State.onProc_pins (s : State) (p : Nat) (f : Processor → Processor) : (s.onProc p f).pins = s.pins := rfl
@[simp] theorem State.onProc_sec (s : State) (p : Nat) (f : Processor → Processor) : (s.onProc p f).sec = s.sec := rfl
@[simp] theorem State.onProc_cfg (s : State) (p : Nat) (f : Processor → Processor) : (s.onProc p f).cfg = s.cfg := rfl
@[simp] theorem State.onProc_ports (s : State) (p : Nat) (f : Processor → Processor) : (s.onProc p f).ports = s.ports := rfl
@[simp] theorem State.onProc_sems (s : State) (p : Nat) (f : Processor → Processor) : (s.onProc p f).sems = s.sems := rfl
@[simp] theorem State.onProc_log (s : State) (p : Nat) (f : Processor → Processor) : (s.onProc p f).log = s.log := rfl
@[simp] theorem State.onProc_trace (s : State) (p : Nat) (f : Processor → Processor) : (s.onProc p f).trace = s.trace := rfl
@[simp] theorem State.onProc_comps (s : State) (p : Nat) (f : Processor → Processor) : (s.onProc p f).comps = s.comps := rfl
@[simp] theorem State.onProc_rec_ (s : State) (p : Nat) (f : Processor → Processor) : (s.onProc p f).rec_ = s.rec_ := rfl
@[simp] theorem State.onProc_feed (s : State) (p : Nat) (f : Processor → Processor) : (s.onProc p f).feed = s.feed := rfl
@[simp] theorem State.onProc_thyme (s : State) (p : Nat) (f : Processor → Processor) : (s.onProc p f).thyme = s.thyme := rfl
@[simp] theorem State.onProc_sage (s : State) (p : Nat) (f : Processor → Processor) : (s.onProc p f).sage = s.sage := rfl
@[simp] theorem State.onProc_op (s : State) (p : Nat) (f : Processor → Processor) : (s.onProc p f).op = s.op := rfl
@[simp] theorem State.onProc_phase (s : State) (p : Nat) (f : Processor → Processor) : (s.onProc p f).phase = s.phase := rfl
@[simp] theorem State.onProc_cool (s : State) (p : Nat) (f : Processor → Processor) : (s.onProc p f).cool = s.cool := rfl
@[simp] theorem State.onProc_ledger (s : State) (p : Nat) (f : Processor → Processor) : (s.onProc p f).ledger = s.ledger := rfl
@[simp] theorem State.onProc_sync (s : State) (p : Nat) (f : Processor → Processor) : (s.onProc p f).sync = s.sync := rfl
@[simp] theorem State.onProc_link (s : State) (p : Nat) (f : Processor → Processor) : (s.onProc p f).link = s.link := rfl
@[simp] theorem State.onProc_repro (s : State) (p : Nat) (f : Processor → Processor) : (s.onProc p f).repro = s.repro := rfl
@[simp] theorem State.onProc_pair (s : State) (p : Nat) (f : Processor → Processor) : (s.onProc p f).pair = s.pair := rfl
@[simp] theorem State.onProc_upd (s : State) (p : Nat) (f : Processor → Processor) : (s.onProc p f).upd = s.upd := rfl
@[simp] theorem State.onProc_free (s : State) (p : Nat) (f : Processor → Processor) : (s.onProc p f).free = s.free := rfl
@[simp] theorem State.onProc_pending (s : State) (p : Nat) (f : Processor → Processor) : (s.onProc p f).pending = s.pending := rfl

/-! `mirOut` -/

@[simp] theorem State.mirOut_sup (s : State) (m : MirOut) : (s.mirOut m).sup = s.sup := rfl
@[simp] theorem State.mirOut_clk (s : State) (m : MirOut) : (s.mirOut m).clk = s.clk := rfl
@[simp] theorem State.mirOut_straps (s : State) (m : MirOut) : (s.mirOut m).straps = s.straps := rfl
@[simp] theorem State.mirOut_pins (s : State) (m : MirOut) : (s.mirOut m).pins = s.pins := rfl
@[simp] theorem State.mirOut_sec (s : State) (m : MirOut) : (s.mirOut m).sec = s.sec := rfl
@[simp] theorem State.mirOut_cfg (s : State) (m : MirOut) : (s.mirOut m).cfg = s.cfg := rfl
@[simp] theorem State.mirOut_ports (s : State) (m : MirOut) : (s.mirOut m).ports = s.ports := rfl
@[simp] theorem State.mirOut_sems (s : State) (m : MirOut) : (s.mirOut m).sems = s.sems := rfl
@[simp] theorem State.mirOut_log (s : State) (m : MirOut) : (s.mirOut m).log = s.log := rfl
@[simp] theorem State.mirOut_trace (s : State) (m : MirOut) : (s.mirOut m).trace = s.trace := rfl
@[simp] theorem State.mirOut_comps (s : State) (m : MirOut) : (s.mirOut m).comps = s.comps := rfl
@[simp] theorem State.mirOut_procs (s : State) (m : MirOut) : (s.mirOut m).procs = s.procs := rfl
@[simp] theorem State.mirOut_rec_ (s : State) (m : MirOut) : (s.mirOut m).rec_ = s.rec_ := rfl
@[simp] theorem State.mirOut_feed (s : State) (m : MirOut) : (s.mirOut m).feed = s.feed := rfl
@[simp] theorem State.mirOut_thyme (s : State) (m : MirOut) : (s.mirOut m).thyme = s.thyme := rfl
@[simp] theorem State.mirOut_sage (s : State) (m : MirOut) : (s.mirOut m).sage = s.sage := rfl
@[simp] theorem State.mirOut_op (s : State) (m : MirOut) : (s.mirOut m).op = s.op := rfl
@[simp] theorem State.mirOut_phase (s : State) (m : MirOut) : (s.mirOut m).phase = s.phase := rfl
@[simp] theorem State.mirOut_cool (s : State) (m : MirOut) : (s.mirOut m).cool = s.cool := rfl
@[simp] theorem State.mirOut_ledger (s : State) (m : MirOut) : (s.mirOut m).ledger = s.ledger := rfl
@[simp] theorem State.mirOut_sync (s : State) (m : MirOut) : (s.mirOut m).sync = s.sync := rfl
@[simp] theorem State.mirOut_link (s : State) (m : MirOut) : (s.mirOut m).link = s.link := rfl
@[simp] theorem State.mirOut_repro (s : State) (m : MirOut) : (s.mirOut m).repro = s.repro := rfl
@[simp] theorem State.mirOut_upd (s : State) (m : MirOut) : (s.mirOut m).upd = s.upd := rfl
@[simp] theorem State.mirOut_free (s : State) (m : MirOut) : (s.mirOut m).free = s.free := rfl
@[simp] theorem State.mirOut_pending (s : State) (m : MirOut) : (s.mirOut m).pending = s.pending := rfl

/-! `discard` -/

@[simp] theorem State.discard_sup (s : State) (p : Nat) : (s.discard p).sup = s.sup := rfl
@[simp] theorem State.discard_clk (s : State) (p : Nat) : (s.discard p).clk = s.clk := rfl
@[simp] theorem State.discard_straps (s : State) (p : Nat) : (s.discard p).straps = s.straps := rfl
@[simp] theorem State.discard_pins (s : State) (p : Nat) : (s.discard p).pins = s.pins := rfl
@[simp] theorem State.discard_sec (s : State) (p : Nat) : (s.discard p).sec = s.sec := rfl
@[simp] theorem State.discard_cfg (s : State) (p : Nat) : (s.discard p).cfg = s.cfg := rfl
@[simp] theorem State.discard_sems (s : State) (p : Nat) : (s.discard p).sems = s.sems := rfl
@[simp] theorem State.discard_log (s : State) (p : Nat) : (s.discard p).log = s.log := rfl
@[simp] theorem State.discard_trace (s : State) (p : Nat) : (s.discard p).trace = s.trace := rfl
@[simp] theorem State.discard_comps (s : State) (p : Nat) : (s.discard p).comps = s.comps := rfl
@[simp] theorem State.discard_procs (s : State) (p : Nat) : (s.discard p).procs = s.procs := rfl
@[simp] theorem State.discard_rec_ (s : State) (p : Nat) : (s.discard p).rec_ = s.rec_ := rfl
@[simp] theorem State.discard_feed (s : State) (p : Nat) : (s.discard p).feed = s.feed := rfl
@[simp] theorem State.discard_thyme (s : State) (p : Nat) : (s.discard p).thyme = s.thyme := rfl
@[simp] theorem State.discard_sage (s : State) (p : Nat) : (s.discard p).sage = s.sage := rfl
@[simp] theorem State.discard_op (s : State) (p : Nat) : (s.discard p).op = s.op := rfl
@[simp] theorem State.discard_phase (s : State) (p : Nat) : (s.discard p).phase = s.phase := rfl
@[simp] theorem State.discard_cool (s : State) (p : Nat) : (s.discard p).cool = s.cool := rfl
@[simp] theorem State.discard_ledger (s : State) (p : Nat) : (s.discard p).ledger = s.ledger := rfl
@[simp] theorem State.discard_sync (s : State) (p : Nat) : (s.discard p).sync = s.sync := rfl
@[simp] theorem State.discard_link (s : State) (p : Nat) : (s.discard p).link = s.link := rfl
@[simp] theorem State.discard_repro (s : State) (p : Nat) : (s.discard p).repro = s.repro := rfl
@[simp] theorem State.discard_pair (s : State) (p : Nat) : (s.discard p).pair = s.pair := rfl
@[simp] theorem State.discard_upd (s : State) (p : Nat) : (s.discard p).upd = s.upd := rfl
@[simp] theorem State.discard_free (s : State) (p : Nat) : (s.discard p).free = s.free := rfl
@[simp] theorem State.discard_pending (s : State) (p : Nat) : (s.discard p).pending = s.pending := rfl

/-! `onSkv` -/

@[simp] theorem State.onSkv_sup (s : State) (n : Nat) (f : SkvPort → SkvPort) : (s.onSkv n f).sup = s.sup := by
  unfold State.onSkv
  split <;> rfl
@[simp] theorem State.onSkv_clk (s : State) (n : Nat) (f : SkvPort → SkvPort) : (s.onSkv n f).clk = s.clk := by
  unfold State.onSkv
  split <;> rfl
@[simp] theorem State.onSkv_straps (s : State) (n : Nat) (f : SkvPort → SkvPort) : (s.onSkv n f).straps = s.straps := by
  unfold State.onSkv
  split <;> rfl
@[simp] theorem State.onSkv_pins (s : State) (n : Nat) (f : SkvPort → SkvPort) : (s.onSkv n f).pins = s.pins := by
  unfold State.onSkv
  split <;> rfl
@[simp] theorem State.onSkv_sec (s : State) (n : Nat) (f : SkvPort → SkvPort) : (s.onSkv n f).sec = s.sec := by
  unfold State.onSkv
  split <;> rfl
@[simp] theorem State.onSkv_cfg (s : State) (n : Nat) (f : SkvPort → SkvPort) : (s.onSkv n f).cfg = s.cfg := by
  unfold State.onSkv
  split <;> rfl
@[simp] theorem State.onSkv_ports (s : State) (n : Nat) (f : SkvPort → SkvPort) : (s.onSkv n f).ports = s.ports := by
  unfold State.onSkv
  split <;> rfl
@[simp] theorem State.onSkv_sems (s : State) (n : Nat) (f : SkvPort → SkvPort) : (s.onSkv n f).sems = s.sems := by
  unfold State.onSkv
  split <;> rfl
@[simp] theorem State.onSkv_log (s : State) (n : Nat) (f : SkvPort → SkvPort) : (s.onSkv n f).log = s.log := by
  unfold State.onSkv
  split <;> rfl
@[simp] theorem State.onSkv_trace (s : State) (n : Nat) (f : SkvPort → SkvPort) : (s.onSkv n f).trace = s.trace := by
  unfold State.onSkv
  split <;> rfl
@[simp] theorem State.onSkv_comps (s : State) (n : Nat) (f : SkvPort → SkvPort) : (s.onSkv n f).comps = s.comps := by
  unfold State.onSkv
  split <;> rfl
@[simp] theorem State.onSkv_procs (s : State) (n : Nat) (f : SkvPort → SkvPort) : (s.onSkv n f).procs = s.procs := by
  unfold State.onSkv
  split <;> rfl
@[simp] theorem State.onSkv_rec_ (s : State) (n : Nat) (f : SkvPort → SkvPort) : (s.onSkv n f).rec_ = s.rec_ := by
  unfold State.onSkv
  split <;> rfl
@[simp] theorem State.onSkv_feed (s : State) (n : Nat) (f : SkvPort → SkvPort) : (s.onSkv n f).feed = s.feed := by
  unfold State.onSkv
  split <;> rfl
@[simp] theorem State.onSkv_thyme (s : State) (n : Nat) (f : SkvPort → SkvPort) : (s.onSkv n f).thyme = s.thyme := by
  unfold State.onSkv
  split <;> rfl
@[simp] theorem State.onSkv_sage (s : State) (n : Nat) (f : SkvPort → SkvPort) : (s.onSkv n f).sage = s.sage := by
  unfold State.onSkv
  split <;> rfl
@[simp] theorem State.onSkv_op (s : State) (n : Nat) (f : SkvPort → SkvPort) : (s.onSkv n f).op = s.op := by
  unfold State.onSkv
  split <;> rfl
@[simp] theorem State.onSkv_phase (s : State) (n : Nat) (f : SkvPort → SkvPort) : (s.onSkv n f).phase = s.phase := by
  unfold State.onSkv
  split <;> rfl
@[simp] theorem State.onSkv_cool (s : State) (n : Nat) (f : SkvPort → SkvPort) : (s.onSkv n f).cool = s.cool := by
  unfold State.onSkv
  split <;> rfl
@[simp] theorem State.onSkv_ledger (s : State) (n : Nat) (f : SkvPort → SkvPort) : (s.onSkv n f).ledger = s.ledger := by
  unfold State.onSkv
  split <;> rfl
@[simp] theorem State.onSkv_sync (s : State) (n : Nat) (f : SkvPort → SkvPort) : (s.onSkv n f).sync = s.sync := by
  unfold State.onSkv
  split <;> rfl
@[simp] theorem State.onSkv_repro (s : State) (n : Nat) (f : SkvPort → SkvPort) : (s.onSkv n f).repro = s.repro := by
  unfold State.onSkv
  split <;> rfl
@[simp] theorem State.onSkv_upd (s : State) (n : Nat) (f : SkvPort → SkvPort) : (s.onSkv n f).upd = s.upd := by
  unfold State.onSkv
  split <;> rfl
@[simp] theorem State.onSkv_free (s : State) (n : Nat) (f : SkvPort → SkvPort) : (s.onSkv n f).free = s.free := by
  unfold State.onSkv
  split <;> rfl
@[simp] theorem State.onSkv_pending (s : State) (n : Nat) (f : SkvPort → SkvPort) : (s.onSkv n f).pending = s.pending := by
  unfold State.onSkv
  split <;> rfl

/-! `logWrite` -/

@[simp] theorem State.logWrite_sup (s : State) (comp level msg : Nat) (args : List Nat) : (s.logWrite comp level msg args).sup = s.sup := by
  unfold State.logWrite
  split <;> rfl
@[simp] theorem State.logWrite_clk (s : State) (comp level msg : Nat) (args : List Nat) : (s.logWrite comp level msg args).clk = s.clk := by
  unfold State.logWrite
  split <;> rfl
@[simp] theorem State.logWrite_straps (s : State) (comp level msg : Nat) (args : List Nat) : (s.logWrite comp level msg args).straps = s.straps := by
  unfold State.logWrite
  split <;> rfl
@[simp] theorem State.logWrite_pins (s : State) (comp level msg : Nat) (args : List Nat) : (s.logWrite comp level msg args).pins = s.pins := by
  unfold State.logWrite
  split <;> rfl
@[simp] theorem State.logWrite_sec (s : State) (comp level msg : Nat) (args : List Nat) : (s.logWrite comp level msg args).sec = s.sec := by
  unfold State.logWrite
  split <;> rfl
@[simp] theorem State.logWrite_cfg (s : State) (comp level msg : Nat) (args : List Nat) : (s.logWrite comp level msg args).cfg = s.cfg := by
  unfold State.logWrite
  split <;> rfl
@[simp] theorem State.logWrite_ports (s : State) (comp level msg : Nat) (args : List Nat) : (s.logWrite comp level msg args).ports = s.ports := by
  unfold State.logWrite
  split <;> rfl
@[simp] theorem State.logWrite_sems (s : State) (comp level msg : Nat) (args : List Nat) : (s.logWrite comp level msg args).sems = s.sems := by
  unfold State.logWrite
  split <;> rfl
@[simp] theorem State.logWrite_trace (s : State) (comp level msg : Nat) (args : List Nat) : (s.logWrite comp level msg args).trace = s.trace := by
  unfold State.logWrite
  split <;> rfl
@[simp] theorem State.logWrite_comps (s : State) (comp level msg : Nat) (args : List Nat) : (s.logWrite comp level msg args).comps = s.comps := by
  unfold State.logWrite
  split <;> rfl
@[simp] theorem State.logWrite_procs (s : State) (comp level msg : Nat) (args : List Nat) : (s.logWrite comp level msg args).procs = s.procs := by
  unfold State.logWrite
  split <;> rfl
@[simp] theorem State.logWrite_rec_ (s : State) (comp level msg : Nat) (args : List Nat) : (s.logWrite comp level msg args).rec_ = s.rec_ := by
  unfold State.logWrite
  split <;> rfl
@[simp] theorem State.logWrite_feed (s : State) (comp level msg : Nat) (args : List Nat) : (s.logWrite comp level msg args).feed = s.feed := by
  unfold State.logWrite
  split <;> rfl
@[simp] theorem State.logWrite_thyme (s : State) (comp level msg : Nat) (args : List Nat) : (s.logWrite comp level msg args).thyme = s.thyme := by
  unfold State.logWrite
  split <;> rfl
@[simp] theorem State.logWrite_sage (s : State) (comp level msg : Nat) (args : List Nat) : (s.logWrite comp level msg args).sage = s.sage := by
  unfold State.logWrite
  split <;> rfl
@[simp] theorem State.logWrite_op (s : State) (comp level msg : Nat) (args : List Nat) : (s.logWrite comp level msg args).op = s.op := by
  unfold State.logWrite
  split <;> rfl
@[simp] theorem State.logWrite_phase (s : State) (comp level msg : Nat) (args : List Nat) : (s.logWrite comp level msg args).phase = s.phase := by
  unfold State.logWrite
  split <;> rfl
@[simp] theorem State.logWrite_cool (s : State) (comp level msg : Nat) (args : List Nat) : (s.logWrite comp level msg args).cool = s.cool := by
  unfold State.logWrite
  split <;> rfl
@[simp] theorem State.logWrite_ledger (s : State) (comp level msg : Nat) (args : List Nat) : (s.logWrite comp level msg args).ledger = s.ledger := by
  unfold State.logWrite
  split <;> rfl
@[simp] theorem State.logWrite_sync (s : State) (comp level msg : Nat) (args : List Nat) : (s.logWrite comp level msg args).sync = s.sync := by
  unfold State.logWrite
  split <;> rfl
@[simp] theorem State.logWrite_link (s : State) (comp level msg : Nat) (args : List Nat) : (s.logWrite comp level msg args).link = s.link := by
  unfold State.logWrite
  split <;> rfl
@[simp] theorem State.logWrite_repro (s : State) (comp level msg : Nat) (args : List Nat) : (s.logWrite comp level msg args).repro = s.repro := by
  unfold State.logWrite
  split <;> rfl
@[simp] theorem State.logWrite_pair (s : State) (comp level msg : Nat) (args : List Nat) : (s.logWrite comp level msg args).pair = s.pair := by
  unfold State.logWrite
  split <;> rfl
@[simp] theorem State.logWrite_upd (s : State) (comp level msg : Nat) (args : List Nat) : (s.logWrite comp level msg args).upd = s.upd := by
  unfold State.logWrite
  split <;> rfl
@[simp] theorem State.logWrite_free (s : State) (comp level msg : Nat) (args : List Nat) : (s.logWrite comp level msg args).free = s.free := by
  unfold State.logWrite
  split <;> rfl
@[simp] theorem State.logWrite_pending (s : State) (comp level msg : Nat) (args : List Nat) : (s.logWrite comp level msg args).pending = s.pending := by
  unfold State.logWrite
  split <;> rfl

/-! `sendRecordOf` -/

@[simp] theorem State.sendRecordOf_sup (s : State) (kind : MirKind) (item : Nat) : (s.sendRecordOf kind item).sup = s.sup := by
  unfold State.sendRecordOf
  split <;> rfl
@[simp] theorem State.sendRecordOf_clk (s : State) (kind : MirKind) (item : Nat) : (s.sendRecordOf kind item).clk = s.clk := by
  unfold State.sendRecordOf
  split <;> rfl
@[simp] theorem State.sendRecordOf_straps (s : State) (kind : MirKind) (item : Nat) : (s.sendRecordOf kind item).straps = s.straps := by
  unfold State.sendRecordOf
  split <;> rfl
@[simp] theorem State.sendRecordOf_pins (s : State) (kind : MirKind) (item : Nat) : (s.sendRecordOf kind item).pins = s.pins := by
  unfold State.sendRecordOf
  split <;> rfl
@[simp] theorem State.sendRecordOf_sec (s : State) (kind : MirKind) (item : Nat) : (s.sendRecordOf kind item).sec = s.sec := by
  unfold State.sendRecordOf
  split <;> rfl
@[simp] theorem State.sendRecordOf_cfg (s : State) (kind : MirKind) (item : Nat) : (s.sendRecordOf kind item).cfg = s.cfg := by
  unfold State.sendRecordOf
  split <;> rfl
@[simp] theorem State.sendRecordOf_ports (s : State) (kind : MirKind) (item : Nat) : (s.sendRecordOf kind item).ports = s.ports := by
  unfold State.sendRecordOf
  split <;> rfl
@[simp] theorem State.sendRecordOf_sems (s : State) (kind : MirKind) (item : Nat) : (s.sendRecordOf kind item).sems = s.sems := by
  unfold State.sendRecordOf
  split <;> rfl
@[simp] theorem State.sendRecordOf_log (s : State) (kind : MirKind) (item : Nat) : (s.sendRecordOf kind item).log = s.log := by
  unfold State.sendRecordOf
  split <;> rfl
@[simp] theorem State.sendRecordOf_trace (s : State) (kind : MirKind) (item : Nat) : (s.sendRecordOf kind item).trace = s.trace := by
  unfold State.sendRecordOf
  split <;> rfl
@[simp] theorem State.sendRecordOf_comps (s : State) (kind : MirKind) (item : Nat) : (s.sendRecordOf kind item).comps = s.comps := by
  unfold State.sendRecordOf
  split <;> rfl
@[simp] theorem State.sendRecordOf_procs (s : State) (kind : MirKind) (item : Nat) : (s.sendRecordOf kind item).procs = s.procs := by
  unfold State.sendRecordOf
  split <;> rfl
@[simp] theorem State.sendRecordOf_rec_ (s : State) (kind : MirKind) (item : Nat) : (s.sendRecordOf kind item).rec_ = s.rec_ := by
  unfold State.sendRecordOf
  split <;> rfl
@[simp] theorem State.sendRecordOf_feed (s : State) (kind : MirKind) (item : Nat) : (s.sendRecordOf kind item).feed = s.feed := by
  unfold State.sendRecordOf
  split <;> rfl
@[simp] theorem State.sendRecordOf_thyme (s : State) (kind : MirKind) (item : Nat) : (s.sendRecordOf kind item).thyme = s.thyme := by
  unfold State.sendRecordOf
  split <;> rfl
@[simp] theorem State.sendRecordOf_sage (s : State) (kind : MirKind) (item : Nat) : (s.sendRecordOf kind item).sage = s.sage := by
  unfold State.sendRecordOf
  split <;> rfl
@[simp] theorem State.sendRecordOf_op (s : State) (kind : MirKind) (item : Nat) : (s.sendRecordOf kind item).op = s.op := by
  unfold State.sendRecordOf
  split <;> rfl
@[simp] theorem State.sendRecordOf_phase (s : State) (kind : MirKind) (item : Nat) : (s.sendRecordOf kind item).phase = s.phase := by
  unfold State.sendRecordOf
  split <;> rfl
@[simp] theorem State.sendRecordOf_cool (s : State) (kind : MirKind) (item : Nat) : (s.sendRecordOf kind item).cool = s.cool := by
  unfold State.sendRecordOf
  split <;> rfl
@[simp] theorem State.sendRecordOf_ledger (s : State) (kind : MirKind) (item : Nat) : (s.sendRecordOf kind item).ledger = s.ledger := by
  unfold State.sendRecordOf
  split <;> rfl
@[simp] theorem State.sendRecordOf_sync (s : State) (kind : MirKind) (item : Nat) : (s.sendRecordOf kind item).sync = s.sync := by
  unfold State.sendRecordOf
  split <;> rfl
@[simp] theorem State.sendRecordOf_link (s : State) (kind : MirKind) (item : Nat) : (s.sendRecordOf kind item).link = s.link := by
  unfold State.sendRecordOf
  split <;> rfl
@[simp] theorem State.sendRecordOf_repro (s : State) (kind : MirKind) (item : Nat) : (s.sendRecordOf kind item).repro = s.repro := by
  unfold State.sendRecordOf
  split <;> rfl
@[simp] theorem State.sendRecordOf_upd (s : State) (kind : MirKind) (item : Nat) : (s.sendRecordOf kind item).upd = s.upd := by
  unfold State.sendRecordOf
  split <;> rfl
@[simp] theorem State.sendRecordOf_free (s : State) (kind : MirKind) (item : Nat) : (s.sendRecordOf kind item).free = s.free := by
  unfold State.sendRecordOf
  split <;> rfl
@[simp] theorem State.sendRecordOf_pending (s : State) (kind : MirKind) (item : Nat) : (s.sendRecordOf kind item).pending = s.pending := by
  unfold State.sendRecordOf
  split <;> rfl

/-! `stream`, `traced`, `mirrored`: all that each can change -/

theorem State.sendFrame_only (s : State) : ∃ r t, s.sendFrame = { s with rec_ := r, trace := t } := by
  unfold State.sendFrame
  split
  · exact ⟨_, _, rfl⟩
  · split
    · exact ⟨_, _, rfl⟩
    · dsimp only
      split <;> exact ⟨_, _, rfl⟩

theorem State.freshFrame_only (s : State) (type : Nat) : ∃ q t, s.freshFrame type = { s with rec_ := q, trace := t } := by
  unfold State.freshFrame
  (repeat' split) <;> first | exact s.sendFrame_only | exact ⟨_, _, rfl⟩

theorem State.fillFrame_only (s : State) (type : Nat) (r : List Byte) : ∃ q t, s.fillFrame type r = { s with rec_ := q, trace := t } := by
  unfold State.fillFrame
  split
  · exact ⟨_, _, rfl⟩
  · dsimp only
    (repeat' split) <;> first | exact ⟨_, _, rfl⟩ | (obtain ⟨a, b, e⟩ := State.sendFrame_only _; rw [e]; exact ⟨_, _, rfl⟩)

/-- One record joins the telemetry stream. -/
theorem State.stream_one (s : State) (type : Nat) (r : List Byte) : ∃ q t, s.stream type [r] = { s with rec_ := q, trace := t } := by
  obtain ⟨q, t, h⟩ := s.freshFrame_only type
  obtain ⟨q', t', h'⟩ := (s.freshFrame type).fillFrame_only type r
  exact ⟨q', t', by simp only [State.stream, List.foldl_cons, List.foldl_nil]; rw [h', h]⟩

/-- Joining records to the telemetry stream changes Rosemary and the trace buffer only (17 R465, R466). -/
theorem State.stream_only (s : State) (type : Nat) (recs : List (List Byte)) : ∃ q t, s.stream type recs = { s with rec_ := q, trace := t } := by
  induction recs generalizing s with
  | nil => exact ⟨_, _, rfl⟩
  | cons r rs ih =>
    obtain ⟨q, t, h⟩ := s.stream_one type r
    have e : s.stream type (r :: rs) = (s.stream type [r]).stream type rs := by simp [State.stream]
    rw [e, h]
    obtain ⟨q', t', h'⟩ := ih { s with rec_ := q, trace := t }
    exact ⟨q', t', h'⟩

/-- Draining the trace buffer changes Rosemary and the trace buffer only (17 R465). -/
theorem State.drainTrace_only (s : State) : ∃ q t, s.drainTrace = { s with rec_ := q, trace := t } := by
  unfold State.drainTrace
  split
  · obtain ⟨q, t, h⟩ := State.stream_only { s with trace := { s.trace with buffer := [] } } 1 (s.trace.buffer.map TraceRecord.bytes)
    exact ⟨q, t, h⟩
  · exact ⟨_, _, rfl⟩

/-- A trace point changes Rosemary and the trace buffer only (02 R66). -/
theorem State.traced_only (s : State) (point source arg : Nat) : ∃ q t, s.traced point source arg = { s with rec_ := q, trace := t } := by
  unfold State.traced State.tracedAt
  split
  · dsimp only
    obtain ⟨q, t, h⟩ := State.drainTrace_only { s with trace := { (s.trace.capture s.gt s.link.topStep point source arg).1 with buffer := (s.trace.capture s.gt s.link.topStep point source arg).1.buffer ++ (s.trace.capture s.gt s.link.topStep point source arg).2.toList } }
    exact ⟨q, t, h⟩
  · exact ⟨_, _, rfl⟩

/-- An event changes Rosemary's ports and the note of the last severe event only (17 R449, 16 R431). -/
theorem State.event_only (s : State) (port : EvPort) (code sev src : Nat) (payload : List Byte) : ∃ q u, s.event port code sev src payload = { s with rec_ := q, upd := u } := by
  unfold State.event
  split
  · exact ⟨_, _, rfl⟩
  · dsimp only
    (repeat' split) <;> exact ⟨_, _, rfl⟩

/-- A mirror record changes the pair's own state only (15 R410). -/
theorem State.mirrored_only (s : State) (kind : MirKind) : ∃ p, s.mirrored kind = { s with pair := p } := by
  unfold State.mirrored State.sendRecord State.sendRecordOf
  (repeat' split) <;> exact ⟨_, rfl⟩

@[simp] theorem State.stream_sup (s : State) (type : Nat) (recs : List (List Byte)) : (s.stream type recs).sup = s.sup := by
  obtain ⟨_, _, h⟩ := s.stream_only type recs; rw [h]
@[simp] theorem State.traced_sup (s : State) (point source arg : Nat) : (s.traced point source arg).sup = s.sup := by
  obtain ⟨_, _, h⟩ := s.traced_only point source arg; rw [h]
@[simp] theorem State.stream_clk (s : State) (type : Nat) (recs : List (List Byte)) : (s.stream type recs).clk = s.clk := by
  obtain ⟨_, _, h⟩ := s.stream_only type recs; rw [h]
@[simp] theorem State.traced_clk (s : State) (point source arg : Nat) : (s.traced point source arg).clk = s.clk := by
  obtain ⟨_, _, h⟩ := s.traced_only point source arg; rw [h]
@[simp] theorem State.stream_straps (s : State) (type : Nat) (recs : List (List Byte)) : (s.stream type recs).straps = s.straps := by
  obtain ⟨_, _, h⟩ := s.stream_only type recs; rw [h]
@[simp] theorem State.traced_straps (s : State) (point source arg : Nat) : (s.traced point source arg).straps = s.straps := by
  obtain ⟨_, _, h⟩ := s.traced_only point source arg; rw [h]
@[simp] theorem State.stream_pins (s : State) (type : Nat) (recs : List (List Byte)) : (s.stream type recs).pins = s.pins := by
  obtain ⟨_, _, h⟩ := s.stream_only type recs; rw [h]
@[simp] theorem State.traced_pins (s : State) (point source arg : Nat) : (s.traced point source arg).pins = s.pins := by
  obtain ⟨_, _, h⟩ := s.traced_only point source arg; rw [h]
@[simp] theorem State.stream_sec (s : State) (type : Nat) (recs : List (List Byte)) : (s.stream type recs).sec = s.sec := by
  obtain ⟨_, _, h⟩ := s.stream_only type recs; rw [h]
@[simp] theorem State.traced_sec (s : State) (point source arg : Nat) : (s.traced point source arg).sec = s.sec := by
  obtain ⟨_, _, h⟩ := s.traced_only point source arg; rw [h]
@[simp] theorem State.stream_cfg (s : State) (type : Nat) (recs : List (List Byte)) : (s.stream type recs).cfg = s.cfg := by
  obtain ⟨_, _, h⟩ := s.stream_only type recs; rw [h]
@[simp] theorem State.traced_cfg (s : State) (point source arg : Nat) : (s.traced point source arg).cfg = s.cfg := by
  obtain ⟨_, _, h⟩ := s.traced_only point source arg; rw [h]
@[simp] theorem State.stream_ports (s : State) (type : Nat) (recs : List (List Byte)) : (s.stream type recs).ports = s.ports := by
  obtain ⟨_, _, h⟩ := s.stream_only type recs; rw [h]
@[simp] theorem State.traced_ports (s : State) (point source arg : Nat) : (s.traced point source arg).ports = s.ports := by
  obtain ⟨_, _, h⟩ := s.traced_only point source arg; rw [h]
@[simp] theorem State.stream_sems (s : State) (type : Nat) (recs : List (List Byte)) : (s.stream type recs).sems = s.sems := by
  obtain ⟨_, _, h⟩ := s.stream_only type recs; rw [h]
@[simp] theorem State.traced_sems (s : State) (point source arg : Nat) : (s.traced point source arg).sems = s.sems := by
  obtain ⟨_, _, h⟩ := s.traced_only point source arg; rw [h]
@[simp] theorem State.stream_log (s : State) (type : Nat) (recs : List (List Byte)) : (s.stream type recs).log = s.log := by
  obtain ⟨_, _, h⟩ := s.stream_only type recs; rw [h]
@[simp] theorem State.traced_log (s : State) (point source arg : Nat) : (s.traced point source arg).log = s.log := by
  obtain ⟨_, _, h⟩ := s.traced_only point source arg; rw [h]
@[simp] theorem State.stream_comps (s : State) (type : Nat) (recs : List (List Byte)) : (s.stream type recs).comps = s.comps := by
  obtain ⟨_, _, h⟩ := s.stream_only type recs; rw [h]
@[simp] theorem State.traced_comps (s : State) (point source arg : Nat) : (s.traced point source arg).comps = s.comps := by
  obtain ⟨_, _, h⟩ := s.traced_only point source arg; rw [h]
@[simp] theorem State.stream_procs (s : State) (type : Nat) (recs : List (List Byte)) : (s.stream type recs).procs = s.procs := by
  obtain ⟨_, _, h⟩ := s.stream_only type recs; rw [h]
@[simp] theorem State.traced_procs (s : State) (point source arg : Nat) : (s.traced point source arg).procs = s.procs := by
  obtain ⟨_, _, h⟩ := s.traced_only point source arg; rw [h]
@[simp] theorem State.stream_feed (s : State) (type : Nat) (recs : List (List Byte)) : (s.stream type recs).feed = s.feed := by
  obtain ⟨_, _, h⟩ := s.stream_only type recs; rw [h]
@[simp] theorem State.traced_feed (s : State) (point source arg : Nat) : (s.traced point source arg).feed = s.feed := by
  obtain ⟨_, _, h⟩ := s.traced_only point source arg; rw [h]
@[simp] theorem State.stream_thyme (s : State) (type : Nat) (recs : List (List Byte)) : (s.stream type recs).thyme = s.thyme := by
  obtain ⟨_, _, h⟩ := s.stream_only type recs; rw [h]
@[simp] theorem State.traced_thyme (s : State) (point source arg : Nat) : (s.traced point source arg).thyme = s.thyme := by
  obtain ⟨_, _, h⟩ := s.traced_only point source arg; rw [h]
@[simp] theorem State.stream_sage (s : State) (type : Nat) (recs : List (List Byte)) : (s.stream type recs).sage = s.sage := by
  obtain ⟨_, _, h⟩ := s.stream_only type recs; rw [h]
@[simp] theorem State.traced_sage (s : State) (point source arg : Nat) : (s.traced point source arg).sage = s.sage := by
  obtain ⟨_, _, h⟩ := s.traced_only point source arg; rw [h]
@[simp] theorem State.stream_op (s : State) (type : Nat) (recs : List (List Byte)) : (s.stream type recs).op = s.op := by
  obtain ⟨_, _, h⟩ := s.stream_only type recs; rw [h]
@[simp] theorem State.traced_op (s : State) (point source arg : Nat) : (s.traced point source arg).op = s.op := by
  obtain ⟨_, _, h⟩ := s.traced_only point source arg; rw [h]
@[simp] theorem State.stream_phase (s : State) (type : Nat) (recs : List (List Byte)) : (s.stream type recs).phase = s.phase := by
  obtain ⟨_, _, h⟩ := s.stream_only type recs; rw [h]
@[simp] theorem State.traced_phase (s : State) (point source arg : Nat) : (s.traced point source arg).phase = s.phase := by
  obtain ⟨_, _, h⟩ := s.traced_only point source arg; rw [h]
@[simp] theorem State.stream_cool (s : State) (type : Nat) (recs : List (List Byte)) : (s.stream type recs).cool = s.cool := by
  obtain ⟨_, _, h⟩ := s.stream_only type recs; rw [h]
@[simp] theorem State.traced_cool (s : State) (point source arg : Nat) : (s.traced point source arg).cool = s.cool := by
  obtain ⟨_, _, h⟩ := s.traced_only point source arg; rw [h]
@[simp] theorem State.stream_ledger (s : State) (type : Nat) (recs : List (List Byte)) : (s.stream type recs).ledger = s.ledger := by
  obtain ⟨_, _, h⟩ := s.stream_only type recs; rw [h]
@[simp] theorem State.traced_ledger (s : State) (point source arg : Nat) : (s.traced point source arg).ledger = s.ledger := by
  obtain ⟨_, _, h⟩ := s.traced_only point source arg; rw [h]
@[simp] theorem State.stream_sync (s : State) (type : Nat) (recs : List (List Byte)) : (s.stream type recs).sync = s.sync := by
  obtain ⟨_, _, h⟩ := s.stream_only type recs; rw [h]
@[simp] theorem State.traced_sync (s : State) (point source arg : Nat) : (s.traced point source arg).sync = s.sync := by
  obtain ⟨_, _, h⟩ := s.traced_only point source arg; rw [h]
@[simp] theorem State.stream_link (s : State) (type : Nat) (recs : List (List Byte)) : (s.stream type recs).link = s.link := by
  obtain ⟨_, _, h⟩ := s.stream_only type recs; rw [h]
@[simp] theorem State.traced_link (s : State) (point source arg : Nat) : (s.traced point source arg).link = s.link := by
  obtain ⟨_, _, h⟩ := s.traced_only point source arg; rw [h]
@[simp] theorem State.stream_repro (s : State) (type : Nat) (recs : List (List Byte)) : (s.stream type recs).repro = s.repro := by
  obtain ⟨_, _, h⟩ := s.stream_only type recs; rw [h]
@[simp] theorem State.traced_repro (s : State) (point source arg : Nat) : (s.traced point source arg).repro = s.repro := by
  obtain ⟨_, _, h⟩ := s.traced_only point source arg; rw [h]
@[simp] theorem State.stream_pair (s : State) (type : Nat) (recs : List (List Byte)) : (s.stream type recs).pair = s.pair := by
  obtain ⟨_, _, h⟩ := s.stream_only type recs; rw [h]
@[simp] theorem State.traced_pair (s : State) (point source arg : Nat) : (s.traced point source arg).pair = s.pair := by
  obtain ⟨_, _, h⟩ := s.traced_only point source arg; rw [h]
@[simp] theorem State.stream_upd (s : State) (type : Nat) (recs : List (List Byte)) : (s.stream type recs).upd = s.upd := by
  obtain ⟨_, _, h⟩ := s.stream_only type recs; rw [h]
@[simp] theorem State.traced_upd (s : State) (point source arg : Nat) : (s.traced point source arg).upd = s.upd := by
  obtain ⟨_, _, h⟩ := s.traced_only point source arg; rw [h]
@[simp] theorem State.stream_free (s : State) (type : Nat) (recs : List (List Byte)) : (s.stream type recs).free = s.free := by
  obtain ⟨_, _, h⟩ := s.stream_only type recs; rw [h]
@[simp] theorem State.traced_free (s : State) (point source arg : Nat) : (s.traced point source arg).free = s.free := by
  obtain ⟨_, _, h⟩ := s.traced_only point source arg; rw [h]
@[simp] theorem State.stream_pending (s : State) (type : Nat) (recs : List (List Byte)) : (s.stream type recs).pending = s.pending := by
  obtain ⟨_, _, h⟩ := s.stream_only type recs; rw [h]
@[simp] theorem State.traced_pending (s : State) (point source arg : Nat) : (s.traced point source arg).pending = s.pending := by
  obtain ⟨_, _, h⟩ := s.traced_only point source arg; rw [h]
@[simp] theorem State.event_sup (s : State) (port : EvPort) (code sev src : Nat) (payload : List Byte) : (s.event port code sev src payload).sup = s.sup := by
  obtain ⟨_, _, h⟩ := s.event_only port code sev src payload; rw [h]
@[simp] theorem State.event_clk (s : State) (port : EvPort) (code sev src : Nat) (payload : List Byte) : (s.event port code sev src payload).clk = s.clk := by
  obtain ⟨_, _, h⟩ := s.event_only port code sev src payload; rw [h]
@[simp] theorem State.event_straps (s : State) (port : EvPort) (code sev src : Nat) (payload : List Byte) : (s.event port code sev src payload).straps = s.straps := by
  obtain ⟨_, _, h⟩ := s.event_only port code sev src payload; rw [h]
@[simp] theorem State.event_pins (s : State) (port : EvPort) (code sev src : Nat) (payload : List Byte) : (s.event port code sev src payload).pins = s.pins := by
  obtain ⟨_, _, h⟩ := s.event_only port code sev src payload; rw [h]
@[simp] theorem State.event_sec (s : State) (port : EvPort) (code sev src : Nat) (payload : List Byte) : (s.event port code sev src payload).sec = s.sec := by
  obtain ⟨_, _, h⟩ := s.event_only port code sev src payload; rw [h]
@[simp] theorem State.event_cfg (s : State) (port : EvPort) (code sev src : Nat) (payload : List Byte) : (s.event port code sev src payload).cfg = s.cfg := by
  obtain ⟨_, _, h⟩ := s.event_only port code sev src payload; rw [h]
@[simp] theorem State.event_ports (s : State) (port : EvPort) (code sev src : Nat) (payload : List Byte) : (s.event port code sev src payload).ports = s.ports := by
  obtain ⟨_, _, h⟩ := s.event_only port code sev src payload; rw [h]
@[simp] theorem State.event_sems (s : State) (port : EvPort) (code sev src : Nat) (payload : List Byte) : (s.event port code sev src payload).sems = s.sems := by
  obtain ⟨_, _, h⟩ := s.event_only port code sev src payload; rw [h]
@[simp] theorem State.event_log (s : State) (port : EvPort) (code sev src : Nat) (payload : List Byte) : (s.event port code sev src payload).log = s.log := by
  obtain ⟨_, _, h⟩ := s.event_only port code sev src payload; rw [h]
@[simp] theorem State.event_trace (s : State) (port : EvPort) (code sev src : Nat) (payload : List Byte) : (s.event port code sev src payload).trace = s.trace := by
  obtain ⟨_, _, h⟩ := s.event_only port code sev src payload; rw [h]
@[simp] theorem State.event_comps (s : State) (port : EvPort) (code sev src : Nat) (payload : List Byte) : (s.event port code sev src payload).comps = s.comps := by
  obtain ⟨_, _, h⟩ := s.event_only port code sev src payload; rw [h]
@[simp] theorem State.event_procs (s : State) (port : EvPort) (code sev src : Nat) (payload : List Byte) : (s.event port code sev src payload).procs = s.procs := by
  obtain ⟨_, _, h⟩ := s.event_only port code sev src payload; rw [h]
@[simp] theorem State.event_feed (s : State) (port : EvPort) (code sev src : Nat) (payload : List Byte) : (s.event port code sev src payload).feed = s.feed := by
  obtain ⟨_, _, h⟩ := s.event_only port code sev src payload; rw [h]
@[simp] theorem State.event_thyme (s : State) (port : EvPort) (code sev src : Nat) (payload : List Byte) : (s.event port code sev src payload).thyme = s.thyme := by
  obtain ⟨_, _, h⟩ := s.event_only port code sev src payload; rw [h]
@[simp] theorem State.event_sage (s : State) (port : EvPort) (code sev src : Nat) (payload : List Byte) : (s.event port code sev src payload).sage = s.sage := by
  obtain ⟨_, _, h⟩ := s.event_only port code sev src payload; rw [h]
@[simp] theorem State.event_op (s : State) (port : EvPort) (code sev src : Nat) (payload : List Byte) : (s.event port code sev src payload).op = s.op := by
  obtain ⟨_, _, h⟩ := s.event_only port code sev src payload; rw [h]
@[simp] theorem State.event_phase (s : State) (port : EvPort) (code sev src : Nat) (payload : List Byte) : (s.event port code sev src payload).phase = s.phase := by
  obtain ⟨_, _, h⟩ := s.event_only port code sev src payload; rw [h]
@[simp] theorem State.event_cool (s : State) (port : EvPort) (code sev src : Nat) (payload : List Byte) : (s.event port code sev src payload).cool = s.cool := by
  obtain ⟨_, _, h⟩ := s.event_only port code sev src payload; rw [h]
@[simp] theorem State.event_ledger (s : State) (port : EvPort) (code sev src : Nat) (payload : List Byte) : (s.event port code sev src payload).ledger = s.ledger := by
  obtain ⟨_, _, h⟩ := s.event_only port code sev src payload; rw [h]
@[simp] theorem State.event_sync (s : State) (port : EvPort) (code sev src : Nat) (payload : List Byte) : (s.event port code sev src payload).sync = s.sync := by
  obtain ⟨_, _, h⟩ := s.event_only port code sev src payload; rw [h]
@[simp] theorem State.event_link (s : State) (port : EvPort) (code sev src : Nat) (payload : List Byte) : (s.event port code sev src payload).link = s.link := by
  obtain ⟨_, _, h⟩ := s.event_only port code sev src payload; rw [h]
@[simp] theorem State.event_repro (s : State) (port : EvPort) (code sev src : Nat) (payload : List Byte) : (s.event port code sev src payload).repro = s.repro := by
  obtain ⟨_, _, h⟩ := s.event_only port code sev src payload; rw [h]
@[simp] theorem State.event_pair (s : State) (port : EvPort) (code sev src : Nat) (payload : List Byte) : (s.event port code sev src payload).pair = s.pair := by
  obtain ⟨_, _, h⟩ := s.event_only port code sev src payload; rw [h]
@[simp] theorem State.event_free (s : State) (port : EvPort) (code sev src : Nat) (payload : List Byte) : (s.event port code sev src payload).free = s.free := by
  obtain ⟨_, _, h⟩ := s.event_only port code sev src payload; rw [h]
@[simp] theorem State.event_pending (s : State) (port : EvPort) (code sev src : Nat) (payload : List Byte) : (s.event port code sev src payload).pending = s.pending := by
  obtain ⟨_, _, h⟩ := s.event_only port code sev src payload; rw [h]
@[simp] theorem State.mirrored_sup (s : State) (kind : MirKind) : (s.mirrored kind).sup = s.sup := by
  obtain ⟨_, h⟩ := s.mirrored_only kind; rw [h]
@[simp] theorem State.mirrored_clk (s : State) (kind : MirKind) : (s.mirrored kind).clk = s.clk := by
  obtain ⟨_, h⟩ := s.mirrored_only kind; rw [h]
@[simp] theorem State.mirrored_straps (s : State) (kind : MirKind) : (s.mirrored kind).straps = s.straps := by
  obtain ⟨_, h⟩ := s.mirrored_only kind; rw [h]
@[simp] theorem State.mirrored_pins (s : State) (kind : MirKind) : (s.mirrored kind).pins = s.pins := by
  obtain ⟨_, h⟩ := s.mirrored_only kind; rw [h]
@[simp] theorem State.mirrored_sec (s : State) (kind : MirKind) : (s.mirrored kind).sec = s.sec := by
  obtain ⟨_, h⟩ := s.mirrored_only kind; rw [h]
@[simp] theorem State.mirrored_cfg (s : State) (kind : MirKind) : (s.mirrored kind).cfg = s.cfg := by
  obtain ⟨_, h⟩ := s.mirrored_only kind; rw [h]
@[simp] theorem State.mirrored_ports (s : State) (kind : MirKind) : (s.mirrored kind).ports = s.ports := by
  obtain ⟨_, h⟩ := s.mirrored_only kind; rw [h]
@[simp] theorem State.mirrored_sems (s : State) (kind : MirKind) : (s.mirrored kind).sems = s.sems := by
  obtain ⟨_, h⟩ := s.mirrored_only kind; rw [h]
@[simp] theorem State.mirrored_log (s : State) (kind : MirKind) : (s.mirrored kind).log = s.log := by
  obtain ⟨_, h⟩ := s.mirrored_only kind; rw [h]
@[simp] theorem State.mirrored_trace (s : State) (kind : MirKind) : (s.mirrored kind).trace = s.trace := by
  obtain ⟨_, h⟩ := s.mirrored_only kind; rw [h]
@[simp] theorem State.mirrored_comps (s : State) (kind : MirKind) : (s.mirrored kind).comps = s.comps := by
  obtain ⟨_, h⟩ := s.mirrored_only kind; rw [h]
@[simp] theorem State.mirrored_procs (s : State) (kind : MirKind) : (s.mirrored kind).procs = s.procs := by
  obtain ⟨_, h⟩ := s.mirrored_only kind; rw [h]
@[simp] theorem State.mirrored_rec_ (s : State) (kind : MirKind) : (s.mirrored kind).rec_ = s.rec_ := by
  obtain ⟨_, h⟩ := s.mirrored_only kind; rw [h]
@[simp] theorem State.mirrored_feed (s : State) (kind : MirKind) : (s.mirrored kind).feed = s.feed := by
  obtain ⟨_, h⟩ := s.mirrored_only kind; rw [h]
@[simp] theorem State.mirrored_thyme (s : State) (kind : MirKind) : (s.mirrored kind).thyme = s.thyme := by
  obtain ⟨_, h⟩ := s.mirrored_only kind; rw [h]
@[simp] theorem State.mirrored_sage (s : State) (kind : MirKind) : (s.mirrored kind).sage = s.sage := by
  obtain ⟨_, h⟩ := s.mirrored_only kind; rw [h]
@[simp] theorem State.mirrored_op (s : State) (kind : MirKind) : (s.mirrored kind).op = s.op := by
  obtain ⟨_, h⟩ := s.mirrored_only kind; rw [h]
@[simp] theorem State.mirrored_phase (s : State) (kind : MirKind) : (s.mirrored kind).phase = s.phase := by
  obtain ⟨_, h⟩ := s.mirrored_only kind; rw [h]
@[simp] theorem State.mirrored_cool (s : State) (kind : MirKind) : (s.mirrored kind).cool = s.cool := by
  obtain ⟨_, h⟩ := s.mirrored_only kind; rw [h]
@[simp] theorem State.mirrored_ledger (s : State) (kind : MirKind) : (s.mirrored kind).ledger = s.ledger := by
  obtain ⟨_, h⟩ := s.mirrored_only kind; rw [h]
@[simp] theorem State.mirrored_sync (s : State) (kind : MirKind) : (s.mirrored kind).sync = s.sync := by
  obtain ⟨_, h⟩ := s.mirrored_only kind; rw [h]
@[simp] theorem State.mirrored_link (s : State) (kind : MirKind) : (s.mirrored kind).link = s.link := by
  obtain ⟨_, h⟩ := s.mirrored_only kind; rw [h]
@[simp] theorem State.mirrored_repro (s : State) (kind : MirKind) : (s.mirrored kind).repro = s.repro := by
  obtain ⟨_, h⟩ := s.mirrored_only kind; rw [h]
@[simp] theorem State.mirrored_upd (s : State) (kind : MirKind) : (s.mirrored kind).upd = s.upd := by
  obtain ⟨_, h⟩ := s.mirrored_only kind; rw [h]
@[simp] theorem State.mirrored_free (s : State) (kind : MirKind) : (s.mirrored kind).free = s.free := by
  obtain ⟨_, h⟩ := s.mirrored_only kind; rw [h]
@[simp] theorem State.mirrored_pending (s : State) (kind : MirKind) : (s.mirrored kind).pending = s.pending := by
  obtain ⟨_, h⟩ := s.mirrored_only kind; rw [h]

/-! Sessions and responses -/

/-- Ending a stream changes Rosemary and the trace buffer only (17 R465). -/
theorem State.endStream_only (s : State) : ∃ q u t, s.endStream = { s with rec_ := q, upd := u, trace := t } := by
  obtain ⟨a, b, e⟩ := s.sendFrame_only
  unfold State.endStream State.streamOver
  split
  · exact ⟨_, _, _, by rw [e]⟩
  · refine (State.event_only _ _ _ _ _ _).elim fun c h => h.elim fun d h => ⟨c, d, b, h.trans ?_⟩
    rw [e]

/-- Ending a session changes the ports, Rosemary and the trace buffer only (02 R40, 17 R465). -/
theorem State.endSession_only (s : State) (p : Nat) : ∃ q u t r, s.endSession p = { s with rec_ := q, upd := u, trace := t, ports := r } := by
  unfold State.endSession
  split
  · exact ⟨_, _, _, _, rfl⟩
  · unfold State.endStreamOf
    obtain ⟨a, b, c, e⟩ := s.endStream_only
    (repeat' split) <;> first | exact ⟨_, _, _, _, rfl⟩ | exact ⟨a, b, c, _, congrArg (fun x : State => x.onPort p _) e⟩

/-- Sending a message changes the ports only, but for a session that ends with it (02 R40). -/
theorem State.post_only (s : State) (p type : Nat) (body : List Byte) : ∃ q u t r, s.post p type body = { s with rec_ := q, upd := u, trace := t, ports := r } := by
  unfold State.post
  (repeat' split) <;> first | exact s.endSession_only p | exact ⟨_, _, _, _, rfl⟩

/-- Ending the session after a SESSION_CLOSE changes the ports, Rosemary and the trace buffer only (02 R40). -/
theorem State.closeAfter_only (s : State) (p : Nat) (reqId : U32) : ∃ q u t r, s.closeAfter p reqId = { s with rec_ := q, upd := u, trace := t, ports := r } := by
  unfold State.closeAfter
  (repeat' split) <;> first | exact s.endSession_only p | exact ⟨_, _, _, _, rfl⟩

/-- A response changes the ports only, but for a session that ends with it (02 R40, R45). -/
theorem State.respond_only (s : State) (p : Nat) (id reqId : U32) (code : Nat) (r : Reply) : ∃ q u t x, s.respond p id reqId code r = { s with rec_ := q, upd := u, trace := t, ports := x } := by
  unfold State.respond
  dsimp only
  (repeat' split) <;> first | exact ⟨_, _, _, _, rfl⟩ | (obtain ⟨a, b, c, d, e⟩ := State.post_only (s.onSession p fun se => se.keep { reqId := reqId, body := responseBody code r reqId }) p 0x11 (responseBody code r reqId); rw [e]; exact State.closeAfter_only _ p reqId)

@[simp] theorem State.endSession_sup (s : State) (p : Nat) : (s.endSession p).sup = s.sup := by
  obtain ⟨_, _, _, _, h⟩ := s.endSession_only p; rw [h]
@[simp] theorem State.post_sup (s : State) (p type : Nat) (body : List Byte) : (s.post p type body).sup = s.sup := by
  obtain ⟨_, _, _, _, h⟩ := s.post_only p type body; rw [h]
@[simp] theorem State.respond_sup (s : State) (p : Nat) (id reqId : U32) (code : Nat) (r : Reply) : (s.respond p id reqId code r).sup = s.sup := by
  obtain ⟨_, _, _, _, h⟩ := s.respond_only p id reqId code r; rw [h]
@[simp] theorem State.endSession_clk (s : State) (p : Nat) : (s.endSession p).clk = s.clk := by
  obtain ⟨_, _, _, _, h⟩ := s.endSession_only p; rw [h]
@[simp] theorem State.post_clk (s : State) (p type : Nat) (body : List Byte) : (s.post p type body).clk = s.clk := by
  obtain ⟨_, _, _, _, h⟩ := s.post_only p type body; rw [h]
@[simp] theorem State.respond_clk (s : State) (p : Nat) (id reqId : U32) (code : Nat) (r : Reply) : (s.respond p id reqId code r).clk = s.clk := by
  obtain ⟨_, _, _, _, h⟩ := s.respond_only p id reqId code r; rw [h]
@[simp] theorem State.endSession_straps (s : State) (p : Nat) : (s.endSession p).straps = s.straps := by
  obtain ⟨_, _, _, _, h⟩ := s.endSession_only p; rw [h]
@[simp] theorem State.post_straps (s : State) (p type : Nat) (body : List Byte) : (s.post p type body).straps = s.straps := by
  obtain ⟨_, _, _, _, h⟩ := s.post_only p type body; rw [h]
@[simp] theorem State.respond_straps (s : State) (p : Nat) (id reqId : U32) (code : Nat) (r : Reply) : (s.respond p id reqId code r).straps = s.straps := by
  obtain ⟨_, _, _, _, h⟩ := s.respond_only p id reqId code r; rw [h]
@[simp] theorem State.endSession_pins (s : State) (p : Nat) : (s.endSession p).pins = s.pins := by
  obtain ⟨_, _, _, _, h⟩ := s.endSession_only p; rw [h]
@[simp] theorem State.post_pins (s : State) (p type : Nat) (body : List Byte) : (s.post p type body).pins = s.pins := by
  obtain ⟨_, _, _, _, h⟩ := s.post_only p type body; rw [h]
@[simp] theorem State.respond_pins (s : State) (p : Nat) (id reqId : U32) (code : Nat) (r : Reply) : (s.respond p id reqId code r).pins = s.pins := by
  obtain ⟨_, _, _, _, h⟩ := s.respond_only p id reqId code r; rw [h]
@[simp] theorem State.endSession_sec (s : State) (p : Nat) : (s.endSession p).sec = s.sec := by
  obtain ⟨_, _, _, _, h⟩ := s.endSession_only p; rw [h]
@[simp] theorem State.post_sec (s : State) (p type : Nat) (body : List Byte) : (s.post p type body).sec = s.sec := by
  obtain ⟨_, _, _, _, h⟩ := s.post_only p type body; rw [h]
@[simp] theorem State.respond_sec (s : State) (p : Nat) (id reqId : U32) (code : Nat) (r : Reply) : (s.respond p id reqId code r).sec = s.sec := by
  obtain ⟨_, _, _, _, h⟩ := s.respond_only p id reqId code r; rw [h]
@[simp] theorem State.endSession_cfg (s : State) (p : Nat) : (s.endSession p).cfg = s.cfg := by
  obtain ⟨_, _, _, _, h⟩ := s.endSession_only p; rw [h]
@[simp] theorem State.post_cfg (s : State) (p type : Nat) (body : List Byte) : (s.post p type body).cfg = s.cfg := by
  obtain ⟨_, _, _, _, h⟩ := s.post_only p type body; rw [h]
@[simp] theorem State.respond_cfg (s : State) (p : Nat) (id reqId : U32) (code : Nat) (r : Reply) : (s.respond p id reqId code r).cfg = s.cfg := by
  obtain ⟨_, _, _, _, h⟩ := s.respond_only p id reqId code r; rw [h]
@[simp] theorem State.endSession_sems (s : State) (p : Nat) : (s.endSession p).sems = s.sems := by
  obtain ⟨_, _, _, _, h⟩ := s.endSession_only p; rw [h]
@[simp] theorem State.post_sems (s : State) (p type : Nat) (body : List Byte) : (s.post p type body).sems = s.sems := by
  obtain ⟨_, _, _, _, h⟩ := s.post_only p type body; rw [h]
@[simp] theorem State.respond_sems (s : State) (p : Nat) (id reqId : U32) (code : Nat) (r : Reply) : (s.respond p id reqId code r).sems = s.sems := by
  obtain ⟨_, _, _, _, h⟩ := s.respond_only p id reqId code r; rw [h]
@[simp] theorem State.endSession_log (s : State) (p : Nat) : (s.endSession p).log = s.log := by
  obtain ⟨_, _, _, _, h⟩ := s.endSession_only p; rw [h]
@[simp] theorem State.post_log (s : State) (p type : Nat) (body : List Byte) : (s.post p type body).log = s.log := by
  obtain ⟨_, _, _, _, h⟩ := s.post_only p type body; rw [h]
@[simp] theorem State.respond_log (s : State) (p : Nat) (id reqId : U32) (code : Nat) (r : Reply) : (s.respond p id reqId code r).log = s.log := by
  obtain ⟨_, _, _, _, h⟩ := s.respond_only p id reqId code r; rw [h]
@[simp] theorem State.endSession_comps (s : State) (p : Nat) : (s.endSession p).comps = s.comps := by
  obtain ⟨_, _, _, _, h⟩ := s.endSession_only p; rw [h]
@[simp] theorem State.post_comps (s : State) (p type : Nat) (body : List Byte) : (s.post p type body).comps = s.comps := by
  obtain ⟨_, _, _, _, h⟩ := s.post_only p type body; rw [h]
@[simp] theorem State.respond_comps (s : State) (p : Nat) (id reqId : U32) (code : Nat) (r : Reply) : (s.respond p id reqId code r).comps = s.comps := by
  obtain ⟨_, _, _, _, h⟩ := s.respond_only p id reqId code r; rw [h]
@[simp] theorem State.endSession_procs (s : State) (p : Nat) : (s.endSession p).procs = s.procs := by
  obtain ⟨_, _, _, _, h⟩ := s.endSession_only p; rw [h]
@[simp] theorem State.post_procs (s : State) (p type : Nat) (body : List Byte) : (s.post p type body).procs = s.procs := by
  obtain ⟨_, _, _, _, h⟩ := s.post_only p type body; rw [h]
@[simp] theorem State.respond_procs (s : State) (p : Nat) (id reqId : U32) (code : Nat) (r : Reply) : (s.respond p id reqId code r).procs = s.procs := by
  obtain ⟨_, _, _, _, h⟩ := s.respond_only p id reqId code r; rw [h]
@[simp] theorem State.endSession_feed (s : State) (p : Nat) : (s.endSession p).feed = s.feed := by
  obtain ⟨_, _, _, _, h⟩ := s.endSession_only p; rw [h]
@[simp] theorem State.post_feed (s : State) (p type : Nat) (body : List Byte) : (s.post p type body).feed = s.feed := by
  obtain ⟨_, _, _, _, h⟩ := s.post_only p type body; rw [h]
@[simp] theorem State.respond_feed (s : State) (p : Nat) (id reqId : U32) (code : Nat) (r : Reply) : (s.respond p id reqId code r).feed = s.feed := by
  obtain ⟨_, _, _, _, h⟩ := s.respond_only p id reqId code r; rw [h]
@[simp] theorem State.endSession_thyme (s : State) (p : Nat) : (s.endSession p).thyme = s.thyme := by
  obtain ⟨_, _, _, _, h⟩ := s.endSession_only p; rw [h]
@[simp] theorem State.post_thyme (s : State) (p type : Nat) (body : List Byte) : (s.post p type body).thyme = s.thyme := by
  obtain ⟨_, _, _, _, h⟩ := s.post_only p type body; rw [h]
@[simp] theorem State.respond_thyme (s : State) (p : Nat) (id reqId : U32) (code : Nat) (r : Reply) : (s.respond p id reqId code r).thyme = s.thyme := by
  obtain ⟨_, _, _, _, h⟩ := s.respond_only p id reqId code r; rw [h]
@[simp] theorem State.endSession_sage (s : State) (p : Nat) : (s.endSession p).sage = s.sage := by
  obtain ⟨_, _, _, _, h⟩ := s.endSession_only p; rw [h]
@[simp] theorem State.post_sage (s : State) (p type : Nat) (body : List Byte) : (s.post p type body).sage = s.sage := by
  obtain ⟨_, _, _, _, h⟩ := s.post_only p type body; rw [h]
@[simp] theorem State.respond_sage (s : State) (p : Nat) (id reqId : U32) (code : Nat) (r : Reply) : (s.respond p id reqId code r).sage = s.sage := by
  obtain ⟨_, _, _, _, h⟩ := s.respond_only p id reqId code r; rw [h]
@[simp] theorem State.endSession_op (s : State) (p : Nat) : (s.endSession p).op = s.op := by
  obtain ⟨_, _, _, _, h⟩ := s.endSession_only p; rw [h]
@[simp] theorem State.post_op (s : State) (p type : Nat) (body : List Byte) : (s.post p type body).op = s.op := by
  obtain ⟨_, _, _, _, h⟩ := s.post_only p type body; rw [h]
@[simp] theorem State.respond_op (s : State) (p : Nat) (id reqId : U32) (code : Nat) (r : Reply) : (s.respond p id reqId code r).op = s.op := by
  obtain ⟨_, _, _, _, h⟩ := s.respond_only p id reqId code r; rw [h]
@[simp] theorem State.endSession_phase (s : State) (p : Nat) : (s.endSession p).phase = s.phase := by
  obtain ⟨_, _, _, _, h⟩ := s.endSession_only p; rw [h]
@[simp] theorem State.post_phase (s : State) (p type : Nat) (body : List Byte) : (s.post p type body).phase = s.phase := by
  obtain ⟨_, _, _, _, h⟩ := s.post_only p type body; rw [h]
@[simp] theorem State.respond_phase (s : State) (p : Nat) (id reqId : U32) (code : Nat) (r : Reply) : (s.respond p id reqId code r).phase = s.phase := by
  obtain ⟨_, _, _, _, h⟩ := s.respond_only p id reqId code r; rw [h]
@[simp] theorem State.endSession_cool (s : State) (p : Nat) : (s.endSession p).cool = s.cool := by
  obtain ⟨_, _, _, _, h⟩ := s.endSession_only p; rw [h]
@[simp] theorem State.post_cool (s : State) (p type : Nat) (body : List Byte) : (s.post p type body).cool = s.cool := by
  obtain ⟨_, _, _, _, h⟩ := s.post_only p type body; rw [h]
@[simp] theorem State.respond_cool (s : State) (p : Nat) (id reqId : U32) (code : Nat) (r : Reply) : (s.respond p id reqId code r).cool = s.cool := by
  obtain ⟨_, _, _, _, h⟩ := s.respond_only p id reqId code r; rw [h]
@[simp] theorem State.endSession_ledger (s : State) (p : Nat) : (s.endSession p).ledger = s.ledger := by
  obtain ⟨_, _, _, _, h⟩ := s.endSession_only p; rw [h]
@[simp] theorem State.post_ledger (s : State) (p type : Nat) (body : List Byte) : (s.post p type body).ledger = s.ledger := by
  obtain ⟨_, _, _, _, h⟩ := s.post_only p type body; rw [h]
@[simp] theorem State.respond_ledger (s : State) (p : Nat) (id reqId : U32) (code : Nat) (r : Reply) : (s.respond p id reqId code r).ledger = s.ledger := by
  obtain ⟨_, _, _, _, h⟩ := s.respond_only p id reqId code r; rw [h]
@[simp] theorem State.endSession_sync (s : State) (p : Nat) : (s.endSession p).sync = s.sync := by
  obtain ⟨_, _, _, _, h⟩ := s.endSession_only p; rw [h]
@[simp] theorem State.post_sync (s : State) (p type : Nat) (body : List Byte) : (s.post p type body).sync = s.sync := by
  obtain ⟨_, _, _, _, h⟩ := s.post_only p type body; rw [h]
@[simp] theorem State.respond_sync (s : State) (p : Nat) (id reqId : U32) (code : Nat) (r : Reply) : (s.respond p id reqId code r).sync = s.sync := by
  obtain ⟨_, _, _, _, h⟩ := s.respond_only p id reqId code r; rw [h]
@[simp] theorem State.endSession_link (s : State) (p : Nat) : (s.endSession p).link = s.link := by
  obtain ⟨_, _, _, _, h⟩ := s.endSession_only p; rw [h]
@[simp] theorem State.post_link (s : State) (p type : Nat) (body : List Byte) : (s.post p type body).link = s.link := by
  obtain ⟨_, _, _, _, h⟩ := s.post_only p type body; rw [h]
@[simp] theorem State.respond_link (s : State) (p : Nat) (id reqId : U32) (code : Nat) (r : Reply) : (s.respond p id reqId code r).link = s.link := by
  obtain ⟨_, _, _, _, h⟩ := s.respond_only p id reqId code r; rw [h]
@[simp] theorem State.endSession_repro (s : State) (p : Nat) : (s.endSession p).repro = s.repro := by
  obtain ⟨_, _, _, _, h⟩ := s.endSession_only p; rw [h]
@[simp] theorem State.post_repro (s : State) (p type : Nat) (body : List Byte) : (s.post p type body).repro = s.repro := by
  obtain ⟨_, _, _, _, h⟩ := s.post_only p type body; rw [h]
@[simp] theorem State.respond_repro (s : State) (p : Nat) (id reqId : U32) (code : Nat) (r : Reply) : (s.respond p id reqId code r).repro = s.repro := by
  obtain ⟨_, _, _, _, h⟩ := s.respond_only p id reqId code r; rw [h]
@[simp] theorem State.endSession_pair (s : State) (p : Nat) : (s.endSession p).pair = s.pair := by
  obtain ⟨_, _, _, _, h⟩ := s.endSession_only p; rw [h]
@[simp] theorem State.post_pair (s : State) (p type : Nat) (body : List Byte) : (s.post p type body).pair = s.pair := by
  obtain ⟨_, _, _, _, h⟩ := s.post_only p type body; rw [h]
@[simp] theorem State.respond_pair (s : State) (p : Nat) (id reqId : U32) (code : Nat) (r : Reply) : (s.respond p id reqId code r).pair = s.pair := by
  obtain ⟨_, _, _, _, h⟩ := s.respond_only p id reqId code r; rw [h]
@[simp] theorem State.endSession_free (s : State) (p : Nat) : (s.endSession p).free = s.free := by
  obtain ⟨_, _, _, _, h⟩ := s.endSession_only p; rw [h]
@[simp] theorem State.post_free (s : State) (p type : Nat) (body : List Byte) : (s.post p type body).free = s.free := by
  obtain ⟨_, _, _, _, h⟩ := s.post_only p type body; rw [h]
@[simp] theorem State.respond_free (s : State) (p : Nat) (id reqId : U32) (code : Nat) (r : Reply) : (s.respond p id reqId code r).free = s.free := by
  obtain ⟨_, _, _, _, h⟩ := s.respond_only p id reqId code r; rw [h]
@[simp] theorem State.endSession_pending (s : State) (p : Nat) : (s.endSession p).pending = s.pending := by
  obtain ⟨_, _, _, _, h⟩ := s.endSession_only p; rw [h]
@[simp] theorem State.post_pending (s : State) (p type : Nat) (body : List Byte) : (s.post p type body).pending = s.pending := by
  obtain ⟨_, _, _, _, h⟩ := s.post_only p type body; rw [h]
@[simp] theorem State.respond_pending (s : State) (p : Nat) (id reqId : U32) (code : Nat) (r : Reply) : (s.respond p id reqId code r).pending = s.pending := by
  obtain ⟨_, _, _, _, h⟩ := s.respond_only p id reqId code r; rw [h]

/-! What the readings of a few fields give -/

theorem State.gt_of_clk {s t : State} (h : s.clk = t.clk) : s.gt = t.gt := congrArg ClockState.gt h

end Sys2Proof.Machine
end

