-- ==== Sys2Proof/Laws/Host.lean ====
section
/-! SUPPORT. What an admitted mailbox command does, once for all of them: it runs its body on the state that MBOX hands it, and its response follows. -/

namespace Sys2Proof.Laws

open Sys2Proof Sys2Proof.Machine

/-- A port with a session is in the table of ports. -/
theorem port_lt {s : State} {p : Nat} {se : Session} (h : (s.port p).session = some se) : p < s.ports.length := by
  by_contra hp
  have : s.port p = default := by simp [State.port, nth, List.getD, List.getElem?_eq_none (Nat.le_of_not_lt hp)]
  rw [this] at h
  exact nomatch (show (none : Option Session) = some se from h)

theorem onPort_port {s : State} {p : Nat} (f : PortState → PortState) (h : p < s.ports.length) : (s.onPort p f).port p = f (s.port p) := by
  simp [State.onPort, State.port, modAt, nth, h]

theorem onPort_onPort (s : State) (p : Nat) (f g : PortState → PortState) (h : p < s.ports.length) : (s.onPort p f).onPort p g = s.onPort p (g ∘ f) := by
  simp [State.onPort, modAt, nth, h]

theorem onPort_port_ne (s : State) {p q : Nat} (f : PortState → PortState) (h : q ≠ p) : (s.onPort p f).port q = s.port q := by
  simp [State.onPort, State.port, modAt, nth, Ne.symm h]

theorem onPort_length (s : State) (p : Nat) (f : PortState → PortState) : (s.onPort p f).ports.length = s.ports.length := by
  simp [State.onPort, modAt]

/-! An admitted command finds everything but its session as it was. -/

@[simp] theorem taken_sup (s : State) (h : Hdr) (se : Session) : (s.taken h se).sup = s.sup := rfl
@[simp] theorem taken_clk (s : State) (h : Hdr) (se : Session) : (s.taken h se).clk = s.clk := rfl
@[simp] theorem taken_straps (s : State) (h : Hdr) (se : Session) : (s.taken h se).straps = s.straps := rfl
@[simp] theorem taken_pins (s : State) (h : Hdr) (se : Session) : (s.taken h se).pins = s.pins := rfl
@[simp] theorem taken_sec (s : State) (h : Hdr) (se : Session) : (s.taken h se).sec = s.sec := rfl
@[simp] theorem taken_cfg (s : State) (h : Hdr) (se : Session) : (s.taken h se).cfg = s.cfg := rfl
@[simp] theorem taken_sems (s : State) (h : Hdr) (se : Session) : (s.taken h se).sems = s.sems := rfl
@[simp] theorem taken_log (s : State) (h : Hdr) (se : Session) : (s.taken h se).log = s.log := rfl
@[simp] theorem taken_trace (s : State) (h : Hdr) (se : Session) : (s.taken h se).trace = s.trace := rfl
@[simp] theorem taken_comps (s : State) (h : Hdr) (se : Session) : (s.taken h se).comps = s.comps := rfl
@[simp] theorem taken_procs (s : State) (h : Hdr) (se : Session) : (s.taken h se).procs = s.procs := rfl
@[simp] theorem taken_rec_ (s : State) (h : Hdr) (se : Session) : (s.taken h se).rec_ = s.rec_ := rfl
@[simp] theorem taken_feed (s : State) (h : Hdr) (se : Session) : (s.taken h se).feed = s.feed := rfl
@[simp] theorem taken_thyme (s : State) (h : Hdr) (se : Session) : (s.taken h se).thyme = s.thyme := rfl
@[simp] theorem taken_sage (s : State) (h : Hdr) (se : Session) : (s.taken h se).sage = s.sage := rfl
@[simp] theorem taken_op (s : State) (h : Hdr) (se : Session) : (s.taken h se).op = s.op := rfl
@[simp] theorem taken_phase (s : State) (h : Hdr) (se : Session) : (s.taken h se).phase = s.phase := rfl
@[simp] theorem taken_cool (s : State) (h : Hdr) (se : Session) : (s.taken h se).cool = s.cool := rfl
@[simp] theorem taken_ledger (s : State) (h : Hdr) (se : Session) : (s.taken h se).ledger = s.ledger := rfl
@[simp] theorem taken_sync (s : State) (h : Hdr) (se : Session) : (s.taken h se).sync = s.sync := rfl
@[simp] theorem taken_link (s : State) (h : Hdr) (se : Session) : (s.taken h se).link = s.link := rfl
@[simp] theorem taken_repro (s : State) (h : Hdr) (se : Session) : (s.taken h se).repro = s.repro := rfl
@[simp] theorem taken_pair (s : State) (h : Hdr) (se : Session) : (s.taken h se).pair = s.pair := rfl
@[simp] theorem taken_upd (s : State) (h : Hdr) (se : Session) : (s.taken h se).upd = s.upd := rfl
@[simp] theorem taken_free (s : State) (h : Hdr) (se : Session) : (s.taken h se).free = s.free := rfl
@[simp] theorem taken_pending (s : State) (h : Hdr) (se : Session) : (s.taken h se).pending = s.pending := rfl

/-- A message that the running MBOX takes at once (02 R42). -/
theorem receive_runs {m : MailMsg} {s : State} (hp : m.port < 2) (hr : s.firmwareRuns = true) (hm : s.restarting 1 = false) : receive m s = s.process m := by
  have hn : ¬(2 ≤ m.port ∨ (!s.firmwareRuns) = true) := by simp [hr, hp]
  simp only [receive, if_neg hn, hm, Bool.false_eq_true, if_false]

theorem onPort_congr {s : State} {p : Nat} {f g : PortState → PortState} (h : f (s.port p) = g (s.port p)) : s.onPort p f = s.onPort p g := by
  unfold State.port at h
  simp only [State.onPort, modAt, h]

/-- The checks that precede a command's own do not look at the ports. -/
theorem precheck_onPort (s : State) (p q : Nat) (f : PortState → PortState) (se : Session) (sp : CmdSpec) (a b : Bool) (n k : Nat) (e : Option Status) :
    (s.onPort q f).precheck p se sp a n b e k = s.precheck p se sp a n b e k := rfl

/-- An admitted command runs its body in the state handed to it, and its response follows (02 R44, R45, R54). -/
theorem host_runs {h : Hdr} {b : Body} {s : State} {se : Session} (ha : admitted h b s se = true) :
    receive (.cmd h b) s =
      let a := runBody b { port := h.port.toNat, se := s.handed h se, reqId := h.reqId, auto := h.auto, top := h.reqId, payRsvd := h.payRsvd != 0 && b.ownRsvd } (s.taken h se)
      a.2.respond h.port.toNat se.id h.reqId b.code a.1 := by
  simp only [admitted, arrives, Bool.and_eq_true, decide_eq_true_eq, Bool.not_eq_true', beq_iff_eq, Option.isNone_iff_eq_none] at ha
  obtain ⟨⟨⟨⟨⟨⟨⟨hp, hr⟩, hm⟩, hs⟩, hacc⟩, hb⟩, hj⟩, hpre⟩ := ha
  have hl := port_lt hs
  have hn : ¬(2 ≤ (MailMsg.cmd h b).port ∨ (!s.firmwareRuns) = true) := by simp [MailMsg.port, hr]; omega
  simp only [receive, if_neg hn, hm, State.process, State.command, hs, hacc, if_neg (Nat.not_lt.mpr hb), hj, State.onSession]
  have e1 : ((s.onPort h.port.toNat fun q => { q with session := Option.map (fun se => se.noted s.gt h.msgSeq.toNat) q.session }).onPort h.port.toNat
      fun q => { q with session := Option.map (fun se => { se with lastReq := some h.reqId }) q.session }) = s.taken h se := by
    rw [onPort_onPort _ _ _ _ hl]
    refine onPort_congr ?_
    simp [hs, State.handed]
  have e2 : (((s.taken h se).port h.port.toNat).session) = some (s.handed h se) := by
    simp [State.taken, onPort_port _ hl]
  simp only [Bool.not_true, Bool.false_eq_true, if_false, e1, e2, Option.getD_some, runCommand, Nat.add_zero]
  have e3 : (s.taken h se).precheck h.port.toNat (s.handed h se) b.spec (h.rsvd != 0 || h.plen.toNat != b.plen) h.plen.toNat (h.payRsvd != 0 && !b.ownRsvd) (b.early (s.handed h se) (s.taken h se)) (s.handed h se).executing.length = none := hpre
  rw [e3]

/-- A port is left without a session when its session ends (02 R40). -/
theorem endSession_session (s : State) (p : Nat) : ((s.endSession p).port p).session = none := by
  unfold State.endSession
  split
  · assumption
  · rename_i se hse
    have hl := port_lt hse
    rw [onPort_port]
    unfold State.endStreamOf
    obtain ⟨a, b, c, e⟩ := s.endStream_only
    (repeat' split) <;> first | exact hl | (rw [e]; exact hl)

/-- An admitted message carries the session's generation (02 R44). -/
theorem admitted_gen {h : Hdr} {b : Body} {s : State} {se : Session} (ha : admitted h b s se = true) : h.gen.toNat = se.gen := by
  simp only [admitted, arrives, Session.accepts, Bool.and_eq_true, beq_iff_eq] at ha
  exact ha.1.1.1.2.1.1.1.2

/-- To show what an admitted command answers, look at its body in the state handed to it. -/
theorem answers_of {c : Instr} {h : Hdr} {b : Body} {s : State} {P : State → Reply → State → Prop}
    (hc : exec c s = .next (receive (.cmd h b) s))
    (hb : ∀ se, admitted h b s se = true → (s.port h.port.toNat).session = some se → ∀ k : Ctx, k.port = h.port.toNat → k.se = s.handed h se → k.reqId = h.reqId → k.auto = h.auto → k.top = h.reqId → k.payRsvd = (h.payRsvd != 0 && b.ownRsvd) →
      P (s.taken h se) (runBody b k (s.taken h se)).1 (runBody b k (s.taken h se)).2) : Answers c h b s P := by
  intro se ha
  have hs : (s.port h.port.toNat).session = some se := by
    simp only [admitted, arrives, Bool.and_eq_true, beq_iff_eq] at ha
    exact ha.1.1.1.1.2
  exact ⟨_, _, by rw [hc, host_runs ha], hb se ha hs _ rfl rfl rfl rfl rfl rfl⟩

end Sys2Proof.Laws
end

