-- ==== Sys2Proof/Laws/Mem.lean ====
section
/-! SUPPORT. Byte memory: every operation keeps the canonical form, a read after a write gives the byte written, and a write leaves every other address alone. -/

namespace Sys2Proof.Machine

open Sys2Proof

theorem Mem.wfFrom_mono {lo hi : Nat} (h : lo ≤ hi) {m : Mem} (hm : Mem.wfFrom hi m = true) : Mem.wfFrom lo m = true := by
  cases m with
  | nil => rfl
  | cons c m => obtain ⟨k, v⟩ := c; simp [Mem.wfFrom] at hm ⊢; exact ⟨⟨by omega, hm.1.2⟩, hm.2⟩

theorem Mem.insert_wfFrom {lo a : Nat} {b : Byte} (ha : lo ≤ a) (hb : b ≠ Mem.blank) :
    ∀ {m : Mem}, Mem.wfFrom lo m = true → Mem.wfFrom lo (m.insert a b) = true := by
  intro m
  induction m generalizing lo with
  | nil => intro _; simp [Mem.insert, Mem.wfFrom, ha, hb]
  | cons c m ih =>
    obtain ⟨k, v⟩ := c
    intro hm
    simp only [Mem.wfFrom, Bool.and_eq_true, decide_eq_true_eq] at hm
    unfold Mem.insert
    split
    · rename_i h; simp [Mem.wfFrom, ha, hb, hm.1.2, hm.2]; omega
    · split
      · rename_i h; subst h; simp [Mem.wfFrom, ha, hb, hm.2]
      · simp only [Mem.wfFrom, Bool.and_eq_true, decide_eq_true_eq]; exact ⟨hm.1, ih (by omega) hm.2⟩

theorem Mem.erase_wfFrom {lo a : Nat} : ∀ {m : Mem}, Mem.wfFrom lo m = true → Mem.wfFrom lo (m.erase a) = true := by
  intro m
  induction m generalizing lo with
  | nil => intro _; rfl
  | cons c m ih =>
    obtain ⟨k, v⟩ := c
    intro hm
    simp only [Mem.wfFrom, Bool.and_eq_true, decide_eq_true_eq] at hm
    unfold Mem.erase
    split
    · exact Mem.wfFrom_mono (by omega) hm.2
    · simp only [Mem.wfFrom, Bool.and_eq_true, decide_eq_true_eq]; exact ⟨hm.1, ih hm.2⟩

/-- A write of one byte keeps the canonical form. -/
theorem Mem.write_wf {m : Mem} (a : Nat) (b : Byte) (h : m.wf = true) : (m.write a b).wf = true := by
  unfold Mem.write; split
  · exact Mem.erase_wfFrom h
  · exact Mem.insert_wfFrom (Nat.zero_le _) (by assumption) h

/-- A write of bytes keeps the canonical form. -/
theorem Mem.writeBytes_wf {m : Mem} (a : Nat) (bs : List Byte) (h : m.wf = true) : (m.writeBytes a bs).wf = true := by
  induction bs generalizing m a with
  | nil => exact h
  | cons b bs ih => exact ih _ (Mem.write_wf a b h)

theorem Mem.read_insert (m : Mem) (a k : Nat) (b : Byte) : (m.insert a b).read k = if k = a then b else m.read k := by
  by_cases hk : k = a
  · subst hk
    rw [if_pos rfl]
    induction m with
    | nil => simp [Mem.insert, Mem.read]
    | cons c m ih =>
      obtain ⟨j, v⟩ := c
      unfold Mem.insert
      split
      · simp [Mem.read]
      · split
        · simp [Mem.read]
        · rename_i _ h; rw [Mem.read, if_neg (fun e => h e.symm)]; exact ih
  · have hk' : ¬a = k := fun e => hk e.symm
    rw [if_neg hk]
    induction m with
    | nil => simp [Mem.insert, Mem.read, hk']
    | cons c m ih =>
      obtain ⟨j, v⟩ := c
      unfold Mem.insert
      split
      · simp [Mem.read, hk']
      · split
        · rename_i h; subst h; simp [Mem.read, hk']
        · simp only [Mem.read, ih]

theorem Mem.read_below {lo : Nat} {m : Mem} (h : Mem.wfFrom lo m = true) {k : Nat} (hk : k < lo) : m.read k = Mem.blank := by
  induction m generalizing lo with
  | nil => rfl
  | cons c m ih =>
    obtain ⟨j, v⟩ := c
    simp only [Mem.wfFrom, Bool.and_eq_true, decide_eq_true_eq] at h
    simp only [Mem.read]
    rw [if_neg (by omega)]
    exact ih h.2 (by omega)

theorem Mem.read_erase {lo : Nat} {m : Mem} (h : Mem.wfFrom lo m = true) (a k : Nat) : (m.erase a).read k = if k = a then Mem.blank else m.read k := by
  induction m generalizing lo with
  | nil => simp [Mem.erase, Mem.read]
  | cons c m ih =>
    obtain ⟨j, v⟩ := c
    simp only [Mem.wfFrom, Bool.and_eq_true, decide_eq_true_eq] at h
    unfold Mem.erase
    split
    · rename_i hj; subst hj
      split
      · rename_i hk; subst hk; exact Mem.read_below h.2 (Nat.lt_succ_self _)
      · simp only [Mem.read]; rw [if_neg (by omega)]
    · simp only [Mem.read, ih h.2]; split <;> split <;> simp_all

/-- A read after a write gives the byte written there, and what stood elsewhere. -/
theorem Mem.read_write {m : Mem} (h : m.wf = true) (a k : Nat) (b : Byte) : (m.write a b).read k = if k = a then b else m.read k := by
  unfold Mem.write; split
  · rename_i hb; subst hb; exact Mem.read_erase h a k
  · exact Mem.read_insert m a k b

end Sys2Proof.Machine
end

