-- ==== Sys2Proof/Tests/Slice0.lean ====
section
/-! SUPPORT. The model's own tests: for each statement, states and operands that meet the hypotheses of its clauses, with what one command does there; and one ill-formed term for each check of WellFormed.
Expected values come from the spec's worked examples and tables, or from hand calculation by its rules. -/

namespace Sys2Proof.Tests

open Sys2Proof Sys2Proof.Machine

-- One theorem after another: side by side they take more memory than a run may have.
set_option Elab.async false

/-- The command answers a next state of which the test holds. -/
def after (c : Instr) (s : State) (p : State → Bool) : Bool :=
  match exec c s with
  | .next t => p t
  | _ => false

/-- An established session of the highest role with every feature. -/
def ses : Session := { id := 7, role := .admin, gen := 3, features := BitVec.allOnes 128, lastMsg := 0 }

/-- This session holds a semaphore. -/
def held : SemHolder := { pos := 0, port := 0, session := 7, token := 5, leaseEnd := 61000000, leaseLen := 60 }

/-- A running OWNER at GT 1 s with that session on port 0, which holds every semaphore. -/
def up : State :=
  { State.reset with
    clk := { State.reset.clk with phase := .running, source := .pll, coreInReset := false, gt := 1000000 }
    pair := { State.reset.pair with role := .owner, pull := true, qualifier := true }
    ports := [{ session := some ses }, {}]
    sems := List.replicate 16 (some held) }

/-- The header of the session's next command with a payload length. -/
def hdr (n : Nat) : Hdr := { session := 7, msgSeq := 1, reqId := 1, plen := BitVec.ofNat 16 n }

/-- Command bodies that MBOX admits from the session at a state. -/
def admits (s : State) (l : List Body) : Bool := l.all fun b => admitted (hdr b.plen) b s ses

/-- An event waits at an intake port. -/
def said (t : State) (port : EvPort) (code sev : Nat) : Bool := (nth t.rec_.ports port.num).waiting.any fun e => e.event == code && e.sev == sev

/-- The last response that port 0 has sent: its bytes. -/
def answer (t : State) : List Byte := match (t.port 0).outbox.getLast? with | some m => m.body | none => []

/-- The status of the last response. -/
def status (t : State) : Nat := ((answer t).getD 2 0).toNat

/-- The state after a body of the session, by its command. -/
def told (c : Hdr → Instr) (b : Body) (s : State) (p : State → Bool) : Bool := after (c (hdr b.plen)) s p

/-! A whole configuration block that the loader accepts, so that a start-up is possible -/

/-- A directory entry. -/
def entry (kind first len mirror stride maxMs : Nat) : BitVec 64 :=
  BitVec.ofNat 64 (kind * 2 ^ 60 + first * 2 ^ 48 + len * 2 ^ 35 + mirror * 2 ^ 30 + stride * 2 ^ 22 + maxMs)
/-- A step word from its fields. -/
def stepWord (op idx cnt tgt low : Nat) (rel val tj : Bool) : BitVec 64 :=
  BitVec.ofNat 64 (op * 2 ^ 60 + flag rel * 2 ^ 59 + flag val * 2 ^ 58 + flag tj * 2 ^ 57 + idx * 2 ^ 48 + cnt * 2 ^ 44 + tgt * 2 ^ 24 + low)
/-- END. -/
def endWord (code : Nat) : BitVec 64 := stepWord 12 0 0 0 code false false false
/-- TRAY_UP program 1 with its mirror program 2, which is the leak and input-loss program too: MIRROR to the END of program 2, then END. -/
def goodSet : ProgramSet :=
  { dir := ((List.replicate 32 0).set 1 (entry 1 0 2 2 0 1000)).set 2 (entry 2 2 1 0 0 50)
    trayUp := 1, leak := 2, inputLoss := 2, accUp := List.replicate 8 255
    store := [(0, stepWord 8 1 0 2 0 false false false), (1, endWord 0), (2, endWord 0)] }
/-- Limits of one feed. -/
def goodFeed : FeedLimits := { envelope := (List.range 8).map fun k => { iA := 100 - 10 * k, tUs := 1000 + 1000 * k }, cmpCeil := 150, soaPowerCeil := 20000, soaEnergyCeil := 100, inrushMaxCeil := 100 }
/-- A configuration block of the least a tray needs. -/
def goodConfig : ConfigBlock :=
  { limits := { magic := 0x424C474C, fmt := 1, minOffFloorMs := 500, feeds := [goodFeed, goodFeed] }
    programs := goodSet
    breakers := [{ curve := goodFeed.envelope }, { curve := goodFeed.envelope }]
    cool := { levels := List.replicate 27 { warn := 700, throttle := 800, critical := 900 } }
    pTable := { settleUs := 10, fMhz := (List.range 32).map (3200 - 100 * ·), pw := List.replicate 32 1024 } }
theorem test_config_valid : goodConfig.valid = true := by decide +kernel

/-! The queue, mailboxes and semaphores (02) -/

theorem test_step_front : (match step { up with pending := [.keepalive (hdr 0)] } with | .next t => t.pending == [] && status t == 0 | _ => false) = true := by decide
theorem test_step_idle : (match step up with | .next t => t == up | _ => false) = true := by decide +kernel
theorem test_hello : (up.port 1).lockedOut up.gt = false ∧ ({ port := 1, type := 1 } : Hdr).framed 1 = true ∧ up.firmwareRuns = true ∧ up.restarting 1 = false ∧ up.ports.length = 2 ∧
    after (.hello { port := 1, type := 1, gen := 3 } 4 0 0 0 0) up (fun t => (t.port 1).handshake.any fun h => h.helloGt == 1000000 && h.gen == 3) = true := by decide
/-- Waiting for AUTH. -/
def greeted : State := { up with
  ports := [{ session := some ses, handshake := some { session := 9, gen := 3, helloGt := 999000 } }, {}]
  cfg := { State.reset.cfg with hostKeys := [{ hash := 77, role := .operate, portMask := 3, minGen := 1 }] } }
theorem test_auth : (greeted.port 0).handshake.any (fun h => greeted.gt ≤ h.helloGt + secs 5) = true ∧ greeted.keyEntry 0 77 = some 0 ∧
    after (.auth { type := 3, session := 9, msgSeq := 1 } 77 true) greeted (fun t => ((t.port 0).session.any fun se => se.id == 9 && se.role == .operate) && (t.port 0).handshake.isNone && t.sems == greeted.sems) = true := by decide +kernel
theorem test_auth_unknown_key : greeted.keyEntry 0 78 = none ∧ after (.auth { type := 3, session := 9, msgSeq := 1 } 78 true) greeted (fun t => (t.port 0).session == some ses && (t.port 0).authFails == [1000000]) = true := by decide +kernel
/-- Port 0 with everything that runs out. -/
def lapsed : State := { up with
  clk := { up.clk with gt := 70000000 }
  ports := [{ session := some ses, handshake := some { session := 9, gen := 3, helloGt := 65000000 }, lockoutEnd := some 70000000 }, {}] }
theorem test_timers : after (.handshakeTimeout 0) lapsed (fun t => (t.port 0).handshake.isNone) = true ∧ after (.authLockoutEnd 0) lapsed (fun t => (t.port 0).lockoutEnd.isNone) = true ∧
    after (.sessionIdleTimeout 0) lapsed (fun t => (t.port 0).session.isNone && t.sems == up.sems) = true := by decide +kernel
theorem test_admits_02 : admits up [.sessionInfo, .keepalive, .govInfo, .sessionClose, .eventPoll 0 1, .eventSubscribe 0xFFFF 4, .semAcquire 3 0, .semRenew 3 5, .semRelease 3 5, .semBreak 3, .semQuery,
    .logRead 0 0 1, .logLevelSet 13 3, .traceEnable 0 3, .traceRead 1, .recRead 0 0 0 1, .recClear 0, .recStatus] = true := by decide
theorem test_discard : (up.port 0).session = some ses ∧ after (.mailboxMessageReject { session := 7, msgSeq := 1, tagOk := false } 0x0101) up (fun t => (t.port 0).discards == 1) = true := by decide
theorem test_unknown_code : ses.accepts (hdr 0) = true ∧ ses.judge 1 = .new ∧ knownCode 0x7777 = false ∧ after (.mailboxMessageReject (hdr 0) 0x7777) up (fun t => status t == Status.badArg.code) = true := by decide
theorem test_batch : (up.handed (hdr 0) ses).judge 2 = .new ∧
    admittedBatch (hdr 0) [.batch 2, .cmd 3 false 0 0 2 (.logLevelSet 13 3)] up ses = true ∧
    after (.batch (hdr 0) [.batch 2, .cmd 3 false 0 0 2 (.logLevelSet 13 3)]) up (fun t => status t == 0) = true := by decide
/-- Semaphore 3 is free; 4 is another session's. -/
def semsUp : State := { up with sems := (up.sems.set 3 none).set 4 (some { held with session := 8 }) }
theorem test_sem_acquire : nth semsUp.sems 3 = none ∧ told (fun h => .semAcquire h 3 3600) (.semAcquire 3 3600) semsUp (fun t => (nth t.sems 3).any fun x => x.leaseEnd == 3601000000 && x.session == 7) = true := by decide
theorem test_sem_acquire_default : told (fun h => .semAcquire h 3 0) (.semAcquire 3 0) semsUp (fun t => (nth t.sems 3).any fun x => x.leaseEnd == 61000000) = true := by decide
theorem test_sem_acquire_3601 : told (fun h => .semAcquire h 3 3601) (.semAcquire 3 3601) semsUp (fun t => status t == Status.badArg.code && t.sems == semsUp.sems) = true := by decide
theorem test_sem_acquire_held : nth semsUp.sems 4 = some { held with session := 8 } ∧
    after (.semAcquire (hdr 4) 4 60) { semsUp with clk := { up.clk with gt := 1000500 } } (fun t => status t == Status.semaphoreHeld.code && (answer t).drop 12 == [0, 0, 0, 0] ++ i4 8 ++ i4 59999) = true := by decide
theorem test_sem_renew : after (.semRenew (hdr 12) 3 5) up (fun t => (nth t.sems 3).any fun x => x.leaseEnd == 61000000) = true ∧ after (.semRenew (hdr 12) 3 6) up (fun t => status t == Status.stateConflict.code) = true := by decide
theorem test_sem_release : after (.semRelease (hdr 12) 3 5) up (fun t => nth t.sems 3 == none) = true ∧ after (.semBreak (hdr 4) 15) up (fun t => nth t.sems 15 == none) = true := by decide +kernel
theorem test_lease_end : held.leaseEnd ≤ lapsed.gt ∧ after (.leaseEnd 15) lapsed (fun t => nth t.sems 15 == none) = true := by decide +kernel
/-- The owner with a trained mirror. -/
def mirUp : State := semsUp.onPair fun p => { p with mir := { p.mir with phase := .linkUp }, alive := true, strapsOk := some true }
theorem test_forwarded_acquire : mirUp.mirTrained = true ∧ mirUp.restarting 2 = false ∧
    after (.forwardedSemaphoreCommand 1 { session := 9, reqId := 4 } 0 (.acquire 3 3600)) mirUp (fun t => (nth t.sems 3).any fun x => x.pos == 1 && x.port == 1 && x.session == 9) = true := by decide

theorem test_carries (h : Hdr) : Carries (.keepalive h) h .keepalive := fun _ => rfl
/-- The session of port 0 stands so. -/
def sess (f : Session → Session) : State := up.onSession 0 f
theorem test_mbox_early : ({ up with clk := { up.clk with phase := .rom } } : State).firmwareRuns = false ∧
    after (.keepalive (hdr 0)) { up with comps := up.comps.set 1 { restartUntil := some 1020000 } } (fun t => (t.port 0).rxQueue == [.cmd (hdr 0) .keepalive]) = true := by decide
theorem test_mbox_sequence : ses.accepts { hdr 0 with msgSeq := 281474976710657 } = true ∧ after (.keepalive { hdr 0 with msgSeq := 281474976710657 }) up (fun t => (t.port 0).session.isNone) = true := by decide
theorem test_mbox_kept : ({ ses with cache := [{ reqId := 1, body := [7] }] }).judge 1 = .cached [7] ∧ after (.keepalive (hdr 0)) (sess fun x => { x with cache := [{ reqId := 1, body := [7] }] }) (fun t => answer t == [7]) = true ∧
    ({ ses with executing := [{ reqId := 1 }] }).judge 1 = .executing ∧ after (.keepalive (hdr 0)) (sess fun x => { x with executing := [{ reqId := 1 }] }) (fun t => (t.port 0).outbox == []) = true ∧
    ({ ses with lastReq := some 5 }).judge 1 = .outOfOrder ∧ after (.keepalive (hdr 0)) (sess fun x => { x with lastReq := some 5 }) (fun t => status t == Status.badArg.code) = true := by decide
theorem test_mbox_refusals : after (.keepalive (hdr 4)) up (fun t => status t == Status.badArg.code) = true ∧ after (.trayPowerOn (hdr 4)) { up with pair := { up.pair with role := .standby } } (fun t => status t == Status.notOwner.code) = true ∧
    after (.semQuery (hdr 0)) (sess fun x => { x with features := 0 }) (fun t => status t == Status.notNegotiated.code) = true ∧ after (.logLevelSet (hdr 4) 13 3) (sess fun x => { x with role := .read }) (fun t => status t == Status.denied.code) = true := by decide +kernel
theorem test_batch_stop : after (.batch (hdr 0) [.unknown 2 0x7777, .cmd 3 false 0 0 0 .keepalive]) up (fun t => ((answer t).drop 12).take 3 == [0x77, 0x77, 5] && ((answer t).drop 24).take 3 == [2, 0, 14]) = true ∧
    after (.batch { hdr 0 with auto := true } [.unknown 2 0x7777, .cmd 3 false 0 0 0 .keepalive]) up (fun t => ((answer t).drop 24).take 3 == [2, 0, 0]) = true := by decide
/-- The partner owns the pair. -/
def standbyMir : State := { mirUp with pair := { mirUp.pair with role := .standby } }
theorem test_sem_standby : admitted (hdr 4) (.semAcquire 3 60) standbyMir ses = true ∧ after (.semAcquire (hdr 4) 3 60) standbyMir (fun t => t.pair.out.length == mirUp.pair.out.length + 1 && t.sems == mirUp.sems && (t.port 0).outbox == []) = true := by decide
theorem test_sem_other_key : ({ held with keyHash := 9 } : SemHolder).keyHash ≠ ses.keyHash ∧ after (.semRenew (hdr 12) 3 5) { up with sems := up.sems.set 3 (some { held with keyHash := 9 }) } (fun t => status t == Status.denied.code) = true := by decide
/-! Clocks, resets and start-up (03, 01, 19) -/

/-- The AON supplies are below their threshold. -/
def unpowered : State := { up with sup := { aonGood := false } }
theorem test_power_on_reset : after (.powerOnReset 661 1551) unpowered (fun t => t.sup.aonGood && t.clk == State.reset.clk) = true ∧
    after (.powerOnReset 660 2100) unpowered (fun t => !t.sup.aonGood && t.sup.vddioAon == 2100) = true := by decide
theorem test_brown_out : after (.brownOut 639 2000 1) up (fun t => !t.sup.aonGood && t.clk == State.reset.clk && t.ports == State.reset.ports) = true ∧ after (.brownOut 639 2000 0) up (fun t => t == up) = true := by decide +kernel
theorem test_beyond_ratings : (match exec (.powerOnReset 901 0) up, exec (.brownOut 0 2101 5) up with | .fault .beyondRatings, .fault .beyondRatings => true | _, _ => false) = true := by decide
/-- The AON supplies are good and the power-on reset holds. -/
def powered : State := { State.reset with sup := { aonGood := true } }
theorem test_release : powered.clk.phase = .porHeld ∧ after (.powerOnResetRelease (List.replicate 8 176 ++ List.replicate 7 0)) powered (fun t => t.straps == { slotId := 5, pairSel := true } && t.clk.phase == .waitClock && t.sec.bootCount == 1) = true := by decide
/-- The clock may make its first move. -/
def waiting : State := { powered with clk := { powered.clk with phase := .waitClock } }
theorem test_first_move : waiting.clk.source = .oscInt ∧ waiting.sage.everLocked = false ∧ waiting.clk.tempLost = false ∧ after .clockFirstMove waiting (fun t => t.clk.source == .pll && t.clk.phase == .rom && !t.clk.coreInReset) = true := by decide
/-- RESET_N low at the core's release. -/
def resetLow : State := { waiting with clk := { waiting.clk with resetNLow := true } }
theorem test_reset_n : after .clockFirstMove resetLow (fun t => t.clk.phase == .resetHeld && t.clk.coreInReset) = true ∧
    after .resetNRelease { resetLow with clk := { resetLow.clk with phase := .resetHeld } } (fun t => t.clk.phase == .rom) = true := by decide
/-- The partner toggles ALIVE, before the first lock. -/
def beforeLock : State := { waiting with pair := { waiting.pair with aliveIn := some 0 } }
theorem test_shadow_pull : beforeLock.aliveInRecent = true ∧ after (.shadowResetPull 0) beforeLock (fun t => t.pins.shadowLatch == shadowNets) = true := by decide
/-- Every reason for a warm reset is given. -/
def dueReset : State := { up with clk := { up.clk with recoveryAt := some 1000000, resetLows := 2 }, upd := { up.upd with resetDue := true } }
theorem test_warm_reset : dueReset.coreClocked = true ∧ after (.warmReset .resetN) dueReset (fun t => t.clk.phase == .resetHeld && t.sems == up.sems && t.pair.role == .undecided) = true := by decide +kernel
theorem test_warm_reset_due : after (.warmReset .bootRecovery) dueReset (fun t => t.clk.phase == .rom && t.ports == [{}, {}]) = true ∧ after (.warmReset .activation) dueReset (fun t => t.clk.phase == .rom && t.sec.bootCount == 1) = true := by decide +kernel
theorem test_reset_n_unclocked : waiting.coreClocked = false ∧ after (.warmReset .resetN) { waiting with clk := { waiting.clk with resetLows := 2 } } (fun t => t.clk.resetNLow && t.clk.phase == .waitClock && said t .fp0 0x0C20 1) = true ∧
    after (.warmReset .resetN) { powered with clk := { powered.clk with resetLows := 2 } } (fun t => t.clk.resetNLow && t.clk.phase == .porHeld && !said t .fp0 0x0C20 1) = true ∧ after (.warmReset .resetN) waiting (fun t => t == waiting) = true := by decide +kernel
/-- The limit block has been locked and the governor is alone. -/
def lockedUp : State := up.onSage fun g => { g with locked := true, everLocked := true, branches := 0xFFF#12 }
theorem test_refclk_loss : lockedUp.aliveInRecent = false ∧ after (.refclkLoss false) lockedUp (fun t => t.clk.source == .oscInt && t.sage.branches &&& 0xDFF#12 == 0 && t.thyme.latchFault) = true := by decide +kernel
theorem test_refclk_loss_alive : (lockedUp.onPair fun p => { p with aliveIn := some 999992 }).aliveInRecent = true ∧
    after (.refclkLoss true) (lockedUp.onPair fun p => { p with aliveIn := some 999992 }) (fun t => t.pair.role == .undecided && t.sage.branches == 0xFFF#12) = true := by decide +kernel
theorem test_refclk_return : after .refclkReturn { lockedUp with clk := { lockedUp.clk with source := .oscInt, lossGt := some 1 } } (fun t => t.clk.source == .pll && t.ports == [{}, {}]) = true := by decide +kernel
theorem test_on_die_temp : after (.onDieTempRead 115) { up with clk := { up.clk with hotReadings := 9 } } (fun t => t.clk.tempLost && t.clk.tempAdvisory && t.clk.source == .oscInt) = true ∧
    after (.onDieTempRead 94) { up with clk := { up.clk with hotReadings := 9, tempAdvisory := true } } (fun t => !t.clk.tempAdvisory && t.clk.hotReadings == 0) = true := by decide +kernel
theorem test_component_fault : up.comps.length = 14 ∧ up.procs.length = 4 ∧ up.restarting 13 = false ∧ after (.componentFault 13 1 0) up (fun t => (nth t.comps 13).restartUntil == some 1020000) = true := by decide +kernel
/-- Component 1 faulted 10 s ago; component 2 and processor 3 restart. -/
def faulted : State := { up with
  clk := { up.clk with gt := 11000000 }
  comps := ((List.replicate 14 {}).set 1 { lastFault := some 1000000 }).set 2 { restartUntil := some 11000000 }
  procs := [{}, { restarts := [1, 2] }, {}, { restartUntil := some 11000000 }] }
theorem test_second_fault : after (.componentWatchdogExpiry 1) faulted (fun t => (nth t.procs (procOf 1)).trigger == 2) = true := by decide +kernel
theorem test_processor_watchdog : after (.processorWatchdogExpiry 0) faulted (fun t => (nth t.procs 0).restartUntil == some 11150000) = true ∧
    after (.processorWatchdogExpiry 1) faulted (fun t => t.clk.warmInProgress && t.ports == [{}, {}]) = true := by decide +kernel
theorem test_restarts_end : after (.componentRestartComplete 2) faulted (fun t => (nth t.comps 2).restartUntil.isNone && (nth t.comps 2).lastService == 11000000) = true ∧
    after (.processorRestartComplete 3) faulted (fun t => (nth t.procs 3).restartUntil.isNone) = true := by decide +kernel

/-! Secure start, identity and the recovery loader (04) -/

/-- An image that verifies for a place of a type. -/
def goodImage (type : Nat) : ObjectImage := { man := { magic := 0x464D474C, fmt := 1, type := type, version := 2, floor := 1, nblocks := 1, vendorKeyOk := true, vendorSigOk := true, digest := 11 }, blocksOk := [true], imageOk := true }
/-- A bootable place with a generation. -/
def place (type gen : Nat) : Slot := (Slot.written (goodImage type) gen).validated
/-- The flash of a governor that can boot: loader copy 1 and slot 1 are the newest. -/
def flashed : State := { powered with
  clk := { powered.clk with phase := .rom, source := .pll, coreInReset := false }
  sec := { powered.sec with
    anchors := [{ valid := true, gen := 1, cfgDigest := 11 }, {}], loaders := [place 2 1, place 2 2], slots := [place 1 3, place 1 4]
    cfgCopies := [{ obj := goodImage 3, cfg := goodConfig }, { obj := goodImage 3, cfg := goodConfig }] } }
theorem test_rom_modes : after (.romBoot (List.replicate 15 6)) { flashed with clk := { flashed.clk with porBoot := false } } (fun t => t.clk.phase == .halted) = true ∧
    after (.romBoot (List.replicate 15 4)) flashed (fun t => t.clk.phase == .scan) = true ∧ after (.romBoot []) { flashed with clk := { flashed.clk with strapsNew := true }, straps := { bootMode := 3 } } (fun t => t.clk.phase == .recovery) = true := by decide +kernel
theorem test_rom_loader : adoptedHeader flashed.sec.anchors = some 0 ∧ (({ flashed with sec := { flashed.sec with anchor := some 0 } } : State).selectPlace flashed.sec.loaders 2 none).1 = some 1 ∧
    after (.romBoot (List.replicate 15 0)) flashed (fun t => t.clk.phase == .loader && t.sec.runningLoader == some 1) = true := by decide +kernel
/-- The resident loader of copy 1 runs. -/
def loading : State := { flashed with clk := { flashed.clk with phase := .loader }, sec := { flashed.sec with anchor := some 0, runningLoader := some 1 } }
theorem test_loader : loading.configCopy = some 0 ∧ loading.sec.cfgStaging = none ∧ loading.sec.anchorStaging = none ∧ (loading.selectPlace loading.sec.slots 1 loading.straps.forced).1 = some 1 ∧
    (nth loading.sec.slots 1).obj.man.floor ≤ loading.anchor.minVersion + 1 := by decide +kernel
theorem test_loader_runs : after .residentLoaderRun { loading with sec := { loading.sec with anchors := [{ valid := true, gen := 1, cfgDigest := 11, minVersion := 1 }, {}] } }
    (fun t => t.clk.phase == .handoff && t.sec.runningSlot == some 1 && t.sage.locked) = true := by decide +kernel
theorem test_loader_no_block : ({ loading with sec := { loading.sec with cfgCopies := [] } } : State).configCopy = none ∧ loading.clk.porBoot = true ∧
    after .residentLoaderRun { loading with sec := { loading.sec with cfgCopies := [] } } (fun t => t.clk.phase == .recovery && t.sage.locked) = true := by decide +kernel
theorem test_handoff : after .handoffAcceptance { loading with clk := { loading.clk with phase := .handoff }, sec := { loading.sec with runningSlot := some 1 } } (fun t => t.clk.phase == .starting && t.pair.mirTrainGt == some 0) = true := by decide +kernel
/-- Starting, undecided, 100 ms after MIR began to train. -/
def starting : State := { up with
  clk := { up.clk with phase := .starting, gt := 100000 }, pair := { role := .undecided, mirTrainGt := some 0 }, sage := { up.sage with locked := true }, thyme := { up.thyme with loaded := true }
  ledger := { up.ledger with begun := true } }
theorem test_alone : starting.firmwareRuns = true ∧ after .aloneDecision starting (fun t => t.pair.alone) = true := by decide
theorem test_standby : (List.range 14).all (fun k => !starting.restarting k) = true ∧ starting.thyme.tray = .off ∧ starting.thyme.autoOn = false ∧
    after .standbyEntry { starting with pair := { starting.pair with role := .owner } } (fun t => t.clk.phase == .running && t.thyme.tray == .standby) = true := by decide +kernel
theorem test_admits_04 : admits up [.attest 9, .certChainRead 2, .bootStatus, .customerKeyEnroll 0 5 false, .customerKeyEnrollRemove 0 true, .debugStatus, .debugUnlock 0x5444474C 0 0 7 86400 {}, .debugLock, .bootRecovery] = true := by decide
theorem test_enrol : told (fun h => .customerKeyEnroll h 0 5 false) (.customerKeyEnroll 0 5 false) up (fun t => status t == Status.accepted.code && t.sec.anchorStaging == some (0, .enrol 5)) = true := by decide +kernel
theorem test_remove_unenrolled : told (fun h => .customerKeyEnrollRemove h 0 true) (.customerKeyEnrollRemove 0 true) up (fun t => status t == Status.integrityFail.code && t.sec.anchorStaging == none) = true := by decide +kernel
/-- A challenge is in force, and debug access is open. -/
def challenged : State := { up with sec := { up.sec with serial := 3, unlock := { scope := 1, lockAt := some 1000000, challenge := some 8 } } }
theorem test_unlock : told (fun h => .debugUnlock h 0x5444474C 3 8 7 86400 { custOk := false }) (.debugUnlock 0x5444474C 3 8 7 86400 { custOk := false }) challenged (fun t => status t == 0 && t.sec.unlock.scope == 7 && t.sec.unlock.lockAt == some 86401000000) = true ∧
    told (fun h => .debugUnlock h 0x5444474C 3 9 7 1 {}) (.debugUnlock 0x5444474C 3 9 7 1 {}) challenged (fun t => status t == Status.integrityFail.code && t.sec.unlock.challenge == none) = true := by decide +kernel
theorem test_lock : told (fun h => .debugLock h) .debugLock challenged (fun t => t.sec.unlock.scope == 0) = true ∧ after .debugDurationEnd challenged (fun t => t.sec.unlock.scope == 0) = true := by decide +kernel
theorem test_boot_recovery : told (fun h => .bootRecovery h) .bootRecovery up (fun t => status t == Status.accepted.code && t.clk.recoveryAt == some 1001000) = true ∧
    told (fun h => .bootRecovery h) .bootRecovery lockedUp (fun t => status t == Status.stateConflict.code) = true := by decide +kernel
/-- The recovery loader, with a transfer of a manifest of 512 bytes and 64 KiB of blocks to slot 0. -/
def recovering : State := { flashed with clk := { flashed.clk with phase := .recovery }, sec := { flashed.sec with anchor := some 0, recov := { lastSeq := some 1, transfer := some { target := 2, manLen := 512, objLen := 65536 } } } }
theorem test_recov_frames : after (.recovInfo { seq := 2, crcOk := false }) recovering (fun t => t == recovering) = true ∧ after (.recovBoot { seq := 1 }) recovering (fun t => t.sec.recov.sent == [recovering.sec.recov.lastReply] && t.clk.phase == .recovery) = true := by decide +kernel
theorem test_recov_begin : recovSpace 4 < 2 ^ 32 ∧ after (.recovBegin { seq := 2, len := 12 } 1 65536 65536) recovering (fun t => t.sec.recov.transfer == some { target := 1, manLen := 65536, objLen := 65536 }) = true := by decide +kernel
theorem test_recov_data : after (.recovData { seq := 2, len := 5 } 65536 1 {}) recovering (fun t => t.sec.recov.lastReply.nak == some .stateConflict) = true ∧
    after (.recovData { seq := 2, len := 515 } 1 511 {}) recovering (fun t => t.sec.recov.transfer.any fun x => x.ranges == [(1, 512)]) = true := by decide +kernel
theorem test_recov_commit : ({ target := 2, manLen := 512, objLen := 65536, verified := true, ranges := [(0, 512), (65536, 131072)], man := (goodImage 1).man } : RecoveryTransfer).whole = true ∧
    after (.recovCommit { seq := 2 } (.image (goodImage 1))) { recovering with sec := { recovering.sec with recov := { transfer := some { target := 2, manLen := 512, objLen := 65536, verified := true, ranges := [(0, 512), (65536, 131072)], man := (goodImage 1).man } } } }
      (fun t => nth t.sec.slots 0 == place 1 5) = true := by decide +kernel
theorem test_recov_boot : after (.recovBoot { seq := 2 }) recovering (fun t => t.clk.phase == .rom && t.clk.warmInProgress) = true ∧ after (.recovInfo { seq := 2 }) recovering (fun t => t.sec.recov.lastSeq == some 2) = true := by decide +kernel

/-! Input feeds (05) -/

/-- Feed 0 as given, feed 1 in ON. -/
def fed (f : Feed) : State := { up with feed := { up.feed with feeds := [f, { phase := .on, onReleased := true }] } }
/-- The same with feed 1 off and the demand set. -/
def lone (f : Feed) : State := { fed f with feed := { (fed f).feed with feeds := [f, {}], demand := true } }
theorem test_soa_trip : after (.soaTrip 0) (fed { phase := .inrush, due := 4, onReleased := true }) (fun t => (t.feedAt 0).phase == .backoff && (t.feedAt 0).backoffEnd == 11000000 && (t.feedAt 0).fastOff && !(t.feedAt 0).onReleased) = true := by decide +kernel
theorem test_inrush_timeout : after (.inrushTimeout 0) (fed { phase := .inrush, smallDrop := 3, inrushGt := 980000 }) (fun t => (t.feedAt 0).phase == .backoff) = true := by decide +kernel
theorem test_fourth_trip : after (.feedCurveTrip 0) (lone { phase := .on, due := 1, retries := [999999, 999998, 1] }) (fun t => (t.feedAt 0).phase == .lockout && t.thyme.latchFault && t.sage.accReset == 0) = true := by decide +kernel
theorem test_comparator : after (.feedComparatorTrip { feed := 0, mv := 1 }) (fed { phase := .on, onReleased := true, armed := true }) (fun t => (t.feedAt 0).onReleased && (t.feedAt 0).trips == 1 && t.upd.lastBreaker == some 1000000) = true := by decide +kernel
theorem test_feed_sample : lockedUp.sage.everLocked = true ∧ after (.feedSample 0 4095 0 2048) { fed {} with sage := lockedUp.sage } (fun t => (t.feedAt 0).vinMv == voltOf 4095 1000) = true := by decide +kernel
theorem test_inrush_end : after (.inrushEnd 0) (fed { phase := .inrush, smallDrop := 4 }) (fun t => (t.feedAt 0).phase == .on && (t.feedAt 0).cleanSince == 1000000) = true := by decide +kernel
theorem test_backoff_end : after (.backoffEnd 0) (lone { phase := .backoff, backoffEnd := 1000000, fastOff := true }) (fun t => (t.feedAt 0).phase == .inrush && !(t.feedAt 0).fastOff) = true ∧
    after (.backoffEnd 0) (lone { phase := .backoff, backoffEnd := 1000000, inputLost := true }) (fun t => (t.feedAt 0).phase == .lost) = true := by decide +kernel
theorem test_feed_loss : after (.feedLoss 0) (fed { phase := .on, lossRun := 16, onReleased := true }) (fun t => (t.feedAt 0).phase == .lost && !(t.feedAt 0).onReleased) = true := by decide +kernel
theorem test_reverse : after (.reverseCurrentOpen 0) (fed { phase := .on, reverseRun := 4, onReleased := true }) (fun t => (t.feedAt 0).phase == .lost && (t.feedAt 0).fastOff) = true := by decide +kernel
theorem test_feed_return : after (.feedReturn 0) (lone { phase := .lost, inputLost := true, inRangeSince := some 0 }) (fun t => (t.feedAt 0).phase == .inrush && (t.feedAt 0).onReleased) = true := by decide +kernel
/-- An unresolved trip record of feed 0, clean for 60 s. -/
def clean : State := { fed { phase := .on } with clk := { up.clk with gt := 60000000 }, feed := { (fed { phase := .on }).feed with trips := (List.replicate 64 none).set 0 (some { feed := 0 }) } }
theorem test_resolved : (clean.feed.present.any fun p => p.2.feed == 0 && p.2.status == .unresolved) = true ∧ after (.tripRecordResolved 0) clean (fun t => t.feed.present.all fun p => p.2.status != .unresolved) = true := by decide +kernel
theorem test_share : up.feed.shareGt + 100 ≤ up.gt ∧ after .shareUpdate up (fun t => t.feed.shareGt == 1000000 && t.feed.share == 0) = true := by decide +kernel
theorem test_imbalance : after (.shareImbalance 0) { up with feed := { up.feed with imbalanceSince := some 0 } } (fun t => t.feed.imbalanceSaid) = true := by decide +kernel
/-- The power-down program of an input loss runs and both bus voltages are low. -/
def lowBus : State := { up with
  feed := { up.feed with inputLoss := true, feeds := [{ lowBusRun := 4 }, { lowBusRun := 4 }] }
  thyme := { up.thyme with tray := .poweringDown, set := goodSet, ctxs := up.thyme.ctxs.set 0 { prog := some 2 } }, sage := { up.sage with branches := 0xFFF#12 } }
theorem test_low_bus : lowBus.thyme.reported = .poweringDown ∧ lowBus.runKind 0 = 2 ∧ after .lowBusImmediateOff lowBus (fun t => t.sage.branches &&& 0xDFF#12 == 0) = true := by decide +kernel
theorem test_admits_05 : admits up [.feedStatus, .feedSwitchForceOff 1, .feedSwitchAuto 1, .breakerCurveWrite 0 600 150 goodFeed.envelope, .breakerCurveRead 1, .feedLockoutClear 1, .tripRecordsRead 0 15] = true := by decide
theorem test_force_off : told (fun h => .feedSwitchForceOff h 1) (.feedSwitchForceOff 1) (fed {}) (fun t => (t.feedAt 1).phase == .off && (t.feedAt 1).forced) = true ∧
    told (fun h => .feedSwitchForceOff h 1) (.feedSwitchForceOff 1) { fed {} with thyme := { up.thyme with tray := .on } } (fun t => status t == Status.stateConflict.code) = true := by decide +kernel
theorem test_curve_write : validCurve goodFeed.envelope = true ∧ told (fun h => .breakerCurveWrite h 0 600 150 goodFeed.envelope) (.breakerCurveWrite 0 600 150 goodFeed.envelope) (up.onSage fun g => { g with limits := goodConfig.limits })
    (fun t => (t.feedAt 0).breaker == { curve := goodFeed.envelope, backoffS := 600, cmpA := 150 }) = true := by decide +kernel
theorem test_lockout_clear : told (fun h => .feedLockoutClear h 0) (.feedLockoutClear 0) (fed { phase := .lockout, retries := [1, 2, 3] }) (fun t => (t.feedAt 0).phase == .backoff && (t.feedAt 0).retries == []) = true := by decide +kernel

/-! Thyme (06) -/

/-- USER program 5 in context T holds these steps; ACC_UP program 6 and its mirror 7 have one step each. -/
def thySet (ws : List (BitVec 64)) : ProgramSet :=
  { dir := (((List.replicate 32 0).set 5 (entry 6 0 ws.length 0 0 1)).set 6 (entry 3 100 1 7 0 1000)).set 7 (entry 4 110 1 0 0 1000)
    trayUp := 1, leak := 2, inputLoss := 2, accUp := List.replicate 8 6
    store := (ws.mapIdx fun i w => (i, w)) ++ [(100, endWord 0), (110, endWord 0)] }
/-- Context T may start step 0 of that program. -/
def thy (ws : List (BitVec 64)) : State := { up with
  thyme := { up.thyme with tray := .on, set := thySet ws, ctxs := up.thyme.ctxs.set 0 { prog := some 5, progTick := 999000 } }
  sage := { up.sage with limits := { up.sage.limits with permit := List.replicate 32 (BitVec.allOnes 256) } } }
/-- Context T stands in step 0, started at a tick. -/
def inStep (ws : List (BitVec 64)) (g : Nat) : State := { thy ws with thyme := { (thy ws).thyme with ctxs := up.thyme.ctxs.set 0 { prog := some 5, inStep := true, stepTick := g, progTick := 999000 } } }
/-- The next step of context T. -/
def at_ (n : Nat) (t : State) : Bool := (t.ctx 0).idx == n && !(t.ctx 0).inStep && (t.ctx 0).stepTick == 1000001
theorem test_wait : (thy [stepWord 3 0 0 0 1 false false false]).mayStart 0 3 = true ∧ (thy [stepWord 3 0 0 0 1 false false false]).cut 0 = false ∧ after (.wait 0) (thy [stepWord 3 0 0 0 1 false false false]) (at_ 1) = true ∧
    after (.wait 0) (thy [stepWord 3 0 0 0 2 false false false]) (fun t => (t.ctx 0).inStep) = true := by decide +kernel
theorem test_wait_expiry : (inStep [stepWord 3 0 0 0 2 false false false] 999999).waits 0 3 = true ∧ after (.waitExpiry 0) (inStep [stepWord 3 0 0 0 2 false false false] 999999) (at_ 1) = true := by decide +kernel
/-- WAITFOR both feeds in ON, not so here, with a timeout of 10 µs that jumps or aborts. -/
def waitBoth (tj : Bool) : List (BitVec 64) := [stepWord 4 5 0 3 10 false false tj]
theorem test_waitfor : (thy (waitBoth true)).cond 0 = false ∧ after (.waitfor 0) (thy (waitBoth true)) (fun t => (t.ctx 0).inStep) = true ∧ after (.waitfor 0) (thy [stepWord 4 0 0 0 1 false false false]) (at_ 1) = true := by decide +kernel
theorem test_waitfor_met : (inStep [stepWord 4 0 0 0 10 false false false] 999990).cond 0 = true ∧ after (.waitforConditionMet 0) (inStep [stepWord 4 0 0 0 10 false false false] 999990) (at_ 1) = true := by decide +kernel
theorem test_waitfor_timeout : after (.waitforTimeout 0) (inStep (waitBoth true) 999990) (at_ 3) = true ∧ after (.waitforTimeout 0) (inStep (waitBoth false) 999990) (fun t => (t.ctx 0).abortCause == 2) = true := by decide +kernel
theorem test_check : after (.check 0) (thy [stepWord 5 0 0 0 0 false false false]) (at_ 1) = true ∧ after (.check 0) (thy [stepWord 5 5 0 3 0 false false true]) (at_ 3) = true ∧
    after (.check 0) (thy [stepWord 5 5 0 3 0 false false false]) (fun t => (t.ctx 0).abortCause == 3) = true := by decide +kernel
theorem test_jump : after (.jump 0) (thy [stepWord 6 0 0 7 0 false false false]) (at_ 7) = true ∧ after (.jump 0) (thy [stepWord 6 0 0 7 0 false true false]) (at_ 1) = true := by decide +kernel
theorem test_call : after (.call 0) (thy [stepWord 7 6 0 0 0 false false false]) (fun t => at_ 100 t && (t.ctx 0).ret == some 1) = true := by decide +kernel
theorem test_mirror_event : after (.mirror 0) (thy [stepWord 8 9 0 5 0 false false false]) (fun t => at_ 1 t && (t.ctx 0).mark == some (9, 5)) = true ∧
    after (.event 0) (thy [stepWord 10 0x80 0 0 0 false true false]) (fun t => at_ 1 t && said t .thyme 0x0280 1) = true := by decide +kernel
/-- ENABLE of branches 0 and 1. -/
def enableBranches (on : Bool) : List (BitVec 64) := [stepWord 1 0 1 0 0 false on false ||| 0x0100000000000000]
theorem test_enable : enableTargets (enableBranches true).head!.toNat 0 0 = [.branch 0, .branch 1] ∧ after (.enable 0) (thy (enableBranches true)) (fun t => at_ 1 t && t.sage.branches == 3) = true := by decide +kernel
theorem test_enable_not_permitted : after (.enable 0) { thy (enableBranches true) with sage := up.sage } (fun t => (t.ctx 0).abortCause == 6) = true := by decide +kernel
/-- Rail 4 stands on PMBus 3 with a highest setpoint of 900 mV. -/
def onBus (s : State) : State := s.onSage fun g => { g with
  rails := g.rails.set 4 { map := { ctrl := 1, en := 9, addr := 0x20, pgSrc := 255 } }, limits := { g.limits with rails := g.limits.rails.set 4 { vsetMax := 900 } } }
theorem test_vset : after (.vset 0) (onBus (thy [stepWord 2 4 0 0 1000 false true false])) (fun t => (t.rail 4).nominal == some 900 && (t.ctx 0).inStep && (t.ctx 0).busWait == [4]) = true := by decide +kernel
theorem test_pg : after (.pg 0) (thy [stepWord 9 8 0 0 5 false true false]) (fun t => t.thyme.trayPg && at_ 1 t) = true ∧
    after (.pg 0) { thy [stepWord 9 8 0 0 0 false false false] with thyme := { (thy [stepWord 9 8 0 0 0 false false false]).thyme with trayPg := true } } (fun t => !t.thyme.trayPg) = true := by decide +kernel
/-- A tray rail of TRAY_PG's scope whose fault filter runs. -/
def blocked (s : State) : State := s.onSage fun g => { g with rails := g.rails.set 4 { map := { ctrl := 1, trayRail := true }, granted := true, uvArmed := true, ovF := 1 } }
theorem test_pg_waits : (blocked (thy [stepWord 9 8 0 0 5 false true false])).pgBlocker 8 = some 4 ∧ after (.pg 0) (blocked (thy [stepWord 9 8 0 0 5 false true false])) (fun t => (t.ctx 0).inStep && !t.thyme.trayPg) = true := by decide +kernel
theorem test_pg_qualified : after (.pgAssertQualified 0) (inStep [stepWord 9 8 0 0 5 false true false] 999995) (fun t => t.thyme.trayPg && at_ 1 t) = true ∧
    after (.pgTimeout 0) (blocked (inStep [stepWord 9 8 0 0 5 false true false] 999995)) (fun t => (t.ctx 0).abortCause == 4) = true := by decide +kernel
/-- LAUNCH of accelerators 2 and 7, 100 µs apart. -/
def launch27 : List (BitVec 64) := [BitVec.ofNat 64 (11 * 2 ^ 60 + 2 ^ 42 + 2 ^ 47 + 100)]
theorem test_launch : (indices 8 fun n => bit launch27.head!.toNat (40 + n) && (thy launch27).eligible false n) = [2, 7] ∧
    after (.launch 0) (thy launch27) (fun t => (t.ctx 3).prog == some 6 && (t.ctx 0).launches == [(7, 1000100)]) = true := by decide +kernel
theorem test_launch_turn : after (.launchTurn 7) { inStep launch27 999900 with thyme := { (inStep launch27 999900).thyme with ctxs := (inStep launch27 999900).thyme.ctxs.set 0 { prog := some 5, inStep := true, stepTick := 999900, launches := [(7, 1000000)] } } }
    (fun t => (t.ctx 8).prog == some 6 && at_ 1 t) = true := by decide +kernel
theorem test_end : (thy [endWord 0]).mayStart 0 12 = true ∧ after (.endStep 0) (thy [endWord 0]) (fun t => (t.ctx 0).prog.isNone) = true := by decide +kernel
/-- A context stands at the END of a program. -/
def atEnd (k p : Nat) (set : ProgramSet) (tray : TrayState) : State := { up with thyme := { up.thyme with tray := tray, set := set, ctxs := up.thyme.ctxs.set k { prog := some p, idx := set.first p + set.len p - 1 } } }
theorem test_end_tray : after (.endStep 0) (atEnd 0 1 goodSet .poweringUp) (fun t => t.thyme.tray == .on) = true ∧ after (.endStep 0) (atEnd 0 2 goodSet .poweringDown) (fun t => t.thyme.minOffEnd == some 3000000 && !t.feed.demand) = true := by decide +kernel
theorem test_end_acc : after (.endStep 8) (atEnd 8 6 (thySet []) .on) (fun t => t.acc 7 == .on) = true ∧ after (.endStep 8) (atEnd 8 7 (thySet []) .on) (fun t => t.acc 7 == .off) = true := by decide +kernel
theorem test_abort : after (.abort 0) (thy [stepWord 13 77 0 0 0 false false false]) (fun t => (t.ctx 0).abortCause == 8 && (t.ctx 0).abortCode == 77) = true ∧ after (.programTimeExpiry 0) (thy [stepWord 3 0 0 0 9 false false false]) (fun t => (t.ctx 0).abortCause == 7) = true ∧
    (thy [endWord 0]).endDue 0 = true ∧ after (.programTimeExpiry 0) (thy [endWord 0]) (fun t => t == thy [endWord 0]) = true := by decide +kernel
/-- Both minimum off-times end, with a pending on of accelerator 7. -/
def minOff : State := { up with thyme := { up.thyme with tray := .poweringDown, minOffEnd := some 1000000, accMinOffEnd := up.thyme.accMinOffEnd.set 7 (some 1000000), ctxs := up.thyme.ctxs.set 8 { pendOn := true } } }
theorem test_min_off : after .minOffTimeEnd minOff (fun t => t.thyme.tray == .standby && t.thyme.requests == []) = true ∧ after (.accMinOffTimeEnd 7) minOff (fun t => t.thyme.requests == [(.accOn 7, 1000001)]) = true ∧
    after .minOffTimeEnd { minOff with thyme := { minOff.thyme with ctxs := minOff.thyme.ctxs.set 0 { pendOn := true } } } (fun t => t.thyme.requests == [(.trayOn, 1000001)]) = true := by decide +kernel
theorem test_admits_06 : admits up [.trayPowerOn, .trayPowerOff, .accPowerOn 7, .accPowerOff 7, .accPowerReset 7, .seqStatus, .seqProgramLoadBegin, .seqProgramLoadData 33279 [0], .seqProgramLoadCommit, .seqStart 5, .trayFaultClear, .accFaultClear 7, .restartPolicySet 1, .modeSetOn, .modeSetMaintenance] = true := by decide
/-- The tray in a state with a program set. -/
def tray (x : TrayState) (set : ProgramSet) : State := { up with thyme := { up.thyme with tray := x, set := set } }
theorem test_tray_on : told (fun h => .trayPowerOn h) .trayPowerOn (tray .standby goodSet) (fun t => status t == Status.accepted.code && t.thyme.requests == [(.trayOn, 1000001)]) = true ∧
    told (fun h => .trayPowerOn h) .trayPowerOn (tray .off goodSet) (fun t => status t == Status.stateConflict.code) = true := by decide +kernel
theorem test_tray_off : told (fun h => .trayPowerOff h) .trayPowerOff (tray .on goodSet) (fun t => status t == Status.accepted.code && t.thyme.requests == [(.trayOff, 1000001)]) = true := by decide +kernel
theorem test_acc_on_off : told (fun h => .accPowerOn h 7) (.accPowerOn 7) (tray .on (thySet [])) (fun t => t.thyme.requests == [(.accOn 7, 1000001)]) = true ∧
    told (fun h => .accPowerOff h 7) (.accPowerOff 7) { tray .on (thySet []) with thyme := { (tray .on (thySet [])).thyme with accs := List.replicate 8 .on } } (fun t => t.thyme.requests == [(.accOff 7, 1000001)]) = true := by decide +kernel
/-- Accelerator 7 is on. -/
def acc7 : State := { tray .on (thySet []) with thyme := { (tray .on (thySet [])).thyme with accs := up.thyme.accs.set 7 .on }, sage := { up.sage with accReset := 0x80 } }
theorem test_acc_reset : told (fun h => .accPowerReset h 7) (.accPowerReset 7) acc7 (fun t => t.sage.accReset == 0 && nth t.thyme.resetAction 7 == some (1001000, 0)) = true := by decide +kernel
theorem test_acc_reset_release : after (.accResetRelease 7) { acc7 with thyme := { acc7.thyme with resetAction := acc7.thyme.resetAction.set 7 (some (1000000, 0)) }, sage := up.sage } (fun t => t.sage.accReset == 0x80 && said t .fp1 0x020A 0) = true := by decide +kernel
theorem test_request_tray : after (.powerRequestTakeEffect .trayOn) { tray .standby goodSet with thyme := { (tray .standby goodSet).thyme with requests := [(.trayOn, 1000000)] } }
    (fun t => (t.ctx 0).prog == some 1 && t.thyme.tray == .poweringUp && t.feed.demand) = true := by decide +kernel
theorem test_request_acc : after (.powerRequestTakeEffect (.accOn 7)) { tray .on (thySet []) with thyme := { (tray .on (thySet [])).thyme with requests := [(.accOn 7, 1000000)] } } (fun t => (t.ctx 8).prog == some 6 && t.acc 7 == .up) = true := by decide +kernel
theorem test_seq_load : told (fun h => .seqProgramLoadBegin h) .seqProgramLoadBegin up (fun t => t.thyme.staging == some []) = true ∧
    told (fun h => .seqProgramLoadData h 512 [9, 8]) (.seqProgramLoadData 512 [9, 8]) { up with thyme := { up.thyme with staging := some [] } } (fun t => t.thyme.staging.any fun m => m.num 512 2 == 0x0809) = true := by decide +kernel
theorem test_seq_commit : told (fun h => .seqProgramLoadCommit h) .seqProgramLoadCommit up (fun t => status t == Status.stateConflict.code && t.thyme == up.thyme) = true := by decide +kernel
theorem test_seq_start : told (fun h => .seqStart h 5) (.seqStart 5) (tray .maintenance (thySet [endWord 0])) (fun t => (t.ctx 0).prog == some 5 && (t.ctx 0).stepTick == 1000001) = true ∧
    told (fun h => .seqStart h 6) (.seqStart 6) (tray .maintenance (thySet [endWord 0])) (fun t => status t == Status.badArg.code) = true := by decide +kernel
theorem test_fault_clear : told (fun h => .trayFaultClear h) .trayFaultClear { up with thyme := { up.thyme with latchFault := true }, sage := { up.sage with holdFault := true } } (fun t => !t.thyme.latchFault && !t.sage.holdFault) = true ∧
    told (fun h => .accFaultClear h 7) (.accFaultClear 7) { up with thyme := { up.thyme with accs := up.thyme.accs.set 7 .fault } } (fun t => t.acc 7 == .off) = true := by decide +kernel
theorem test_policy_mode : told (fun h => .restartPolicySet h 1) (.restartPolicySet 1) up (fun t => t.thyme.autoOn) = true ∧ told (fun h => .modeSetMaintenance h) .modeSetMaintenance (tray .on goodSet) (fun t => t.thyme.tray == .maintenance) = true ∧
    told (fun h => .modeSetOn h) .modeSetOn (tray .maintenance goodSet) (fun t => t.thyme.tray == .on) = true := by decide +kernel


/-! Rail supervision (07) -/

/-- A rail with an OV fault at 1000 mV after two samples, on input 3 of converter 1, in branch 7, granted and armed, on PMBus 3. -/
def watched : Rail :=
  { map := { ctrl := 1, branch := 7, en := 9, addr := 0x20, vSrc := 19, iSrc := 255, pgSrc := 2, vFsMv := 2000 }
    lev := { dis := 100, uvFault := 700, uvWarn := 750, ovWarn := 950, ovFault := 1000, ocWarn := 100, ocFault := 200, uvN := 2, ovN := 2, ocN := 2, ocwN := 2, pgN := 2 }
    granted := true, uvArmed := true, pgArmed := true }
/-- Rail 191 is that rail, after the lock. -/
def rails (r : Rail) : State := up.onSage fun g => { g with
  locked := true, everLocked := true, rails := g.rails.set 191 r
  limits := { g.limits with rails := g.limits.rails.set 191 { vsetMax := 1000, marginSpan := 20, filtMax := 4, ovFaultMax := 1100, uvFaultMin := 600, ocFaultMax := 300 } } }
theorem test_monitor_sample : voltOf 2048 2000 = 1000 ∧ after (.monitorSample 1 3 2051) (rails watched) (fun t => (t.rail 191).vMv == 1001 && (t.rail 191).ovF == 1 && (t.rail 191).due == []) = true ∧
    after (.monitorSample 1 3 4095) (rails { watched with ovF := 1 }) (fun t => (t.rail 191).ovF == 2 && (t.rail 191).due == [.ovFault]) = true := by decide +kernel
theorem test_monitor_sample_ends : after (.monitorSample 1 3 2048) (rails { watched with ovF := 1 }) (fun t => (t.rail 191).ovF == 0) = true ∧
    after (.monitorSample 1 3 1024) (rails { watched with uvArmed := false }) (fun t => (t.rail 191).uvF == 0 && !(t.rail 191).uvArmed) = true := by decide +kernel
theorem test_rail_pg : after (.railPgSample 191 false) (rails { watched with pgF := 1 }) (fun t => (t.rail 191).pgF == 2 && (t.rail 191).due == [.pgLoss]) = true ∧
    after (.railPgSample 191 true) (rails { watched with pgArmed := false }) (fun t => (t.rail 191).pgArmed && (t.rail 191).pgF == 0) = true := by decide +kernel
theorem test_converter_failure : (rails watched).sage.adcFailed.getLsbD 1 = false ∧ watched.faultScope = some 7 ∧ after (.converterFailure 1) (rails watched) (fun t => t.sage.adcFailed == 2 && !(t.rail 191).granted) = true := by decide +kernel
theorem test_warning : after (.warningConfirm 191 .ovWarn) (rails { watched with due := [.ovWarn], cWarn := 4294967295 }) (fun t => (t.rail 191).cWarn == 4294967295 && (t.rail 191).due == [] && (t.rail 191).granted && said t .sage 0x0103 1) = true := by decide +kernel
theorem test_fault : ConfirmKind.ovFault.isFault = true ∧ after (.faultConfirm 191 .ovFault) (rails { watched with due := [.ovFault] }) (fun t => (t.rail 191).cFault == 1 && !(t.rail 191).granted && t.sage.holdBranch == 0x80) = true ∧
    after (.faultConfirm 191 .ocFault) (rails { watched with due := [.ocFault] }) (fun t => (t.rail 191).cOc == 1 && (t.rail 191).cFault == 0) = true := by decide +kernel
theorem test_bus_lost : after (.busLost 191) (rails { watched with due := [.busLost] }) (fun t => (t.rail 191).cFault == 1 && !(t.rail 191).granted) = true := by decide +kernel
/-- Rail 191 is polled on PMBus 3. -/
def polled (fails : Nat) (on : Bool) (q : List BusWrite) : State := (rails { watched with map := { ctrl := 2, branch := 7, en := 3, addr := 0x20, vSrc := 255, iSrc := 255, pgSrc := 255 }, pollFails := fails, granted := on, voutMode := some 0 }).onSage fun g => { g with buses := (g.buses.set 3 q).set 19 q }
theorem test_poll : after (.pollRound 3 [none] []) (polled 1 true []) (fun t => (t.rail 191).pollFails == 2) = true ∧ after (.pollRound 3 [none] []) (polled 2 true []) (fun t => (t.rail 191).due == [.busLost]) = true ∧
    after (.pollRound 3 [none] []) (polled 2 false []) (fun t => (t.rail 191).due == [] && said t .sage 0x0109 2) = true := by decide +kernel
/-- A setpoint write of a margin. -/
def wr (g : Option Nat) (refused : Nat) : BusWrite := { rail := 191, kind := .setpoint 900, owner := .margin, started := g, refused := refused }
theorem test_poll_starts_a_write : after (.pollRound 3 [none] []) (polled 2 true [wr none 0]) (fun t => nth t.sage.buses 3 == [wr (some 1000000) 0] && (t.rail 191).pollFails == 2) = true := by decide +kernel
theorem test_bus_write_ack : after (.busWriteAck 3 true) (polled 0 true [wr (some 999500) 0]) (fun t => nth t.sage.buses 3 == []) = true ∧
    after (.busWriteAck 3 false) (polled 0 true [wr (some 999500) 1]) (fun t => nth t.sage.buses 3 == [wr none 2]) = true ∧ after (.busWriteAck 19 false) (polled 0 true [wr (some 999500) 1]) (fun t => nth t.sage.buses 19 == [wr (some 1000000) 2]) = true := by decide +kernel
theorem test_bus_write_timeout : after (.busWriteTimeout 3) (polled 0 true [wr (some 999000) 0]) (fun t => nth t.sage.buses 3 == [] && said t .sage 0x0109 2) = true := by decide +kernel
theorem test_immediate_off_complete : after (.immediateOffComplete 15) ((rails watched).onSage fun g => { g with offs := [{ scope := 15, gt := 999990, low := true }, { scope := 3, gt := 5 }] }) (fun t => t.sage.offs == [{ scope := 3, gt := 5 }] && said t .sage 0x0105 0) = true := by decide +kernel
theorem test_readback_low : (rails watched).netUsed 9 = true ∧ (rails watched).pulls.getLsbD 9 = false ∧ after (.readbackDisagreement 9 false) (rails watched) (fun t => t.sage.disagreements == [{ net := 9, level := false }] && said t .sage 0x010B 2) = true := by decide +kernel
theorem test_readback_high : (rails { watched with granted := false }).pulls.getLsbD 9 = true ∧ (rails watched).railOfIndex 9 = some 191 ∧
    after (.readbackDisagreement 9 true) (rails { watched with granted := false }) (fun t => t.sage.holdBranch == 0x80 && said t .sage 0x010B 3) = true := by decide +kernel
theorem test_readback_agreement : after (.readbackAgreement 9) ((rails watched).onSage fun g => { g with disagreements := [{ net := 9, level := false }] }) (fun t => t.sage.disagreements == [] && said t .sage 0x010B 0) = true := by decide +kernel
theorem test_thermtrip : after (.accThermtrip 7) (rails watched) (fun t => t.pins.tripLow == 0x80 && !(t.rail 191).granted && t.sage.holdBranch == 0x80 && said t .sage 0x0606 3) = true := by decide +kernel
theorem test_admits_07 : admits (rails watched) [.railStatus 191 1, .railLevelsSet 191 1 [watched.lev], .railCountersRead 128 64, .railCountersClear 0 192, .marginSet 191 0xEC (some 900), .limitsRead 4608 0, .railMapRead 0 64] = true := by decide
theorem test_rail_reads : told (fun h => .railStatus h 191 1) (.railStatus 191 1) (rails watched) (fun t => status t == 0) = true ∧ told (fun h => .railCountersRead h 191 1) (.railCountersRead 191 1) (rails watched) (fun t => status t == 0) = true ∧
    told (fun h => .railMapRead h 191 1) (.railMapRead 191 1) (rails watched) (fun t => status t == 0) = true ∧ told (fun h => .limitsRead h 4608 0) (.limitsRead 4608 0) (rails watched) (fun t => status t == 0) = true := by decide +kernel
/-- The level entry with another OV fault. -/
def ov (x : Nat) : List RailLevels := [{ watched.lev with ovFault := x }]
theorem test_rail_levels_set : told (fun h => .railLevelsSet h 191 1 (ov 1100)) (.railLevelsSet 191 1 (ov 1100)) (rails watched) (fun t => status t == 0 && (t.rail 191).lev.ovFault == 1100) = true ∧
    told (fun h => .railLevelsSet h 191 1 (ov 1101)) (.railLevelsSet 191 1 (ov 1101)) (rails watched) (fun t => status t == Status.limitExceeded.code && t.sage == (rails watched).sage) = true ∧
    told (fun h => .railLevelsSet h 191 1 (ov 950)) (.railLevelsSet 191 1 (ov 950)) (rails watched) (fun t => status t == Status.badArg.code) = true := by decide +kernel
theorem test_rail_counters_clear : told (fun h => .railCountersClear h 191 1) (.railCountersClear 191 1) (rails { watched with cWarn := 3, cPg := 2 }) (fun t => t.rail 191 == watched) = true := by decide +kernel
/-- MAINTENANCE, with rail 191 on PMBus 3, which reads volts. -/
def margins : State := { polled 0 true [] with thyme := { up.thyme with tray := .maintenance } }
theorem test_margin_set : margins.thyme.reported = .maintenance ∧ margins.owned 191 = false ∧ marginMv 1000 (-20) = 950 ∧
    told (fun h => .marginSet h 191 0xEC (some 1)) (.marginSet 191 0xEC (some 1)) margins (fun t => status t == 0 && (t.rail 191).margin == -20 && (t.rail 191).nominal == some 1000 && (t.rail 191).cMargin == 1) = true ∧
    told (fun h => .marginSet h 191 20 (some 1)) (.marginSet 191 20 (some 1)) margins (fun t => status t == Status.limitExceeded.code) = true := by decide +kernel

/-! Operating point and capping (08) -/

/-- The image of the table of goodConfig: no accelerator and no rail named, 10 µs to settle, 3,200 MHz at P0. -/
def pImage : Mem := ((([0x4C, 0x47, 0x50, 0x53, 1, 0, 10, 0] ++ List.replicate 8 0 ++ ((List.range 32).map fun p => i2 (3200 - 100 * p) ++ i2 1024 ++ [0, 0, 0, 0]).flatten).mapIdx fun i b => (i, b)).filter fun x => x.2 != 0) ++ ((List.range 8).map fun n => (List.range 8).map fun d => (280 + 528 * n + d, 255)).flatten
/-- Staged bytes, in a state of the tray. -/
def staged (x : TrayState) (m : Mem) : State := { up with op := { up.op with staging := some m }, thyme := { up.thyme with tray := x, set := goodSet } }
theorem test_pstate_begin : told (fun h => .pstateTableLoadBegin h) .pstateTableLoadBegin up (fun t => t.op.staging == some []) = true := by decide +kernel
theorem test_pstate_data : told (fun h => .pstateTableLoadData h 4494 [1, 2]) (.pstateTableLoadData 4494 [1, 2]) (staged .standby []) (fun t => t.op.staging == some [(4494, 1), (4495, 2)]) = true ∧
    told (fun h => .pstateTableLoadData h 4495 [1, 2]) (.pstateTableLoadData 4495 [1, 2]) (staged .standby []) (fun t => status t == Status.badArg.code) = true := by decide +kernel
theorem test_pstate_commit : told (fun h => .pstateTableLoadCommit h) .pstateTableLoadCommit (staged .standby pImage) (fun t => status t == 0 && t.op.staging.isNone && t.op.table.settleUs == 10) = true := by decide +kernel
theorem test_pstate_commit_refused : told (fun h => .pstateTableLoadCommit h) .pstateTableLoadCommit (staged .on pImage) (fun t => status t == Status.stateConflict.code) = true := by decide +kernel
theorem test_pref_point : told (fun h => .prefPointSet h 254 2 [31, 255]) (.prefPointSet 254 2 [31, 255]) up (fun t => status t == 0 && t.op.pref == List.replicate 254 255 ++ [31, 255]) = true ∧
    told (fun h => .prefPointSet h 255 2 [31, 32]) (.prefPointSet 255 2 [31, 32]) up (fun t => status t == Status.badArg.code) = true := by decide +kernel
/-- A limit block of 30 kW and 2 kW a branch. -/
def capped : State := up.onSage fun g => { g with limits := { g.limits with trayCapMaxW := 30000, budgetMax := (List.replicate 12 2000).set 9 0, feeds := [goodFeed, goodFeed] } }
/-- Budgets: the first branch's own, no other. -/
def buds : List U32 := 1500 :: List.replicate 11 0
theorem test_cap_set : told (fun h => .capSet h 30000 30 10 102 buds) (.capSet 30000 30 10 102 buds) capped (fun t => status t == 0 && t.op.trayCapW == 30000 && t.op.budget.take 2 == [1500, 2000] && nth t.op.budget 9 == 0) = true ∧
    told (fun h => .capSet h 30001 30 10 102 buds) (.capSet 30001 30 10 102 buds) capped (fun t => status t == Status.limitExceeded.code && t.op == up.op) = true := by decide +kernel
theorem test_oppoint_status : told (fun h => .oppointStatus h) .oppointStatus up (fun t => (answer t).getD 2 9 == 0 && (answer t).getD 12 0 == 31) = true ∧ admits up [.pstateTableLoadBegin, .pstateTableLoadData 0 [0], .pstateTableLoadCommit, .prefPointSet 0 1 [255], .capSet 1000 10 10 0 buds, .oppointStatus] = true := by decide +kernel
/-- The limit block is locked and accelerator 0 is on, its package heard. -/
def acc0 : State := { up with
  sage := { up.sage with locked := true, everLocked := true }
  thyme := { up.thyme with tray := .on, accs := up.thyme.accs.set 0 .on }
  op := { up.op with ceil := 5, capCeil := 5, table := goodConfig.pTable }
  link := { up.link with ports := up.link.ports.set 0 { phase := .up, credits := List.replicate 7 9 } } }
theorem test_control_tick : acc0.firmwareRuns = true ∧ acc0.thermalTick.caplRuns = true ∧ after .controlTick acc0 (fun t => t.op.ctlGt == some 1000000 && t.op.contrib.length == 6 && t.op.ceil == t.op.contrib.foldl max 0) = true ∧
    after .controlTick { up with clk := { up.clk with gt := 1000049 } } (fun t => t == { up with clk := { up.clk with gt := 1000049 } }) = true := by decide +kernel
/-- A faster change to P5 waits. -/
def faster5 : State := { acc0 with op := { acc0.op with faster := some { p := 5 } } }
theorem test_faster_change : faster5.maySend = true ∧ faster5.settled = true ∧ faster5.groupsFull = false ∧ faster5.groups = [1] ∧
    after .fasterChangeSend faster5 (fun t => t.op.chgSeq == 1 && t.op.armed.map (fun a => (a.seq, a.p, a.pkgs)) == [(1, 5, 1)] && t.op.faster.isNone) = true := by decide +kernel
/-- Change 1 is armed. -/
def armed1 : State := { acc0 with op := { acc0.op with chgSeq := 1, lastSent := some 5, armed := [{ seq := 1, p := 5, pkgs := 1 }] } }
theorem test_pstate_ack : armed1.hears 0 = true ∧ after (.pstateAck 0 1 1 7) armed1 (fun t => t.op.armed == [{ seq := 1, p := 5, pkgs := 1, acked := 1 }] && said t .fp1 0x0403 1) = true := by decide +kernel
theorem test_cap_unmet : after .capUnmet { up with op := { up.op with unmet := 400, unmetGt := some 0 } } (fun t => t.op.unmetGt == some 1000000 && said t .fp1 0x0407 2) = true := by decide +kernel
/-- Line 15 is enabled; a faster change waits. -/
def alert15 : State := { faster5 with op := { faster5.op with alertMask := 0x8000 } }
theorem test_alert_fall : after (.vrAlertFall 15) alert15 (fun t => t.traySlow && t.op.throttle == .waitHigh && t.op.slowGt == 1000000 && t.op.faster.isNone) = true ∧
    after (.vrAlertFall 14) alert15 (fun t => !t.traySlow && t.op.alertLow == 0x4000 && t.op.faster == some { p := 5 }) = true := by decide +kernel
/-- Every line has been high for 1,000 ticks. -/
def highLong (r : Role) : State := { acc0 with op := { acc0.op with alertMask := 0x8000, throttle := .waitHigh, slow := true, highSince := some 999001 }, pair := { acc0.pair with role := r } }
theorem test_throttle_release_start : after .throttleReleaseStart (highLong .standby) (fun t => t.op.throttle == .none && !t.op.slow) = true ∧
    after .throttleReleaseStart (highLong .owner) (fun t => t.op.slow && t.op.throttle == .acks 1 && t.op.lastSent == some 5) = true := by decide +kernel
theorem test_throttle_release : after .throttleRelease { armed1 with op := { armed1.op with throttle := .acks 1, slow := true, armed := [{ seq := 1, p := 5, pkgs := 1, acked := 1 }] } } (fun t => t.op.throttle == .none && !t.traySlow && said t .arbiter 0x0402 0) = true := by decide +kernel
/-- Inputs of a tick of 12 branches and two feeds. -/
def tickOf (p : TickPins) : Instr := .arbiterTick (List.replicate 12 (5, 7)) [List.replicate 16 3, List.replicate 16 3] p
theorem test_arbiter_tick_held : after (tickOf { aliveChanged := true }) { up with clk := { up.clk with phase := .porHeld } } (fun t => t.gt == 1000000 && t.pair.aliveIn == some 1000000) = true := by decide +kernel
theorem test_arbiter_tick : after (tickOf { ownLow := true, tripLow := 4 }) { up with feed := { up.feed with feeds := [{ onReleased := true }, { onReleased := true }], onFalls := [true, false] } }
    (fun t => t.gt == 1000001 && t.pair.ownLow && t.pair.ownSince == 1000001 && t.pins.aliveOut && t.pins.tripLow == 4 && t.feed.feeds.map Feed.onReleased == [false, true]) = true := by decide +kernel

/-! Phase engine (09) -/

theorem test_rhe : rhe 5 1 = 2 ∧ rhe 7 1 = 4 ∧ rhe (-5) 1 = -2 ∧ rhe (-7) 2 = -2 ∧ rhe 9 0 = 9 ∧ sat8 (-129) = -128 ∧ sat8 127 = 127 ∧ sat32 2147483648 = 2147483647 := by decide
/-- A 32 by 32 matrix: kind 2 dense, or with a bitmap that stores no tile. -/
def dense : Tensor := { kind := 2, rows := 32, cols := 32, data := List.replicate 1056 0 }
def noTile : Tensor := { kind := 2, flags := 1, rows := 32, cols := 32, data := [0, 0, 0, 0] }
theorem test_sparse : dense.bitmap = false ∧ dense.tileCols = noTile.tileCols ∧ noTile.bitmap = true ∧ noTile.hasTile 0 = false ∧ dense.rowWeights 0 0 = List.replicate 32 0 ∧
    matRow dense none [1, 2, 3] 0 = matRow noTile none [1, 2, 3] 0 := by decide +kernel
/-- A container of kind 1 by its bytes: one int8 activation of one element, OUT of it to advice 0, END. -/
def contBytes (cycles : Nat) : List Byte :=
  i4 0x4D50474C ++ i2 1 ++ [1, 0] ++ i2 1 ++ i2 2 ++ i4 cycles ++ i4 0 ++ i4 64 ++ i4 80 ++ i4 144 ++ i4 0 ++ List.replicate 28 0
    ++ [0, 0, 1, 0, 1, 0, 0, 0] ++ i4 0 ++ i4 0
    ++ ([0x0D, 0] ++ i2 65535 ++ i2 0 ++ i2 65535 ++ i2 65535 ++ [0, 0] ++ i4 0 ++ i4 16 ++ i4 0 ++ i4 0 ++ i4 0)
    ++ ([0x0F, 0] ++ i2 65535 ++ i2 65535 ++ i2 65535 ++ i2 65535 ++ [0, 0] ++ List.replicate 20 0)
/-- The staged area of that container. -/
def contMem (cycles : Nat) : Mem := ((contBytes cycles).mapIdx fun i b => (containerBase + i, b)).filter fun x => x.2 != 0
/-- An object of a type that verifies. -/
def goodObj (type len : Nat) : ObjectImage := { man := { magic := 0x464D474C, fmt := 1, type := type, version := 2, nblocks := 1, length := len, vendorKeyOk := true, vendorSigOk := true, digest := 9 }, blocksOk := [true], imageOk := true }
/-- Slot 7's container is staged. -/
def loadingSlot (cycles : Nat) : State := { up with phase := { up.phase with staging := some (7, true, contMem cycles) } }
theorem test_model_load : told (fun h => .modelLoadBegin h 7 1) (.modelLoadBegin 7 1) up (fun t => t.phase.staging == some (7, true, [])) = true ∧
    told (fun h => .modelLoadData h 7 1 16777215 [5]) (.modelLoadData 7 1 16777215 [5]) { up with phase := { up.phase with staging := some (7, true, []) } } (fun t => t.phase.staging == some (7, true, [(16777215, 5)])) = true ∧
    told (fun h => .modelLoadData h 7 1 16777215 [5, 6]) (.modelLoadData 7 1 16777215 [5, 6]) (loadingSlot 4) (fun t => status t == Status.badArg.code) = true := by decide +kernel
theorem test_model_commit : (goodObj 4 144).verifies 4 up.anchor.custKey = true ∧
    told (fun h => .modelLoadCommit h 7 1 (goodObj 4 144)) (.modelLoadCommit 7 1 (goodObj 4 144)) (loadingSlot 4) (fun t => status t == 0 && (t.slot 7).phase == .loaded && (t.slot 7).cont.cycles == 4 && said t .fp1 0x0501 0) = true := by decide +kernel
theorem test_model_commit_refused : told (fun h => .modelLoadCommit h 7 1 (goodObj 4 144)) (.modelLoadCommit 7 1 (goodObj 4 144)) (loadingSlot 5) (fun t => status t == Status.badArg.code && said t .fp1 0x0505 1 && t.phase.slots == up.phase.slots) = true ∧
    told (fun h => .modelLoadCommit h 7 1 (goodObj 3 144)) (.modelLoadCommit 7 1 (goodObj 3 144)) (loadingSlot 4) (fun t => status t == Status.integrityFail.code) = true := by decide +kernel
/-- Slot 7 records a model, slot 6 one that does not verify. -/
def recorded : State := { up with phase := { up.phase with loadPending := true, stored := [none, none, none, none, none, none, some { obj := goodObj 3 144 }, some { cont := { kind := 1, cycles := 4, ops := [{ op := 0x0F }] }, obj := goodObj 4 144, autostart := true }] } }
theorem test_model_slots_load : after .modelSlotsLoad recorded (fun t => !t.phase.loadPending && t.phase.autoDue && (t.slot 7).phase == .loaded && (t.slot 6).phase == .empty) = true := by decide +kernel
/-- Slot 7 holds a model of 47,800 cycles with its budget share of 48,000, slot 0 one of a single cycle. -/
def slots (p0 p7 : SlotPhase) : State := { up with phase := { up.phase with
  autoDue := true, slots := (up.phase.slots.set 7 { phase := p7, cont := { kind := 1, cycles := 47800 }, autostart := true }).set 0 { phase := p0, cont := { cycles := 1 }, autostart := p0 == .loaded } } }
theorem test_model_autostart : after .modelAutostart (slots .empty .loaded) (fun t => !t.phase.autoDue && (t.slot 7).pend == some true) = true ∧ after .modelAutostart (slots .loaded .loaded) (fun t => !t.phase.autoDue) = true := by decide +kernel
theorem test_model_ecc : after (.modelStoreEccError 7) { slots .empty .running with phase := { (slots .empty .running).phase with inRun := true } } (fun t => t.phase.void && (t.slot 7).restart && said t .phase 0x0506 2) = true := by decide +kernel
theorem test_admits_09 : admits up [.modelLoadBegin 7 1, .modelLoadData 7 1 0 [5], .modelLoadCommit 7 1 {}, .modelStart 7, .modelStop 7, .modelStatus, .phaseTableRead 7 192 64, .decisionLogRead 1 0 0 16] = true := by decide
theorem test_model_start : told (fun h => .modelStart h 7) (.modelStart 7) (slots .empty .loaded) (fun t => status t == 0 && (t.slot 7).pend == some true) = true ∧
    told (fun h => .modelStart h 7) (.modelStart 7) (slots .running .loaded) (fun t => status t == Status.noResource.code && t.phase.slots == (slots .running .loaded).phase.slots) = true ∧
    told (fun h => .modelStart h 1) (.modelStart 1) up (fun t => status t == Status.stateConflict.code) = true ∧ told (fun h => .modelStart h 7) (.modelStart 7) (slots .empty .running) (fun t => status t == 0 && (t.slot 7).pend.isNone) = true := by decide +kernel
theorem test_model_stop : told (fun h => .modelStop h 7) (.modelStop 7) (slots .empty .running) (fun t => (t.slot 7).pend == some false && (t.slot 7).phase == .running) = true := by decide +kernel
theorem test_phase_reads : told (fun h => .modelStatus h) .modelStatus up (fun t => status t == 0) = true ∧ told (fun h => .phaseTableRead h 7 192 64) (.phaseTableRead 7 192 64) up (fun t => (answer t).length == 12 + 1024) = true ∧
    told (fun h => .decisionLogRead h 0 3 2 4) (.decisionLogRead 0 3 2 4) { up with phase := { up.phase with ring := [{ frameNo := 3 }] } } (fun t => status t == 0) = true ∧
    told (fun h => .decisionLogRead h 1 0 0 65535) (.decisionLogRead 1 0 0 65535) up (fun t => status t == Status.badArg.code) = true := by decide +kernel
/-- A run with no running model. -/
def inRun (r : Role) (void : Bool) : State := { up with pair := { up.pair with role := r }, phase := { up.phase with inRun := true, void := void, frame := [1, 2], frameNo := 8, latched := List.replicate 16 (some 3) } }
theorem test_run_end : after .phaseEngineRunEnd (inRun .owner false) (fun t => t.phase.frameNo == 9 && !t.phase.inRun && t.phase.latched == List.replicate 16 none && (t.phase.ring.getLast?.map fun r => (r.frameNo, r.frame)) == some (8, [1, 2])) = true ∧
    after .phaseEngineRunEnd (inRun .standby true) (fun t => t.phase.regs == List.replicate 16 none && t.phase.latched == List.replicate 16 (some 3)) = true := by decide +kernel
/-- Slot 7 runs and is to be reloaded at the end of a void run. -/
def eccRun : State := { slots .empty .running with phase := { (slots .empty .running).phase with inRun := true, void := true, slots := (slots .empty .running).phase.slots.set 7 { phase := .running, restart := true } } }
theorem test_run_end_reloads : after .phaseEngineRunEnd eccRun (fun t => (t.slot 7).phase == .empty && t.phase.frameNo == 1 && said t .phase 0x0503 0) = true := by decide +kernel
/-- A governor that mirrors. -/
def mirrors (r : Role) : State := { up with pair := { up.pair with role := r, mstate := .mirroring, alive := true } }
/-- It has the digest of frame 8. -/
def digest8 : State := { mirrors .owner with phase := { up.phase with digest := [1], digestFrame := 8 } }
theorem test_output_digest : after (.outputDigestReceive 8 [2]) digest8 (fun t => said t .phase 0x0504 2 && t.phase.partnerDigest.isNone) = true ∧ after (.outputDigestReceive 8 [1]) digest8 (fun t => t.rec_ == up.rec_) = true ∧
    after (.outputDigestReceive 9 [1]) digest8 (fun t => t.phase.partnerDigest == some (9, [1])) = true := by decide +kernel
theorem test_forwarded_frame : after (.forwardedInputFrame 8 5 6 [7]) (mirrors .standby) (fun t => t.phase.frame == [7] && t.phase.frameNo == 8 && t.phase.inRun) = true := by decide +kernel

/-! Cooling, thermal supervision and leaks (10) -/

/-- Sensor 335 (a tray sensor) stands so; warn 70, throttle 80, critical 90 °C, 3 readings, hysteresis 2 °C. -/
def warm (x : Sensor) : State := { up with
  sage := { up.sage with locked := true, everLocked := true, branches := 0xFFF#12 }
  thyme := { up.thyme with tray := .on }
  cool := { up.cool with usedCfg := BitVec.allOnes 344, levels := List.replicate 27 { warn := 700, throttle := 800, critical := 900 }, cfgLevels := List.replicate 27 { warn := 700, throttle := 800, critical := 900 }, sensors := up.cool.sensors.set 335 x } }
/-- An active sensor. -/
def sen (p : SensorPhase) : Sensor := { active := true, phase := p, nWarn := 3, nThr := 3, nCrit := 3, nExitT := 3, nExitW := 3 }
theorem test_reading : (warm (sen .normal)).sensorActive 335 = true ∧ after (.temperatureReading 335 [700, 800]) (warm (sen .normal)) (fun t => let y := t.sensor 335; y.x == some 800 && y.nWarn == 4 && y.nThr == 4 && y.nCrit == 0 && y.nExitT == 0 && y.phase == .normal) = true ∧
    after (.temperatureReading 335 [779]) (warm (sen .normal)) (fun t => (t.sensor 335).nExitT == 4) = true ∧
    after (.temperatureReading 343 [-3, -2]) { warm {} with cool := { (warm {}).cool with roles := List.replicate 8 1 } } (fun t => (t.sensor 343).x == some (-2)) = true := by decide +kernel
theorem test_warn : after (.thermalWarn 335) (warm (sen .normal)) (fun t => (t.sensor 335).phase == .warn && said t .sage 0x0601 1) = true := by decide +kernel
theorem test_advisory : after (.thermalAdvisory 335) (warm (sen .warn)) (fun t => (t.sensor 335).phase == .advisory && (t.sensor 335).grace == some 1000000 && said t .sage 0x0602 1) = true ∧
    after (.thermalAdvisory 335) (warm { sen .warn with leftEnf := some 0 }) (fun t => (t.sensor 335).phase == .enforced && said t .sage 0x0603 2) = true := by decide +kernel
theorem test_grace : after (.graceExpiry 335) { warm { sen .advisory with grace := some 0 } with clk := { up.clk with gt := 2000000 } } (fun t => (t.sensor 335).phase == .enforced && said t .sage 0x0603 2) = true := by decide +kernel
theorem test_exit : after (.thermalExit 335) (warm (sen .enforced)) (fun t => (t.sensor 335).phase == .warn && (t.sensor 335).leftEnf == some 1000000) = true ∧ after (.thermalExit 335) (warm (sen .advisory)) (fun t => (t.sensor 335).phase == .warn) = true ∧
    after (.thermalExit 335) (warm (sen .warn)) (fun t => (t.sensor 335).phase == .normal && said t .sage 0x0604 0) = true ∧ after (.thermalExit 335) (warm (sen .normal)) (fun t => t.cool == (warm (sen .normal)).cool) = true := by decide +kernel
theorem test_critical : after (.thermalCritical 335) (warm (sen .normal)) (fun t => t.thyme.latchThermal && t.sage.holdThermal && t.sage.branches == 0x200#12 && said t .sage 0x0605 4) = true := by decide +kernel
theorem test_stale : after (.sensorStale 335) (warm { sen .normal with gt := 990000 }) (fun t => (t.sensor 335).stale && (t.sensor 335).x == some 800 && said t .sage 0x060A 2) = true := by decide +kernel
/-- The thermal loop's counter stands at a value, at ceiling 5. -/
def loopAt (p : SensorPhase) (k : Nat) : State := let s := warm { sen p with x := some 800 }; { s with cool := { s.cool with th := 5, k := k, wasEnforced := p == .enforced } }
theorem test_enforce_step : (loopAt .enforced 99).hot = true ∧ after .thermalEnforceStep (loopAt .enforced 99) (fun t => t.cool.th == 6 && t.cool.k == 0) = true := by decide +kernel
theorem test_relax_step : (loopAt .normal 1999).cool.enforced = false ∧ after .thermalRelaxStep (loopAt .normal 1999) (fun t => t.cool.th == 4 && t.cool.k == 0) = true := by decide +kernel
theorem test_cooling_loop : after (.coolingLoop (List.replicate 8 9) (List.replicate 8 9) [0, 0, 0, 0] [0, 0, 0, 0]) (warm (sen .normal)) (fun t => t.cool.loopGt == some 1000000 && t.cool.fans.map Mover.pulses == List.replicate 16 9) = true ∧
    after (.coolingLoop [] [] [] []) { up with clk := { up.clk with gt := 1 } } (fun t => t.cool == up.cool) = true := by decide +kernel
/-- GT 10 s, with a change of the cooling part. -/
def cool (f : CoolState → CoolState) : State := { warm (sen .normal) with clk := { up.clk with gt := 10000000 }, cool := f (warm (sen .normal)).cool }
theorem test_fan : after (.fanFailure false 15) (cool fun c => { c with fans := c.fans.set 15 { slowSince := some 8000000 } }) (fun t => (t.mover false 15).failed && said t .fp1 0x060B 2) = true ∧
    after (.fanRecovery true 3) (cool fun c => { c with pumps := c.pumps.set 3 { failed := true, fastSince := some 8000000 } }) (fun t => !(t.mover true 3).failed && said t .fp1 0x060B 0) = true := by decide +kernel
theorem test_flow : after .flowLow (cool fun c => { c with flowLowSince := some 9000000 }) (fun t => t.cool.th == 31 && t.cool.flowLow == some 10000000 && said t .fp1 0x060C 3) = true ∧
    after .flowLowPowerDown (cool fun c => { c with flowLowSince := some 0, flowLow := some 5000000 }) (fun t => t.cool.flowPd && said t .fp1 0x060C 4) = true ∧
    after .flowRecovery (cool fun c => { c with flowOkSince := some 9000000, flowLow := some 5000000, th := 31 }) (fun t => t.cool.flowLow.isNone && t.cool.k == 0 && t.cool.th == 31) = true := by decide +kernel
theorem test_pressure : after (.pressureOutOfRange 1) (cool fun c => { c with pressSince := [none, some 9000000] }) (fun t => t.cool.pressSaid == [false, true] && said t .fp1 0x060D 2) = true := by decide +kernel
/-- Zones 7 and 9 are used, with their states. -/
def leaks (a b : LeakZone) : State := cool fun c => { c with zonesUsed := 0x280#10, zones := (c.zones.set 7 a).set 9 b }
theorem test_leak_reading : after (.leakReading 7 449) (leaks { grade := .confirmed } {}) (fun t => (nth t.cool.zones 7).grade == .confirmed && (nth t.cool.zones 7).wetRun == 1) = true ∧
    after (.leakReading 7 1200) (leaks { wetRun := 5 } {}) (fun t => let z := nth t.cool.zones 7; z.grade == .dry && z.wetRun == 0 && z.drySince == some 10000000) = true ∧
    after (.leakReading 7 1351) (leaks {} {}) (fun t => (nth t.cool.zones 7).grade == .opened) = true ∧ after (.leakReading 9 0) (leaks {} {}) (fun t => (nth t.cool.zones 9).grade == .wet) = true := by decide +kernel
theorem test_leak_confirm : after (.leakConfirm 9) (leaks {} { grade := .wet, wetRun := 200 }) (fun t => (nth t.cool.zones 9).grade == .confirmed && t.thyme.latchLeak && t.cool.valveHold && said t .monitor 0x0608 4) = true := by decide +kernel
theorem test_partner_notice : after (.partnerConfirmationNotice true 9) (leaks {} {}) (fun t => t.thyme.latchLeak && t.cool.valveHold && said t .monitor 0x0608 4) = true ∧
    after (.partnerConfirmationNotice false 335) (leaks {} {}) (fun t => t.thyme.latchThermal && t.sage.branches == 0x200#12) = true ∧ after (.partnerConfirmationNotice true 9) (mirrors .standby) (fun t => !t.thyme.latchLeak) = true := by decide +kernel
/-- The leak latch is set. -/
def leaked (a : LeakZone) : State := let s := leaks a { drySince := some 9000000 }; { s with thyme := { s.thyme with latchLeak := true }, cool := { s.cool with valveHold := true } }
theorem test_leak_clear : told (fun h => .leakClear h) .leakClear (leaked { drySince := some 9000000 }) (fun t => status t == 0 && !t.thyme.latchLeak && !t.cool.valveHold && said t .fp1 0x0609 0) = true ∧
    told (fun h => .leakClear h) .leakClear (leaked { drySince := some 9000001 }) (fun t => status t == Status.stateConflict.code && t.thyme.latchLeak) = true ∧ told (fun h => .leakClear h) .leakClear up (fun t => status t == 0) = true := by decide +kernel
theorem test_admits_10 : admits up [.coolStatus, .thermalLevelsSet 26 1 [{}], .graceSet 100, .leakClear, .coolOverride 1 255 255] = true ∧ told (fun h => .coolStatus h) .coolStatus up (fun t => status t == 0 && (answer t).getD 12 9 == 0) = true := by decide +kernel
/-- One level entry. -/
def lev (w t : Int) : List ThermLevel := [{ warn := w, throttle := t, critical := 900 }]
theorem test_thermal_levels_set : told (fun h => .thermalLevelsSet h 26 1 (lev 600 700)) (.thermalLevelsSet 26 1 (lev 600 700)) (warm {}) (fun t => status t == 0 && (nth t.cool.levels 26).warn == 600 && (nth t.cool.levels 25).warn == 700) = true ∧
    told (fun h => .thermalLevelsSet h 26 1 (lev 700 801)) (.thermalLevelsSet 26 1 (lev 700 801)) (warm {}) (fun t => status t == Status.limitExceeded.code) = true ∧
    told (fun h => .thermalLevelsSet h 26 1 (lev 700 700)) (.thermalLevelsSet 26 1 (lev 700 700)) (warm {}) (fun t => status t == Status.badArg.code) = true := by decide +kernel
theorem test_grace_set : told (fun h => .graceSet h 30000) (.graceSet 30000) up (fun t => t.cool.graceMs == 30000 && said t .fp1 0x060E 0) = true ∧ told (fun h => .graceSet h 99) (.graceSet 99) up (fun t => status t == Status.badArg.code && t.cool == up.cool) = true := by decide +kernel
/-- The pumps' floors are 40 %. -/
def floors (air : Bool) : State := { up with straps := { coolMode := air }, sage := { up.sage with limits := { up.sage.limits with pumpFloor := List.replicate 4 40 } } }
theorem test_cool_override : told (fun h => .coolOverride h 1 3 40) (.coolOverride 1 3 40) (floors false) (fun t => (nth t.cool.pumps 3).override == some 40 && (nth t.cool.pumps 2).override.isNone) = true ∧
    told (fun h => .coolOverride h 1 255 39) (.coolOverride 1 255 39) (floors false) (fun t => status t == Status.limitExceeded.code) = true ∧ told (fun h => .coolOverride h 1 3 255) (.coolOverride 1 3 255) (floors true) (fun t => status t == Status.stateConflict.code) = true := by decide +kernel

/-! Energy ledger (11) -/

/-- The split of branch 3 in R295's example: tag A in slot 17, tag B in slot 42, the residual. -/
theorem test_split : splitOver 2800000001 [(17, 22100000), (42, 2900000), (keyResidual, 1800000)] [] = [(17, 2308955224), (42, 302985075), (keyResidual, 188059702)] := by decide
/-- Its tick under KEEP: 22,000,000,500 nJ at the feeds, 21,395,000,001 at the branches, 395,000,000 of them at branches 8 to 11. -/
def example_ : TickWork :=
  { feed := [22000000500, 0], branch := [18200000000, 0, 0, 2800000001, 0, 0, 0, 0, 395000000, 0, 0, 0]
    w := [[(17, 1)], [], [], [(17, 22100000), (42, 2900000), (keyResidual, 1800000)], [], [], [], []] }
theorem test_credits : example_.branch.length = 12 ∧ look (example_.credits false false) 42 = 302985075 ∧ look (example_.credits false false) keyOverhead = 395000000 ∧
    look (example_.credits false false) keyResidual = 188059702 + 605000499 ∧ sumInt ((example_.credits true true).map Prod.snd) = 22000000500 := by decide
/-- A ledger session at tick 999 and second 0. -/
def inLed (f : LedgerState → LedgerState) : State := { acc0 with ledger := f { up.ledger with inSession := true, begun := true, lsess := 1, l := 1000, fineBranch := List.replicate 12 2000000001, fineFeed := [64000003, 0] } }
theorem test_ledger_tick : (inLed id).attrRuns = true ∧ after .ledgerTick (inLed id) (fun t => t.ledger.l == 1001 && t.ledger.fineBranch == List.replicate 12 1 && t.ledger.fineFeed == [3, 0]) = true ∧
    after .ledgerTick { inLed id with comps := (List.replicate 14 {}).set 7 { restartUntil := some 2000000 } } (fun t => t.ledger.queue.map TickWork.branch == [List.replicate 12 2]) = true := by decide +kernel
theorem test_ledger_tick_marker : after (.ledgerTickMarker { l := 5, credits := [(0, 7), (keyResidual, -9)] }) { mirrors .standby with ledger := (inLed id).ledger } (fun t => t.ledger.accounts.map Account.c == [7] && t.ledger.residual.c == -9 && t.ledger.l == 6) = true := by decide +kernel
/-- Die 7's report stands at sequence 4. -/
def tagged (g : Nat) : State := inLed fun l => { l with dies := l.dies.set 7 { report := some { ent := [(5, 6)], gt := g }, rseq := some 4 } }
theorem test_tag_report : after (.tagReport 0 { part := 7, n := 1, rseq := 5, ent := [(9, 100), (8, 3)] }) (tagged 999000) (fun t => (nth t.ledger.dies 7).report == some { ent := [(9, 100)], gt := 1000000 } && (nth t.ledger.dies 7).rseq == some 5) = true ∧
    after (.tagReport 0 { part := 7, n := 1, rseq := 4, ent := [(9, 100)] }) (tagged 999000) (fun t => t.ledger.discarded == 1 && (nth t.ledger.dies 7).rseq == some 4) = true := by decide +kernel
theorem test_die_stale : after (.dieStale 7) (tagged 996000) (fun t => (nth t.ledger.dies 7).staleSaid && said t .metering 0x0704 1) = true := by decide +kernel
/-- Second 0 ends with a pending open, an open and a closing account. -/
def boundary : State := inLed fun l => { l with accounts := [{}, { slot := 3, tag := 30, phase := .openPending }, { slot := 65535, tag := 40, phase := .closePending }] }
theorem test_boundary : boundary.ledger.boundaryDue = true ∧ (boundary.ledger.accounts.map Account.slot).Nodup ∧
    after (.ledgerSecondBoundary) boundary (fun t => t.ledger.second == 1 && t.ledger.accounts.map (fun a => (a.slot, a.phase, a.fromS)) == [(0, .open_, 0), (3, .open_, 1)] && said t .fp2 0x0701 0 && said t .fp2 0x0702 0 && t.ledger.cpSeq == 1) = true := by decide +kernel
/-- One record waits for its signature, formed at GT 0. -/
def unsig (g : Nat) : State := { inLed (fun l => { l with unsigned_ := [({ recSeq := 8 }, 0)] }) with clk := { up.clk with gt := g } }
theorem test_record_signed : after .recordSigned (unsig 5) (fun t => t.ledger.unsigned_ == [] && t.ledger.export_.map (fun x => x.body.recSeq) == [8]) = true ∧ after .signingBacklog (unsig 60000001) (fun t => t.ledger.backlogSaid && said t .fp2 0x070A 1) = true := by decide +kernel
theorem test_admits_11 : admits up [.ledgerCfgSet 60 0 1 1 0, .accountOpen 5, .accountClose 5, .accountRead 3 0, .ledgerStatus, .calibrationSet 23 1 [{}], .recordsFetch 0 1, .recordsAck 0, .journalStatus] = true := by decide
theorem test_ledger_cfg : told (fun h => .ledgerCfgSet h 3600 1 0 5 6) (.ledgerCfgSet 3600 1 0 5 6) (inLed id) (fun t => status t == 0 && t.ledger.cfg == {} && t.ledger.nextCfg.any fun x => x.1.interimS == 3600 && x.1.ohSpread && x.1.wOff == 6) = true ∧
    told (fun h => .calibrationSet h 23 1 [{ gain := 9 }]) (.calibrationSet 23 1 [{ gain := 9 }]) (inLed id) (fun t => status t == 0 && t.ledger.nextCfg.any fun x => nth x.1.calib 27 == { gain := 9 }) = true := by decide +kernel
/-- The epoch table is full. -/
def fullEp : State := inLed fun l => { l with dev := { l.dev with ring := [{}], header := { l.dev.header with epochs := List.replicate 64 (0, []) } } }
theorem test_epochs_full : fullEp.ledger.epochsFull = true ∧ told (fun h => .ledgerCfgSet h 60 0 0 1 0) (.ledgerCfgSet 60 0 0 1 0) fullEp (fun t => status t == Status.noResource.code) = true ∧
    told (fun h => .calibrationSet h 0 1 [{}]) (.calibrationSet 0 1 [{}]) fullEp (fun t => status t == Status.noResource.code) = true := by decide +kernel
/-- Accounts of tags 30 (pending open), 40 (closing) and 50 (open). -/
def accts (o : Bool) : State := inLed fun l => { l with ovf := o, accounts := [{}, { slot := 1, tag := 30, phase := .openPending }, { slot := 2, tag := 40, phase := .closePending }, { slot := 4, tag := 50 }] }
theorem test_account_open : told (fun h => .accountOpen h 60) (.accountOpen 60) (accts false) (fun t => status t == 1 && t.ledger.accounts.map (fun a => (a.slot, a.tag)) == [(0, 0), (1, 30), (2, 40), (3, 60), (4, 50)]) = true ∧ told (fun h => .accountOpen h 50) (.accountOpen 50) (accts false) (fun t => status t == 0) = true ∧
    told (fun h => .accountOpen h 40) (.accountOpen 40) (accts false) (fun t => status t == Status.stateConflict.code) = true ∧ told (fun h => .accountOpen h 60) (.accountOpen 60) (accts true) (fun t => status t == Status.noResource.code) = true := by decide +kernel
theorem test_account_close : told (fun h => .accountClose h 50) (.accountClose 50) (accts false) (fun t => status t == 1 && (nth t.ledger.accounts 3).phase == .closePending) = true ∧ told (fun h => .accountClose h 30) (.accountClose 30) (accts false) (fun t => status t == 0 && t.ledger.accounts.length == 3) = true ∧
    told (fun h => .accountClose h 40) (.accountClose 40) (accts false) (fun t => status t == 1 && t.ledger == (accts false).ledger) = true ∧ told (fun h => .accountClose h 60) (.accountClose 60) (accts false) (fun t => status t == Status.stateConflict.code) = true := by decide +kernel
theorem test_ledger_reads : told (fun h => .accountRead h 1 0) (.accountRead 1 0) (inLed id) (fun t => (answer t).length == 44) = true ∧ told (fun h => .ledgerStatus h) .ledgerStatus (inLed id) (fun t => (answer t).getD 12 9 == 1) = true ∧ told (fun h => .journalStatus h) .journalStatus (inLed id) (fun t => status t == 0) = true := by decide +kernel
/-- Records 3 and 4 are signed, record 5 waits; 3 is the oldest unreclaimed. -/
def exports : State := inLed fun l => { l with head := 6, unsigned_ := [({ recSeq := 5 }, 0)], export_ := [{ body := { recSeq := 3 } }, { body := { recSeq := 4 } }], dev := { l.dev with header := { l.dev.header with baseSeq := 3 }, ring := [{ recSeq := 3 }, { recSeq := 4 }, { recSeq := 5 }] } }
theorem test_records_fetch : (takeExport 2 3 exports.ledger.export_).map (fun x => x.body.recSeq) = [3, 4] ∧ told (fun h => .recordsFetch h 2 1) (.recordsFetch 2 1) exports (fun t => status t == 0 && (answer t).getD 4 0 == 1) = true ∧
    told (fun h => .recordsFetch h 3 0) (.recordsFetch 3 0) exports (fun t => status t == Status.badArg.code) = true := by decide +kernel
theorem test_records_ack : told (fun h => .recordsAck h 4) (.recordsAck 4) exports (fun t => status t == 0 && t.ledger.dev.header.baseSeq == 5 && t.ledger.dev.ring.map LedgerRecord.recSeq == [5] && said t .fp2 0x0709 0) = true ∧
    told (fun h => .recordsAck h 5) (.recordsAck 5) exports (fun t => status t == Status.stateConflict.code) = true ∧ told (fun h => .recordsAck h 2) (.recordsAck 2) exports (fun t => status t == 0 && t.ledger == exports.ledger) = true := by decide +kernel

/-! Sync hub (12) -/

/-- A job of dies 0 and 1 and of host context 64 holds every object but engine 63's; package 0 and the context are present. -/
def hub (f : SyncState → SyncState) : State := { acc0 with
  thyme := { acc0.thyme with set := { goodSet with accUp := [1, 255, 255, 255, 255, 255, 255, 255] } }
  link := { up.link with ports := up.link.ports.set 0 { phase := .linkUp, credits := List.replicate 7 9, cap := some { dies := 0xFF } }, ctxKeys := up.link.ctxKeys.set 0 { bound := true } }
  sync := f { up.sync with jobs := [{ num := 1, quota := 100, wFirst := 0, wCount := 524288, pFirst := 0, pCount := 4096, engines := 0x7FFFFFFFFFFFFFFF, parts := (1#72 <<< 64) ||| 3 }] } }
/-- An address of this tray. -/
def addr (space i : Nat) : BitVec 64 := BitVec.ofNat 64 (space * 2 ^ 60 + i)
/-- An operation of a die. -/
def op_ (src : Nat) (a : BitVec 64) (v : BitVec 64 := 0) (arg : BitVec 64 := 0) (bits_ : BitVec 8 := 0) : SyncOp := { op := bits_, src := src, seq := 7, addr := a, val := v, arg := arg }
/-- A reply left with a status and values. -/
def replies (t : State) (dest : Nat) (z : Status) (x y : BitVec 64) : Bool := t.sync.sent.any fun o => match o with | .reply d r => d.src == dest && r.status == z && r.val == x && r.aux == y && r.seq == 7 | _ => false
/-- The last word holds a value, full or empty. -/
def lastWord (full : Bool) : State := hub fun y => { y with words := [(524287, { val := 9, full := full })] }
/-- The last word now. -/
def word_ (t : State) (v : BitVec 64) (full : Bool) : Bool := (t.sync.word 524287).val == v && (t.sync.word 524287).full == full
theorem test_reaches : (lastWord true).hears 0 = true ∧ (lastWord true).diePresent 1 = true ∧ (lastWord true).isOwner = true ∧ (lastWord true).sync.target (addr 0 524287) = .word 524287 ∧
    ((op_ 1 (addr 0 524287)).withCode 1).formed = true ∧ (lastWord true).sync.refusal false 1 ((op_ 1 (addr 0 524287)).withCode 1) (.word 524287) = none := by decide +kernel
theorem test_readfe : after (.readfe 1 (op_ 1 (addr 0 524287))) (lastWord true) (fun t => replies t 1 .ok 9 0 && word_ t 9 true) = true ∧ after (.readfe 1 (op_ 1 (addr 0 524287))) (lastWord false) (fun t => replies t 1 .accepted 0 0 && t.sync.parked.length == 1) = true := by decide +kernel
theorem test_take_fill : after (.take 1 (op_ 1 (addr 0 524287))) (lastWord true) (fun t => replies t 1 .ok 9 0 && word_ t 9 false) = true ∧ after (.fill 1 (op_ 1 (addr 0 524287) 5)) (lastWord false) (fun t => replies t 1 .ok 0 0 && word_ t 5 true) = true := by decide +kernel
theorem test_store_clear : after (.store 64 (op_ 64 (addr 0 524287) 5)) (lastWord false) (fun t => t.sync.sent.length == 1 && word_ t 5 true) = true ∧ after (.clear 1 (op_ 1 (addr 0 524287) 5)) (lastWord true) (fun t => replies t 1 .ok 9 1 && word_ t 5 false) = true := by decide +kernel
theorem test_add_read : after (.add 1 (op_ 1 (addr 0 524287) (BitVec.allOnes 64))) (lastWord false) (fun t => replies t 1 .ok 9 0 && word_ t 8 false) = true ∧ after (.read 1 (op_ 1 (addr 0 524287))) (lastWord true) (fun t => replies t 1 .ok 9 1 && word_ t 9 true) = true := by decide +kernel
theorem test_strict_turns : after (.take 1 (op_ 1 (addr 0 524287) 0 0)) { lastWord true with repro := { up.repro with strict := true } } (fun t => replies t 1 .ok 9 0 && (t.sync.word 524287).takeTurn == 1) = true ∧
    after (.take 1 (op_ 1 (addr 0 524287) 0 1)) { lastWord true with repro := { up.repro with strict := true } } (fun t => replies t 1 .accepted 0 0) = true := by decide +kernel
theorem test_refused : after (.take 2 (op_ 2 (addr 0 524287))) (lastWord true) (fun t => replies t 2 .denied 0 0 && word_ t 9 true) = true := by decide +kernel
/-- A pair of cap 4 with 3 produced and 1 consumed. -/
def pairs : State := hub fun y => { y with pairs := [(4095, { p := 3, c := 1, cap := 4 })] }
theorem test_padv : after (.padv 1 (op_ 1 (addr 1 4095) 2)) pairs (fun t => replies t 1 .ok 3 1 && (t.sync.pair 4095).p == 5) = true ∧ after (.padv 1 (op_ 1 (addr 1 4095) 3)) pairs (fun t => replies t 1 .accepted 0 0 && t.sync.pairs == pairs.sync.pairs) = true := by decide +kernel
theorem test_cadv : after (.cadv 1 (op_ 1 (addr 1 4095) 2)) pairs (fun t => replies t 1 .ok 1 3 && (t.sync.pair 4095).c == 3) = true ∧ after (.cadv 1 (op_ 1 (addr 1 4095) 2 0 0x20)) pairs (fun t => replies t 1 .ok 1 3 && (t.sync.pair 4095).c == 1) = true ∧
    after (.cadv 1 (op_ 1 (addr 1 4095) 3)) pairs (fun t => replies t 1 .accepted 0 0) = true := by decide +kernel
/-- A barrier of dies 0 and 1 at which die 0 waits or not. -/
def barrier (a : Bool) : State := hub fun y => { y with
  barriers := y.barriers.set 62 { mask := 3, arrived := if a then 1 else 0, gen := 4, since := if a then some 5 else none }
  parked := if a then [{ op := (op_ 0 (addr 2 62)).withCode 9, origin := { src := 0 }, gt := 5 }] else [] }
theorem test_arrive : after (.arrive 0 (op_ 0 (addr 2 62) 0 4)) (barrier false) (fun t => replies t 0 .accepted 0 0 && (t.sync.barrier 62).arrived == 1 && t.sync.parked.length == 1) = true ∧
    after (.arrive 0 (op_ 0 (addr 2 62) 0 4 0x10)) (barrier false) (fun t => replies t 0 .ok 4 4 && t.sync.parked == []) = true ∧
    after (.arrive 1 (op_ 1 (addr 2 62) 0 4)) (barrier true) (fun t => replies t 1 .ok 4 5 && replies t 0 .ok 4 5 && (t.sync.barrier 62).gen == 5 && (t.sync.barrier 62).arrived == 0 && t.sync.parked == []) = true := by decide +kernel
/-- Handle 0 watches the last word. -/
def watched0 : State := hub fun y => { y with watches := [{ handle := 0, src := 1, addr := addr 0 524287, cond := 2, persist := true, fire := 6 }] }
theorem test_watch : after (.watch 1 (op_ 1 (addr 0 5) 0 0x102)) watched0 (fun t => replies t 1 .ok 1 0 && t.sync.watches.map (fun w => (w.handle, w.persist)) == [(0, true), (1, true)]) = true ∧
    after (.unwatch 1 (op_ 1 (addr 3 0))) watched0 (fun t => replies t 1 .ok 6 0 && t.sync.watches == []) = true := by decide +kernel
/-- Die 0 has waited for 30 s. -/
def hung : State := { barrier true with clk := { up.clk with gt := 30000005 } }
theorem test_hang : hung.hangKind (addr 2 62) = some 1 ∧ after (.hangTimeout (addr 2 62)) hung (fun t => t.sync.hung == [addr 2 62] && said t .hub 0x0804 1) = true := by decide +kernel
theorem test_scrub : after (.syncScrub 524287 0) up (fun t => t.sync.scrub == 0) = true ∧ after (.syncScrub 5 1) up (fun t => t.sync.eccCorr == 1 && t.sync.scrub == 6) = true ∧ after (.syncScrub 5 2) up (fun t => (t.sync.word 5).poison && said t .hub 0x0805 3) = true ∧
    after (.syncScrub 5 2) (mirrors .owner) (fun t => t.sync.repairs == [(addr 0 5, none)] && t.sync.words == []) = true := by decide +kernel
theorem test_repaired : after (.syncObjectRepaired (addr 0 5) (.word { val := 3, full := true })) { mirrors .owner with sync := { up.sync with repairs := [(addr 0 5, none)] } } (fun t => t.sync.repairs == [] && (t.sync.word 5).val == 3 && said t .hub 0x0805 1) = true := by decide +kernel
/-- A tree node with tray 10, a parent and two children of 4 and 8 trays, 11 to 14 and 15 to 22, and a tree barrier whose UP went. -/
def node (f : SyncState → SyncState) : State := hub fun y => f { y with tray := 10, node := some { tray := 10, k := 2, parent := 1, children := [{ addr := 2, trays := 4 }, { addr := 3, trays := 8 }] }, barriers := y.barriers.set 62 { mask := (1#72 <<< 71) ||| 1, arrived := (1#72 <<< 71) ||| 1, gen := 4, tree := some 7 }, treeBars := [{ num := 7, engine := 62, upSent := true }] }
/-- An acknowledgement of a hop went, and the hop moved or not. -/
def hopped (t : State) (nbr hop : Nat) (moved : Bool) : Bool := t.link.ethSent.contains (.treeAck nbr hop) && nth t.sync.hopRx nbr == (if moved then hop + 1 else 0)
theorem test_tree_up : after (.treeUp 1 0 7 0) (node id) (fun t => hopped t 2 0 true) = true ∧ after (.treeUp 1 4294967295 7 0) (node id) (fun t => hopped t 2 4294967295 false) = true ∧ after (.treeUp 2 0 7 0) (node id) (fun t => t.sync == (node id).sync) = true := by decide +kernel
theorem test_tree_release : after (.treeRelease 0 7 0) (node id) (fun t => hopped t 0 0 true && (t.sync.barrier 62).gen == 5 && (t.sync.barrier 62).arrived == 0) = true := by decide +kernel
theorem test_remote : ({ tray := 10, children := [{ trays := 4 }, { trays := 8 }], parent := 1 } : TreeNode).hopTo 22 = some 2 ∧
    after (.remoteOperation 0 0 22 3 (op_ 1 0)) (node id) (fun t => t.sync.treeOut.map (fun f => (f.nbr, f.body)) == [(2, .remote 22 3 (op_ 1 0))]) = true ∧
    after (.remoteOperationReply 2 0 10 1 { status := .ok, seq := 7, val := 4 }) (node fun y => { y with remoteOut := [{ src := 1, seq := 7 }] }) (fun t => replies t 1 .ok 4 0 && t.sync.remoteOut == []) = true := by decide +kernel
theorem test_broadcast : after (.treeBroadcast 0 0 15 3 8 0) (node id) (fun t => nth t.sync.bcRound 15 == 4) = true := by decide +kernel
/-- A frame to child 2 that is unanswered since GT 0. -/
def frame (n : Nat) : State := node fun y => { y with treeOut := [{ nbr := 2, hop := 4, body := .up 7 0, resends := n }] }
theorem test_tree_frames : after (.treeFrameAck 2 4) (frame 0) (fun t => t.sync.treeOut == []) = true ∧ after (.treeResendTimeout 2 4) (frame 49) (fun t => t.sync.treeOut.map TreeFrame.resends == [50] && t.link.ethSent.length == 1) = true ∧
    after (.treeNeighbourLost 2) (frame 50) (fun t => t.sync.lost == [2] && said t .hub 0x0808 2) = true := by decide +kernel
theorem test_remote_window : after (.remoteWindowExpiry 9 1) { hub (fun y => { y with remotes := [{ tray := 9, src := 1, gt := 0 }, { tray := 9, src := 2, gt := 0 }] }) with clk := { up.clk with gt := 10000000 } } (fun t => t.sync.remotes.map RemoteWindow.src == [2]) = true := by decide +kernel
/-- No job is open. -/
def noJob (f : SyncState → SyncState) : State := hub fun y => f { y with jobs := [] }
/-- JOB_OPEN of job 32 over the last words, pairs and engine 62. -/
def openBody (q : U32) : Body := .jobOpen 32 4 q 524280 8 4092 4 0x4000000000000000 3 1
def opens (h : Hdr) (q : U32) : Instr := .jobOpen h 32 4 q 524280 8 4092 4 0x4000000000000000 3 1
theorem test_admits_12 : admits up [.syncCfgHangTimeout 0 30, .syncCfgBind 64 5, .syncCfgUnbind 64, openBody 1, .jobClose 32, .feSetEmpty 0 0, .feSetFull 0 0, .feSetPair 0 0, .feSetBarrier 0 0, .feSetUnpoison 0 0, .hangReport 0 32, .treeCfgNode 2 0 0 [], .treeCfgBindBarrier 0 63, .treeCfgUnbindBarrier 0 63, .treeCfgBindChannel 15 0, .treeCfgLeave, .syncStatus] = true := by decide
theorem test_job_open : told (opens · 65536) (openBody 65536) (noJob id) (fun t => status t == 0 && t.sync.jobs.map Job.num == [32] && (t.sync.barrier 62).mask == 1 && said t .hub 0x0802 0) = true ∧ told (opens · 65537) (openBody 65537) (noJob id) (fun t => status t == Status.noResource.code) = true ∧
    told (opens · 1) (openBody 1) (hub id) (fun t => status t == Status.stateConflict.code) = true := by decide +kernel
theorem test_job_close : told (fun h => .jobClose h 1) (.jobClose 1) (hub id) (fun t => status t == 0 && t.sync.jobs == []) = true ∧ told (fun h => .jobClose h 32) (.jobClose 32) (hub id) (fun t => status t == Status.stateConflict.code) = true := by decide +kernel
theorem test_fe_set : told (fun h => .feSetEmpty h (addr 0 524287) 3) (.feSetEmpty (addr 0 524287) 3) (lastWord true) (fun t => word_ t 3 false && said t .hub 0x0807 1) = true ∧ told (fun h => .feSetFull h (addr 0 524287) 3) (.feSetFull (addr 0 524287) 3) (lastWord false) (fun t => word_ t 3 true) = true := by decide +kernel
theorem test_fe_set_pair : told (fun h => .feSetPair h (addr 1 4095) 0) (.feSetPair (addr 1 4095) 0) pairs (fun t => (t.sync.pair 4095).c == 3) = true ∧ told (fun h => .feSetBarrier h (addr 2 62) 0) (.feSetBarrier (addr 2 62) 0) (barrier true) (fun t => (t.sync.barrier 62).arrived == 0) = true ∧
    told (fun h => .feSetUnpoison h (addr 0 5) 0) (.feSetUnpoison (addr 0 5) 0) (hub fun y => { y with words := [(5, { val := 3, poison := true })] }) (fun t => t.sync.words == []) = true := by decide +kernel
theorem test_hub_reads : told (fun h => .hangReport h 0 32) (.hangReport 0 32) hung (fun t => (answer t).getD 12 9 == 1) = true ∧ told (fun h => .syncStatus h) .syncStatus up (fun t => status t == 0) = true := by decide +kernel
theorem test_sync_cfg : told (fun h => .syncCfgHangTimeout h 0 3600) (.syncCfgHangTimeout 0 3600) up (fun t => t.sync.hangS == 3600) = true ∧ told (fun h => .syncCfgHangTimeout h 0 3601) (.syncCfgHangTimeout 0 3601) up (fun t => status t == Status.badArg.code) = true ∧
    told (fun h => .syncCfgBind h 70 5) (.syncCfgBind 70 5) up (fun t => (nth t.link.ctxKeys 6).key == 5 && said t .hub 0x0809 0) = true := by decide +kernel
theorem test_sync_cfg_unbind : told (fun h => .syncCfgUnbind h 64) (.syncCfgUnbind 64) (noJob id) (fun t => status t == 0 && nth t.link.ctxKeys 0 == {}) = true ∧ told (fun h => .syncCfgUnbind h 64) (.syncCfgUnbind 64) (hub id) (fun t => status t == Status.stateConflict.code) = true := by decide +kernel
theorem test_tree_cfg_node : told (fun h => .treeCfgNode h 2 10 1 [{ addr := 2, trays := 131061 }]) (.treeCfgNode 2 10 1 [{ addr := 2, trays := 131061 }]) up (fun t => t.sync.tray == 10 && t.sync.node.isSome) = true ∧
    told (fun h => .treeCfgNode h 2 10 1 []) (.treeCfgNode 2 10 1 []) (node id) (fun t => status t == Status.stateConflict.code) = true := by decide +kernel
/-- A node whose engine 61 may be bound to tree barrier 63. -/
def bindable : State := node fun y => { y with barriers := (y.barriers.set 62 {}).set 61 { mask := (1#72 <<< 71) ||| 1 }, treeBars := [] }
theorem test_tree_cfg_barrier : told (fun h => .treeCfgBindBarrier h 61 63) (.treeCfgBindBarrier 61 63) bindable (fun t => (t.sync.barrier 61).tree == some 63 && t.sync.treeBars.map TreeBarrier.num == [63]) = true ∧
    told (fun h => .treeCfgBindBarrier h 60 63) (.treeCfgBindBarrier 60 63) bindable (fun t => status t == Status.stateConflict.code) = true ∧
    told (fun h => .treeCfgUnbindBarrier h 62 7) (.treeCfgUnbindBarrier 62 7) (node id) (fun t => (t.sync.barrier 62).tree.isNone && t.sync.treeBars == []) = true ∧ told (fun h => .treeCfgUnbindBarrier h 62 8) (.treeCfgUnbindBarrier 62 8) (node id) (fun t => status t == Status.stateConflict.code) = true := by decide +kernel
theorem test_tree_cfg_channel : told (fun h => .treeCfgBindChannel h 15 524287) (.treeCfgBindChannel 15 524287) up (fun t => nth t.sync.channels 15 == some 524287) = true ∧ told (fun h => .treeCfgLeave h) .treeCfgLeave bindable (fun t => status t == 0 && t.sync.node.isNone) = true ∧
    told (fun h => .treeCfgLeave h) .treeCfgLeave up (fun t => status t == Status.stateConflict.code) = true := by decide +kernel

/-! Links and host path (13) -/

/-- Accelerator 0 is on at LINK_UP, and package port 9 and the mirror port stand so. -/
def lnk (p : SkvPort) : State := { acc0 with
  op := { acc0.op with table := { acc0.op.table with acc := acc0.op.table.acc.set 0 { kind := 1 } } }
  link := { up.link with ports := (up.link.ports.set 0 { phase := .linkUp, credits := List.replicate 7 9 }).set 9 p }
  pair := { up.pair with mir := p } }
/-- A trained port whose flits 7 and 8 wait. -/
def portB : SkvPort := { phase := .linkUp, expansion := true, credits := List.replicate 7 9, replay := [{ seq := 7 }, { seq := 8 }], txSeq := 9 }
theorem test_link_flit : after (.linkFlit 9 false 7 (List.replicate 7 0)) (lnk portB) (fun t => (t.skv 9).replay == [{ seq := 8 }] && (t.skv 9).rx == 1 && (t.skv 9).replays == 0) = true ∧ after (.linkFlit 10 true 7 (List.replicate 7 0)) (lnk portB) (fun t => (t.skv 10).replays == 1) = true := by decide +kernel
theorem test_flit_crc : after (.flitCrcFail 10) (lnk portB) (fun t => (t.skv 10).crcErr == 1 && (t.skv 10).discarding && (t.skv 10).linkSent.length == 1) = true := by decide +kernel
theorem test_replay : after (.replayTimeout 9) (lnk { portB with stuck := 7 }) (fun t => (t.skv 9).stuck == 8 && (t.skv 9).replays == 1 && (t.skv 9).tx == 2 && (t.skv 9).credits == List.replicate 7 9) = true ∧
    after (.retrain 9) (lnk { portB with stuck := 8 }) (fun t => (t.skv 9).retrain == some 1000000 && said t .hostSwitch 0x0903 1) = true := by decide +kernel
theorem test_retrain_timeout : after (.retrainTimeout 9) (lnk { portB with retrain := some 900000 }) (fun t => (t.skv 9).phase == .down && (t.skv 9).replay == [] && (t.skv 9).credits == List.replicate 7 0 && said t .hostSwitch 0x0902 1) = true ∧
    after (.retrainTimeout 10) (lnk { portB with retrain := some 900000 }) (fun t => said t .mirror 0x0902 1) = true := by decide +kernel
theorem test_training : after (.linkTrainingComplete 9 1) (lnk { portB with phase := .training }) (fun t => t.clk.phase == .running) = true ∧ after (.linkTrainingComplete 9 1) { lnk { phase := .down } with clk := { up.clk with coreInReset := false } } (fun t => (t.skv 9).phase == .up && (t.skv 9).gen == 1) = true ∧
    after (.linkTrainingComplete 10 2) { lnk { phase := .down } with clk := { up.clk with coreInReset := false } } (fun t => (t.skv 10).phase == .linkUp) = true ∧ after (.linkTrainingComplete 9 2) { lnk { portB with retrain := some 5 } with clk := { up.clk with coreInReset := false } } (fun t => (t.skv 9).retrain.isNone && (t.skv 9).phase == .linkUp) = true := by decide +kernel
/-- A companion's capability. -/
def capEx (k : Nat) : Capability := { kind := k, credits := List.replicate 7 4 }
theorem test_capability : after (.capabilityMessage 9 (capEx 3)) (lnk { portB with phase := .up }) (fun t => (t.skv 9).phase == .linkUp && said t .hostSwitch 0x0901 0) = true ∧ after (.capabilityMessage 9 (capEx 1)) (lnk { portB with phase := .up }) (fun t => (t.skv 9).phase == .up && said t .hostSwitch 0x0904 2) = true := by decide +kernel
/-- Die 7's phase report stands at sequence 4. -/
def phased : State := { lnk portB with link := { (lnk portB).link with dies := up.link.dies.set 7 { rseq := some 4 } } }
theorem test_phase_report : after (.phaseReport 0 { part := 7, phase := 255, step := 9, rseq := 5 }) phased (fun t => nth t.link.dies 7 == { rseq := some 5, phase := some 255, step := some 9 } && t.link.topStep == 9) = true ∧
    after (.phaseReport 0 { part := 7, phase := 255, step := 9, rseq := 4 }) phased (fun t => t.link.dies == phased.link.dies && (t.skv 0).discarded == 1) = true := by decide +kernel
/-- Die 7's and a memory sensor of package 0 are used. -/
def sensed : State := { lnk portB with link := { (lnk portB).link with ports := (lnk portB).link.ports.set 0 { phase := .linkUp, cap := some { dies := 0xFF, hbm := BitVec.allOnes 24 } } } }
theorem test_temperature_report : after (.temperatureReport 0 { pkg := 0, die := [0x8000, 0x8000, 0x8000, 0x8000, 0x8000, 0x8000, 0x8000, 0xFFF6], hbm := List.replicate 23 0x8000 ++ [300] }) sensed
    (fun t => (t.sensor 7).x == some (-10) && (t.sensor 87).x == some 300 && (t.sensor 6).x.isNone) = true := by decide +kernel
theorem test_partner_path : after (.partnerPathMessage 0 6 [1, 2]) { lnk portB with pair := { (lnk portB).pair with role := .standby } } (fun t => t.pair.out == [.path 0 6 [1, 2]]) = true := by decide +kernel
theorem test_link_commands : told (fun h => .linkStatus h) .linkStatus up (fun t => status t == 0) = true ∧ told (fun h => .linkRetrain h 11) (.linkRetrain 11) up (fun t => status t == Status.badArg.code) = true ∧ told (fun h => .linkRetrain h 9) (.linkRetrain 9) up (fun t => status t == Status.stateConflict.code) = true ∧
    told (fun h => .linkRetrain h 9) (.linkRetrain 9) (lnk portB) (fun t => status t == 0 && (t.skv 9).retrain == some 1000000) = true := by decide +kernel
theorem test_bw_share : told (fun h => .bwShareSet h [1, 15, 1, 1, 1]) (.bwShareSet [1, 15, 1, 1, 1]) up (fun t => t.link.weights == [1, 15, 1, 1, 1]) = true ∧ told (fun h => .bwShareSet h [1, 16, 1, 1, 1]) (.bwShareSet [1, 16, 1, 1, 1]) up (fun t => status t == Status.badArg.code) = true ∧
    admits up [.linkStatus, .hostqCreate 63 9 16 64 5, .hostqDelete 63, .imagePushOpen 7 0 0 65536 5, .imagePushStart 0 1 0 0, .imagePushAbort 0 1 0 0, .linkRetrain 10, .bwShareSet [1, 1, 1, 1, 1]] = true := by decide +kernel
/-- Context 70, queue 63 (to port 9) and buffer 7 are bound. -/
def bound : State := { lnk portB with link := { (lnk portB).link with
  ctxKeys := up.link.ctxKeys.set 6 { bound := true, high := some 5 }, queueKeys := up.link.queueKeys.set 63 { bound := true }, imageKeys := up.link.imageKeys.set 7 { bound := true }
  queues := [{ num := 63, port := 9, depth := 16, entryBytes := 64, a := 2, delivered := 2, entries := [{ qseq := 1 }, { qseq := 2 }], comps := [{ cseq := 3, gt := 999000 }] }]
  buffers := up.link.buffers.set 7 (some { size := 65536 }) } }
theorem test_host_frame : (bound.link.hostKey 0 6).refuses { typ := 1, fseq := 9 } = none ∧ (bound.link.hostKey 0 6).refuses { typ := 1, tagOk := false } = some 3 ∧ after (.hostSyncFrame 70 { typ := 1, len := 32, fseq := 9 } [{}]) bound (fun t => (t.link.hostKey 0 6).high == some 9) = true ∧
    after (.hostSyncFrame 70 { typ := 1, len := 32, tagOk := false } [{}]) bound (fun t => t.link.dropped == 1 && t.link.authFail == 1 && t.sync == bound.sync) = true := by decide +kernel
theorem test_queue_frame : after (.queueEntriesFrame 63 { typ := 3, cls := 1, len := 32, fseq := 1 } 2 [{ qseq := 3, data := [7] }, { qseq := 4 }]) bound (fun t => (t.queue 63).any (fun q => q.a == 4 && q.cack == 2) && t.link.ethSent.length == 1) = true := by decide +kernel
theorem test_consumed : after (.consumedCount 9 63 1) bound (fun t => (t.queue 63).any fun q => q.c == 1 && q.entries.map QueueEntry.qseq == [2]) = true ∧ after (.completion 9 63 4 [1]) bound (fun t => (t.queue 63).any (fun q => q.comps.map QueueCompletion.cseq == [3, 4]) && t.link.ethSent.length == 1) = true ∧
    after (.completionResend 63) bound (fun t => t.link.ethSent.length == 1) = true := by decide +kernel
theorem test_image_data : after (.imageDataFrame 7 { typ := 6, cls := 2, len := 6, fseq := 1 } 0 [1, 2] {}) bound (fun t => (nth t.link.buffers 7).any (fun b => b.ranges == [(0, 2)] && b.content == [(0, 1), (1, 2)]) && t.link.ethSent.length == 1) = true := by decide +kernel
/-- Push 3 to packages 0 and 1, of one good and one bad block. -/
def pushing (next : Nat) : State := { bound with link := { bound.link with pushes := [{ id := 3, mask := 3, next := next, obj := { man := { nblocks := 2 }, blocksOk := [true, false] } }] } }
theorem test_image_block : after (.imageBlockSend 3) (pushing 0) (fun t => t.link.pushes.map (fun p => (p.next, p.ended)) == [(1, false)]) = true ∧ after (.imageBlockSend 3) (pushing 1) (fun t => t.link.pushes == [] && said t .fp3 0x0C07 2) = true := by decide +kernel
theorem test_done : after (.done 0 3 0) (pushing 1) (fun t => t.link.pushes.map ImagePush.mask == [2] && said t .fp3 0x0907 0) = true ∧ after (.done 0 3 2) (pushing 1) (fun t => said t .fp3 0x0907 2) = true := by decide +kernel
theorem test_tag_burst : after (.hostTagFailBurst 1 63) { bound with link := { bound.link with queueKeys := up.link.queueKeys.set 63 { bound := true, fails := List.replicate 65 999999 } } } (fun t => (t.link.hostKey 1 63).fails == [] && said t .hostSwitch 0x0908 1) = true := by decide +kernel
theorem test_ethernet : after (.ethernetLinkChange 4) { up with clk := { up.clk with coreInReset := false } } (fun t => t.link.ethMode == 4 && said t .hostSwitch 0x0906 0) = true ∧ after (.fecUncorrectableBurst 1001) up (fun t => t.link.fecUnc == 1001 && said t .hostSwitch 0x090A 1) = true ∧
    after (.ethernetFrameDiscard 2) up (fun t => t.link.dropped == 1) = true := by decide +kernel
/-- Own address 5, tray address 6. -/
def eth : State := { up with cfg := { up.cfg with eth := { up.cfg.eth with own := (1, 5, 5), tray := (2, 6, 6) } }, link := { up.link with trayAddr := true } }
theorem test_arp : after (.arpRequest 5) eth (fun t => t.link.ethSent == [.arpReply false]) = true ∧ after (.arpRequest 6) eth (fun t => t.link.ethSent == [.arpReply true]) = true ∧ after (.arpRequest 7) eth (fun t => t.link.ethSent == []) = true := by decide +kernel
theorem test_nd_echo : after (.neighbourSolicitation 6) eth (fun t => t.link.ethSent == [.neighbourAdvert true true]) = true ∧ after (.icmpEchoRequest true 5 [9]) eth (fun t => t.link.ethSent == [.echoReply true false [9]]) = true := by decide +kernel
theorem test_hostq_create : told (fun h => .hostqCreate h 62 9 16 64 5) (.hostqCreate 62 9 16 64 5) bound (fun t => status t == 0 && t.link.queues.map HostQueue.num == [62, 63] && (t.link.hostKey 1 62).key == 5) = true ∧
    told (fun h => .hostqCreate h 63 9 16 64 5) (.hostqCreate 63 9 16 64 5) bound (fun t => status t == Status.stateConflict.code) = true ∧
    told (fun h => .hostqDelete h 63) (.hostqDelete 63) bound (fun t => status t == 0 && t.link.queues == []) = true ∧ told (fun h => .hostqDelete h 62) (.hostqDelete 62) bound (fun t => status t == Status.stateConflict.code) = true := by decide +kernel
theorem test_image_open : told (fun h => .imagePushOpen h 7 0 0 65535 5) (.imagePushOpen 7 0 0 65535 5) bound (fun t => status t == Status.badArg.code) = true ∧ told (fun h => .imagePushOpen h 6 0 0 65536 5) (.imagePushOpen 6 0 0 65536 5) bound (fun t => status t == 0 && (nth t.link.buffers 6).any fun b => b.size == 65536) = true := by decide +kernel
/-- Images at offsets 0 and 65,536 of the store; the second does not verify. -/
def stored : State := { bound with link := { bound.link with store := [(0, goodObj 5 65536), (65536, goodObj 4 65536)] } }
theorem test_push_start : stored.pushable 0 = true ∧ told (fun h => .imagePushStart h 0 1 0 0) (.imagePushStart 0 1 0 0) stored (fun t => status t == 1 && t.link.pushes.map (fun p => (p.id, p.mask)) == [(1, 1)]) = true ∧
    told (fun h => .imagePushStart h 0 1 0 65536) (.imagePushStart 0 1 0 65536) stored (fun t => status t == Status.integrityFail.code) = true ∧ told (fun h => .imagePushStart h 0 2 0 0) (.imagePushStart 0 2 0 0) stored (fun t => status t == Status.stateConflict.code) = true ∧
    told (fun h => .imagePushAbort h 0 1 0 0) (.imagePushAbort 0 1 0 0) (pushing 0) (fun t => status t == 0 && t.link.pushes.all fun p => p.mask &&& 1 == 0) = true := by decide +kernel

/-! Reproducibility (14) -/

/-- A binding of job 32; an open record of job 31 with an unfilled checkpoint, and a sealed record 9. -/
def repro : State := { stored with repro := { up.repro with
  binds := [{ job := 32 }], records := [{ rpSeq := 9, job := 3, flags := 16 }, { rpSeq := 10, job := 31, cps := [{ step := 5, result := some 1 }, { step := 6 }] }] } }
theorem test_admits_14 : admits up [.strictSet 1, .replayRecordRead 0 0 9 0 4, .replayBind 32 0 0 0 0 (List.replicate 8 0) [], .replayBindResult 31 6 8, .replayBindRemove 32, .spareSubstitute 7 1 0 0 0 0 0 0, .spareSubstituteRemove 7] = true := by decide
theorem test_strict_set : told (fun h => .strictSet h 1) (.strictSet 1) up (fun t => t.repro.strict && said t .fp3 0x0A01 0) = true ∧ told (fun h => .strictSet h 0) (.strictSet 0) up (fun t => status t == 0 && t.rec_ == up.rec_) = true ∧
    told (fun h => .strictSet h 1) (.strictSet 1) (barrier true) (fun t => status t == Status.stateConflict.code && !t.repro.strict) = true := by decide +kernel
theorem test_replay_bind : told (fun h => .replayBind h 31 281474976710656 1 2 3 (List.replicate 8 0) [4]) (.replayBind 31 281474976710656 1 2 3 (List.replicate 8 0) [4]) repro (fun t => status t == 0 && t.repro.binds.map ReplayBinding.job == [31, 32]) = true ∧
    told (fun h => .replayBind h 1 0 1 2 3 (List.replicate 8 0) []) (.replayBind 1 0 1 2 3 (List.replicate 8 0) []) (hub id) (fun t => status t == Status.stateConflict.code) = true := by decide +kernel
theorem test_replay_result : told (fun h => .replayBindResult h 31 6 8) (.replayBindResult 31 6 8) repro (fun t => status t == 0 && (nth t.repro.records 1).cps.map ReplayCheckpoint.result == [some 1, some 8]) = true ∧ told (fun h => .replayBindResult h 3 6 8) (.replayBindResult 3 6 8) repro (fun t => status t == Status.stateConflict.code) = true ∧
    told (fun h => .replayBindRemove h 32) (.replayBindRemove 32) repro (fun t => status t == 0 && t.repro.binds == []) = true ∧ told (fun h => .replayBindRemove h 31) (.replayBindRemove 31) repro (fun t => status t == Status.stateConflict.code) = true := by decide +kernel
theorem test_replay_read : told (fun h => .replayRecordRead h 0 0 9 0 4) (.replayRecordRead 0 0 9 0 4) repro (fun t => status t == 0 && t.repro.records.map ReplayRecord.read == [true, false]) = true ∧ told (fun h => .replayRecordRead h 0 0 9 0 3680) (.replayRecordRead 0 0 9 0 3680) { repro with link := { repro.link with jumbo := false } } (fun t => t.repro.records.length == 2) = true := by decide +kernel
theorem test_spare : told (fun h => .spareSubstitute h 7 1 0 0 100 1 2 0) (.spareSubstitute 7 1 0 0 100 1 2 0) repro (fun t => status t == 1 && t.repro.pending.map Substitution.coresAfter == [100]) = true ∧
    told (fun h => .spareSubstitute h 7 1 0 0 100 1 2 0) (.spareSubstitute 7 1 0 0 100 1 2 0) { repro with repro := { repro.repro with inForce := [{ pkg := 7 }, { pkg := 7 }] } } (fun t => status t == Status.noResource.code) = true ∧
    told (fun h => .spareSubstituteRemove h 7) (.spareSubstituteRemove 7) { repro with repro := { repro.repro with inForce := [{ pkg := 7 }] } } (fun t => status t == 1 && t.repro.inForce.all Substitution.ended) = true := by decide +kernel
/-- A substitution of package 0 waits. -/
def pendingSub (type : Nat) : State := { stored with repro := { up.repro with pending := [{ pkg := 0, obj := goodObj type 65536 }] } }
theorem test_substitution_start : after (.substitutionStart 0) (pendingSub 6) (fun t => t.repro.pending == [] && t.link.pushes.map (fun p => (p.mask, p.overlay)) == [(1, true)] && t.repro.pushing.length == 1) = true ∧
    after (.substitutionStart 0) (pendingSub 4) (fun t => t.repro.pending == [] && t.link.pushes == []) = true := by decide +kernel

/-! Redundant pair (15) -/

/-- A governor of a role with a trained mirror link, the partner alive and mirroring. -/
def pr (r : Role) (f : PairState → PairState) : State := { up with
  clk := { up.clk with coreInReset := false }
  pair := f { up.pair with role := r, pull := r == .owner, mstate := .mirroring, alive := true, aliveIn := some 999999, hbRx := some 999990, hbGen := some 999990, mir := { phase := .linkUp, credits := List.replicate 7 9 } } }
/-- A STANDBY that sees OWN_N high since a tick. -/
def free_ (g : Nat) (f : PairState → PairState) : State := pr .standby fun p => f { p with ownSince := g }
theorem test_no_claim : (free_ 999981 id).ownHigh 20 = false ∧ after (.ownershipClaim 0) (free_ 999981 id) (fun t => t.pair == (free_ 999981 id).pair) = true := by decide +kernel
theorem test_takeover : after (.ownershipClaim 0) (free_ 999980 fun p => { p with alive := false }) (fun t => t.pair.role == .owner && t.pair.pull && t.pair.takeovers == 1 && said t .mirror 0x0B01 2) = true ∧
    after (.ownershipClaim 0) (free_ 999980 fun p => { p with alive := false, mstate := .detached }) (fun t => t.pair.role == .owner && said t .mirror 0x0B01 3 && said t .hub 0x0801 3) = true := by decide +kernel
theorem test_claim_handover : after (.ownershipClaim 0) (free_ 999980 fun p => { p with handover := .target 999900 0 }) (fun t => t.pair.role == .owner && t.pair.handovers == 1 && said t .mirror 0x0B04 0) = true := by decide +kernel
theorem test_claim_record : after .claimRecord { pr .owner (fun p => { p with claimGt := some 999990 }) with straps := { pairSel := true } } (fun t => t.pair.role == .standby && !t.pair.pull && said t .mirror 0x0B05 3) = true ∧
    after .claimRecord (pr .owner fun p => { p with claimGt := some 999990 }) (fun t => t.pair.role == .owner && t.pair.pull) = true := by decide +kernel
theorem test_own_n_standby : after .ownNLowStandby (pr .undecided fun p => { p with ownLow := true, ownSince := 999980, qualifier := true }) (fun t => t.pair.role == .standby && t.sync.awaitCopy) = true ∧
    after .ownNLowStandby (pr .standby fun p => { p with ownLow := true, ownSince := 999980 }) (fun t => !t.sync.awaitCopy) = true := by decide +kernel
theorem test_heartbeat_send : after .heartbeatSend (pr .owner id) (fun t => t.pair.hbGen == some 1000000 && t.pair.out.length == 1) = true ∧ after .qualifierDrop { pr .owner (fun p => { p with hbGen := some 999959 }) with pins := { aliveOut := true } } (fun t => t.pair.role == .undecided && !t.pair.pull && !t.pins.aliveOut && t.pair.mstate == .detached) = true := by decide +kernel
theorem test_heartbeat_receive : after (.heartbeatReceive { role := 1, mstate := 2, th := 9, gtSend := 1000105, echo := 999990, echoRx := 1000096 }) (pr .standby fun p => { p with mstate := .syncing })
    (fun t => t.pair.offset == 105 && t.pair.mstate == .mirroring && t.cool.partnerTh == 9 && t.pair.hbEcho == 1000105) = true ∧ after (.heartbeatReceive { role := 1, mstate := 0 }) (pr .standby id) (fun t => t.pair.mstate == .detached) = true := by decide +kernel
theorem test_alive : (pr .owner id).aliveInRecent = true ∧ after .partnerAlive (pr .owner fun p => { p with alive := false }) (fun t => t.pair.alive && t.pair.aliveSince == some 1000000) = true ∧
    after .partnerNotAlive (pr .owner fun p => { p with aliveIn := some 999991 }) (fun t => !t.pair.alive && t.pair.lostPending) = true := by decide +kernel
theorem test_partner_lost : after .partnerLostAtOwner (pr .owner fun p => { p with alive := false, lostPending := true, outstanding := [{ mseq := 1 }] }) (fun t => t.pair.mstate == .detached && t.pair.outstanding == [] && said t .mirror 0x0B07 2) = true := by decide +kernel
theorem test_shadow_drive_release : after .shadowDriveRelease (pr .owner fun p => { p with releaseAt := some 1000000 }) (fun t => t.pair.shadowReleased && t.pair.releaseAt.isNone) = true := by decide +kernel
/-- A record is next. -/
def applies (c : Instr) (p : State → Bool) : Bool := after c (pr .standby fun p => { p with mseqApplied := 4 }) fun t => t.pair.mseqApplied == 5 && t.pair.out.getLast? == some (.recordAck 5) && p t
theorem test_mirror_apply : applies (.mirrorRecordApply 5 <| .repro { strict := true }) (fun t => t.repro.strict) = true ∧ applies (.mirrorRecordApply 5 <| .hub { up.sync with hangS := 9 }) (fun t => t.sync.hangS == 9) = true ∧ applies (.mirrorRecordApply 5 <| .sems [some held]) (fun t => t.sems == some held :: List.replicate 15 none) = true ∧
    applies (.mirrorRecordApply 5 <| .thyme up.thyme.ctxs [] true goodSet false (List.replicate 8 none) none) (fun t => t.thyme.autoOn && t.thyme.set == goodSet) = true := by decide +kernel
theorem test_mirror_grants : applies (.mirrorRecordApply 5 <| .grants [191] [] (List.replicate 20 0) (List.replicate 12 7) 31 ((5 <<< 64) ||| (6 <<< 76))) (fun t => (t.rail 191).granted && !(t.rail 190).granted && t.sage.branches == 5 && t.sage.accReset == 6 && t.op.budgetSent == List.replicate 12 7) = true ∧
    after (.mirrorRecordApply 6 (.repro {})) (pr .standby fun p => { p with mseqApplied := 4 }) (fun t => t.pair.mseqApplied == 4) = true := by decide +kernel
theorem test_mirror_ack : after (.mirrorAckReceive 0) (pr .owner fun p => { p with outstanding := [{ mseq := 4294967295 }, { mseq := 0 }, { mseq := 1 }] }) (fun t => t.pair.outstanding.map MirRecord.mseq == [1]) = true := by decide +kernel
theorem test_straps : after (.strapExchange { slotId := 0, pairSel := true, proto := 3 }) (pr .owner id) (fun t => t.pair.strapsOk == some true && t.pair.protoPartner == 3) = true ∧ after (.strapExchange { limitsEqual := false }) (pr .owner id) (fun t => t.pair.strapsOk == some false && said t .mirror 0x0B10 2 && said t .mirror 0x0B12 1) = true := by decide +kernel
theorem test_syncing : (pr .owner fun p => { p with mstate := .detached, strapsOk := some true }).maySync = true ∧ after .syncingStart (pr .owner fun p => { p with mstate := .detached, strapsOk := some true }) (fun t => t.pair.mstate == .syncing && t.pair.outstanding.map MirRecord.kind == bulkKinds && t.pair.mseqSent == 12) = true ∧
    after .mirroringEntry (pr .owner fun p => { p with mstate := .syncing }) (fun t => t.pair.mstate == .mirroring && said t .mirror 0x0B02 0) = true := by decide +kernel
theorem test_mirror_loss : after .mirrorLoss (pr .owner fun p => { p with hbRx := some 999950 }) (fun t => t.pair.mstate == .detached && t.pair.losses == 1 && said t .mirror 0x0B03 2) = true := by decide +kernel
theorem test_handover_release : after .handoverRelease (pr .owner fun p => { p with handover := .accepted 1, mseqSent := 8 }) (fun t => t.pair.role == .standby && !t.pair.pull && t.pair.handover == .released 1000000 1 && t.pair.out.contains (.handover t.pair.mseqSent)) = true ∧
    after .handoverRelease { pr .owner (fun p => { p with handover := .accepted 1 }) with clk := { up.clk with gt := 1000001 } } (fun t => t.pair.role == .owner) = true := by decide +kernel
theorem test_handover_record : after (.handoverRecord 9) (pr .standby id) (fun t => t.pair.handover == .target 1000000 9) = true ∧
    after .handoverAbandon (pr .standby fun p => { p with handover := .released 999000 1, ownSince := 999000, qualifier := true }) (fun t => t.pair.role == .owner && t.pair.pull && t.pair.handover == .none && said t .mirror 0x0B04 1) = true := by decide +kernel
theorem test_admits_15 : admits up [.pairStatus, .pairHandover, .mirrorStatus] = true ∧ told (fun h => .pairStatus h) .pairStatus (pr .owner id) (fun t => (answer t).drop 12 |>.take 3 |> (· == [1, 0, 2])) = true ∧ told (fun h => .mirrorStatus h) .mirrorStatus (pr .owner fun p => { p with lagMax := 5 }) (fun t => t.pair.lagMax == 0) = true := by decide +kernel
theorem test_pair_handover : told (fun h => .pairHandover h) .pairHandover (pr .owner id) (fun t => status t == 1 && t.pair.handover == .accepted 0) = true ∧ told (fun h => .pairHandover h) .pairHandover up (fun t => status t == Status.stateConflict.code) = true ∧
    told (fun h => .pairHandover h) .pairHandover { pr .owner id with upd := { up.upd with lastSevere := some 0 } } (fun t => status t == Status.emergencyActive.code) = true := by decide +kernel

/-! Firmware update (16) -/

/-- A bundle of one index of 64 KB and one block, with one accelerator image that verifies. -/
def bundle (o : BundleObject) : BundleIndex := { vendorKeyOk := true, vendorSigOk := true, idxLen := 65536, nblocks := 1, objects := [o] }
def accImage : BundleObject := { type := 5, target := 4, nBlk := 1, storeOff := 65536, digestOk := true, accKind := 1, obj := { goodObj 5 65536 with man := { (goodObj 5 65536).man with nblocks := 1 } } }
/-- An update in a phase. -/
def upd (f : UpdateState → UpdateState) : State := { acc0 with upd := f up.upd, sec := { up.sec with runningLoader := some 0, runningSlot := some 0 } }
/-- The bundle's staging. -/
def st_ (r : List (Nat × Nat)) (i : Option BundleIndex) : UpdateState → UpdateState := fun u => { u with phase := .receiving, staging := some { length := 131072, idxLen := 65536, ranges := r, idx := i } }
theorem test_admits_16 : admits up [.updateBegin 131072 65536, .updateVerify, .updateActivate 1, .updateStatus, .configBlockWriteBegin, .configBlockWriteCommit {}] = true := by decide
theorem test_update_begin : told (fun h => .updateBegin h 131072 65536) (.updateBegin 131072 65536) (upd id) (fun t => t.upd.phase == .receiving && t.upd.staging == some { length := 131072, idxLen := 65536 }) = true ∧
    told (fun h => .updateBegin h 131072 65535) (.updateBegin 131072 65535) (upd id) (fun t => status t == Status.badArg.code) = true ∧ told (fun h => .updateBegin h 131072 65536) (.updateBegin 131072 65536) (upd fun u => { u with phase := .deferred }) (fun t => status t == Status.stateConflict.code) = true ∧
    told (fun h => .updateBegin h 536936448 65536) (.updateBegin 536936448 65536) (upd id) (fun t => status t == Status.noResource.code) = true := by decide +kernel
/-- UPDATE_DATA of one byte. -/
def feeds_ (off : U32) (i : BundleIndex) (bad : List Nat) (s : State) (p : State → Bool) : Bool := told (fun h => .updateData h off 1 i bad) (.updateData off 1 i bad) s p
theorem test_update_data : feeds_ 0 {} [] (upd (st_ [] none)) (fun t => status t == 0 && t.upd.staging.any fun b => b.ranges == [(0, 1)]) = true ∧ feeds_ 65535 {} [] (upd (st_ [(0, 65535)] none)) (fun t => status t == Status.integrityFail.code && t.upd.staging.isNone && t.upd.phase == .idle) = true ∧
    feeds_ 65535 (bundle accImage) [] (upd (st_ [(0, 65535)] none)) (fun t => status t == 0 && t.upd.staging.any fun b => b.idx == some (bundle accImage)) = true ∧ feeds_ 0 {} [] up (fun t => status t == Status.stateConflict.code) = true := by decide +kernel
theorem test_update_data_block : feeds_ 131071 {} [0] (upd (st_ [(0, 131071)] (some (bundle accImage)))) (fun t => status t == Status.integrityFail.code && t.upd.staging.any fun b => b.bad == [] && b.good == []) = true ∧
    feeds_ 131071 {} [] (upd (st_ [(0, 131071)] (some (bundle accImage)))) (fun t => status t == 0 && t.upd.staging.any fun b => b.good == [0]) = true ∧ feeds_ 131072 {} [] (upd (st_ [] none)) (fun t => status t == Status.badArg.code) = true := by decide +kernel
theorem test_update_verify : told (fun h => .updateVerify h) .updateVerify (upd (st_ [(0, 131072)] (some (bundle accImage)))) (fun t => status t == 1 && t.upd.phase == .installed && t.upd.last == .ok && said t .fp0 0x0C10 0) = true ∧
    told (fun h => .updateVerify h) .updateVerify (upd (st_ [(0, 131072)] (some (bundle { accImage with digestOk := false })))) (fun t => status t == 1 && t.upd.last != .ok && said t .fp0 0x0C10 2) = true ∧
    told (fun h => .updateVerify h) .updateVerify (upd (st_ [(0, 65536)] (some (bundle accImage)))) (fun t => status t == Status.stateConflict.code && ((answer t).drop 12).take 4 == [0, 0, 0, 0]) = true ∧ told (fun h => .updateVerify h) .updateVerify up (fun t => status t == Status.stateConflict.code) = true := by decide +kernel
/-- A configuration block that verifies, written whole. -/
def cfgObj : ConfigObject := { obj := { goodObj 3 65536 with man := { (goodObj 3 65536).man with nblocks := 1, custSig := true } }, cfg := goodConfig }
def cfgWritten (l : List (Nat × Nat)) : State := upd fun u => { u with cfgWrite := some l }
theorem test_config_write : told (fun h => .configBlockWriteBegin h) .configBlockWriteBegin up (fun t => t.upd.cfgWrite == some []) = true ∧ told (fun h => .configBlockWriteData h 262143 1) (.configBlockWriteData 262143 1) (cfgWritten []) (fun t => t.upd.cfgWrite == some [(262143, 262144)]) = true ∧
    told (fun h => .configBlockWriteData h 262143 2) (.configBlockWriteData 262143 2) (cfgWritten []) (fun t => status t == Status.badArg.code) = true ∧ told (fun h => .configBlockWriteData h 0 1) (.configBlockWriteData 0 1) up (fun t => status t == Status.stateConflict.code) = true := by decide +kernel
theorem test_config_commit : told (fun h => .configBlockWriteCommit h cfgObj) (.configBlockWriteCommit cfgObj) (cfgWritten [(0, 131072)]) (fun t => status t == 1 && (said t .fp0 0x0C10 0 || said t .fp0 0x0C10 2)) = true ∧
    told (fun h => .configBlockWriteCommit h cfgObj) (.configBlockWriteCommit cfgObj) (cfgWritten [(0, 65536)]) (fun t => status t == Status.stateConflict.code && ((answer t).drop 12).take 4 == [0, 0, 0, 0]) = true := by decide +kernel
/-- An accelerator image is installed. -/
def inst (f : UpdateState → UpdateState) : State := upd fun u => f { u with phase := .installed, objects := [accImage] }
theorem test_activate : told (fun h => .updateActivate h 1) (.updateActivate 1) (inst id) (fun t => status t == 1 && t.upd.phase == .activating && t.upd.block.pending && t.upd.resetDue && said t .fp0 0x0C13 0) = true ∧
    told (fun h => .updateActivate h 1) (.updateActivate 1) (inst fun u => { u with lastAlert := some 0 }) (fun t => status t == Status.deferred.code && t.upd.phase == .deferred && said t .fp0 0x0C11 1) = true ∧
    told (fun h => .updateActivate h 1) (.updateActivate 1) (upd id) (fun t => status t == Status.stateConflict.code) = true ∧ told (fun h => .updateActivate h 2) (.updateActivate 2) (inst id) (fun t => status t == Status.badArg.code) = true ∧
    told (fun h => .updateActivate h 0) (.updateActivate 0) { inst id with thyme := { up.thyme with latchLeak := true } } (fun t => status t == Status.emergencyActive.code) = true := by decide +kernel
theorem test_activate_fails : told (fun h => .updateActivate h 1) (.updateActivate 1) (inst fun u => { u with objects := [{ accImage with target := 1, type := 2 }] }) (fun t => status t == 1 && t.upd.phase == .failed && said t .fp0 0x0C13 2) = true ∧
    told (fun h => .updateStatus h) .updateStatus (inst id) (fun t => ((answer t).drop 12).take 2 == [3, 0]) = true := by decide +kernel
theorem test_activation_resume : after .activationResume (upd fun u => { u with phase := .activating, atStep6 := true, lone := true }) (fun t => t.clk.warmInProgress) = true ∧ after .activationResume (upd fun u => { u with phase := .activating, atStep6 := true }) (fun t => t.upd.phase == .failed && said t .fp0 0x0C13 2) = true := by decide +kernel
theorem test_deferral_clear : after .deferralClear (upd fun u => { u with phase := .deferred }) (fun t => t.upd.cleared && said t .fp0 0x0C11 0) = true ∧ after .deferralClear (upd fun u => { u with phase := .deferred, auto := true }) (fun t => t.clk.warmInProgress) = true := by decide +kernel
theorem test_deferral_expiry : after .deferralExpiry { upd (fun u => { u with phase := .deferred, deferGt := some 0 }) with clk := { up.clk with gt := 600000000 } } (fun t => t.upd.phase == .installed && said t .fp0 0x0C12 1) = true := by decide +kernel
/-- A plan runs. -/
def plan (p : UpdatePlan) : State := upd fun u => { u with phase := .planRunning, plan := p }
theorem test_loader_copy : after .loaderCopyStep { plan { loader := true } with sec := { up.sec with runningLoader := some 1, loaders := [(Slot.written {} 3).validated, (Slot.written (goodObj 2 9) 4).validated] } }
    (fun t => (nth t.sec.loaders 0).obj == goodObj 2 9 && (nth t.sec.loaders 0).gen == 5 && !t.upd.plan.loader && said t .fp0 0x0C16 0) = true := by decide +kernel
theorem test_model_step : after .modelStep (plan { models := [(7, { kind := 1 }, goodObj 4 144)] }) (fun t => t.upd.plan.models == [] && (t.slot 7).phase == .loaded && said t .fp1 0x0501 0) = true ∧
    after .modelStep (plan { models := [(7, { kind := 1 }, goodObj 3 144)] }) (fun t => (t.slot 7).phase == .empty && said t .fp1 0x0C07 2) = true := by decide +kernel
theorem test_program_step : after .programStep { plan { programs := true } with cfg := { up.cfg with programs := goodSet } } (fun t => t.thyme.set == goodSet && t.thyme.loaded && said t .fp1 0x0205 0) = true ∧
    after .programStep { plan { programs := true } with thyme := { up.thyme with ctxs := up.thyme.ctxs.set 0 { prog := some 1 } } } (fun t => t.upd.plan.programs) = true := by decide +kernel
/-- The accelerator step's plan at a package that can take a push. -/
def accPlan (p : UpdatePlan) : State := { hub (fun y => { y with jobs := [] }) with upd := { up.upd with phase := .planRunning, plan := p }, clk := up.clk }
theorem test_accelerator_step : (accPlan {}).accEligible 0 = true ∧ after .acceleratorStep (accPlan { accs := [(1, goodObj 5 65536)] }) (fun t => t.upd.plan.step == .pushing 0 1 && t.link.pushes.map ImagePush.mask == [1]) = true ∧
    after .acceleratorStep (accPlan { accs := [(1, goodObj 4 65536)] }) (fun t => t.upd.plan.accs == [] && said t .fp0 0x0C17 2) = true ∧ after .acceleratorStep (accPlan { accs := [(1, goodObj 5 65536)], step := .pushing 0 3 }) (fun t => t.upd.plan.step == .none && t.upd.plan.accFail == 1 && said t .fp0 0x0C17 2) = true := by decide +kernel
theorem test_confirm_timeout : after (.accUpdateConfirmTimeout 0) (accPlan { accs := [(1, {})], step := .waiting 0 999999 }) (fun t => t.upd.plan.accs == [] && t.upd.plan.accFail == 1 && said t .fp0 0x0C17 2) = true := by decide +kernel

/-! Errors and recorder (17), log and trace (02) -/

/-- Change the recorder. -/
def onRec (s : State) (f : RecorderState → RecorderState) : State := { s with rec_ := f s.rec_ }
/-- An event waits at an intake port; record 5 is the newest, with a merge key. -/
def intake (x : EventRec) : State := onRec up fun r => { r with nextSeq := 6, ring := [{ event := 0x0103, sev := 1, recSeq := 5, gt := 999000 }], merge := [{ event := 0x0103, sev := 1, recSeq := 5, last := 999000 }], ports := r.ports.set 15 { waiting := [x] } }
theorem test_intake_new : after .recordIntake (intake { event := 0x0603, sev := 2, gt := 999999 }) (fun t => t.rec_.nextSeq == 7 && t.rec_.ring.map EventRec.recSeq == [5, 6] && t.rec_.bySev == [0, 0, 1, 0, 0]) = true ∧ after .recordIntake up (fun t => t.rec_ == up.rec_) = true := by decide +kernel
theorem test_intake_merges : after .recordIntake (intake { event := 0x0103, sev := 1, gt := 1000000 }) (fun t => t.rec_.nextSeq == 6 && t.rec_.ring.map (fun x => (x.rpt, x.lastMs)) == [(1, 1)] && t.rec_.repeatDue == [5] && nth t.rec_.ports 15 == {}) = true := by decide +kernel
/-- Handlers of FP3. -/
def handlers (run wait : List HandleEntry) : State := onRec up fun r => { r with queues := r.queues.set 3 { running := run, entries := wait } }
theorem test_handler : after (.handlerComplete 3) (handlers [{ recSeq := 1, sev := 3 }, { recSeq := 2, sev := 1 }] [{ recSeq := 3, sev := 1 }]) (fun t => nth t.rec_.queues 3 == { running := [{ recSeq := 2, sev := 1 }], entries := [{ recSeq := 3, sev := 1 }] }) = true ∧
    after (.handlerComplete 3) (handlers [{ recSeq := 1, sev := 3 }, { recSeq := 2, sev := 1 }] [{ recSeq := 3, sev := 2 }]) (fun t => nth t.rec_.queues 3 == { running := [{ recSeq := 3, sev := 2 }, { recSeq := 2, sev := 1 }] }) = true ∧
    after (.handlerComplete 3) up (fun t => t.rec_ == up.rec_) = true := by decide +kernel
theorem test_loss_report : after .intakeLossReport (onRec up fun r => { r with ports := r.ports.set 15 { lost := 70000 } }) (fun t => t.rec_.lostReport == some 1000000 && (nth t.rec_.ports 15).lost == 0 && (nth t.rec_.ports 0).waiting.map (fun e => e.payload.drop 28) == [[255, 255]]) = true := by decide +kernel
theorem test_repeat_push : after (.repeatPush 5) (onRec (intake {}) fun r => { r with repeatDue := [5] }) (fun t => t.rec_.repeatDue == [] && look t.rec_.repeatLast 5 == 1000000) = true ∧ after (.repeatPush 5) (intake {}) (fun t => t.rec_ == (intake {}).rec_) = true := by decide +kernel
theorem test_telemetry : after .telemetryFrameTimeout (onRec up fun r => { r with stream := some { frame := [[1]], frameGt := 999900, tseq := 4 } }) (fun t => t.rec_.frames.map TelemetryFrame.tseq == [4] && t.rec_.stream.any fun x => x.tseq == 5 && x.frame == []) = true ∧
    after .telemetryFrameTimeout (onRec up fun r => { r with stream := some { frame := [[1]], frameGt := 999901 } }) (fun t => t.rec_.frames == []) = true := by decide +kernel
theorem test_spill_stop : after (.spillStop 2) (onRec up fun r => { r with spilling := true }) (fun t => !t.rec_.spilling && said t .rosemary 0x0D06 2) = true := by decide +kernel
/-- Two log entries and two trace records. -/
def logged : State := { (intake {}) with log := { up.log with ring := [{ logSeq := 3 }, { logSeq := 4 }] }, trace := { up.trace with buffer := [{ point := 1 }, { point := 2 }] } }
theorem test_admits_17 : admits up [.recRead 0 1 5 1, .recClear 5, .recStatus, .logRead 0 3 1, .logLevelSet 13 3, .traceEnable 1 3, .traceRead 1] = true := by decide
theorem test_rec_read : told (fun h => .recRead h 0 0 5 1) (.recRead 0 0 5 1) logged (fun t => status t == 0 && ((answer t).drop 12).take 4 == [5, 0, 0, 0] && (answer t).length == 52) = true ∧ told (fun h => .recRead h 0 0 5 0) (.recRead 0 0 5 0) logged (fun t => status t == Status.badArg.code) = true ∧
    told (fun h => .recStatus h) .recStatus logged (fun t => ((answer t).drop 12).take 4 == [5, 0, 0, 0]) = true := by decide +kernel
theorem test_rec_clear : told (fun h => .recClear h 5) (.recClear 5) logged (fun t => t.rec_.mark == some 5 && t.rec_.ring.length == 1 && t.rec_.merge == [] && said t .rosemary 0x0D04 0) = true ∧ told (fun h => .recClear h 6) (.recClear 6) logged (fun t => status t == Status.badArg.code) = true ∧
    told (fun h => .recClear h 4) (.recClear 4) (onRec logged fun r => { r with mark := some 5 }) (fun t => status t == 0 && t.rec_.mark == some 5) = true := by decide +kernel
theorem test_log : told (fun h => .logRead h 0 3 1) (.logRead 0 3 1) logged (fun t => status t == 0 && (answer t).length == 76) = true ∧ told (fun h => .logLevelSet h 13 3) (.logLevelSet 13 3) logged (fun t => t.log.level == List.replicate 13 2 ++ [3]) = true ∧
    told (fun h => .logLevelSet h 14 3) (.logLevelSet 14 3) logged (fun t => status t == Status.badArg.code) = true := by decide +kernel
theorem test_trace : told (fun h => .traceEnable h 5 3) (.traceEnable 5 3) logged (fun t => t.trace.mask == 5 && t.rec_.stream.any (fun x => x.bits == 3) && said t .fp0 0x0D07 0) = true ∧ told (fun h => .traceEnable h 5 4) (.traceEnable 5 4) logged (fun t => status t == Status.badArg.code) = true ∧
    told (fun h => .traceRead h 1) (.traceRead 1) logged (fun t => t.trace.buffer.map TraceRecord.point == [2] && (answer t).length == 44) = true := by decide +kernel

/-! The whole (c18): the invariant, encodings -/

theorem test_invariant_somewhere : ({ up with pending := [.aloneDecision] } : State).Inv := ⟨by decide +kernel, by decide, by decide, by decide, by decide, by decide⟩
theorem test_encodings : ofLe (leBytes 4 0xFFFFFFFF) = 0xFFFFFFFF ∧ stepTgt (stepWord 15 255 15 4095 16777215 true true true).toNat = 4095 ∧ stepIdx (stepWord 1 191 4 0 9 true false true).toNat = 191 := by decide
theorem test_event_records : ({ event := 0x0D05, recSeq := 9, payload := (List.range 72).map i1 |>.flatten } : EventRec).records.map List.length = [32, 32, 32, 32] := by decide +kernel

/-! Ill-formed commands: one term for each check -/

theorem test_ill_formed_counts : (Instr.railLevelsSet {} 0 2 [{}]).illFormed = some .count ∧ (Instr.prefPointSet {} 0 2 [1]).illFormed = some .count ∧ (Instr.thermalLevelsSet {} 0 2 [{}]).illFormed = some .count ∧
    (Instr.calibrationSet {} 0 2 [{}]).illFormed = some .count ∧ (Instr.tagReport 0 { n := 2, ent := [(1, 1)] }).illFormed = some .count := by decide
theorem test_ill_formed_tables : (Instr.breakerCurveWrite {} 0 1 1 (List.replicate 7 {})).illFormed = some .table ∧ (Instr.capSet {} 0 0 0 0 [1]).illFormed = some .table ∧ (Instr.bwShareSet {} [1, 2, 3, 4]).illFormed = some .table ∧
    (Instr.replayBind {} 1 0 0 0 0 [1] []).illFormed = some .table ∧ (Instr.outputDigestReceive 0 [1]).illFormed = some .table ∧ (Instr.linkFlit 0 false 0 [1]).illFormed = some .table := by decide
theorem test_ill_formed_samples : (Instr.arbiterTick [(0, 0)] [[], []] {}).illFormed = some .table ∧ (Instr.arbiterTick (List.replicate 12 (65536, 0)) [[], []] {}).illFormed = some .range ∧ (Instr.arbiterTick (List.replicate 12 (0, 0)) [[(0, 16777216)], []] {}).illFormed = some .range ∧
    (Instr.coolingLoop [1] [] [] []).illFormed = some .table ∧ (Instr.coolingLoop (List.replicate 8 65536) (List.replicate 8 0) (List.replicate 4 0) (List.replicate 4 0)).illFormed = some .range ∧ (Instr.temperatureReport 0 { die := [1] }).illFormed = some .table := by decide
theorem test_ill_formed_numbers : (Instr.updateData {} 0 0 {} [65536]).illFormed = some .range ∧ (Instr.onDieTempRead 2147483648).illFormed = some .range ∧ (Instr.temperatureReading 0 [-2147483649]).illFormed = some .range ∧ (Instr.temperatureReading 0 []).illFormed = some .range ∧
    (Instr.ledgerTickMarker { credits := [(65540, 1)] }).illFormed = some .range ∧ (Instr.forwardedInputFrame 0 0 0 [1]).illFormed = some .table := by decide
theorem test_ill_formed_frame : (Instr.forwardedInputFrame 0 0 0 (List.replicate 256 2147483648)).illFormed = some .range := by decide +kernel
theorem test_ill_formed_batch (l : List Member) (h : l.length = 65536) : (Instr.batch {} l).illFormed = some .range := by
  show WellFormed.within (decide (l.length ≤ 65535)) = _
  rw [h]
  rfl
theorem test_ill_formed_mirror : (Instr.mirrorRecordApply 0 (.sems [])).illFormed = some .table ∧ (Instr.mirrorRecordApply 0 (.thyme [] [] false {} false (List.replicate 8 none) none)).illFormed = some .table ∧ (Instr.mirrorRecordApply 0 (.thyme (List.replicate 9 {}) [] false {} false [] none)).illFormed = some .table ∧ (Instr.mirrorRecordApply 0 (.hub { words := [(2, {}), (1, {})] })).illFormed = some .table ∧ (Instr.mirrorRecordApply 0 (.hub { wins := [] })).illFormed = some .table ∧
    (Instr.mirrorRecordApply 0 (.ledger { accounts := [{ slot := 1 }, { slot := 1 }] })).illFormed = some .table ∧ (Instr.mirrorRecordApply 0 (.phaseAction 8 0 {})).illFormed = some .table ∧ (Instr.mirrorRecordApply 0 (.phaseState [(1, {}), (1, {})] [] [] [] 0)).illFormed = some .table := by decide +kernel
theorem test_ill_formed_mirror_tables : (Instr.mirrorRecordApply 0 (.grants [] [] [] [] 0 0)).illFormed = some .table ∧ (Instr.mirrorRecordApply 0 (.tray .on [] false false false [] none false)).illFormed = some .table ∧ (Instr.mirrorRecordApply 0 (.op 0 0 0 0 [] 0 0 [] 0 [] [])).illFormed = some .table ∧
    (Instr.mirrorRecordApply 0 (.cool 0 0 [] [] [] [] 0)).illFormed = some .table ∧ (Instr.mirrorRecordApply 0 (.host [] [] [] [] [] [])).illFormed = some .table := by decide
theorem test_ill_formed_pins : (Instr.powerOnResetRelease [0]).illFormed = some .table ∧ (Instr.romBoot []).illFormed = some .table ∧ (Instr.pollRound 7 [none, none] []).illFormed = some .table ∧ (Instr.pollRound 8 [] [(255, 0)]).illFormed = some .range ∧
    (Instr.pollRound 8 (List.replicate 15 none) [(256, 0)]).wf = true ∧ (Instr.romBoot (List.replicate 15 0)).wf = true := by decide
theorem test_well_formed : (Instr.capSet {} 0 0 0 0 buds).wf = true ∧ (tickOf {}).wf = true ∧ (Instr.mirrorRecordApply 0 (.sems (List.replicate 16 none))).wf = true := by decide

/-! The step -/

theorem test_step : (match step { up with pending := [.syncScrub 4 0, .aloneDecision] } with | .next t => t.sync.scrub == 5 && t.pending == [.aloneDecision] | _ => false) = true ∧ (match step up with | .next t => t == up | _ => false) = true := by decide +kernel
end Sys2Proof.Tests
end

section
/-! SUPPORT. Sparse tables whose keys rise, and the ledger's attribution of a tick. -/

namespace Sys2Proof.Proofs

open Sys2Proof Sys2Proof.Machine

/-! ## Sparse tables: reading, writing and summing -/

/-- The keys of a sparse table rise. -/
def Rising {α : Type} (l : List (Nat × α)) : Prop := l.Pairwise fun x y => x.1 < y.1

theorem look_cons {α : Type} [Inhabited α] (x : Nat × α) (l : List (Nat × α)) (k : Nat) :
    look (x :: l) k = if x.1 = k then x.2 else look l k := by
  by_cases h : x.1 = k <;> simp [look, h]

/-- A table that does not list a key reads blank there. -/
theorem look_unlisted {α : Type} [Inhabited α] {l : List (Nat × α)} {k : Nat} (h : ∀ x ∈ l, x.1 ≠ k) : look l k = default := by
  have hf : l.find? (fun p => p.1 == k) = none := by simpa using h
  simp [look, hf]

/-- A write lists nothing but what was listed and its own key. -/
theorem mem_put {α : Type} [DecidableEq α] [Inhabited α] {l : List (Nat × α)} {k : Nat} {a : α} {x : Nat × α} (hx : x ∈ put l k a) : x ∈ l ∨ x.1 = k := by
  induction l with
  | nil =>
    unfold put at hx
    split at hx
    · exact .inl hx
    · exact .inr (List.mem_singleton.mp hx ▸ rfl)
  | cons y l ih =>
    unfold put at hx
    split at hx
    · split at hx
      · exact .inl hx
      · exact (List.mem_cons.mp hx).symm.imp id fun e => congrArg Prod.fst e
    · split at hx
      · split at hx
        · exact .inl (List.mem_cons_of_mem _ hx)
        · exact (List.mem_cons.mp hx).symm.imp (List.mem_cons_of_mem _) fun e => congrArg Prod.fst e
      · rcases List.mem_cons.mp hx with rfl | h
        · exact .inl List.mem_cons_self
        · exact (ih h).imp (List.mem_cons_of_mem _) id

/-- A write keeps the keys rising. -/
theorem Rising.put {α : Type} [DecidableEq α] [Inhabited α] {l : List (Nat × α)} (h : Rising l) (k : Nat) (a : α) : Rising (Machine.put l k a) := by
  induction l with
  | nil => unfold Machine.put; split <;> simp [Rising]
  | cons y l ih =>
    obtain ⟨hy, hl⟩ := List.pairwise_cons.mp h
    unfold Machine.put
    split
    · rename_i hk
      split
      · exact h
      · exact List.pairwise_cons.mpr ⟨fun x hx => (List.mem_cons.mp hx).elim (fun e => e ▸ hk) fun hx => hk.trans (hy x hx), h⟩
    · split
      · rename_i hk
        split
        · exact hl
        · exact List.pairwise_cons.mpr ⟨fun x hx => hk ▸ hy x hx, hl⟩
      · refine List.pairwise_cons.mpr ⟨fun x hx => ?_, ih hl⟩
        rcases mem_put hx with hx | hx
        · exact hy x hx
        · show y.1 < x.1
          omega

/-! ## Credits -/

/-- What the credits sum to. -/
def total (c : Credits) : Int := (c.map Prod.snd).sum

theorem sumInt_eq_sum (l : List Int) : sumInt l = l.sum := by
  rw [sumInt, List.sum_eq_foldl]

@[simp] theorem total_nil : total [] = 0 := rfl
@[simp] theorem total_cons (x : Nat × Int) (c : Credits) : total (x :: c) = x.2 + total c := rfl

/-- A write to a table of credits replaces what stood at its key in the sum. -/
theorem total_put {c : Credits} (h : Rising c) (k : Nat) (v : Int) : total (put c k v) = total c - look c k + v := by
  induction c with
  | nil => by_cases hv : v = 0 <;> simp [put, look, hv, Int.default_eq_zero]
  | cons y c ih =>
    obtain ⟨hy, hc⟩ := List.pairwise_cons.mp h
    have hd : v = default → v = 0 := fun e => e
    unfold put
    split
    · rename_i hk
      have hl : look (y :: c) k = 0 := look_unlisted fun x hx => by
        rcases List.mem_cons.mp hx with rfl | hx
        · show x.1 ≠ k
          omega
        · have := hy x hx
          show x.1 ≠ k
          omega
      split
      · rename_i hv; simp [hl, hd hv]
      · simp [hl]; omega
    · split
      · rename_i hk
        rw [look_cons, if_pos hk.symm]
        split
        · rename_i hv; simp [hd hv]
        · simp; omega
      · rename_i hk
        rw [look_cons, if_neg (Ne.symm hk), total_cons, total_cons, ih hc]
        omega

theorem total_add {c : Credits} (h : Rising c) (k : Nat) (v : Int) : total (c.add k v) = total c + v := by
  rw [Credits.add, total_put h]; omega

theorem Rising.add {c : Credits} (h : Rising c) (k : Nat) (v : Int) : Rising (c.add k v) := Rising.put h k _

/-! ## A split gives away its energy (R294) -/

theorem weightSum_eq_sum (w : List (Nat × Nat)) : weightSum w = (w.map Prod.snd).sum := by
  rw [weightSum, List.sum_eq_foldl]

theorem Rising.splitFrom {e : Int} {n : Nat} {w : List (Nat × Nat)} {done : Int} {cum : Nat} {c : Credits} (h : Rising c) :
    Rising (Machine.splitFrom e n done cum w c) := by
  induction w generalizing done cum c with
  | nil => exact h
  | cons x w ih =>
    simp only [Machine.splitFrom]
    split
    · exact ih h
    · exact ih (h.add _ _)

/-- From any point of a split, what is still to be given away is what lies between the energy up to here and up to the last weight. -/
theorem total_splitFrom (e : Int) (n : Nat) (w : List (Nat × Nat)) (cum : Nat) {c : Credits} (h : Rising c) :
    total (splitFrom e n (e * (cum : Int) / (n : Int)) cum w c) = total c + e * ((cum + weightSum w : Nat) : Int) / (n : Int) - e * (cum : Int) / (n : Int) := by
  induction w generalizing cum c with
  | nil => simp [splitFrom, weightSum]
  | cons x w ih =>
    have hw : cum + weightSum (x :: w) = cum + x.2 + weightSum w := by simp [weightSum_eq_sum, Nat.add_assoc]
    simp only [splitFrom]
    split
    · rename_i hv
      rw [ih cum h, hw, hv, Nat.add_zero]
    · rw [ih (cum + x.2) (h.add _ _), total_add h, hw]
      omega

theorem Rising.splitOver {e : Int} {w : List (Nat × Nat)} {c : Credits} (h : Rising c) : Rising (Machine.splitOver e w c) := h.splitFrom

/-- A split with a positive weight gives away exactly its energy. -/
theorem total_splitOver (e : Int) {w : List (Nat × Nat)} (hw : 0 < weightSum w) {c : Credits} (h : Rising c) : total (splitOver e w c) = total c + e := by
  have hz := total_splitFrom e (weightSum w) w 0 h
  have he : e * ((weightSum w : Nat) : Int) / ((weightSum w : Nat) : Int) = e := Int.mul_ediv_cancel e (by omega)
  simpa [splitOver, he] using hz

/-! ## The credits of a tick -/

/-- The credit of one branch: to account 0 where it has no weights, else split over them. -/
def creditBranch (t : TickWork) (c : Credits) (n : Nat) : Credits :=
  if weightSum (nth t.w n) = 0 then c.add 0 (nth t.branch n) else splitOver (nth t.branch n) (nth t.w n) c

theorem creditBranch_spec (t : TickWork) {c : Credits} (h : Rising c) (n : Nat) :
    Rising (creditBranch t c n) ∧ total (creditBranch t c n) = total c + nth t.branch n := by
  unfold creditBranch
  split
  · exact ⟨h.add _ _, total_add h _ _⟩
  · rename_i hw
    exact ⟨h.splitOver, total_splitOver _ (Nat.pos_of_ne_zero hw) h⟩

/-- The branches together credit their energies. -/
theorem foldl_creditBranch (t : TickWork) (l : List Nat) {c : Credits} (h : Rising c) :
    Rising (l.foldl (creditBranch t) c) ∧ total (l.foldl (creditBranch t) c) = total c + (l.map (nth t.branch)).sum := by
  induction l generalizing c with
  | nil => simp [h]
  | cons n l ih =>
    obtain ⟨hr, ht⟩ := creditBranch_spec t h n
    obtain ⟨hr', ht'⟩ := ih hr
    refine ⟨hr', ?_⟩
    rw [List.foldl_cons, ht', ht, List.map_cons, List.sum_cons]
    omega

/-- The weights by which the pools are spread: the credits of the tag accounts. -/
def tagWeights (c : Credits) : List (Nat × Nat) := c.filterMap fun x => if x.1 < keyOverhead ∧ 0 < x.2 then some (x.1, x.2.toNat) else none

/-- The energy of the branches that carry no package. -/
def poolOverhead (t : TickWork) : Int := nth t.branch 8 + nth t.branch 9 + nth t.branch 10 + nth t.branch 11

/-- The energy between the feeds and the branches. -/
def poolResidual (t : TickWork) : Int := sumInt t.feed - sumInt t.branch

/-- Credit a pool: where its policy spreads it, over positive weights, else to an account of its own. -/
def creditPool (spread : Prop) [Decidable spread] (e : Int) (w : List (Nat × Nat)) (key : Nat) (c : Credits) : Credits :=
  if spread ∧ 0 < weightSum w then splitOver e w c else c.add key e

theorem creditPool_spec (spread : Prop) [Decidable spread] (e : Int) (w : List (Nat × Nat)) (key : Nat) {c : Credits} (h : Rising c) :
    Rising (creditPool spread e w key c) ∧ total (creditPool spread e w key c) = total c + e := by
  unfold creditPool
  split
  · rename_i hp
    exact ⟨h.splitOver, total_splitOver e hp.2 h⟩
  · exact ⟨h.add _ _, total_add h _ _⟩

/-- The credits of the branches, before the pools. -/
def branchCredits (t : TickWork) : Credits := (List.range 8).foldl (creditBranch t) []

/-- The credits of a tick are those of the branches and the two pools, one after the other (R294). -/
theorem credits_eq (t : TickWork) (oh res : Bool) :
    t.credits oh res = creditPool (res = true ∧ 0 < poolResidual t) (poolResidual t) (tagWeights (branchCredits t)) keyResidual
      (creditPool (oh = true) (poolOverhead t) (tagWeights (branchCredits t)) keyOverhead (branchCredits t)) := by
  simp only [creditPool, and_assoc]
  rfl

/-- Twelve branch energies sum to those of the packages and the overhead pool. -/
theorem sumInt_branch {t : TickWork} (h : t.branch.length = 12) : sumInt t.branch = ((List.range 8).map (nth t.branch)).sum + poolOverhead t := by
  obtain ⟨feed, branch, w⟩ := t
  match branch, h with
  | [b0, b1, b2, b3, b4, b5, b6, b7, b8, b9, b10, b11], _ =>
    simp [sumInt, poolOverhead, nth, List.range_succ]
    omega

/-- The credits of a tick of twelve branches rise, and sum to the energy at the feeds (R294). -/
theorem credits_spec (t : TickWork) (oh res : Bool) (h : t.branch.length = 12) :
    Rising (t.credits oh res) ∧ total (t.credits oh res) = sumInt t.feed := by
  obtain ⟨hr, ht⟩ := foldl_creditBranch t (List.range 8) (c := []) List.Pairwise.nil
  obtain ⟨hr1, ht1⟩ := creditPool_spec (oh = true) (poolOverhead t) (tagWeights (branchCredits t)) keyOverhead hr
  obtain ⟨hr2, ht2⟩ := creditPool_spec (res = true ∧ 0 < poolResidual t) (poolResidual t) (tagWeights (branchCredits t)) keyResidual hr1
  rw [credits_eq]
  refine ⟨hr2, ht2.trans ?_⟩
  rw [ht1, ht, poolResidual, sumInt_branch h, total_nil]
  omega

/-! ## The overflow account (R294, R308) -/

theorem total_filter_add (c : Credits) (n : Nat) :
    total (c.filter fun x => decide (n ≤ x.1)) + (c.filterMap fun x => if x.1 < n then some x.2 else none).sum = total c := by
  induction c with
  | nil => rfl
  | cons x c ih =>
    by_cases h : x.1 < n
    · simp [h, Nat.not_le.mpr h]; omega
    · simp [h, Nat.le_of_not_lt h]; omega

theorem total_overflowed {c : Credits} (h : Rising c) : total c.overflowed = total c := by
  rw [Credits.overflowed, total_add (h.filter _), sumInt_eq_sum, total_filter_add]

/-- After the move no tag account has a credit. -/
theorem look_overflowed (c : Credits) {slot : Nat} (h : slot < keyOverhead) : look c.overflowed slot = 0 :=
  look_unlisted fun x hx => by
    rcases mem_put hx with hx | hx
    · have := of_decide_eq_true (List.mem_filter.mp hx).2
      omega
    · have : keyOverhead < keyOverflow := by decide
      omega

/-- Settles O41: every credit is one write to a rising table, so the sum follows the energies that are given away. -/
theorem attributionConservesEnergy : Obligations.attribution_conserves_energy := by
  refine ⟨fun t oh res h => ?_, fun e w hw => ?_⟩
  · obtain ⟨hr, ht⟩ := credits_spec t oh res h
    refine ⟨?_, ?_, fun slot hs => look_overflowed _ hs⟩
    · rw [sumInt_eq_sum]; exact ht
    · rw [sumInt_eq_sum]; exact (total_overflowed hr).trans ht
  · rw [sumInt_eq_sum]
    exact (total_splitOver e hw List.Pairwise.nil).trans (Int.zero_add e)

end Sys2Proof.Proofs
end

section
/-! SUPPORT. The recovery loader: what becomes of a frame, and of the payload of each type. -/

namespace Sys2Proof.Proofs

open Sys2Proof Sys2Proof.Machine

/-! ## Frames (R102) -/

/-- The reply to a frame. -/
def replyTo (f : RecovHdr) (nak : Option Status) (payload : List Byte) : RecoveryReply :=
  { seq := f.seq.toNat, nak := nak, payload := payload, wire := recovWire f.seq.toNat nak payload }

/-- The state after a reply to a frame that counts as accepted. -/
def repliedTo (f : RecovHdr) (a : RecovAnswer) : State :=
  { a.2 with sec := { a.2.sec with recov := { a.2.sec.recov with
      sent := a.2.sec.recov.sent ++ [replyTo f a.1.1 a.1.2], lastSeq := some f.seq.toNat, lastReply := replyTo f a.1.1 a.1.2 } } }

section Frames

variable {s : State} {f : RecovHdr} {n : Nat} {run : State → RecovAnswer}

theorem recovFrame_damaged (hf : f.frameOk = false) : s.recovFrame f n run = s := by
  simp [State.recovFrame, hf]

theorem recovFrame_repeated (hp : s.clk.phase = .recovery) (hf : f.frameOk = true) (hs : s.sec.recov.lastSeq = some f.seq.toNat) :
    s.recovFrame f n run = s.recovReply s.sec.recov.lastReply := by
  simp [State.recovFrame, hp, hf, hs]

theorem recovFrame_new (hp : s.clk.phase = .recovery) (hf : f.frameOk = true) (hs : s.sec.recov.lastSeq ≠ some f.seq.toNat) :
    s.recovFrame f n run = repliedTo f (if f.rsvd = 0 ∧ f.len.toNat = n then run s else nak .badArg s) := by
  unfold State.recovFrame
  rw [if_neg (by simp [hp, hf]), if_neg hs]
  rfl

/-- What any command of the recovery loader does with a damaged, a repeated and a malformed frame, if it takes those as a frame of its type. -/
theorem frame_rules {c : Instr} (hp : s.clk.phase = .recovery)
    (hc : ¬(f.frameOk = true ∧ s.sec.recov.lastSeq ≠ some f.seq.toNat ∧ f.rsvd = 0 ∧ f.len.toNat = n) → exec c s = .next (s.recovFrame f n run)) :
    (f.frameOk = false → Completes c s fun t => t = s) ∧
    (f.frameOk = true → s.sec.recov.lastSeq = some f.seq.toNat → Completes c s fun t => t = s.recovReply s.sec.recov.lastReply) ∧
    (f.frameOk = true → s.sec.recov.lastSeq ≠ some f.seq.toNat → f.rsvd ≠ 0 ∨ f.len.toNat ≠ n →
      Completes c s fun t => t = repliedTo f (nak .badArg s)) := by
  refine ⟨fun hf => ⟨_, hc (by simp [hf]), recovFrame_damaged hf⟩,
    fun hf hs => ⟨_, hc (fun ⟨_, hn, _⟩ => hn hs), recovFrame_repeated hp hf hs⟩,
    fun hf hs hb => ⟨_, hc (fun ⟨_, _, hr, hl⟩ => hb.elim (· hr) (· hl)), ?_⟩⟩
  rw [recovFrame_new hp hf hs, if_neg fun ⟨hr, hl⟩ => hb.elim (· hr) (· hl)]

end Frames

/-- Outside a new, well-formed frame, `BOOT` takes a frame as the other commands do. -/
theorem exec_recovBoot {s : State} {f : RecovHdr} (h : ¬(f.frameOk = true ∧ s.sec.recov.lastSeq ≠ some f.seq.toNat ∧ f.rsvd = 0 ∧ f.len.toNat = 0)) :
    exec (.recovBoot f) s = .next (s.recovFrame f 0 fun s => ack [] s) := by
  show execRecovBoot f s = _
  unfold execRecovBoot
  refine congrArg _ (if_neg fun hb => h ?_)
  obtain ⟨-, hf, hr, hl, hs⟩ := hb
  exact ⟨hf, by simpa using hs, hr, by rw [hl]; rfl⟩

/-! ## New frames, by type (R102, R103) -/

/-- The recovery loader's record after an answer to a new frame, with the transfer that stands then. -/
def answeredRecov (s : State) (f : RecovHdr) (nak : Option Status) (payload : List Byte) (tr : Option RecoveryTransfer) : RecoveryState :=
  { sent := s.sec.recov.sent ++ [replyTo f nak payload], lastSeq := some f.seq.toNat, lastReply := replyTo f nak payload, transfer := tr }

/-- Nothing but the recovery loader's record differs. -/
def onlyRecov (s t : State) : Prop := t = { s with sec := { s.sec with recov := t.sec.recov } }

section Types

variable {s : State} {f : RecovHdr} {n : Nat} {c : Instr} {run : State → RecovAnswer} {a : RecovAnswer} {P : State → Prop}

/-- To show what a new, well-formed frame comes to, look at its answer. -/
theorem completes_frame (hp : s.clk.phase = .recovery) (hf : f.frameOk = true) (hr : f.rsvd = 0) (hs : s.sec.recov.lastSeq ≠ some f.seq.toNat)
    (hl : f.len.toNat = n) (hc : exec c s = .next (s.recovFrame f n run)) (ha : run s = a) (h : P (repliedTo f a)) : Completes c s P :=
  ⟨_, hc, by rw [recovFrame_new hp hf hs, if_pos ⟨hr, hl⟩, ha]; exact h⟩

/-- A NAK leaves the transfer as it stands. -/
theorem recov_nak (f : RecovHdr) (st : Status) {tr : Option RecoveryTransfer} (htr : s.sec.recov.transfer = tr) :
    (repliedTo f (nak st s)).sec.recov = answeredRecov s f (some st) [] tr := by
  subst htr
  rfl

end Types

/-- `INFO` answers what is held (R102). -/
theorem recovInfo_new {s : State} {f : RecovHdr} (hp : s.clk.phase = .recovery) (hf : f.frameOk = true) (hr : f.rsvd = 0)
    (hs : s.sec.recov.lastSeq ≠ some f.seq.toNat) (hl : f.len = 0) :
    Completes (.recovInfo f) s fun t =>
      t.sec.recov = answeredRecov s f none (serialBytes s.sec.serial ++ s.sec.idkCert ++ i4 s.anchor.gen ++ i4 s.anchor.minVersion ++ s.sec.places) s.sec.recov.transfer
        ∧ onlyRecov s t :=
  completes_frame hp hf hr hs (by rw [hl]; rfl) rfl rfl ⟨rfl, rfl⟩

/-- `BEGIN` discards any transfer and opens a new one, or refuses (R100, R102, R103). -/
theorem recovBegin_new {s : State} {f : RecovHdr} (hp : s.clk.phase = .recovery) (hf : f.frameOk = true) (hr : f.rsvd = 0)
    (hs : s.sec.recov.lastSeq ≠ some f.seq.toNat) (target : U8) (man obj : U32) (hl : f.len = 12) :
    Completes (.recovBegin f target man obj) s fun t => onlyRecov s t ∧
      if 5 < target.toNat ∨ man.toNat = 0 ∨ 65536 < man.toNat ∨ recovSpace target.toNat < obj.toNat then t.sec.recov = answeredRecov s f (some .badArg) [] none
      else if (target.toNat = 5 ∧ s.sec.anchor.isSome = true) ∨ (target.toNat ≠ 5 ∧ s.sec.anchor = none) then
        t.sec.recov = answeredRecov s f (some .stateConflict) [] none
      else t.sec.recov = answeredRecov s f none [] (some { target := target.toNat, manLen := man.toNat, objLen := obj.toNat }) := by
  refine completes_frame hp hf hr hs (n := 12) (by rw [hl]; rfl) rfl rfl ?_
  have ha : (target.toNat = 5 ∧ s.sec.anchor.isSome = true) ∨ (target.toNat ≠ 5 ∧ s.sec.anchor = none) ↔ (target.toNat = 5) = ((s.onTransfer none).sec.anchor.isSome = true) := by
    show _ ↔ (_ = (s.sec.anchor.isSome = true))
    cases s.sec.anchor <;> simp
  by_cases h1 : 5 < target.toNat ∨ man.toNat = 0 ∨ 65536 < man.toNat ∨ recovSpace target.toNat < obj.toNat
  · simp only [if_pos h1]
    exact ⟨rfl, rfl⟩
  · by_cases h2 : (target.toNat = 5) = ((s.onTransfer none).sec.anchor.isSome = true)
    · simp only [if_neg h1, ha, if_pos h2]
      exact ⟨rfl, rfl⟩
    · simp only [if_neg h1, ha, if_neg h2]
      exact ⟨rfl, rfl⟩

/-- What `DATA` answers with a transfer begun (R102, R103; log entry 56). -/
def dataAnswer (s : State) (a b : Nat) (man : Manifest) (t : RecoveryTransfer) : RecovAnswer :=
  if 65536 ≤ a ∧ !t.verified then nak .stateConflict s
  else if (a < 65536 ∧ t.manLen < b) ∨ 65536 + t.objLen < b then nak .badArg s
  else
    let t' := { t with ranges := addRange a b t.ranges }
    if t.verified ∨ contiguous t'.ranges < t.manLen then ack [] (s.onTransfer (some t'))
    else
      match s.recovManifest t.target man with
      | some st => nak st (s.onTransfer none)
      | none => ack [] (s.onTransfer (some { t' with verified := true, man := man }))

/-- Data extend a transfer, and complete and verify its manifest, or are refused. -/
theorem dataAnswer_spec {s : State} {tr : RecoveryTransfer} (f : RecovHdr) (htr : s.sec.recov.transfer = some tr) (a b : Nat) (man : Manifest) :
    onlyRecov s (repliedTo f (dataAnswer s a b man tr)) ∧
      let t := repliedTo f (dataAnswer s a b man tr)
      let tr' := { tr with ranges := addRange a b tr.ranges }
      if 65536 ≤ a ∧ tr.verified = false then t.sec.recov = answeredRecov s f (some .stateConflict) [] (some tr)
      else if (a < 65536 ∧ tr.manLen < b) ∨ 65536 + tr.objLen < b then t.sec.recov = answeredRecov s f (some .badArg) [] (some tr)
      else if tr.verified = true ∨ contiguous tr'.ranges < tr.manLen then t.sec.recov = answeredRecov s f none [] (some tr')
      else match s.recovManifest tr.target man with
        | some st => t.sec.recov = answeredRecov s f (some st) [] none
        | none => t.sec.recov = answeredRecov s f none [] (some { tr' with verified := true, man := man }) := by
  simp only [dataAnswer, Bool.not_eq_true']
  split
  · exact ⟨rfl, recov_nak f _ htr⟩
  · split
    · exact ⟨rfl, recov_nak f _ htr⟩
    · split
      · exact ⟨rfl, rfl⟩
      · cases s.recovManifest tr.target man <;> exact ⟨rfl, rfl⟩

/-- `DATA` without a transfer is a conflict; else it comes to `dataAnswer` (R102, R103; log entry 56). -/
theorem recovData_new {s : State} {f : RecovHdr} (hp : s.clk.phase = .recovery) (hf : f.frameOk = true) (hr : f.rsvd = 0)
    (hs : s.sec.recov.lastSeq ≠ some f.seq.toNat) (offset : U32) (count : U16) (man : Manifest) (hl : f.len.toNat = 4 + count.toNat) :
    Completes (.recovData f offset count man) s fun t => onlyRecov s t ∧
      (s.sec.recov.transfer = none → t.sec.recov = answeredRecov s f (some .stateConflict) [] none) ∧
      ∀ tr, s.sec.recov.transfer = some tr → t = repliedTo f (dataAnswer s offset.toNat (offset.toNat + count.toNat) man tr) := by
  cases htr : s.sec.recov.transfer with
  | none => exact completes_frame hp hf hr hs hl rfl (a := nak .stateConflict s) (by simp only [htr]) ⟨rfl, fun _ => recov_nak f .stateConflict htr, nofun⟩
  | some tr =>
    refine completes_frame hp hf hr hs hl rfl (a := dataAnswer s offset.toNat (offset.toNat + count.toNat) man tr) (by simp only [htr]; rfl)
      ⟨(dataAnswer_spec f htr _ _ man).1, nofun, ?_⟩
    rintro _ ⟨⟩
    rfl

/-! ## What `COMMIT` writes (R88, R96, R103) -/

/-- A place written with a good image, and then validated, is VALID. -/
theorem validated_written {o : ObjectImage} (ho : o.blocksGood = true) (gen : Nat) :
    (Slot.written o gen).validated.obj = o ∧ (Slot.written o gen).validated.state = wordValid ∧ (Slot.written o gen).validated.generation = BitVec.ofNat 32 gen := by
  have hw : (0xFFFFFFFF &&& wordWriting &&& wordWritten &&& wordValid : StateWord) = wordValid := by decide
  unfold Slot.written
  rw [if_pos ho]
  exact ⟨rfl, hw, rfl⟩

/-- `COMMIT` needs a whole, verified transfer; then it writes what is staged (R103; log entry 56). -/
theorem recovCommit_new {s : State} {f : RecovHdr} (hp : s.clk.phase = .recovery) (hf : f.frameOk = true) (hr : f.rsvd = 0)
    (hs : s.sec.recov.lastSeq ≠ some f.seq.toNat) (content : RecovContent) (hl : f.len = 0) :
    Completes (.recovCommit f content) s fun t =>
      (s.sec.recov.transfer = none → t.sec.recov = answeredRecov s f (some .stateConflict) [] none ∧ onlyRecov s t) ∧
      ∀ tr, s.sec.recov.transfer = some tr →
        (tr.verified = false → t.sec.recov = answeredRecov s f (some .stateConflict) [] (some tr) ∧ onlyRecov s t) ∧
        (tr.verified = true → tr.whole = false → t.sec.recov = answeredRecov s f (some .integrityFail) [] (some tr) ∧ onlyRecov s t) ∧
        (tr.whole = true → t = repliedTo f (s.recovWrite tr content)) := by
  have hl : f.len.toNat = 0 := by rw [hl]; rfl
  cases htr : s.sec.recov.transfer with
  | none => exact completes_frame hp hf hr hs hl rfl (by simp only [htr]) ⟨fun _ => ⟨recov_nak f .stateConflict htr, rfl⟩, nofun⟩
  | some tr =>
    cases hv : tr.verified with
    | false =>
      have hw : tr.whole = false := by simp [RecoveryTransfer.whole, hv]
      refine completes_frame hp hf hr hs hl rfl (a := nak .stateConflict s) (by simp [htr, hv]) ⟨nofun, ?_⟩
      rintro _ ⟨⟩
      simp only [hv, hw]
      exact ⟨fun _ => ⟨recov_nak f _ htr, rfl⟩, nofun, nofun⟩
    | true =>
      cases hw : tr.whole with
      | false =>
        refine completes_frame hp hf hr hs hl rfl (a := nak .integrityFail s) (by simp [htr, hv, hw]) ⟨nofun, ?_⟩
        rintro _ ⟨⟩
        simp only [hv, hw]
        exact ⟨nofun, fun _ _ => ⟨recov_nak f _ htr, rfl⟩, nofun⟩
      | true =>
        refine completes_frame hp hf hr hs hl rfl (a := s.recovWrite tr content) (by simp [htr, hv, hw]) ⟨nofun, ?_⟩
        rintro _ ⟨⟩
        simp only [hv, hw]
        exact ⟨nofun, nofun, fun _ => trivial⟩

/-- The write of a staged image: VALID with a generation above both places, or refused with nothing written (R96, R103). -/
theorem recovWrite_image {s : State} {tr : RecoveryTransfer} (f : RecovHdr) (htr : s.sec.recov.transfer = some tr) (o : ObjectImage) :
    let t := repliedTo f (s.recovWrite tr (.image o))
    if tr.target < 4 ∧ ({ o with man := tr.man } : ObjectImage).blocksGood = true ∧ o.imageOk = true then
      t.sec.recov = answeredRecov s f none [] none ∧ ∃ x : Slot, x.obj = { o with man := tr.man } ∧ x.state = wordValid ∧
        x.generation = BitVec.ofNat 32 (nextGen (if tr.target < 2 then s.sec.loaders else s.sec.slots)) ∧
        (tr.target < 2 → t.sec.loaders = s.sec.loaders.set tr.target x ∧ t.sec.slots = s.sec.slots) ∧
        (2 ≤ tr.target → t.sec.slots = s.sec.slots.set (tr.target - 2) x ∧ t.sec.loaders = s.sec.loaders)
    else t.sec.recov = answeredRecov s f (some .integrityFail) [] (some tr) ∧ onlyRecov s t := by
  by_cases hg : tr.target < 4 ∧ ({ o with man := tr.man } : ObjectImage).blocksGood = true ∧ o.imageOk = true
  · obtain ⟨ht, hb, hi⟩ := hg
    have hn : ¬((!(({ o with man := tr.man } : ObjectImage).blocksGood && o.imageOk)) = true ∨ 3 < tr.target) := by
      rw [hb, hi]
      simp
      omega
    obtain ⟨hobj, hstate, hgen⟩ := validated_written hb (nextGen (if tr.target < 2 then s.sec.loaders else s.sec.slots))
    simp only [State.recovWrite, if_neg hn, if_pos (And.intro ht (And.intro hb hi))]
    by_cases h2 : tr.target < 2
    · simp only [if_pos h2] at hobj hstate hgen ⊢
      exact ⟨rfl, _, hobj, hstate, hgen, fun _ => ⟨rfl, rfl⟩, fun h => absurd h2 (by omega)⟩
    · simp only [if_neg h2] at hobj hstate hgen ⊢
      exact ⟨rfl, _, hobj, hstate, hgen, fun h => absurd h h2, fun _ => ⟨rfl, rfl⟩⟩
  · have hn : (!(({ o with man := tr.man } : ObjectImage).blocksGood && o.imageOk)) = true ∨ 3 < tr.target := by
      by_contra h
      simp only [not_or, Bool.not_eq_true', Bool.not_eq_false, Bool.and_eq_true] at h
      exact hg ⟨by omega, h.1.1, h.1.2⟩
    simp only [State.recovWrite, if_pos hn, if_neg hg]
    exact ⟨recov_nak f _ htr, rfl⟩

/-- Settles O17: each command is one frame of the loader, and each type's answer to a new frame is stated above. -/
theorem recoveryLoader : Obligations.recovery_loader := by
  intro s f hp
  refine ⟨fun target man obj offset count m content c hc => ?_, fun hf hr hs => ⟨?_, ?_, ?_, ?_⟩⟩
  · simp only [List.mem_cons, List.not_mem_nil, or_false] at hc
    rcases hc with rfl | rfl | rfl | rfl | rfl
    · exact frame_rules hp fun _ => rfl
    · exact frame_rules hp fun _ => rfl
    · exact frame_rules hp fun _ => rfl
    · exact frame_rules hp fun _ => rfl
    · exact frame_rules hp exec_recovBoot
  · exact recovInfo_new hp hf hr hs
  · exact fun target man obj hl => recovBegin_new hp hf hr hs target man obj hl
  · intro offset count m hl
    obtain ⟨t, he, ho, hn, ht⟩ := recovData_new hp hf hr hs offset count m hl
    refine ⟨t, he, ho, hn, fun tr htr => ?_⟩
    cases ht tr htr
    exact (dataAnswer_spec f htr _ _ m).2
  · intro content hl
    obtain ⟨t, he, hn, ht⟩ := recovCommit_new hp hf hr hs content hl
    refine ⟨t, he, hn, fun tr htr => ?_⟩
    obtain ⟨h1, h2, h3⟩ := ht tr htr
    refine ⟨h1, h2, ?_⟩
    rintro o rfl hw
    cases h3 hw
    exact recovWrite_image f htr o

end Sys2Proof.Proofs
end

section
/-! SUPPORT. The state after power-on reset. -/

namespace Sys2Proof.Proofs

open Sys2Proof Sys2Proof.Machine

/-- A table that holds one value throughout reads that value, or the blank one outside. -/
theorem nth_replicate {α : Type} [Inhabited α] (n i : Nat) (a : α) : nth (List.replicate n a) i = if i < n then a else default := by
  simp only [nth, List.getD_eq_getElem?_getD, List.getElem?_replicate]
  split <;> rfl

/-- Settles O2: each table of the reset state holds its entry's reset value throughout, which is the blank value too. -/
theorem resetState : Obligations.reset_state := by
  have hacc : ∀ n, State.reset.acc n = .off := fun n => (nth_replicate 8 n _).trans (ite_self _)
  have hrail : ∀ c, State.reset.rail c = {} := fun c => (nth_replicate 192 c _).trans (ite_self _)
  have hfeed : ∀ f, nth State.reset.feed.feeds f = {} := fun f => (nth_replicate 2 f _).trans (ite_self _)
  have hport : ∀ p, State.reset.port p = {} := fun p => (nth_replicate 2 p _).trans (ite_self _)
  have hsem : ∀ i, nth State.reset.sems i = none := fun i => (nth_replicate 16 i _).trans (ite_self _)
  exact ⟨rfl, hacc, rfl, rfl, rfl, fun c => by rw [hrail], rfl, rfl, fun f => by rw [hfeed], rfl, rfl, rfl, rfl, fun p => by rw [hport], hsem, rfl, rfl⟩

end Sys2Proof.Proofs
end

section
/-! SUPPORT. What the shared operations leave alone: trace points, events and mirror records; the states of accelerators; and what the first tick and the END of a program keep of the contexts. -/

namespace Sys2Proof.Proofs

open Sys2Proof Sys2Proof.Machine

/-! ## Tables -/

theorem nth_set {α : Type} [Inhabited α] (l : List α) (i j : Nat) (a : α) : nth (l.set i a) j = if i = j ∧ i < l.length then a else nth l j := by
  simp only [nth, List.getD_eq_getElem?_getD, List.getElem?_set]
  split
  · rename_i h
    subst h
    split <;> simp_all
  · rename_i h
    rw [if_neg (fun e => h e.1)]

theorem nth_set_self {α : Type} [Inhabited α] {l : List α} {i : Nat} (h : i < l.length) (a : α) : nth (l.set i a) i = a := by
  rw [nth_set, if_pos ⟨rfl, h⟩]

theorem nth_modAt {α : Type} [Inhabited α] (l : List α) (i j : Nat) (f : α → α) : nth (modAt l i f) j = if i = j ∧ i < l.length then f (nth l j) else nth l j := by
  rw [modAt, nth_set]
  split
  · rename_i h
    rw [h.1]
  · rfl

theorem nth_map {α : Type} [Inhabited α] (l : List α) (j : Nat) {f : α → α} (h : f default = default) : nth (l.map f) j = f (nth l j) := by
  simp only [nth, List.getD_eq_getElem?_getD, List.getElem?_map]
  cases l[j]? with
  | none => exact h.symm
  | some a => rfl

@[simp] theorem length_modAt {α : Type} [Inhabited α] (l : List α) (i : Nat) (f : α → α) : (modAt l i f).length = l.length := by
  simp [modAt]

/-- A fold goes no further than a preorder that holds across each of its steps. -/
theorem foldl_within {α : Type} {R : State → State → Prop} (hr : ∀ s, R s s) (ht : ∀ {s t u}, R s t → R t u → R s u) {f : State → α → State}
    (h : ∀ s a, R s (f s a)) (l : List α) (s : State) : R s (l.foldl f s) := by
  induction l generalizing s with
  | nil => exact hr s
  | cons a l ih => exact ht (h s a) (ih _)

/-! ## Quiet changes: the clock, Thyme and the feeds as they were, and no loss forgotten at an intake port -/

/-- Between two states the clock, Thyme and the feeds are as they were, and Rosemary's intake ports have forgotten no loss. -/
structure Quiet (s t : State) : Prop where
  clk : t.clk = s.clk
  thyme : t.thyme = s.thyme
  feed : t.feed = s.feed
  ports : t.rec_.ports.length = s.rec_.ports.length
  lost : ∀ p, (nth s.rec_.ports p).lost ≤ (nth t.rec_.ports p).lost

namespace Quiet

theorem refl (s : State) : Quiet s s := ⟨rfl, rfl, rfl, rfl, fun _ => Nat.le_refl _⟩

theorem trans {s t u : State} (h : Quiet s t) (h' : Quiet t u) : Quiet s u :=
  ⟨h'.clk.trans h.clk, h'.thyme.trans h.thyme, h'.feed.trans h.feed, h'.ports.trans h.ports, fun p => (h.lost p).trans (h'.lost p)⟩

/-- A change beside the clock, Thyme, the feeds and the intake ports is quiet. -/
theorem beside {s t : State} (hc : t.clk = s.clk) (ht : t.thyme = s.thyme) (hf : t.feed = s.feed) (hp : t.rec_.ports = s.rec_.ports) : Quiet s t :=
  ⟨hc, ht, hf, by rw [hp], fun _ => by rw [hp]⟩

theorem guard {s t : State} {p : Prop} [Decidable p] (h : Quiet s t) : Quiet s (if p then t else s) := by
  split
  · exact h
  · exact refl s

theorem foldl {α : Type} {f : State → α → State} (h : ∀ s a, Quiet s (f s a)) (l : List α) (s : State) : Quiet s (l.foldl f s) := foldl_within refl trans h l s

theorem onThyme {s t : State} (h : Quiet s t) (f : ThymeState → ThymeState) : Quiet (s.onThyme f) (t.onThyme f) := ⟨h.clk, congrArg f h.thyme, h.feed, h.ports, h.lost⟩

theorem gt {s t : State} (h : Quiet s t) : t.gt = s.gt := congrArg ClockState.gt h.clk

theorem ctx {s t : State} (h : Quiet s t) (k : Nat) : t.ctx k = s.ctx k := by
  unfold State.ctx
  rw [h.thyme]

theorem acc {s t : State} (h : Quiet s t) (n : Nat) : t.acc n = s.acc n := by
  unfold State.acc
  rw [h.thyme]

end Quiet

/-! ### Trace points, events and mirror records -/

theorem sendFrame_ports (s : State) : s.sendFrame.rec_.ports = s.rec_.ports := by
  unfold State.sendFrame
  split
  · rfl
  · split
    · rfl
    · dsimp only
      split <;> rfl

theorem freshFrame_ports (s : State) (type : Nat) : (s.freshFrame type).rec_.ports = s.rec_.ports := by
  unfold State.freshFrame
  split
  · split
    · exact sendFrame_ports s
    · rfl
  · rfl

theorem fillFrame_ports (s : State) (type : Nat) (r : List Byte) : (s.fillFrame type r).rec_.ports = s.rec_.ports := by
  unfold State.fillFrame
  split
  · rfl
  · rename_i st _
    dsimp only
    generalize (if st.frame = [] then { st with frameType := type, frameGt := s.gt } else st) = st'
    split
    · exact sendFrame_ports _
    · rfl

theorem stream_ports (s : State) (type : Nat) (recs : List (List Byte)) : (s.stream type recs).rec_.ports = s.rec_.ports :=
  foldl_within (R := fun s t => t.rec_.ports = s.rec_.ports) (fun _ => rfl) (fun h h' => h'.trans h)
    (fun s r => (fillFrame_ports _ type r).trans (freshFrame_ports s type)) recs s

theorem drainTrace_ports (s : State) : s.drainTrace.rec_.ports = s.rec_.ports := by
  unfold State.drainTrace
  split
  · exact stream_ports _ _ _
  · rfl

theorem traced_ports (s : State) (point source arg : Nat) : (s.traced point source arg).rec_.ports = s.rec_.ports := by
  unfold State.traced State.tracedAt
  split
  · exact drainTrace_ports _
  · rfl

theorem traced_quiet (s : State) (point source arg : Nat) : Quiet s (s.traced point source arg) :=
  .beside (State.traced_clk ..) (State.traced_thyme ..) (State.traced_feed ..) (traced_ports ..)

theorem mirrored_quiet (s : State) (kind : MirKind) : Quiet s (s.mirrored kind) :=
  .beside (State.mirrored_clk ..) (State.mirrored_thyme ..) (State.mirrored_feed ..) (by rw [State.mirrored_rec_])

/-- The record of an event. -/
def eventRecord (s : State) (port : EvPort) (code sev src : Nat) (payload : List Byte) : EventRec :=
  { event := code, sev := sev, lost := (nth s.rec_.ports port.num).lostPending, gt := s.gt, step := s.link.topStep, src := src % 65536, payload := payload.take 72 }

/-- What an event does at its intake port: the record waits there, or is counted as lost (17 R449, R452). -/
theorem event_port (s : State) (port : EvPort) (code sev src : Nat) (payload : List Byte) (hc : reservedEvent code = false) :
    ∃ p : IntakePort, (s.event port code sev src payload).rec_.ports = s.rec_.ports.set port.num p ∧
      ((∃ e ∈ p.waiting, e.event = code ∧ e.sev = sev ∧ e.gt = s.gt) ∧ p.lost = (nth s.rec_.ports port.num).lost ∨ p.lost = (nth s.rec_.ports port.num).lost + 1) := by
  simp only [State.event, hc, Bool.false_eq_true, if_false]
  split
  · refine ⟨{ nth s.rec_.ports port.num with waiting := (nth s.rec_.ports port.num).waiting ++ [eventRecord s port code sev src payload], lostPending := false }, ?_,
      .inl ⟨⟨_, List.mem_append_right _ (List.mem_singleton_self _), rfl, rfl, rfl⟩, rfl⟩⟩
    split <;> rfl
  · refine ⟨{ nth s.rec_.ports port.num with lost := (nth s.rec_.ports port.num).lost + 1, lostPending := true }, ?_, .inr rfl⟩
    split <;> rfl

theorem event_quiet (s : State) (port : EvPort) (code sev src : Nat) (payload : List Byte) : Quiet s (s.event port code sev src payload) := by
  cases hc : reservedEvent code with
  | true => simp [State.event, hc, Quiet.refl]
  | false =>
    obtain ⟨p, hp, hl⟩ := event_port s port code sev src payload hc
    refine ⟨State.event_clk .., State.event_thyme .., State.event_feed .., by rw [hp, List.length_set], fun q => ?_⟩
    rw [hp, nth_set]
    split
    · rename_i hq
      rw [← hq.1]
      rcases hl with ⟨-, hl⟩ | hl <;> omega
    · exact Nat.le_refl _

/-- An event is recorded, or counted as lost, since any earlier state of the tick whose losses are not forgotten. -/
theorem event_recorded {s t : State} {port : EvPort} (hg : t.gt = s.gt) (hp : port.num < t.rec_.ports.length)
    (hl : (nth s.rec_.ports port.num).lost ≤ (nth t.rec_.ports port.num).lost) {code : Nat} (hc : reservedEvent code = false) (sev src : Nat) (payload : List Byte) :
    Recorded s (t.event port code sev src payload) port code sev := by
  obtain ⟨p, he, hw⟩ := event_port t port code sev src payload hc
  unfold Recorded
  rw [he, nth_set_self hp]
  rcases hw with ⟨⟨e, hm, h1, h2, h3⟩, -⟩ | hw
  · exact .inl ⟨e, hm, h1, h2, h3.trans hg⟩
  · exact .inr (by omega)

theorem recorded_of_rec {s t t' : State} {port : EvPort} {code sev : Nat} (h : Recorded s t port code sev) (he : t'.rec_ = t.rec_) : Recorded s t' port code sev := by
  unfold Recorded at h ⊢
  rw [he]
  exact h

/-- What is recorded since a state is recorded since any earlier one of its tick. -/
theorem recorded_since {s s' t : State} {port : EvPort} {code sev : Nat} (h : Recorded s' t port code sev) (hg : s'.gt = s.gt)
    (hl : (nth s.rec_.ports port.num).lost ≤ (nth s'.rec_.ports port.num).lost) : Recorded s t port code sev :=
  h.imp (fun ⟨e, hm, h1, h2, h3⟩ => ⟨e, hm, h1, h2, h3.trans hg⟩) hl.trans_lt

/-! ### Accelerator states (00 R13) -/

theorem onLedger_quiet (s : State) (f : LedgerState → LedgerState) : Quiet s (s.onLedger f) := .beside rfl rfl rfl rfl

theorem noteUnopened_quiet (s : State) (ent : List (Nat × Nat)) : Quiet s (s.noteUnopened ent) := by
  refine .foldl (fun s e => ?_) ent s
  refine .guard (.trans ?_ (event_quiet ..))
  exact onLedger_quiet ..

theorem settleDie_quiet (s : State) (i : Nat) : Quiet s (s.settleDie i) := by
  unfold State.settleDie
  dsimp only
  refine .trans ?_ (onLedger_quiet ..)
  split
  · exact .guard (noteUnopened_quiet ..)
  · exact .refl s

theorem settlePkg_quiet (s : State) (n : Nat) : Quiet s (s.settlePkg n) := .foldl (fun s _ => settleDie_quiet s _) _ s

theorem refreshSensors_quiet (s : State) : Quiet s s.refreshSensors :=
  .trans (.foldl (fun _ _ => traced_quiet ..) _ s) (.beside rfl rfl rfl rfl)

theorem failSubst_quiet (s : State) (n : Nat) : Quiet s (s.failSubst n) := by
  unfold State.failSubst
  refine .trans ?_ (.foldl (fun s p => ?_) _ _)
  · exact .beside rfl rfl rfl rfl
  · refine .trans ?_ (event_quiet ..)
    exact .beside rfl rfl rfl rfl

theorem throttleEnds_quiet (s : State) : Quiet s s.throttleEnds := by
  unfold State.throttleEnds
  refine .trans ?_ (.guard ((event_quiet ..).trans ((traced_quiet ..).trans (mirrored_quiet ..))))
  exact .beside rfl rfl rfl rfl

theorem throttleIdle_quiet (s : State) : Quiet s s.throttleIdle := .guard (throttleEnds_quiet s)

theorem leaveAccOn_quiet (s : State) (n : Nat) : Quiet s (s.leaveAccOn n) := by
  unfold State.leaveAccOn
  refine .trans (.trans ?_ (.foldl (fun _ _ => event_quiet ..) _ _)) (throttleIdle_quiet _)
  refine .trans ?_ (failSubst_quiet _ n)
  refine .trans ?_ (.foldl (fun _ _ => event_quiet ..) _ _)
  exact .beside rfl rfl rfl rfl

theorem saveSettings_quiet (s : State) : Quiet s s.saveSettings := by
  unfold State.saveSettings State.saveSettingsAs
  split
  · dsimp only
    split <;> exact .beside rfl rfl rfl rfl
  · exact .refl s

theorem enterAccOn_quiet (s : State) (n : Nat) : Quiet s (s.enterAccOn n) := by
  unfold State.enterAccOn
  refine .trans ?_ (saveSettings_quiet _)
  exact .beside rfl rfl rfl rfl

/-- Putting an accelerator into a state changes the table of accelerator states, and the rest quietly. -/
theorem setAcc_quiet (s : State) (n : Nat) (a : AccState) : Quiet (s.onThyme fun t => { t with accs := t.accs.set n a }) (s.setAcc n a) := by
  unfold State.setAcc
  dsimp only
  refine .trans ?_ (.guard (.trans (refreshSensors_quiet _) (event_quiet ..)))
  refine .trans ?_ (.guard (enterAccOn_quiet ..))
  refine .trans ?_ (.guard (leaveAccOn_quiet ..))
  refine .trans ?_ (.guard (.beside rfl rfl rfl rfl))
  exact (Quiet.guard (settlePkg_quiet ..)).onThyme _

theorem setAcc_acc {s : State} {n : Nat} (h : n < s.thyme.accs.length) (a : AccState) : (s.setAcc n a).acc n = a := by
  rw [(setAcc_quiet s n a).acc]
  exact nth_set_self h a

end Sys2Proof.Proofs
end

section
/-! SUPPORT. What the first tick and the END of a program keep, and what the END of each kind of program changes. -/

namespace Sys2Proof.Proofs

open Sys2Proof Sys2Proof.Machine

/-! ## Calm changes: no context starts, stops or reports anything new -/

/-- What a context runs and reports. -/
def brief (c : ThymeCtx) : Option Nat × Bool × Nat × Nat := (c.prog, c.inStep, c.abortCause, c.abortCode)

/-- Between two states of one tick no context has started, stopped or reported anything, no emergency has become due, tables keep their sizes, and the intake ports have forgotten no loss. -/
structure Calm (s t : State) : Prop where
  gt : t.gt = s.gt
  minOff : t.feed.minOffMs = s.feed.minOffMs
  due : t.thyme.emergencyDue = s.thyme.emergencyDue
  ctxs : t.thyme.ctxs.length = s.thyme.ctxs.length
  accs : t.thyme.accs.length = s.thyme.accs.length
  ports : t.rec_.ports.length = s.rec_.ports.length
  lost : ∀ p, (nth s.rec_.ports p).lost ≤ (nth t.rec_.ports p).lost
  ctx : ∀ k, brief (t.ctx k) = brief (s.ctx k)

theorem Quiet.calm {s t : State} (h : Quiet s t) : Calm s t :=
  ⟨h.gt, by rw [h.feed], by rw [h.thyme], by rw [h.thyme], by rw [h.thyme], h.ports, h.lost, fun k => by rw [h.ctx]⟩

theorem ctx_onCtx {s : State} {k : Nat} (h : k < s.thyme.ctxs.length) (f : ThymeCtx → ThymeCtx) : (s.onCtx k f).ctx k = f (s.ctx k) := by
  show nth (modAt _ k f) k = _
  rw [nth_modAt, if_pos ⟨rfl, h⟩]
  rfl

@[simp] theorem onCtx_ctxs_length (s : State) (k : Nat) (f : ThymeCtx → ThymeCtx) : (s.onCtx k f).thyme.ctxs.length = s.thyme.ctxs.length :=
  length_modAt s.thyme.ctxs k f

namespace Calm

theorem refl (s : State) : Calm s s := (Quiet.refl s).calm

theorem trans {s t u : State} (h : Calm s t) (h' : Calm t u) : Calm s u :=
  ⟨h'.gt.trans h.gt, h'.minOff.trans h.minOff, h'.due.trans h.due, h'.ctxs.trans h.ctxs, h'.accs.trans h.accs, h'.ports.trans h.ports,
    fun p => (h.lost p).trans (h'.lost p), fun k => (h'.ctx k).trans (h.ctx k)⟩

theorem guard {s t : State} {p : Prop} [Decidable p] (h : Calm s t) : Calm s (if p then t else s) := by
  split
  · exact h
  · exact refl s

theorem guardNot {s t : State} {p : Prop} [Decidable p] (h : Calm s t) : Calm s (if p then s else t) := by
  split
  · exact refl s
  · exact h

theorem foldl {α : Type} {f : State → α → State} (h : ∀ s a, Calm s (f s a)) (l : List α) (s : State) : Calm s (l.foldl f s) := foldl_within refl trans h l s

theorem onThyme {s : State} {f : ThymeState → ThymeState} (hd : (f s.thyme).emergencyDue = s.thyme.emergencyDue) (ha : (f s.thyme).accs.length = s.thyme.accs.length)
    (hc : (f s.thyme).ctxs = s.thyme.ctxs) : Calm s (s.onThyme f) :=
  ⟨rfl, rfl, hd, congrArg List.length hc, ha, rfl, fun _ => Nat.le_refl _, fun k => congrArg (fun l => brief (nth l k)) hc⟩

theorem onFeeds {s : State} {f : FeedState → FeedState} (h : (f s.feed).minOffMs = s.feed.minOffMs) : Calm s (s.onFeeds f) :=
  ⟨rfl, h, rfl, rfl, rfl, rfl, fun _ => Nat.le_refl _, fun _ => rfl⟩

theorem onCtx (s : State) (k : Nat) {f : ThymeCtx → ThymeCtx} (h : ∀ c, brief (f c) = brief c) : Calm s (s.onCtx k f) := by
  refine ⟨rfl, rfl, rfl, onCtx_ctxs_length .., rfl, rfl, fun _ => Nat.le_refl _, fun j => ?_⟩
  show brief (nth (modAt _ k f) j) = _
  rw [nth_modAt]
  split
  · exact h _
  · rfl

/-- The pending ons of every context are cancelled. -/
theorem noPending {s : State} {f : ThymeState → ThymeState} (hd : (f s.thyme).emergencyDue = s.thyme.emergencyDue) (ha : (f s.thyme).accs.length = s.thyme.accs.length)
    (hc : (f s.thyme).ctxs = s.thyme.ctxs.map fun c => ({ c with pendOn := false } : ThymeCtx)) : Calm s (s.onThyme f) := by
  refine ⟨rfl, rfl, hd, (congrArg List.length hc).trans (List.length_map _), ha, rfl, fun _ => Nat.le_refl _, fun k => ?_⟩
  show brief (nth (f s.thyme).ctxs k) = _
  rw [hc, nth_map _ _ rfl]
  rfl

theorem prog {s t : State} (h : Calm s t) (k : Nat) : (t.ctx k).prog = (s.ctx k).prog := congrArg Prod.fst (h.ctx k)

theorem inStep {s t : State} (h : Calm s t) (k : Nat) : (t.ctx k).inStep = (s.ctx k).inStep := congrArg (fun b => b.2.1) (h.ctx k)

end Calm

theorem setAcc_calm (s : State) (n : Nat) (a : AccState) : Calm s (s.setAcc n a) :=
  (Calm.onThyme rfl (List.length_set ..) rfl).trans (setAcc_quiet s n a).calm

/-! ## The first tick of a program (06 R160) -/

theorem enterInrush_calm (s : State) (x : Nat) : Calm s (s.enterInrush x) := by
  unfold State.enterInrush
  dsimp only
  split
  · exact .refl s
  · refine .trans ?_ (.guard (traced_quiet ..).calm)
    exact ⟨rfl, rfl, rfl, rfl, rfl, rfl, fun _ => Nat.le_refl _, fun _ => rfl⟩

theorem feedsSettle_calm (s : State) : Calm s s.feedsSettle := by
  unfold State.feedsSettle
  dsimp only
  have hi : Calm s (if s.feed.demand = true then (s.enterInrush 0).enterInrush 1 else s) := .guard ((enterInrush_calm s 0).trans (enterInrush_calm _ 1))
  generalize (if s.feed.demand = true then (s.enterInrush 0).enterInrush 1 else s) = t at hi ⊢
  refine hi.trans (.guard ?_)
  split
  · exact .onThyme rfl rfl rfl
  · exact .guard (.onThyme rfl rfl rfl)

theorem setDemand_calm (s : State) : Calm s s.setDemand := by
  unfold State.setDemand
  refine .trans (.trans ?_ (feedsSettle_calm _)) (mirrored_quiet ..).calm
  exact .onFeeds rfl

theorem dropMargins_quiet (s : State) : Quiet s s.dropMargins := .beside rfl rfl rfl rfl

theorem onSage_quiet (s : State) (f : SageState → SageState) : Quiet s (s.onSage f) := .beside rfl rfl rfl rfl

theorem accsDown_calm (s : State) : Calm s s.accsDown := by
  refine .foldl (fun s n => .guard ?_) _ s
  refine .trans (.trans (setAcc_calm s n .down) ?_) (onSage_quiet ..).calm
  exact .onThyme rfl rfl rfl

theorem enterKind_calm (s : State) (k : Nat) : Calm s (s.enterKind k) := by
  unfold State.enterKind
  split
  · refine .trans ?_ (setDemand_calm _)
    exact .onThyme rfl rfl rfl
  · refine .trans (.trans (dropMargins_quiet s).calm ?_) (.guard (accsDown_calm _))
    exact .onThyme rfl rfl rfl
  · exact setAcc_calm ..
  · exact .trans (dropMargins_quiet s).calm (setAcc_calm ..)
  · exact .refl s

theorem firstTick_calm (s : State) (k : Nat) : Calm s (s.firstTick k) := by
  unfold State.firstTick
  split
  · exact .refl s
  · refine .trans ?_ ((mirrored_quiet ..).trans (mirrored_quiet ..)).calm
    refine Calm.trans (t := (s.onCtx k fun c => { c with starting := none, progTick := s.gt }).enterKind k) ?_ ?_
    · refine .trans ?_ (enterKind_calm ..)
      exact .onCtx s k fun _ => rfl
    · split
      · exact ((event_quiet ..).trans (traced_quiet ..)).calm
      · exact ((event_quiet ..).trans (traced_quiet ..)).calm
      · exact (event_quiet ..).calm

/-! ## The END of a program, by its kind (06 R160, R162, R165) -/

theorem railOff_quiet (s : State) (c : Nat) (owner : WriteOwner) : Quiet s (s.railOff c owner) := by
  unfold State.railOff
  dsimp only
  split
  · exact .refl s
  · split <;> exact .beside rfl rfl rfl rfl

theorem sweep_quiet (s : State) (prog : Nat) : Quiet s (s.sweep prog) := by
  unfold State.sweep
  dsimp only
  split
  · exact .refl s
  · refine .trans (.trans (.trans ?_ (onSage_quiet ..)) (event_quiet ..)) (mirrored_quiet ..)
    exact .foldl (fun s c => .guard (railOff_quiet ..)) _ s

/-- Clearing the demand leaves the minimum off-time and everything beside the feeds as it was. -/
theorem clearDemand_calm (s : State) : Calm s s.clearDemand := .trans (.onFeeds rfl) (mirrored_quiet ..).calm

theorem clearDemand_demand (s : State) : s.clearDemand.feed.demand = false := by
  unfold State.clearDemand
  rw [(mirrored_quiet ..).feed]
  rfl

/-- The accelerators that an emergency power-down has taken down end in their states (06 R163). -/
def emergencyAccs (s : State) : State :=
  (List.range 8).foldl (fun s n => if s.acc n = .down then s.setAcc n (if s.thyme.accAbortStands.getLsbD n then .fault else .off) else s) s

theorem emergencyAccs_calm (s : State) : Calm s (emergencyAccs s) := .foldl (fun _ _ => .guard (setAcc_calm ..)) _ s

theorem emergencyAccs_feed (s : State) : (emergencyAccs s).feed = s.feed := by
  refine foldl_within (R := fun s t => t.feed = s.feed) (fun _ => rfl) (fun h h' => h'.trans h) (fun s n => ?_) _ s
  split
  · exact (setAcc_quiet ..).feed
  · rfl

/-- The state at the END of a tray power-down, before the tray's own state is set. -/
def trayDown (s : State) : State := if s.thyme.emergency.isSome then emergencyAccs s.clearDemand else s.clearDemand

theorem trayDown_calm (s : State) : Calm s (trayDown s) := by
  unfold trayDown
  split
  · exact (clearDemand_calm s).trans (emergencyAccs_calm _)
  · exact clearDemand_calm s

theorem trayDown_demand (s : State) : (trayDown s).feed.demand = false := by
  unfold trayDown
  split
  · rw [emergencyAccs_feed, clearDemand_demand]
  · exact clearDemand_demand s

theorem trayDownEnd_eq (s : State) (toFault : Bool) :
    s.trayDownEnd toFault =
      let v := (trayDown s).onThyme fun t => { t with emergency := none, leakAfter := false, userStopped := false, accAbortStands := 0, afterInputLoss := false }
      if toFault then v.onThyme fun t => { t with latchFault := true, tray := .standby, minOffEnd := none, ctxs := t.ctxs.map fun c => ({ c with pendOn := false } : ThymeCtx) }
      else v.onThyme fun t => { t with tray := .poweringDown, minOffEnd := some (v.gt + ms v.feed.minOffMs), afterInputLoss := s.thyme.emergency == some .inputLoss && !t.latchLeak } := rfl

theorem trayDownEnd_calm (s : State) (toFault : Bool) : Calm s (s.trayDownEnd toFault) := by
  rw [trayDownEnd_eq]
  refine .trans (t := (trayDown s).onThyme fun t => { t with emergency := none, leakAfter := false, userStopped := false, accAbortStands := 0, afterInputLoss := false })
    (.trans (trayDown_calm s) (.onThyme rfl rfl rfl)) ?_
  dsimp only
  split
  · exact .noPending rfl rfl rfl
  · exact .onThyme rfl rfl rfl

/-- The demand ends with a tray power-down; the minimum off-time begins, or after an abort the fault latch is set (05 R114, R135, 06 R165). -/
theorem trayDownEnd_tray (s : State) (toFault : Bool) :
    (s.trayDownEnd toFault).feed.demand = false ∧
    (toFault = false → (s.trayDownEnd toFault).thyme.tray = .poweringDown ∧ (s.trayDownEnd toFault).thyme.minOffEnd = some (s.gt + ms s.feed.minOffMs)) ∧
    (toFault = true → (s.trayDownEnd toFault).thyme.tray = .standby ∧ (s.trayDownEnd toFault).thyme.latchFault = true ∧ (s.trayDownEnd toFault).thyme.minOffEnd = none) := by
  have hc := trayDown_calm s
  rw [trayDownEnd_eq, ← hc.gt, ← hc.minOff]
  cases toFault with
  | false => exact ⟨trayDown_demand s, fun _ => ⟨rfl, rfl⟩, nofun⟩
  | true => exact ⟨trayDown_demand s, nofun, fun _ => ⟨rfl, rfl, rfl⟩⟩

/-- An accelerator at the END of its power-down, ACC_FAULT being left by its clear alone (00 R13, 06 R165). -/
def accDownAt (s : State) (k : Nat) (c : ThymeCtx) : State := if s.acc (k - 1) = .fault then s else s.setAcc (k - 1) (if c.after = .toFault then .fault else .off)

/-- A pending on waits for the minimum off-time, but not after an abort (06 R162). -/
def accDownPending (s : State) (k : Nat) (c : ThymeCtx) : State :=
  if c.pendOn ∧ c.after ≠ .toFault then s.onThyme fun t => { t with accMinOffEnd := t.accMinOffEnd.set (k - 1) (some (s.gt + ms t.accMinOffMs)) }
  else s.onCtx k fun c => { c with pendOn := false }

theorem endKind_accDown_eq (s : State) (k : Nat) (c : ThymeCtx) : s.endKind k 4 c = accDownPending (accDownAt s k c) k c := rfl

theorem accDownAt_calm (s : State) (k : Nat) (c : ThymeCtx) : Calm s (accDownAt s k c) := .guardNot (setAcc_calm ..)

theorem accDownPending_calm (s : State) (k : Nat) (c : ThymeCtx) : Calm s (accDownPending s k c) := by
  unfold accDownPending
  split
  · exact .onThyme rfl rfl rfl
  · exact .onCtx s k fun _ => rfl

theorem endKind_calm (s : State) (k kind : Nat) (c : ThymeCtx) : Calm s (s.endKind k kind c) := by
  unfold State.endKind
  split
  · exact .onThyme rfl rfl rfl
  · exact .trans (.guard (sweep_quiet ..).calm) (trayDownEnd_calm ..)
  · exact .guardNot (setAcc_calm ..)
  · exact (accDownAt_calm s k c).trans (accDownPending_calm _ k c)
  · exact .refl s

theorem endKind_trayDown (s : State) (k : Nat) (c : ThymeCtx) :
    (s.endKind k 2 c).feed.demand = false ∧
    (c.after = .normal → (s.endKind k 2 c).thyme.tray = .poweringDown ∧ (s.endKind k 2 c).thyme.minOffEnd = some (s.gt + ms s.feed.minOffMs)) ∧
    (c.after = .toFault → (s.endKind k 2 c).thyme.tray = .standby ∧ (s.endKind k 2 c).thyme.latchFault = true ∧ (s.endKind k 2 c).thyme.minOffEnd = none) := by
  have hq : Quiet s (if s.thyme.emergency.isSome = true ∨ s.thyme.userStopped = true then s.sweep (c.prog.getD 0) else s) := .guard (sweep_quiet ..)
  obtain ⟨hd, hn, hf⟩ := trayDownEnd_tray (if s.thyme.emergency.isSome = true ∨ s.thyme.userStopped = true then s.sweep (c.prog.getD 0) else s) (c.after == .toFault)
  rw [hq.gt, hq.feed] at hn
  exact ⟨hd, fun h => hn (by rw [h]; rfl), fun h => hf (by rw [h]; rfl)⟩

theorem endKind_accUp {s : State} {k : Nat} (h : k - 1 < s.thyme.accs.length) (c : ThymeCtx) :
    (s.endKind k 3 c).acc (k - 1) = if s.acc (k - 1) = .fault then .fault else .on := by
  show (if s.acc (k - 1) = .fault then s else s.setAcc (k - 1) .on).acc (k - 1) = _
  split
  · assumption
  · exact setAcc_acc h _

theorem endKind_accDown {s : State} {k : Nat} (h : k - 1 < s.thyme.accs.length) (c : ThymeCtx) :
    (s.endKind k 4 c).acc (k - 1) = if s.acc (k - 1) = .fault ∨ c.after = .toFault then .fault else .off := by
  have hp : (accDownPending (accDownAt s k c) k c).acc (k - 1) = (accDownAt s k c).acc (k - 1) := by
    unfold accDownPending
    split <;> rfl
  rw [endKind_accDown_eq, hp, accDownAt]
  by_cases hf : s.acc (k - 1) = .fault
  · rw [if_pos hf, if_pos (.inl hf), hf]
  · rw [if_neg hf, setAcc_acc h]
    simp only [hf, false_or]

end Sys2Proof.Proofs
end

section
/-! SUPPORT. The start of a step, the END of a program, and the ends of the minimum off-times. -/

namespace Sys2Proof.Proofs

open Sys2Proof Sys2Proof.Machine

/-! ## The start of a step (06 R143) -/

/-- The state in which the effect of a step that starts in this tick runs. -/
def entered (s : State) (k op : Nat) : State :=
  ((s.firstTick k).traced 32 k (((s.firstTick k).ctx k).idx + 4096 * op)).onCtx k
    fun c => c.stays ((s.firstTick k).traced 32 k (((s.firstTick k).ctx k).idx + 4096 * op)).gt

section Entered

variable {s : State} {k op : Nat}

theorem mayStart_lt (h : s.mayStart k op = true) : k < 9 := by
  simp only [State.mayStart, Bool.and_eq_true, decide_eq_true_eq] at h
  exact h.1.1.1.1

theorem startStep_eq (h : s.mayStart k op = true) (run : State → State) : s.startStep k op run = run (entered s k op) := by
  unfold State.startStep
  rw [h]
  rfl

theorem firstTick_ctxs (h : s.mayStart k op = true) (h9 : s.thyme.ctxs.length = 9) : k < (s.firstTick k).thyme.ctxs.length := by
  rw [(firstTick_calm s k).ctxs, h9]
  exact mayStart_lt h

/-- The start of a step changes the context, and the rest quietly after the program's first tick. -/
theorem entered_quiet (s : State) (k op : Nat) : Quiet ((s.firstTick k).onCtx k fun c => c.stays s.gt) (entered s k op) := by
  have ht := traced_quiet (s.firstTick k) 32 k (((s.firstTick k).ctx k).idx + 4096 * op)
  have hg : ((s.firstTick k).traced 32 k (((s.firstTick k).ctx k).idx + 4096 * op)).gt = s.gt := ht.gt.trans (firstTick_calm s k).gt
  unfold entered
  rw [hg]
  exact ht.onThyme fun t => { t with ctxs := modAt t.ctxs k fun c => c.stays s.gt }

theorem entered_gt (s : State) (k op : Nat) : (entered s k op).gt = s.gt := (entered_quiet s k op).gt.trans (firstTick_calm s k).gt

theorem entered_ctx (hk : k < (s.firstTick k).thyme.ctxs.length) (op : Nat) : (entered s k op).ctx k = ((s.firstTick k).ctx k).stays s.gt :=
  ((entered_quiet s k op).ctx k).trans (ctx_onCtx hk _)

theorem entered_runKind (hk : k < (s.firstTick k).thyme.ctxs.length) (op : Nat) : (entered s k op).runKind k = (s.firstTick k).runKind k := by
  unfold State.runKind
  rw [entered_ctx hk, (entered_quiet s k op).thyme]
  rfl

theorem entered_word (hk : k < (s.firstTick k).thyme.ctxs.length) (op : Nat) : (entered s k op).word k = (s.firstTick k).word k := by
  unfold State.word
  rw [entered_ctx hk, (entered_quiet s k op).thyme]
  rfl

theorem entered_without (s : State) (k op : Nat) :
    (entered s k op).without [.thyme, .trace, .rec_, .pair] = (s.firstTick k).without [.thyme, .trace, .rec_, .pair] := by
  obtain ⟨r, t, h⟩ := (s.firstTick k).traced_only 32 k (((s.firstTick k).ctx k).idx + 4096 * op)
  unfold entered
  rw [h]
  rfl

end Entered

/-! ## END (06 R153, R160, R168) -/

/-- Without an off request and an emergency that waits, a step that has completed gives way to the next one (06 R143). -/
theorem stepDone_goes {s : State} {k : Nat} (hd : s.thyme.emergencyDue = none) (ho : (s.ctx k).offTaken = false) (n : Nat) :
    s.stepDone k n = (s.onCtx k fun c => c.goesTo n s.gt).mirrored .thyme := by
  unfold State.stepDone
  simp only [hd, ho, Option.isSome_none, Bool.false_eq_true, if_false]
  rfl

/-- Without an off request and an emergency that waits, the END of a program stops its context, acts by its kind and is recorded. -/
theorem progEnd_eq {s : State} {k : Nat} (hd : s.thyme.emergencyDue = none) (ho : (s.ctx k).offTaken = false) :
    ∃ payload, s.progEnd k = ((((s.stop k).endKind k (s.runKind k) (s.ctx k)).event .thyme 0x0202 0 k payload).mirrored .tray).mirrored .thyme := by
  have hv : ((s.stop k).endKind k (s.runKind k) (s.ctx k)).thyme.emergencyDue = none := (endKind_calm ..).due.trans hd
  unfold State.progEnd
  simp only [State.event_thyme, hv, ho, Option.isSome_none, Bool.false_eq_true, if_false]
  exact ⟨_, rfl⟩

/-- END of a program leaves its context idle, is recorded, and sets the state of the tray or the accelerator by the program's kind (00 R13, 05 R135, 06 R160, R165). -/
theorem progEnd_spec {s : State} {k : Nat} (hk : k < s.thyme.ctxs.length) (ha : k - 1 < s.thyme.accs.length) (hp : EvPort.thyme.num < s.rec_.ports.length)
    (hd : s.thyme.emergencyDue = none) (ho : (s.ctx k).offTaken = false) {t : State} (ht : s.progEnd k = t) :
    (t.ctx k).prog = none ∧ (t.ctx k).inStep = false ∧ Recorded s t .thyme 0x0202 0 ∧
    (s.runKind k = 1 → t.thyme.tray = .on) ∧
    (s.runKind k = 3 → t.acc (k - 1) = if s.acc (k - 1) = .fault then .fault else .on) ∧
    (s.runKind k = 4 → t.acc (k - 1) = if s.acc (k - 1) = .fault ∨ (s.ctx k).after = .toFault then .fault else .off) ∧
    (s.runKind k = 2 → t.feed.demand = false ∧
      ((s.ctx k).after = .normal → t.thyme.tray = .poweringDown ∧ t.thyme.minOffEnd = some (s.gt + ms s.feed.minOffMs)) ∧
      ((s.ctx k).after = .toFault → t.thyme.tray = .standby ∧ t.thyme.latchFault = true ∧ t.thyme.minOffEnd = none)) := by
  have hz : ((s.stop k).ctx k).prog = none ∧ ((s.stop k).ctx k).inStep = false := by
    rw [State.stop, ctx_onCtx hk]
    exact ⟨rfl, rfl⟩
  obtain ⟨payload, he⟩ := progEnd_eq hd ho
  have hv := endKind_calm (s.stop k) k (s.runKind k) (s.ctx k)
  generalize hx : (s.stop k).endKind k (s.runKind k) (s.ctx k) = v at he hv
  have hq : Quiet v t := by
    rw [← ht, he]
    exact (event_quiet ..).trans ((mirrored_quiet ..).trans (mirrored_quiet ..))
  refine ⟨by rw [hq.ctx, hv.prog]; exact hz.1, by rw [hq.ctx, hv.inStep]; exact hz.2, ?_, fun h => ?_, fun h => ?_, fun h => ?_, fun h => ?_⟩
  · have hr : Recorded s (v.event .thyme 0x0202 0 k payload) .thyme 0x0202 0 :=
      event_recorded hv.gt (by rw [hv.ports]; exact hp) (hv.lost _) (by decide) 0 k payload
    exact recorded_of_rec hr (by rw [← ht, he, State.mirrored_rec_, State.mirrored_rec_])
  · rw [hq.thyme, ← hx, h]
    rfl
  · rw [hq.acc, ← hx, h]
    exact endKind_accUp (s := s.stop k) ha _
  · rw [hq.acc, ← hx, h]
    exact endKind_accDown (s := s.stop k) ha _
  · rw [hq.thyme, hq.feed, ← hx, h]
    exact endKind_trayDown (s.stop k) k (s.ctx k)

theorem mirrored_without (s : State) (kind : MirKind) : (s.mirrored kind).without [.thyme, .trace, .rec_, .pair] = s.without [.thyme, .trace, .rec_, .pair] := by
  obtain ⟨p, h⟩ := s.mirrored_only kind
  rw [h]
  rfl

/-- What END does: back behind the CALL in a SUB, else the end of the program. -/
def endRun (k : Nat) (s : State) : State :=
  match (s.ctx k).ret with
  | some r => (s.onCtx k fun c => { c with ret := none }).stepDone k r
  | none => s.progEnd k

theorem exec_endStep (ctx : U8) (s : State) : exec (.endStep ctx) s = .next (s.startStep ctx.toNat 12 (endRun ctx.toNat)) := rfl

theorem goesTo_stays (c : ThymeCtx) (r gt : Nat) : ThymeCtx.goesTo { c.stays gt with ret := none } r gt = { c.goesTo r gt with ret := none } := rfl

/-- END in a SUB goes back behind its CALL (06 R153). -/
theorem endRun_sub {s : State} {k : Nat} (hk : k < s.thyme.ctxs.length) (hd : s.thyme.emergencyDue = none) (ho : (s.ctx k).offTaken = false)
    {r : Nat} (hr : (s.ctx k).ret = some r) :
    (endRun k s).ctx k = ThymeCtx.goesTo { s.ctx k with ret := none } r s.gt ∧
    (endRun k s).without [.thyme, .trace, .rec_, .pair] = s.without [.thyme, .trace, .rec_, .pair] := by
  have hc := ctx_onCtx hk fun c => { c with ret := none }
  have hl : k < (s.onCtx k fun c => { c with ret := none }).thyme.ctxs.length := by
    rwa [onCtx_ctxs_length]
  have he : endRun k s = ((s.onCtx k fun c => { c with ret := none }).onCtx k fun c => c.goesTo r s.gt).mirrored .thyme := by
    unfold endRun
    rw [hr]
    refine stepDone_goes (s := s.onCtx k fun c => { c with ret := none }) hd ?_ r
    rw [hc]
    exact ho
  rw [he]
  exact ⟨by rw [(mirrored_quiet ..).ctx, ctx_onCtx hl, hc], mirrored_without ..⟩

section End

variable {s : State} {ctx : U8}

/-- END goes back behind the CALL of a SUB, or ends the program (06 R153, R160). -/
theorem endStep_completes (h9 : s.thyme.ctxs.length = 9) (h8 : s.thyme.accs.length = 8) (h16 : s.rec_.ports.length = 16) (hm : s.mayStart ctx.toNat 12 = true)
    (hcut : (s.firstTick ctx.toNat).cut ctx.toNat = false) :
    let k := ctx.toNat
    let u := s.firstTick k
    let c := u.ctx k
    Completes (.endStep ctx) s fun t =>
      (∀ r, c.ret = some r → t.ctx k = { c.goesTo r s.gt with ret := none } ∧ t.without [.thyme, .trace, .rec_, .pair] = u.without [.thyme, .trace, .rec_, .pair]) ∧
      (c.ret = none →
        (t.ctx k).prog = none ∧ (t.ctx k).inStep = false ∧ Recorded u t .thyme 0x0202 0 ∧
        (u.runKind k = 1 → t.thyme.tray = .on) ∧
        (u.runKind k = 3 → 1 ≤ k → t.acc (k - 1) = if u.acc (k - 1) = .fault then .fault else .on) ∧
        (u.runKind k = 4 → 1 ≤ k → t.acc (k - 1) = if u.acc (k - 1) = .fault ∨ c.after = .toFault then .fault else .off) ∧
        (u.runKind k = 2 → t.feed.demand = false ∧
          (c.after = .normal → t.thyme.tray = .poweringDown ∧ t.thyme.minOffEnd = some (s.gt + ms s.feed.minOffMs)) ∧
          (c.after = .toFault → t.thyme.tray = .standby ∧ t.thyme.latchFault = true ∧ t.thyme.minOffEnd = none))) := by
  intro k u c
  have hk : k < u.thyme.ctxs.length := firstTick_ctxs hm h9
  have hk9 : k < 9 := mayStart_lt hm
  have hu : Calm s u := firstTick_calm s k
  have he : Quiet (u.onCtx k fun c => c.stays s.gt) (entered s k 12) := entered_quiet s k 12
  have hc : (entered s k 12).ctx k = c.stays s.gt := entered_ctx hk 12
  have hkind : (entered s k 12).runKind k = u.runKind k := entered_runKind hk 12
  have hg : (entered s k 12).gt = s.gt := entered_gt s k 12
  have hw : (entered s k 12).without [.thyme, .trace, .rec_, .pair] = u.without [.thyme, .trace, .rec_, .pair] := entered_without s k 12
  simp only [State.cut, Bool.or_eq_false_iff, Option.isSome_eq_false_iff, Option.isNone_iff_eq_none] at hcut
  obtain ⟨ho, hd⟩ := hcut
  refine ⟨endRun k (entered s k 12), by rw [exec_endStep, startStep_eq hm], ?_⟩
  generalize entered s k 12 = e at he hc hkind hg hw ⊢
  have hel : k < e.thyme.ctxs.length := by
    rw [he.thyme]
    exact (onCtx_ctxs_length u k _).symm ▸ hk
  have hed : e.thyme.emergencyDue = none := (congrArg ThymeState.emergencyDue he.thyme).trans hd
  have heo : (e.ctx k).offTaken = false := by rw [hc]; exact ho
  have hacc : e.thyme.accs = u.thyme.accs := (congrArg ThymeState.accs he.thyme).trans rfl
  constructor
  · intro r hr
    obtain ⟨h1, h2⟩ := endRun_sub hel hed heo (r := r) (by rw [hc]; exact hr)
    exact ⟨by rw [h1, hc, hg, goesTo_stays], h2.trans hw⟩
  · intro hr
    have ht : e.progEnd k = endRun k e := by
      unfold endRun
      rw [hc, show (c.stays s.gt).ret = none from hr]
    obtain ⟨h1, h2, h3, hon, hup, hdown, htray⟩ := progEnd_spec hel (by rw [hacc, hu.accs, h8]; omega) (by rw [he.ports]; show _ < u.rec_.ports.length; rw [hu.ports, h16]; decide) hed heo ht
    rw [hkind] at hon hup hdown htray
    rw [hc] at hdown htray
    rw [hg, he.feed] at htray
    have hmin : ((u.onCtx k fun c => c.stays s.gt).feed.minOffMs) = s.feed.minOffMs := hu.minOff
    rw [hmin] at htray
    have hea : e.acc (k - 1) = u.acc (k - 1) := congrArg (fun l => nth l (k - 1)) hacc
    rw [hea] at hup hdown
    exact ⟨h1, h2, recorded_since h3 (hg.trans hu.gt.symm) (he.lost _), hon, fun h _ => hup h, fun h _ => hdown h, htray⟩

end End

/-! ## The ends of the minimum off-times (05 R135, 06 R162, R164) -/

/-- A request, where it is made, waits for the next tick; Thyme's other values stay (06 R160). -/
theorem request_only (s : State) (b : Prop) [Decidable b] (r : PowerRequest) :
    ∃ p, (if b then s.request r else s) = { s with pair := p, thyme := { s.thyme with requests := if b then s.thyme.requests ++ [(r, s.gt + 1)] else s.thyme.requests } } := by
  split
  · obtain ⟨p, h⟩ := (s.onThyme fun t => { t with requests := t.requests ++ [(r, s.gt + 1)] }).mirrored_only .thyme
    exact ⟨p, h⟩
  · exact ⟨s.pair, rfl⟩

/-- The tray at the end of its minimum off-time. -/
def minOffOver (s : State) : State :=
  (s.onThyme fun t => { t with minOffEnd := none, afterInputLoss := false, tray := .standby }).onCtx 0 fun c => { c with pendOn := false }

/-- At the end of the minimum off-time the tray enters STANDBY, and a pending on, or AUTO_ON after an input loss, becomes a request (05 R135, 06 R162, R164). -/
theorem minOffTimeEnd_completes {s : State} (h9 : s.thyme.ctxs.length = 9) {g : Nat} (hg : s.thyme.minOffEnd = some g) (hle : g ≤ s.gt) (hs : s.serves = true) :
    Completes .minOffTimeEnd s fun t =>
      t.thyme.tray = .standby ∧ t.thyme.minOffEnd = none ∧ (t.ctx 0).pendOn = false ∧ t.without [.thyme, .pair] = s.without [.thyme, .pair] ∧
      t.thyme.requests = if s.thyme.latched = false ∧ ((s.ctx 0).pendOn = true ∨ (s.thyme.autoOn = true ∧ s.thyme.afterInputLoss = true)) then
        s.thyme.requests ++ [(.trayOn, s.gt + 1)] else s.thyme.requests := by
  have hb : (!s.thyme.latched && ((s.ctx 0).pendOn || (s.thyme.autoOn && s.thyme.afterInputLoss))) = true ↔
      s.thyme.latched = false ∧ ((s.ctx 0).pendOn = true ∨ (s.thyme.autoOn = true ∧ s.thyme.afterInputLoss = true)) := by
    simp only [Bool.and_eq_true, Bool.not_eq_true', Bool.or_eq_true]
  have he : exec .minOffTimeEnd s = .next ((if (!s.thyme.latched && ((s.ctx 0).pendOn || (s.thyme.autoOn && s.thyme.afterInputLoss))) = true then
      (minOffOver s).request .trayOn else minOffOver s).mirrored .tray) := by
    show execMinOffTimeEnd s = _
    simp only [execMinOffTimeEnd, hg, if_pos (And.intro hle hs)]
    rfl
  have hpend : ((minOffOver s).ctx 0).pendOn = false := by
    rw [minOffOver, ctx_onCtx (by show 0 < s.thyme.ctxs.length; omega)]
  simp only [hb] at he
  obtain ⟨p, hp⟩ := request_only (minOffOver s) (s.thyme.latched = false ∧ ((s.ctx 0).pendOn = true ∨ (s.thyme.autoOn = true ∧ s.thyme.afterInputLoss = true))) .trayOn
  rw [hp] at he
  obtain ⟨p', hp'⟩ := State.mirrored_only _ .tray
  exact ⟨_, he.trans (congrArg _ hp'), rfl, rfl, hpend, rfl, rfl⟩

/-- An accelerator at the end of its minimum off-time. -/
def accMinOffOver (s : State) (n : Nat) : State :=
  (s.onThyme fun t => { t with accMinOffEnd := t.accMinOffEnd.set n none }).onCtx (n + 1) fun c => { c with pendOn := false }

/-- At the end of an accelerator's minimum off-time a pending on becomes a request (06 R162). -/
theorem accMinOffTimeEnd_completes {s : State} (h9 : s.thyme.ctxs.length = 9) {acc : U8} {g : Nat} (h8 : acc.toNat < 8) (hl : s.thyme.accMinOffEnd.length = 8)
    (hg : nth s.thyme.accMinOffEnd acc.toNat = some g) (hle : g ≤ s.gt) (hs : s.serves = true) :
    Completes (.accMinOffTimeEnd acc) s fun t =>
      nth t.thyme.accMinOffEnd acc.toNat = none ∧ (t.ctx (acc.toNat + 1)).pendOn = false ∧ t.without [.thyme, .pair] = s.without [.thyme, .pair] ∧
      t.thyme.requests = if (s.ctx (acc.toNat + 1)).pendOn = true then s.thyme.requests ++ [(.accOn acc.toNat, s.gt + 1)] else s.thyme.requests := by
  have he : exec (.accMinOffTimeEnd acc) s = .next (if (s.ctx (acc.toNat + 1)).pendOn = true then (accMinOffOver s acc.toNat).request (.accOn acc.toNat) else accMinOffOver s acc.toNat) := by
    show execAccMinOffTimeEnd acc s = _
    simp only [execAccMinOffTimeEnd, hg, if_pos (And.intro hle hs)]
    rfl
  have hpend : ((accMinOffOver s acc.toNat).ctx (acc.toNat + 1)).pendOn = false := by
    rw [accMinOffOver, ctx_onCtx (by show acc.toNat + 1 < s.thyme.ctxs.length; omega)]
  obtain ⟨p, hp⟩ := request_only (accMinOffOver s acc.toNat) ((s.ctx (acc.toNat + 1)).pendOn = true) (.accOn acc.toNat)
  exact ⟨_, he.trans (congrArg _ hp), nth_set_self (by omega) none, hpend, rfl, rfl⟩

end Sys2Proof.Proofs
end

section
/-! SUPPORT. What an abort reports, and what later changes keep of the report. -/

namespace Sys2Proof.Proofs

open Sys2Proof Sys2Proof.Machine

/-! ## Changes that keep every context's report of its last abort -/

/-- What a context reports of its last abort (06 R169). -/
def report (s : State) (k : Nat) : Nat × Nat := ((s.ctx k).abortCause, (s.ctx k).abortCode)

/-- Between two states every context keeps its report of its last abort. -/
structure Reports (s t : State) : Prop where
  keeps : ∀ k, report t k = report s k

theorem Calm.reports {s t : State} (h : Calm s t) : Reports s t := ⟨fun k => congrArg (fun b => b.2.2) (h.ctx k)⟩

namespace Reports

theorem refl (s : State) : Reports s s := ⟨fun _ => rfl⟩

theorem trans {s t u : State} (h : Reports s t) (h' : Reports t u) : Reports s u := ⟨fun k => (h'.keeps k).trans (h.keeps k)⟩

theorem guard {s t : State} {p : Prop} [Decidable p] (h : Reports s t) : Reports s (if p then t else s) := by
  split
  · exact h
  · exact refl s

theorem foldl {α : Type} {f : State → α → State} (h : ∀ s a, Reports s (f s a)) (l : List α) (s : State) : Reports s (l.foldl f s) := foldl_within refl trans h l s

/-- A change of Thyme beside the contexts. -/
theorem onThyme {s : State} {f : ThymeState → ThymeState} (h : (f s.thyme).ctxs = s.thyme.ctxs) : Reports s (s.onThyme f) :=
  ⟨fun k => congrArg (fun l => ((nth l k).abortCause, (nth l k).abortCode)) h⟩

/-- A change of Thyme that cancels every pending on. -/
theorem noPending {s : State} {f : ThymeState → ThymeState} (h : (f s.thyme).ctxs = s.thyme.ctxs.map fun c => ({ c with pendOn := false } : ThymeCtx)) :
    Reports s (s.onThyme f) := by
  refine ⟨fun k => (congrArg (fun l => ((nth l k).abortCause, (nth l k).abortCode)) h).trans ?_⟩
  rw [nth_map (f := fun c => ({ c with pendOn := false } : ThymeCtx)) s.thyme.ctxs k rfl]
  rfl

theorem onCtx (s : State) (k : Nat) {f : ThymeCtx → ThymeCtx} (h : ∀ c, ((f c).abortCause, (f c).abortCode) = (c.abortCause, c.abortCode)) : Reports s (s.onCtx k f) := by
  refine ⟨fun j => ?_⟩
  show ((nth (modAt s.thyme.ctxs k f) j).abortCause, (nth (modAt s.thyme.ctxs k f) j).abortCode) = _
  rw [nth_modAt]
  split
  · exact h _
  · rfl

end Reports

theorem stop_reports (s : State) (k : Nat) : Reports s (s.stop k) := .onCtx s k fun _ => rfl

theorem begin_reports (s : State) (k prog idx tick : Nat) (how : StartKind) : Reports s (s.begin k prog idx tick how) := .onCtx s k fun _ => rfl

theorem emergencyStart_reports (s : State) : Reports s s.emergencyStart := by
  unfold State.emergencyStart
  split
  · exact .refl s
  · split
    · exact .refl s
    · refine .trans ?_ ((traced_quiet ..).trans (mirrored_quiet ..)).calm.reports
      refine .trans ?_ (.onCtx _ 0 fun _ => rfl)
      refine .trans ?_ (begin_reports ..)
      exact .onThyme rfl

theorem giveWay_reports (s : State) (k : Nat) : Reports s (s.giveWay k) := by
  refine .trans (.trans (stop_reports s k) ?_) (emergencyStart_reports _)
  exact .onCtx _ 0 fun _ => rfl

theorem toMirror_reports (s : State) (k : Nat) (how : StartKind) : Reports s (s.toMirror k how) := begin_reports ..

theorem stepDone_reports (s : State) (k next : Nat) : Reports s (s.stepDone k next) := by
  unfold State.stepDone
  dsimp only
  refine .trans ?_ (mirrored_quiet ..).calm.reports
  split
  · exact giveWay_reports s k
  · split
    · split
      · exact .trans (stop_reports s k) (begin_reports ..)
      · exact toMirror_reports ..
    · exact .onCtx s k fun _ => rfl

theorem takeOff_reports (s : State) (k : Nat) : Reports s (s.takeOff k) := by
  unfold State.takeOff
  dsimp only
  split
  · exact .refl s
  · split
    · exact .onCtx s k fun _ => rfl
    · refine .trans ?_ (stepDone_reports ..)
      exact .onCtx s k fun _ => rfl

theorem takeOffAccs_reports (s : State) : Reports s s.takeOffAccs := .foldl (fun s _ => .guard (takeOff_reports s _)) _ s

/-! ## An immediate-off keeps the report of an idle context (06 R165, 07 R191) -/

/-- An idle context stays idle and keeps its report. -/
def Still (k : Nat) (s t : State) : Prop := (s.ctx k).prog = none → (t.ctx k).prog = none ∧ report t k = report s k

theorem Calm.still {s t : State} (h : Calm s t) (k : Nat) : Still k s t := fun hi => ⟨(h.prog k).trans hi, h.reports.keeps k⟩

namespace Still

theorem refl (k : Nat) (s : State) : Still k s s := fun h => ⟨h, rfl⟩

theorem trans {k : Nat} {s t u : State} (h : Still k s t) (h' : Still k t u) : Still k s u := fun hi =>
  ⟨(h' (h hi).1).1, (h' (h hi).1).2.trans (h hi).2⟩

theorem guard {k : Nat} {s t : State} {p : Prop} [Decidable p] (h : Still k s t) : Still k s (if p then t else s) := by
  split
  · exact h
  · exact refl k s

theorem foldl {k : Nat} {α : Type} {f : State → α → State} (h : ∀ s a, Still k s (f s a)) (l : List α) (s : State) : Still k s (l.foldl f s) :=
  foldl_within (refl k) trans h l s

/-- A change of Thyme beside the contexts. -/
theorem onThyme {k : Nat} {s : State} {f : ThymeState → ThymeState} (h : (f s.thyme).ctxs = s.thyme.ctxs) : Still k s (s.onThyme f) := fun hi =>
  ⟨(congrArg (fun l => (nth l k).prog) h).trans hi, (Reports.onThyme h).keeps k⟩

end Still

theorem ctx_onCtx_ne {s : State} {j k : Nat} (h : j ≠ k) (f : ThymeCtx → ThymeCtx) : (s.onCtx j f).ctx k = s.ctx k := by
  show nth (modAt s.thyme.ctxs j f) k = _
  rw [nth_modAt, if_neg fun e => h e.1]
  rfl

/-- A stopped context is idle, and the others are as they were. -/
theorem stop_prog (s : State) (j k : Nat) (h : j = k ∨ (s.ctx k).prog = none) : ((s.stop j).ctx k).prog = none := by
  show (nth (modAt s.thyme.ctxs j fun c => { c.stopped with endTick := some s.gt }) k).prog = none
  rw [nth_modAt]
  split
  · rfl
  · rename_i hn
    rcases h with rfl | h
    · have : s.thyme.ctxs.length ≤ j := by
        by_contra hl
        exact hn ⟨rfl, by omega⟩
      rw [nth, List.getD_eq_default _ _ this]
      rfl
    · exact h

theorem stop_still (s : State) (j k : Nat) : Still k s (s.stop j) := fun h => ⟨stop_prog s j k (.inr h), (stop_reports s j).keeps k⟩

/-- A context stops; its accelerator leaves ACC_UP or ACC_DOWN (06 R165; log entry 5). -/
def stopRun (scope : Nat) (s : State) (j : Nat) : State :=
  let s := s.stop j
  if j = 0 ∨ s.acc (j - 1) = .fault then s else s.setAcc (j - 1) (if wideScope scope then .off else .fault)

theorem stopAll_eq (s : State) (scope : Nat) : s.stopAll scope = (List.range 9).foldl (fun s j => if s.runs j then stopRun scope s j else s) s := rfl

theorem stopRun_calm (scope : Nat) (s : State) (j : Nat) : Calm (s.stop j) (stopRun scope s j) := .guardNot (setAcc_calm ..)

theorem stopRun_still (scope : Nat) (s : State) (j k : Nat) : Still k s (stopRun scope s j) := (stop_still s j k).trans ((stopRun_calm scope s j).still k)

theorem stopAll_still (s : State) (scope k : Nat) : Still k s (s.stopAll scope) := by
  rw [stopAll_eq]
  exact .foldl (fun s j => .guard (stopRun_still scope s j k)) _ s

theorem stopAll_reports (s : State) (scope : Nat) : Reports s (s.stopAll scope) := by
  rw [stopAll_eq]
  exact .foldl (fun s j => .guard ((stop_reports s j).trans (stopRun_calm scope s j).reports)) _ s

/-- Stopping the contexts of a list leaves each of them idle. -/
theorem stopRuns_idle (scope k : Nat) (l : List Nat) (s : State) (h : k ∈ l ∨ (s.ctx k).prog = none) :
    ((l.foldl (fun s j => if s.runs j then stopRun scope s j else s) s).ctx k).prog = none := by
  induction l generalizing s with
  | nil => exact h.elim (fun h => absurd h List.not_mem_nil) id
  | cons j l ih =>
    refine ih _ ?_
    rcases h with h | h
    · rcases List.mem_cons.mp h with rfl | h
      · refine .inr ?_
        dsimp only
        split
        · exact ((stopRun_calm scope s k).prog k).trans (stop_prog s k k (.inl rfl))
        · rename_i hr
          simpa [State.runs] using hr
      · exact .inl h
    · exact .inr ((Still.guard (stopRun_still scope s j k)) h).1

/-- After every context has been stopped, each of the nine is idle. -/
theorem stopAll_idle (s : State) (scope : Nat) {k : Nat} (hk : k < 9) : ((s.stopAll scope).ctx k).prog = none := by
  rw [stopAll_eq]
  exact stopRuns_idle scope k _ s (.inl (List.mem_range.mpr hk))

/-- What an aborting context records, in its context and beside it (06 R165). -/
theorem abortEvent_quiet (s : State) (k cause code : Nat) :
    Quiet (s.onCtx k fun c => { c with abortCause := cause, abortCode := if cause = 8 then code else c.abortCode }) (s.abortEvent k cause code) :=
  (event_quiet ..).trans (traced_quiet ..)

/-- A tray program that aborts with cause SAGE stops every context and leaves FAULT_OFF (06 R165). -/
def trayAborts (scope : Nat) (s : State) : State :=
  (s.stopAll scope).onThyme fun t => { t with latchFault := true, emergency := none, emergencyDue := none, leakAfter := false, tray := if t.tray = .off then .off else .standby }

/-- What follows the record of an abort with cause SAGE (06 R165). -/
def abortSageRest (scope kind k : Nat) (s : State) : State :=
  if k = 0 then (if kind = 6 then s.stop 0 else trayAborts scope s)
  else if (s.stop k).acc (k - 1) = .fault then s.stop k else (s.stop k).setAcc (k - 1) (if wideScope scope then .off else .fault)

theorem abortSage_eq (s : State) (scope k : Nat) : s.abortSage scope k = if !s.runs k then s else abortSageRest scope (s.runKind k) k (s.abortEvent k 1 0) := rfl

theorem trayAborts_still (scope : Nat) (s : State) (k : Nat) : Still k s (trayAborts scope s) := by
  unfold trayAborts
  refine .trans (stopAll_still s scope k) ?_
  generalize s.stopAll scope = t
  exact .onThyme rfl

theorem abortSageRest_still (scope kind j : Nat) (s : State) (k : Nat) : Still k s (abortSageRest scope kind j s) := by
  unfold abortSageRest
  split
  · split
    · exact stop_still s 0 k
    · exact trayAborts_still scope s k
  · exact .trans (stop_still s j k) ((Calm.guardNot (setAcc_calm ..)).still k)

/-- The abort of another context leaves an idle one alone. -/
theorem abortSage_still (s : State) (scope j k : Nat) : Still k s (s.abortSage scope j) := by
  intro hi
  rw [abortSage_eq]
  split
  · exact ⟨hi, rfl⟩
  · rename_i hj
    have hne : j ≠ k := by
      rintro rfl
      exact hj (by simp [State.runs, hi])
    have hc : (s.abortEvent j 1 0).ctx k = s.ctx k := ((abortEvent_quiet ..).ctx k).trans (ctx_onCtx_ne hne _)
    obtain ⟨h1, h2⟩ := abortSageRest_still scope (s.runKind j) j (s.abortEvent j 1 0) k (by rw [hc]; exact hi)
    refine ⟨h1, h2.trans ?_⟩
    unfold report
    rw [hc]

theorem scopeOff_calm (s : State) (scope : Nat) : Calm s (s.scopeOff scope) := ⟨rfl, rfl, rfl, rfl, rfl, rfl, fun _ => Nat.le_refl _, fun _ => rfl⟩

/-- The pins of an immediate-off: where its latch is held already and nothing in scope is on, it acts on none. -/
def offPins (s : State) (scope : Nat) (started : Bool) : State := if started && !s.anyOn scope then s else s.scopeOff scope

/-- The accelerator states and latches of an immediate-off. -/
def offLatches (s : State) (scope : Nat) (kind : OffKind) : State :=
  if wideScope scope then
    let s := (List.range 8).foldl (fun s n => if s.acc n = .fault then s else s.setAcc n .off) s
    match kind with
    | .fault => (s.onThyme fun t => { t with latchFault := true }).onSage fun g => { g with holdFault := true }
    | .thermal => (s.onThyme fun t => { t with latchThermal := true }).onSage fun g => { g with holdThermal := true }
    | .unlatched => s
  else if kind = .unlatched then s
  else (s.setAcc scope .fault).onSage fun g => { g with holdBranch := g.holdBranch ||| (1#8 <<< scope) }

/-- What an immediate-off with a latch cancels. -/
def offCancels (s : State) (scope : Nat) (kind : OffKind) : State :=
  if wideScope scope ∧ kind ≠ .unlatched then
    s.onThyme fun t => { t with
      tray := if t.tray = .off then .off else .standby
      ctxs := t.ctxs.map fun c => ({ c with pendOn := false } : ThymeCtx)
      deferredUp := false, emergencyDue := none, emergency := none, leakAfter := false, minOffEnd := none, userStopped := false }
  else if scope < 8 then s.onCtx (scope + 1) fun c => { c with pendOn := false }
  else s

/-- An immediate-off that has not started before is noted for its completion. -/
def offNoted (s : State) (scope rule : Nat) (started : Bool) : State :=
  if started then s else (s.onSage fun g => { g with offs := g.offs ++ [{ scope := scope, gt := s.gt }] }).traced 3 scope rule

/-- The steps of an immediate-off in order (07 R191-R194). -/
theorem immediateOff_eq (s : State) (scope rule : Nat) (kind : OffKind) :
    s.immediateOff scope rule kind =
      let started := s.sage.holdFault || s.sage.holdThermal || (decide (scope < 8) && s.sage.holdBranch.getLsbD scope)
      let v := (s.sageVictims scope (kind == .unlatched)).foldl (fun s k => s.abortSage scope k) (offPins s scope started)
      (((offNoted (offCancels (offLatches v scope kind) scope kind) scope rule started).mirrored .grants).mirrored .tray).emergencyStart := rfl

theorem offLatches_calm (s : State) (scope : Nat) (kind : OffKind) : Calm s (offLatches s scope kind) := by
  have hf : Calm s ((List.range 8).foldl (fun s n => if s.acc n = .fault then s else s.setAcc n .off) s) := .foldl (fun s n => .guardNot (setAcc_calm ..)) _ s
  unfold offLatches
  split
  · refine hf.trans ?_
    generalize List.foldl _ s _ = t
    cases kind with
    | fault =>
      refine .trans ?_ (onSage_quiet ..).calm
      exact .onThyme rfl rfl rfl
    | thermal =>
      refine .trans ?_ (onSage_quiet ..).calm
      exact .onThyme rfl rfl rfl
    | unlatched => exact .refl _
  · exact .guardNot ((setAcc_calm ..).trans (onSage_quiet ..).calm)

theorem offCancels_reports (s : State) (scope : Nat) (kind : OffKind) : Reports s (offCancels s scope kind) := by
  unfold offCancels
  split
  · exact .noPending rfl
  · exact .guard (.onCtx s (scope + 1) fun _ => rfl)

/-- An immediate-off keeps the report of an idle context. -/
theorem immediateOff_report {s : State} {k : Nat} (hi : (s.ctx k).prog = none) (scope rule : Nat) (kind : OffKind) :
    report (s.immediateOff scope rule kind) k = report s k := by
  rw [immediateOff_eq]
  dsimp only
  generalize (s.sage.holdFault || s.sage.holdThermal || (decide (scope < 8) && s.sage.holdBranch.getLsbD scope)) = started
  have hp : Calm s (offPins s scope started) := .guardNot (scopeOff_calm ..)
  have hv : Still k s ((s.sageVictims scope (kind == .unlatched)).foldl (fun s k => s.abortSage scope k) (offPins s scope started)) :=
    (hp.still k).trans (.foldl (fun s j => abortSage_still s scope j k) _ _)
  refine Eq.trans (Reports.keeps ?_ k) (hv hi).2
  generalize List.foldl _ _ _ = v
  refine .trans ?_ (emergencyStart_reports _)
  refine .trans ?_ ((mirrored_quiet ..).trans (mirrored_quiet ..)).calm.reports
  exact .trans ((offLatches_calm v scope kind).reports.trans (offCancels_reports ..)) (Calm.guardNot ((onSage_quiet ..).trans (traced_quiet ..)).calm).reports

/-! ## Aborts (06 R165) -/

/-- What an aborting context reports once its abort is recorded. -/
theorem abortEvent_report {s : State} {k : Nat} (hk : k < s.thyme.ctxs.length) (cause code : Nat) :
    report (s.abortEvent k cause code) k = (cause, if cause = 8 then code else (s.ctx k).abortCode) := by
  unfold report
  rw [(abortEvent_quiet ..).ctx, ctx_onCtx hk]

/-- A tray power-down that aborts stops every context, and no emergency is left (06 R165). -/
def downAborts (s : State) : State := (s.stopAll 15).onThyme fun t => { t with emergency := none, emergencyDue := none, leakAfter := false }

theorem downAborts_reports (s : State) : Reports s (downAborts s) := by
  have h := stopAll_reports s 15
  unfold downAborts
  generalize s.stopAll 15 = t at h ⊢
  refine h.trans ?_
  exact .onThyme rfl

theorem downAborts_idle (s : State) {k : Nat} (hk : k < 9) : ((downAborts s).ctx k).prog = none := by
  have h := stopAll_idle s 15 hk
  unfold downAborts
  generalize s.stopAll 15 = t at h ⊢
  exact h

/-- What follows the record of an abort, by the kind of the program (06 R165). -/
def abortRest (kind k : Nat) (s : State) : State :=
  match kind with
  | 1 =>
    if s.thyme.emergencyDue.isSome then s.giveWay k
    else s.takeOffAccs.toMirror k .mirrorAbort
  | 3 =>
    if s.thyme.emergencyDue.isSome then
      (s.onThyme fun t => { t with accAbortStands := t.accAbortStands ||| (1#8 <<< (k - 1)) }).giveWay k
    else s.toMirror k .mirrorAbort
  | 2 => (downAborts s).immediateOff 14 165 .fault
  | 4 => (s.stop k).immediateOff (k - 1) 165 .fault
  | _ =>
    if kind = 6 ∧ s.thyme.emergencyDue.isSome then s.giveWay k
    else if kind = 6 ∧ (s.ctx k).offTaken then (s.stop k).begin 0 s.trayDownProg (s.thyme.set.first s.trayDownProg) (s.gt + 1) .fresh
    else s.stop k

theorem abort_eq {cause : Nat} (hc : cause ≠ 1) (s : State) (k code : Nat) :
    s.abort k cause code = ((abortRest (s.runKind k) k (s.abortEvent k cause code)).mirrored .tray).mirrored .thyme := by
  unfold State.abort
  rw [if_neg hc]
  rfl

theorem abortRest_report {s : State} {k : Nat} (hk : k < 9) (kind : Nat) : report (abortRest kind k s) k = report s k := by
  unfold abortRest
  split
  · refine Reports.keeps ?_ k
    split
    · exact giveWay_reports s k
    · exact (takeOffAccs_reports s).trans (toMirror_reports ..)
  · refine Reports.keeps ?_ k
    split
    · refine .trans ?_ (giveWay_reports ..)
      exact .onThyme rfl
    · exact toMirror_reports ..
  · exact (immediateOff_report (downAborts_idle s hk) ..).trans ((downAborts_reports s).keeps k)
  · exact (immediateOff_report (stop_prog s k k (.inl rfl)) ..).trans ((stop_reports s k).keeps k)
  · refine Reports.keeps ?_ k
    split
    · exact giveWay_reports s k
    · split
      · exact (stop_reports s k).trans (begin_reports ..)
      · exact stop_reports s k

/-- A program aborted with a cause of its own reports that cause, and the code of an ABORT step (06 R165, R169). -/
theorem abort_report {s : State} {k : Nat} (hk : k < s.thyme.ctxs.length) (h9 : k < 9) {cause : Nat} (hc : cause ≠ 1) (code : Nat) :
    report (s.abort k cause code) k = (cause, if cause = 8 then code else (s.ctx k).abortCode) := by
  rw [abort_eq hc, ((mirrored_quiet ..).trans (mirrored_quiet ..)).calm.reports.keeps k, abortRest_report h9, abortEvent_report hk]

end Sys2Proof.Proofs
end

section
/-! SUPPORT. ABORT and the longest run; the ends and aborts of programs as a whole. -/

namespace Sys2Proof.Proofs

open Sys2Proof Sys2Proof.Machine

/-- ABORT stops with cause 8 and its code (06 R153, R165). -/
theorem abort_completes {s : State} {ctx : U8} (h9 : s.thyme.ctxs.length = 9) (hm : s.mayStart ctx.toNat 13 = true) :
    Completes (.abort ctx) s fun t => (t.ctx ctx.toNat).abortCause = 8 ∧ (t.ctx ctx.toNat).abortCode = stepIdx ((s.firstTick ctx.toNat).word ctx.toNat) := by
  have hk := firstTick_ctxs hm h9
  have hl : ctx.toNat < (entered s ctx.toNat 13).thyme.ctxs.length := by
    rw [(entered_quiet ..).thyme]
    exact (onCtx_ctxs_length (s.firstTick ctx.toNat) ctx.toNat _).symm ▸ hk
  have he : exec (.abort ctx) s = .next (s.startStep ctx.toNat 13 fun s => s.abort ctx.toNat 8 (stepIdx (s.word ctx.toNat))) := rfl
  have hr := abort_report hl (mayStart_lt hm) (cause := 8) (by decide) (stepIdx ((entered s ctx.toNat 13).word ctx.toNat))
  rw [entered_word hk, if_pos rfl] at hr
  refine ⟨_, by rw [he, startStep_eq hm, entered_word hk], ?_⟩
  exact Prod.mk.inj hr

/-- The longest run stops a program with cause 7, unless its END is due (06 R165, R168). -/
theorem programTimeExpiry_completes {s : State} {ctx : U8} (h9 : s.thyme.ctxs.length = 9) {p : Nat} (hp : (s.ctx ctx.toNat).prog = some p) (hk : ctx.toNat < 9)
    (hs : s.serves = true) (hn : (s.ctx ctx.toNat).starting = none) (ht : (s.ctx ctx.toNat).progTick + ms (s.thyme.set.maxMs p) ≤ s.gt) :
    Completes (.programTimeExpiry ctx) s fun t => if s.endDue ctx.toNat = true then t = s else (t.ctx ctx.toNat).abortCause = 7 := by
  have he : exec (.programTimeExpiry ctx) s = .next (if s.endDue ctx.toNat = true then s else s.abort ctx.toNat 7 0) := by
    show execProgramTimeExpiry ctx s = _
    unfold execProgramTimeExpiry
    simp only [hp, hk, hs, hn, ht, true_and]
    cases s.endDue ctx.toNat <;> rfl
  refine ⟨_, he, ?_⟩
  split
  · rfl
  · exact congrArg Prod.fst (abort_report (by omega) hk (cause := 7) (by decide) 0)

/-- Settles O23, from what each command does when it may act. -/
theorem thymeProgramsEnd : Obligations.thyme_programs_end := fun _ _ h9 h8 h16 =>
  ⟨endStep_completes h9 h8 h16, abort_completes h9, fun _ hp hk hs hn ht => programTimeExpiry_completes h9 hp hk hs hn ht,
    fun _ hg hle hs => minOffTimeEnd_completes h9 hg hle hs,
    fun _ _ h hl hg hle hs => accMinOffTimeEnd_completes h9 h hl hg hle hs⟩

end Sys2Proof.Proofs
end

section
/-! SUPPORT. Changes that stay within named parts of the state, and what the shared operations change. -/

namespace Sys2Proof.Proofs

open Sys2Proof Sys2Proof.Machine

/-! ## Changes within parts of the state -/

/-- Nothing but the named parts differs between two states. -/
def Within (ps : List Part) (s t : State) : Prop := t.without ps = s.without ps

/-- The parts of one list are among those of another. -/
def among (ps qs : List Part) : Bool := ps.all qs.contains

theorem among_contains {ps qs : List Part} (h : among ps qs = true) (p : Part) (hp : ps.contains p = true) : qs.contains p = true :=
  List.all_eq_true.mp h p (List.contains_iff_mem.mp hp)

theorem ite_default_congr {α : Type} [Inhabited α] {a b : α} {p q : Bool} (hq : p = true → q = true) (h : (if p then default else a) = if p then default else b) :
    (if q then default else a) = if q then default else b := by
  cases q
  · cases p
    · exact h
    · exact absurd (hq rfl) Bool.false_ne_true
  · rfl

namespace Within

variable {ps qs : List Part} {s t u : State}

theorem refl (s : State) : Within ps s s := rfl

theorem trans (h : Within ps s t) (h' : Within ps t u) : Within ps s u := Eq.trans h' h

theorem mono (h : Within ps s t) (hp : among ps qs = true) : Within qs s t := by
  have hc := among_contains hp
  simp only [Within, State.without, State.mk.injEq] at h ⊢
  obtain ⟨h1, h2, h3, h4, h5, h6, h7, h8, h9, h10, h11, h12, h13, h14, h15, h16, h17, h18, h19, h20, h21, h22, h23, h24, h25, h26, h27⟩ := h
  exact ⟨ite_default_congr (hc _) h1, ite_default_congr (hc _) h2, ite_default_congr (hc _) h3, ite_default_congr (hc _) h4, ite_default_congr (hc _) h5,
    ite_default_congr (hc _) h6, ite_default_congr (hc _) h7, ite_default_congr (hc _) h8, ite_default_congr (hc _) h9, ite_default_congr (hc _) h10,
    ite_default_congr (hc _) h11, ite_default_congr (hc _) h12, ite_default_congr (hc _) h13, ite_default_congr (hc _) h14, ite_default_congr (hc _) h15,
    ite_default_congr (hc _) h16, ite_default_congr (hc _) h17, ite_default_congr (hc _) h18, ite_default_congr (hc _) h19, ite_default_congr (hc _) h20,
    ite_default_congr (hc _) h21, ite_default_congr (hc _) h22, ite_default_congr (hc _) h23, ite_default_congr (hc _) h24, ite_default_congr (hc _) h25,
    ite_default_congr (hc _) h26, h27⟩

theorem guard {p : Prop} [Decidable p] (h : Within ps s t) : Within ps s (if p then t else s) := by
  split
  · exact h
  · exact refl s

theorem foldl {α : Type} {f : State → α → State} (h : ∀ s a, Within ps s (f s a)) (l : List α) (s : State) : Within ps s (l.foldl f s) := foldl_within refl trans h l s

/-- What does not look at the named parts reads the same. -/
theorem reads {α : Type} (h : Within ps s t) (f : State → α) (hf : ∀ u : State, f (u.without ps) = f u) : f t = f s := by
  rw [← hf t, ← hf s, h]

end Within

/-! ## What the shared operations change -/

section

variable {ps : List Part} (s : State)

theorem event_within (port : EvPort) (code sev src : Nat) (payload : List Byte) (hp : among [.rec_, .upd] ps = true := by rfl) : Within ps s (s.event port code sev src payload) := by
  obtain ⟨q, u, h⟩ := s.event_only port code sev src payload
  rw [h]
  exact Within.mono (ps := [.rec_, .upd]) rfl hp

theorem traced_within (point source arg : Nat) (hp : among [.rec_, .trace] ps = true := by rfl) : Within ps s (s.traced point source arg) := by
  obtain ⟨q, t, h⟩ := s.traced_only point source arg
  rw [h]
  exact Within.mono (ps := [.rec_, .trace]) rfl hp

theorem mirrored_within (kind : MirKind) (hp : among [.pair] ps = true := by rfl) : Within ps s (s.mirrored kind) := by
  obtain ⟨p, h⟩ := s.mirrored_only kind
  rw [h]
  exact Within.mono (ps := [.pair]) rfl hp

/-- Writing the settings changes nothing but the settings area (16 R433). -/
theorem saveSettings_eq : s.saveSettings = { s with sec := { s.sec with settings := s.saveSettings.sec.settings } } := by
  unfold State.saveSettings State.saveSettingsAs
  split
  · dsimp only
    split <;> rfl
  · rfl

theorem saveSettings_within (hp : among [.sec] ps = true := by rfl) : Within ps s s.saveSettings := by
  rw [saveSettings_eq]
  exact Within.mono (ps := [.sec]) rfl hp

/-- Counting a boot changes the count, and with it the settings area (02 R64, 16 R433). -/
theorem countBoot_eq :
    s.countBoot = { s with sec := { s.sec with bootCount := (s.sec.bootCount + 1) % 65536, settings := s.countBoot.sec.settings } } := saveSettings_eq _

end

end Sys2Proof.Proofs
end

section
/-! SUPPORT. Power-on reset, brown-out, the straps and the way to the ROM. -/

namespace Sys2Proof.Proofs

open Sys2Proof Sys2Proof.Machine

/-! ## Straps (03 R79) -/

theorem packBits_testBit (l : List Bool) (k : Nat) : (packBits l).testBit k = l.getD k false := by
  induction l generalizing k with
  | nil => simp [packBits]
  | cons b l ih =>
    have hf : flag b < 2 := by cases b <;> decide
    have hb : (flag b + 2 * packBits l) % 2 = flag b := by omega
    have hd : (flag b + 2 * packBits l) / 2 = packBits l := by omega
    cases k with
    | zero =>
      rw [packBits, Nat.testBit_zero, hb]
      cases b <;> rfl
    | succ k => rw [packBits, Nat.testBit_succ, hd, ih, List.getD_cons_succ]

theorem bitsOf_getLsbD {w k : Nat} (h : k < w) (f : Nat → Bool) : (bitsOf w ((List.range w).map f)).getLsbD k = f k := by
  rw [bitsOf, BitVec.getLsbD_ofNat, packBits_testBit]
  simp [h]

theorem countIf_eq_countP {α : Type} (p : α → Bool) (l : List α) : countIf p l = l.countP p := List.countP_eq_length_filter.symm

/-- More than half of 15 samples are at least 8 of them. -/
theorem majority_of_fifteen {samples : List (BitVec 11)} (h : samples.length = 15) (k : Nat) :
    decide (samples.length < 2 * countIf (fun x : BitVec 11 => x.getLsbD k) samples) = decide (8 ≤ samples.countP fun x => x.getLsbD k) := by
  rw [countIf_eq_countP, h]
  exact decide_eq_decide.mpr (by omega)

/-- The straps that the release of the power-on reset latches (03 R79). -/
theorem strapMajority_bits {samples : List (BitVec 11)} (h : samples.length = 15) :
    let high := fun k => decide (8 ≤ samples.countP fun x => x.getLsbD k)
    (strapMajority samples).coolMode = high 3 ∧ (strapMajority samples).pairSel = high 4 ∧ (∀ k, k < 3 → (strapMajority samples).bootMode.getLsbD k = high k) ∧
      ∀ k, k < 6 → (strapMajority samples).slotId.getLsbD k = high (5 + k) :=
  ⟨majority_of_fifteen h 3, majority_of_fifteen h 4, fun k hk => (bitsOf_getLsbD hk _).trans (majority_of_fifteen h k),
    fun k hk => (bitsOf_getLsbD hk _).trans (majority_of_fifteen h (5 + k))⟩

/-! ## Power-on reset and brown-out (03 R73, 19 R491, R493) -/

/-- Nothing named lies above its absolute maximum rating. -/
theorem withinRatings {a b : Nat} (ha : a ≤ 900) (hb : b ≤ 2100) : beyondRating a b = false := decide_eq_false (by omega)

theorem powerOnReset_beyond {a b : U16} (h : 900 < a.toNat ∨ 2100 < b.toNat) (s : State) : exec (.powerOnReset a b) s = .fault .beyondRatings :=
  if_pos (decide_eq_true h)

theorem brownOut_beyond {a b : U16} (h : 900 < a.toNat ∨ 2100 < b.toNat) (us : U32) (s : State) : exec (.brownOut a b us) s = .fault .beyondRatings :=
  if_pos (decide_eq_true h)

section Ratings

variable {s : State} {a b : U16} (ha : a.toNat ≤ 900) (hb : b.toNat ≤ 2100)

include ha hb

/-- A rise across the threshold resets the whole chip. -/
theorem powerOnReset_rises (hg : s.sup.aonGood = false) (hu : 660 < a.toNat ∧ 1550 < b.toNat) :
    exec (.powerOnReset a b) s = .next (s.powerOnReset { vddAon := a.toNat, vddioAon := b.toNat, aonGood := true }) := by
  show execPowerOnReset a b s = _
  simp [execPowerOnReset, withinRatings ha hb, hg, aonUp, hu]

/-- A rise that does not cross the threshold only moves the supplies. -/
theorem powerOnReset_moves (h : s.sup.aonGood = true ∨ a.toNat ≤ 660 ∨ b.toNat ≤ 1550) :
    exec (.powerOnReset a b) s = .next { s with sup := { s.sup with vddAon := a.toNat, vddioAon := b.toNat } } := by
  have hn : ¬((!s.sup.aonGood) = true ∧ aonUp a.toNat b.toNat = true) := by
    rintro ⟨hg, hu⟩
    obtain ⟨ha, hb⟩ := of_decide_eq_true hu
    rcases h with h | h | h
    · rw [h] at hg
      exact Bool.false_ne_true hg
    all_goals omega
  show execPowerOnReset a b s = _
  simp only [execPowerOnReset, withinRatings ha hb, if_neg hn, Bool.false_eq_true, if_false]

/-- A dip below the brown-out level resets the whole chip. -/
theorem brownOut_resets {us : U32} (hu : us.toNat ≠ 0) (h : a.toNat < 640 ∨ b.toNat < 1500) :
    exec (.brownOut a b us) s = .next (s.powerOnReset { vddAon := a.toNat, vddioAon := b.toNat, aonGood := false }) := by
  show execBrownOut a b us s = _
  simp only [execBrownOut, withinRatings ha hb, Bool.false_eq_true, if_false]
  rw [if_pos ⟨decide_eq_true h, Nat.one_le_iff_ne_zero.mpr hu⟩]

/-- A shorter or shallower dip does nothing. -/
theorem brownOut_nothing {us : U32} (h : us.toNat = 0 ∨ (640 ≤ a.toNat ∧ 1500 ≤ b.toNat)) : exec (.brownOut a b us) s = .next s := by
  have hn : ¬(aonDown a.toNat b.toNat = true ∧ 1 ≤ us.toNat) := fun ⟨hd, hu⟩ => by
    have hd := of_decide_eq_true hd
    omega
  show execBrownOut a b us s = _
  simp only [execBrownOut, withinRatings ha hb, if_neg hn, Bool.false_eq_true, if_false]

end Ratings

/-! ## From the release to the ROM (03 R72, R76, R79, 18 R474) -/

theorem powerOnResetRelease_completes {s : State} (hp : s.clk.phase = .porHeld) (hg : s.sup.aonGood = true) (samples : List (BitVec 11)) :
    Completes (.powerOnResetRelease samples) s fun t => t.straps = strapMajority samples ∧ t.sec.bootCount = (s.sec.bootCount + 1) % 65536 ∧
      t = { s with straps := t.straps, clk := { s.clk with phase := .waitClock, strapsNew := true }, sec := t.sec } := by
  let u : State := { s with straps := strapMajority samples, clk := { s.clk with phase := .waitClock, strapsNew := true } }
  refine ⟨u.countBoot, congrArg _ (if_pos ⟨hp, hg⟩), ?_⟩
  rw [countBoot_eq]
  exact ⟨rfl, rfl, rfl⟩

theorem exec_clockFirstMove {s : State} (hp : s.clk.phase = .waitClock) (hs : s.clk.source = .oscInt) (hl : s.sage.everLocked = false) (ht : s.clk.tempLost = false) :
    exec .clockFirstMove s = .next { s with clk := { s.clk with
      source := .pll, health := .good, goodWindows := 16, pllLocked := true, coreInReset := s.clk.resetNLow, phase := if s.clk.resetNLow then .resetHeld else .rom } } := by
  have he : exec .clockFirstMove s = .next (s.onClk fun c => { c with source := .pll, health := .good, goodWindows := 16, pllLocked := true }.released) :=
    congrArg _ (if_pos ⟨hp, hs, by simp [hl], by simp [ht]⟩)
  rw [he]
  simp only [State.onClk, ClockState.released]
  cases s.clk.resetNLow <;> simp

theorem exec_resetNRelease {s : State} (hn : s.clk.resetNLow = true) (hl : s.clk.resetLows = 0) :
    exec .resetNRelease s = .next (if s.clk.phase = .resetHeld then { s with clk := { s.clk with resetNLow := false, coreInReset := false, phase := .rom } }
      else { s with clk := { s.clk with resetNLow := false } }) := congrArg _ (if_pos ⟨hn, hl⟩)

/-- A net that reads low before the first lock, with the partner ALIVE, stays pulled. -/
theorem exec_shadowResetPull {s : State} (hl : s.sage.everLocked = false) (ha : s.aliveInRecent = true) (levels : BitVec 103) :
    exec (.shadowResetPull levels) s = .next { s with pins := { s.pins with shadowLatch := s.pins.shadowLatch ||| (shadowNets &&& ~~~levels) } } :=
  congrArg _ (if_pos ⟨by simp [hl], ha⟩)

theorem pulled_bit (latch nets levels : BitVec 103) (k : Nat) :
    (latch ||| (nets &&& ~~~levels)).getLsbD k = (latch.getLsbD k || (nets.getLsbD k && !levels.getLsbD k)) := by
  by_cases h : k < 103
  · simp [h]
  · simp [h, BitVec.getLsbD_of_ge nets k (by omega)]

/-- Settles O10, from what each command of the power-on reset does. -/
theorem powerOnToRom : Obligations.power_on_to_rom := by
  refine ⟨fun s a b ha hb => ⟨fun hg h1 h2 => ⟨_, powerOnReset_rises ha hb hg ⟨h1, h2⟩, ?_⟩, fun h => ⟨_, powerOnReset_moves ha hb h, rfl⟩,
      fun us hu h => ⟨_, brownOut_resets ha hb hu h, ?_⟩, fun us h => ⟨_, brownOut_nothing ha hb h, rfl⟩⟩,
    fun s a b us h => ⟨powerOnReset_beyond h s, brownOut_beyond h us s⟩, fun s => ⟨fun samples h15 hp hg => ?_,
      fun hp hs hl ht => ⟨_, exec_clockFirstMove hp hs hl ht, rfl⟩, fun hn hl => ⟨_, exec_resetNRelease hn hl, rfl⟩,
      fun levels hl ha => ⟨_, exec_shadowResetPull hl ha levels, pulled_bit _ _ _, rfl⟩⟩⟩
  · exact ⟨⟨rfl, rfl, rfl, rfl, rfl, rfl, rfl, rfl, rfl, rfl, rfl, rfl, rfl, rfl⟩, rfl⟩
  · exact ⟨⟨rfl, rfl, rfl, rfl, rfl, rfl, rfl, rfl, rfl, rfl, rfl, rfl, rfl, rfl⟩, rfl⟩
  · obtain ⟨t, he, hs, hb, ht⟩ := powerOnResetRelease_completes hp hg samples
    obtain ⟨h3, h4, hm, hi⟩ := strapMajority_bits h15
    exact ⟨t, he, by rw [hs]; exact h3, by rw [hs]; exact h4, by rw [hs]; exact hm, by rw [hs]; exact hi, hb, ht⟩

end Sys2Proof.Proofs
end

section
/-! SUPPORT. Warm resets, and the restarts of components and processors. -/

namespace Sys2Proof.Proofs

open Sys2Proof Sys2Proof.Machine

/-! ## What a warm reset ends before it clears the core domain (03 R77) -/

section

variable {ps : List Part} (s : State)

theorem streamOver_within (hp : among [.rec_, .upd] ps = true := by rfl) : Within ps s s.streamOver := by
  refine Within.mono (ps := [.rec_, .upd]) ?_ hp
  unfold State.streamOver
  split
  · exact .refl s
  · exact .trans (t := { s with rec_ := { s.rec_ with stream := none } }) rfl (event_within ..)

theorem onSkv_within (n : Nat) (f : SkvPort → SkvPort) (hp : among [.link, .pair] ps = true := by rfl) : Within ps s (s.onSkv n f) := by
  refine Within.mono (ps := [.link, .pair]) ?_ hp
  unfold State.onSkv
  split <;> rfl

theorem refreshPaths_within : Within [.link, .pair, .rec_, .trace] s s.refreshPaths :=
  .foldl (fun s n => (onSkv_within s n _).trans (traced_within ..)) _ s

theorem toMirrorState_within {m : MirrorPhase} (hm : m ≠ .mirroring) : Within [.pair, .rec_, .trace] s (s.toMirrorState m) := by
  unfold State.toMirrorState
  rw [if_neg hm]
  split
  · exact .refl s
  · exact .trans (t := s.onPair fun p => { p with mstate := m }) rfl (traced_within ..)

theorem releaseOwn_within : Within [.pair, .rec_, .trace] s s.releaseOwn :=
  .guard (.trans (t := s.onPair fun p => { p with pull := false }) rfl (traced_within ..))

end

/-- The governor's drive of the pair's pins and messages as ownership ends. -/
def drivesDropped (s : State) : State :=
  { s with
    pair := { s.pair with qualifier := false, handover := .none, outstanding := [], bulkLeft := 0 }
    pins := { s.pins with aliveOut := false }
    sync := { s.sync with held := [] }
    link := { s.link with heldAcks := [], trayAddr := false } }

theorem drivesDropped_within (s : State) : Within [.link, .pair, .pins, .rec_, .sync, .trace] s (drivesDropped s) := rfl

theorem dropOwnership_eq (s : State) :
    let u := (drivesDropped s.releaseOwn).toMirrorState .detached
    s.dropOwnership = if u.pair.role = .undecided then u else ((u.onPair fun p => { p with role := .undecided }).traced 240 u.position 2).refreshPaths := rfl

theorem dropOwnership_after_drives (s : State) : Within [.link, .pair, .rec_, .trace] (drivesDropped s.releaseOwn) s.dropOwnership := by
  rw [dropOwnership_eq]
  refine ((toMirrorState_within (m := .detached) _ nofun).mono rfl).trans ?_
  split
  · exact .refl _
  · exact (Within.trans (t := State.onPair _ _) rfl (traced_within ..)).trans (refreshPaths_within _)


/-- Ownership ends within the pair, its pins and links, and the traces of it; ALIVE_OUT is left low. -/
theorem dropOwnership_within (s : State) : Within [.link, .pair, .pins, .rec_, .sync, .trace] s s.dropOwnership :=
  (((releaseOwn_within s).mono rfl).trans (drivesDropped_within _)).trans ((dropOwnership_after_drives s).mono rfl)

theorem dropOwnership_aliveOut (s : State) : s.dropOwnership.pins.aliveOut = false :=
  (dropOwnership_after_drives s).reads (fun u => u.pins.aliveOut) fun _ => rfl

/-- The state just before a warm reset clears the core domain. -/
def warmEnds (s : State) (source : WarmSource) : State := ((s.event .fp0 0x0C20 1 0 (i1 source.code)).streamOver.lockDebug).dropOwnership

theorem lockDebug_within (s : State) : Within [.rec_, .sec, .upd] s s.lockDebug := by
  unfold State.lockDebug
  split
  · exact .refl s
  · exact .trans (t := s.onSec _) rfl (event_within ..)

theorem lockDebug_sec (s : State) : ∃ k, s.lockDebug.sec = { s.sec with unlock := k } := by
  unfold State.lockDebug
  split
  · exact ⟨_, rfl⟩
  · exact ⟨_, State.event_sec ..⟩

theorem warmEnds_within (s : State) (source : WarmSource) : Within [.link, .pair, .pins, .rec_, .sec, .sync, .trace, .upd] s (warmEnds s source) :=
  (((event_within ..).trans (streamOver_within _)).trans ((lockDebug_within _).mono rfl)).trans ((dropOwnership_within _).mono rfl)

theorem warmEnds_sec (s : State) (source : WarmSource) : ∃ k, (warmEnds s source).sec = { s.sec with unlock := k } := by
  obtain ⟨k, hk⟩ := lockDebug_sec (s.event .fp0 0x0C20 1 0 (i1 source.code)).streamOver
  refine ⟨k, ((dropOwnership_within _).reads State.sec fun _ => rfl).trans (hk.trans ?_)⟩
  rw [(streamOver_within (ps := [.rec_, .upd]) _).reads State.sec fun _ => rfl, State.event_sec]

/-! ## Warm reset (03 R73, R75-R77, 01 R18-R22) -/

/-- What a warm reset leaves, with RESET_N taken as low or not. -/
def Warmed (s : State) (low : Bool) (t : State) : Prop :=
  t.sage.rails = s.sage.rails ∧ t.sage.branches = s.sage.branches ∧ t.sage.accReset = s.sage.accReset ∧ t.thyme.tray = s.thyme.tray ∧ t.thyme.accs = s.thyme.accs ∧
  t.feed = s.feed ∧ t.cool.fans = s.cool.fans ∧ t.cool.pumps = s.cool.pumps ∧ t.cool.valves = s.cool.valves ∧
  t.sems = s.sems ∧ t.ports = [{}, {}] ∧ t.pins.aliveOut = false ∧ t.pair.pull = false ∧ t.pair.role = .undecided ∧ t.pair.mstate = .detached ∧
  t.sec.bootCount = (s.sec.bootCount + 1) % 65536 ∧ t.sage.locked = false ∧ t.clk.warmInProgress = true ∧
  if s.clk.source = .pll then t.clk.phase = (if low then .resetHeld else .rom) ∧ t.clk.coreInReset = low else t.clk.phase = .waitClock ∧ t.clk.coreInReset = true

/-- Where the core domain goes at a warm reset (03 R69, R72, R76). -/
theorem restarted_eq (c : ClockState) :
    c.restarted.warmInProgress = c.warmInProgress ∧
      if c.source = .pll then c.restarted.phase = (if c.resetNLow then .resetHeld else .rom) ∧ c.restarted.coreInReset = c.resetNLow
      else c.restarted.phase = .waitClock ∧ c.restarted.coreInReset = true := by
  unfold ClockState.restarted ClockState.released
  by_cases hs : c.source = .pll
  · cases hn : c.resetNLow <;> simp [hs]
  · simp [hs]

/-- The clock part as a warm reset starts the boot over (03 R76, 04 R104). -/
def warmClock (s : State) (source : WarmSource) : ClockState :=
  ClockState.restarted { s.clk with
    warmInProgress := true, strapsNew := false, porBoot := s.clk.porBoot && !s.sage.everLocked, recoveryAt := none
    recoveryNext := source == .bootRecovery, resetNLow := s.clk.resetNLow || source == .resetN }

/-- What a warm reset makes of the state in which all has ended: the core domain is cleared, the boot counted and started over. -/
def startedOver (e : State) (copied : Bool) (source : WarmSource) : State :=
  let t := e.coreReset.countBoot
  { t with pair := { t.pair with fromPartner := copied }, clk := warmClock t source }

theorem warmReset_eq (s : State) (source : WarmSource) : s.warmReset source = startedOver (warmEnds s source) (s.pair.mstate == .mirroring) source := by
  simp only [State.warmReset, State.onClk, State.onPair, startedOver, warmEnds, warmClock]

theorem startedOver_eq (e : State) (copied : Bool) (source : WarmSource) : ∃ l, startedOver e copied source =
    { e.coreReset with
      sec := { e.sec.afterReset with bootCount := (e.sec.bootCount + 1) % 65536, settings := l }
      pair := { e.pair.afterWarm with fromPartner := copied }
      clk := warmClock e source } := by
  unfold startedOver
  rw [countBoot_eq]
  exact ⟨_, rfl⟩

/-- What the AON domain or flash keeps, each from its part before the core domain is cleared. -/
theorem warmReset_warmed (s : State) (source : WarmSource) : Warmed s (s.clk.resetNLow || source == .resetN) (s.warmReset source) := by
  have hw := warmEnds_within s source
  have hpins : (warmEnds s source).pins.aliveOut = false := dropOwnership_aliveOut _
  obtain ⟨k, hk⟩ := warmEnds_sec s source
  rw [warmReset_eq]
  generalize warmEnds s source = e at hw hpins hk
  obtain ⟨l, hl⟩ := startedOver_eq e (s.pair.mstate == .mirroring) source
  have hsage : e.sage = s.sage := hw.reads State.sage fun _ => rfl
  have hthyme : e.thyme = s.thyme := hw.reads State.thyme fun _ => rfl
  have hfeed : e.feed = s.feed := hw.reads State.feed fun _ => rfl
  have hcool : e.cool = s.cool := hw.reads State.cool fun _ => rfl
  have hsems : e.sems = s.sems := hw.reads State.sems fun _ => rfl
  have hclk : e.clk = s.clk := hw.reads State.clk fun _ => rfl
  obtain ⟨hwarm, hphase⟩ := restarted_eq { s.clk with
    warmInProgress := true, strapsNew := false, porBoot := s.clk.porBoot && !s.sage.everLocked, recoveryAt := none
    recoveryNext := source == .bootRecovery, resetNLow := s.clk.resetNLow || source == .resetN }
  rw [hl]
  refine ⟨by rw [← hsage]; rfl, by rw [← hsage]; rfl, by rw [← hsage]; rfl, by rw [← hthyme]; rfl, by rw [← hthyme]; rfl, hfeed,
    by rw [← hcool]; rfl, by rw [← hcool]; rfl, by rw [← hcool]; rfl, hsems, rfl, hpins, rfl, rfl, rfl, by rw [hk], rfl, ?_⟩
  simp only [warmClock, hclk, hsage]
  exact ⟨hwarm, hphase⟩

/-- What is on UART RECOV stays on it across a warm reset. -/
theorem warmReset_recovSent (s : State) (source : WarmSource) : (s.warmReset source).sec.recov.sent = s.sec.recov.sent := by
  obtain ⟨k, hk⟩ := warmEnds_sec s source
  obtain ⟨l, hl⟩ := startedOver_eq (warmEnds s source) (s.pair.mstate == .mirroring) source
  rw [warmReset_eq, hl]
  show (warmEnds s source).sec.recov.sent = _
  rw [hk]

/-! ## The sources (03 R73, R76, 04 R102, R104, 16 R436) -/

theorem exec_warmReset_resetN {s : State} (hl : 2 ≤ s.clk.resetLows) (hn : s.clk.resetNLow = false) :
    exec (.warmReset .resetN) s = .next (if s.clk.phase = .porHeld then { s with clk := { s.clk with resetNLow := true } } else s.warmReset .resetN) := by
  have h : ¬(s.clk.resetLows < 2 ∨ s.clk.resetNLow = true) := by
    rw [hn]
    exact fun h => h.elim (Nat.not_lt.mpr hl) Bool.false_ne_true
  exact congrArg Host.Outcome.next (if_neg h)

theorem exec_warmReset_resetN_ignored {s : State} (h : s.clk.resetLows < 2 ∨ s.clk.resetNLow = true) : exec (.warmReset .resetN) s = .next s :=
  congrArg Host.Outcome.next (if_pos h)

theorem exec_warmReset_bootRecovery {s : State} {g : Nat} (hg : s.clk.recoveryAt = some g) (hle : g ≤ s.gt) (hc : s.coreClocked = true) :
    exec (.warmReset .bootRecovery) s = .next (s.warmReset .bootRecovery) := by
  show execWarmReset .bootRecovery s = _
  simp only [execWarmReset, hg]
  rw [if_pos ⟨hle, hc⟩]

theorem exec_warmReset_activation {s : State} (hd : s.upd.resetDue = true) (hc : s.coreClocked = true) :
    exec (.warmReset .activation) s = .next (s.warmReset .activation) := congrArg Host.Outcome.next (if_pos ⟨hd, hc⟩)

/-- A new `BOOT` frame is acknowledged before its warm reset. -/
theorem exec_recovBoot_new {s : State} {f : RecovHdr} (hp : s.clk.phase = .recovery) (hf : f.frameOk = true) (hr : f.rsvd = 0) (hl : f.len = 0)
    (hs : s.sec.recov.lastSeq ≠ some f.seq.toNat) : exec (.recovBoot f) s = .next ((repliedTo f (ack [] s)).warmReset .recoveryLoader) := by
  have ha : s.recovFrame f 0 (fun s => ack [] s) = repliedTo f (ack [] s) := by rw [recovFrame_new hp hf hs, if_pos ⟨hr, by rw [hl]; rfl⟩]
  have hn : (!decide (s.sec.recov.lastSeq = some f.seq.toNat)) = true := by simpa using hs
  rw [← ha]
  exact congrArg Host.Outcome.next (if_pos ⟨hp, hf, hr, hl, hn⟩)

/-- Every source but RESET_N leaves RESET_N as it was taken. -/
theorem warmReset_warmed_of_ne (s : State) {source : WarmSource} (h : source ≠ .resetN) : Warmed s s.clk.resetNLow (s.warmReset source) := by
  have hw := warmReset_warmed s source
  rwa [beq_eq_false_iff_ne.mpr h, Bool.or_false] at hw

/-- Settles O11: every source leaves the state of `Warmed`. -/
theorem warmResetKeepsAon : Obligations.warm_reset_keeps_aon := by
  intro s
  refine ⟨fun hl hn hp => ⟨_, exec_warmReset_resetN hl hn, ?_⟩, fun hl hn hp => ⟨_, exec_warmReset_resetN hl hn, if_pos hp⟩,
    fun h => ⟨_, exec_warmReset_resetN_ignored h, rfl⟩, fun g hg hle hc => ⟨_, exec_warmReset_bootRecovery hg hle hc, warmReset_warmed_of_ne s nofun⟩,
    fun hd hc => ⟨_, exec_warmReset_activation hd hc, warmReset_warmed_of_ne s nofun⟩, fun p x hx => ⟨s, ?_, rfl⟩,
    fun f hp hf hr hl hs => ⟨_, exec_recovBoot_new hp hf hr hl hs, warmReset_warmed_of_ne (repliedTo f (ack [] s)) nofun, warmReset_recovSent ..⟩⟩
  · rw [if_neg hp]
    have h := warmReset_warmed s .resetN
    rwa [beq_self_eq_true, Bool.or_true] at h
  · simp only [List.mem_cons, List.not_mem_nil, or_false] at hx
    rcases hx with rfl | rfl | rfl <;> rfl

/-! ## Components and processors (01 R23-R26, 17 R461) -/

theorem onComp_same {s : State} {k : Nat} (h : k < s.comps.length) (f : Component → Component) : nth (s.onComp k f).comps k = f (nth s.comps k) := by
  show nth (modAt _ k f) k = _
  rw [nth_modAt, if_pos ⟨rfl, h⟩]

theorem onProc_same {s : State} {p : Nat} (h : p < s.procs.length) (f : Processor → Processor) : nth (s.onProc p f).procs p = f (nth s.procs p) := by
  show nth (modAt _ p f) p = _
  rw [nth_modAt, if_pos ⟨rfl, h⟩]

/-- A component has failed at most 10 s ago (01 R24). -/
def failedLately (s : State) (k : Nat) : Bool := (nth s.comps k).lastFault.any fun g => decide (s.gt ≤ g + secs 10)

/-- What becomes of a fault of a component, by what its last fault was (01 R24). -/
def FaultTaken (s : State) (k : Nat) (t : State) : Prop :=
  (s.restarting k = true → t = s) ∧
  (s.restarting k = false → failedLately s k = false →
    (nth t.comps k).restartUntil = some (s.gt + ms 20) ∧ (nth t.comps k).lastFault = some s.gt ∧ t = { s with comps := t.comps }) ∧
  (s.restarting k = false → failedLately s k = true → (nth t.procs (procOf k)).trigger = 2 ∧ t = { s with procs := t.procs })

theorem procOf_lt (k : Nat) : procOf k < 4 := by
  unfold procOf
  split_ifs <;> decide

theorem componentFault_eq {s : State} (hr : s.firmwareRuns = true) (k cause region : Nat) :
    s.componentFault k cause region =
      if s.restarting k = true then s
      else if failedLately s k = true then s.onProc (procOf k) fun p => { p with trigger := 2 }
      else s.onComp k fun c => { c with restartUntil := some (s.gt + ms 20), lastFault := some s.gt, cause := cause, region := region } := by
  simp only [State.componentFault, hr, Bool.not_true, Bool.false_eq_true, false_or]
  rfl

theorem componentFault_taken {s : State} {k : Nat} (hc : k < s.comps.length) (hp : s.procs.length = 4) (hr : s.firmwareRuns = true) (cause region : Nat) :
    FaultTaken s k (s.componentFault k cause region) := by
  rw [componentFault_eq hr]
  refine ⟨fun h => if_pos h, fun h hl => ?_, fun h hl => ?_⟩
  · rw [h, hl, if_neg Bool.false_ne_true, if_neg Bool.false_ne_true, onComp_same hc]
    exact ⟨rfl, rfl, rfl⟩
  · rw [h, hl, if_neg Bool.false_ne_true, if_pos rfl, onProc_same (hp ▸ procOf_lt k)]
    exact ⟨rfl, rfl⟩

/-- A fault outside a compartment triggers the watchdog of its processor (01 R24). -/
theorem exec_componentFault_outside {s : State} {n : U8} (hn : 14 ≤ n.toNat) (hr : s.firmwareRuns = true) (cause region : U8) :
    exec (.componentFault n cause region) s = .next (s.onProc (n.toNat % 4) fun p => { p with trigger := 3 }) := by
  show execComponentFault n cause region s = _
  rw [execComponentFault, if_neg (Nat.not_lt.mpr hn), if_pos hr]

/-- The restart of a processor: its components serve again with it (01 R25). -/
def procRestarting (s : State) (p : Nat) (recent : List Nat) : State :=
  { s with
    procs := modAt s.procs p fun x => { x with restartUntil := some (s.gt + ms 150), trigger := 0, cause := if x.trigger = 0 then 1 else x.trigger, restarts := recent }
    comps := s.comps.mapIdx fun k c => if procOf k = p then { c with restartUntil := none } else c }

theorem procRestarting_proc {s : State} {p : Nat} (h : p < s.procs.length) (recent : List Nat) :
    nth (procRestarting s p recent).procs p =
      { nth s.procs p with restartUntil := some (s.gt + ms 150), trigger := 0, cause := if (nth s.procs p).trigger = 0 then 1 else (nth s.procs p).trigger, restarts := recent } :=
  onProc_same h _

/-- The third restart within 600 s is a warm reset (01 R25, 03 R73). -/
theorem exec_processorWatchdogExpiry {s : State} {p : U8} (hp : p.toNat < 4) (hr : s.firmwareRuns = true) (hq : (nth s.procs p.toNat).restartUntil = none) :
    exec (.processorWatchdogExpiry p) s = .next (
      if (nth s.procs p.toNat).restarts.countP (fun g => decide (s.gt < g + secs 600)) < 2 then
        procRestarting s p.toNat (s.gt :: (nth s.procs p.toNat).restarts.filter fun g => decide (s.gt < g + secs 600))
      else s.warmReset (.watchdog p)) := by
  show execProcessorWatchdogExpiry p s = _
  simp only [execProcessorWatchdogExpiry, hp, hr, hq, and_self, if_true, List.length_cons, ← List.countP_eq_length_filter]
  split
  · rw [if_neg (by omega)]
  · rw [if_pos (by omega)]
    rfl

theorem processorWatchdogExpiry_completes {s : State} {p : U8} (hl : s.procs.length = 4) (hp : p.toNat < 4) (hr : s.firmwareRuns = true)
    (hq : (nth s.procs p.toNat).restartUntil = none) :
    Completes (.processorWatchdogExpiry p) s fun t =>
      if (nth s.procs p.toNat).restarts.countP (fun g => decide (s.gt < g + secs 600)) < 2 then
        (nth t.procs p.toNat).restartUntil = some (s.gt + ms 150) ∧ (nth t.procs p.toNat).trigger = 0 ∧ s.gt ∈ (nth t.procs p.toNat).restarts ∧
          t = { s with procs := t.procs, comps := t.comps }
      else t.ports = [{}, {}] ∧ t.clk.warmInProgress = true ∧ t.sage.rails = s.sage.rails := by
  refine ⟨_, exec_processorWatchdogExpiry hp hr hq, ?_⟩
  split
  · rw [procRestarting_proc (hl ▸ hp)]
    exact ⟨rfl, rfl, List.mem_cons_self, rfl⟩
  · obtain ⟨hrails, -, -, -, -, -, -, -, -, -, hports, -, -, -, -, -, -, hwarm, -⟩ := warmReset_warmed s (.watchdog p)
    exact ⟨hports, hwarm, hrails⟩

/-! ## The end of a restart (01 R24, R25, 17 R461) -/

theorem schedule_within (s : State) (p : Nat) : Within [.rec_, .trace] s (s.schedule p) := by
  unfold State.schedule
  dsimp only
  split
  · exact .refl s
  · refine .guard ?_
    split
    · rfl
    · exact .trans (t := { s with rec_ := _ }) rfl (traced_within ..)

theorem componentRestored_within (s : State) (k : Nat) : Within [.comps, .rec_, .trace, .upd] s (s.componentRestored k) :=
  .trans (t := s.onComp k fun c => { c with restartUntil := none, lastService := s.gt }) rfl ((event_within ..).trans (traced_within ..))

theorem componentRestored_comp {s : State} {k : Nat} (h : k < s.comps.length) :
    nth (s.componentRestored k).comps k = { nth s.comps k with restartUntil := none, lastService := s.gt } := by
  rw [State.componentRestored, State.traced_comps, State.event_comps, onComp_same h]

theorem processorRestored_within (s : State) (p : Nat) : Within [.procs, .rec_, .trace, .upd] s (s.processorRestored p) :=
  .trans (t := s.onProc p fun x => { x with restartUntil := none, lastService := s.gt }) rfl
    (((event_within ..).trans (traced_within ..)).trans ((schedule_within ..).mono rfl))

theorem processorRestored_proc {s : State} {p : Nat} (h : p < s.procs.length) :
    nth (s.processorRestored p).procs p = { nth s.procs p with restartUntil := none, lastService := s.gt } := by
  rw [State.processorRestored, (schedule_within _ _).reads State.procs fun _ => rfl, State.traced_procs, State.event_procs, onProc_same h]

/-- Settles O13, from what each fault, watchdog and end of a restart does. -/
theorem componentsAndProcessorsRestart : Obligations.components_and_processors_restart := by
  intro s k p cause region hc hpr hk hp hr
  have hk' : k.toNat < s.comps.length := hc ▸ hk
  have hp' : p.toNat < s.procs.length := hpr ▸ hp
  refine ⟨fun c hm => ?_, fun n hn => ?_, processorWatchdogExpiry_completes hpr hp hr, fun hu => ?_, fun hu => ?_⟩
  · simp only [List.mem_cons, List.not_mem_nil, or_false] at hm
    rcases hm with rfl | rfl
    · exact ⟨_, congrArg Host.Outcome.next (if_pos hk), componentFault_taken hk' hpr hr _ _⟩
    · exact ⟨_, congrArg Host.Outcome.next (if_pos hk), componentFault_taken hk' hpr hr _ _⟩
  · refine ⟨_, exec_componentFault_outside hn hr cause region, ?_⟩
    have hm : n.toNat % 4 < s.procs.length := by omega
    exact ⟨by rw [onProc_same hm], rfl⟩
  · refine ⟨_, congrArg Host.Outcome.next (if_pos ⟨hk, hr, hu⟩), s.componentRestored k.toNat, ?_, ?_, componentRestored_within .., ?_⟩
    · rw [componentRestored_comp hk']
    · rw [componentRestored_comp hk']
    · simp only [← BitVec.toNat_inj]
      rfl
  · refine ⟨_, congrArg Host.Outcome.next (if_pos ⟨hp, hr, hu⟩), s.processorRestored p.toNat, ?_, ?_, processorRestored_within .., ?_⟩
    · rw [processorRestored_proc hp']
    · rw [processorRestored_proc hp']
    · simp only [← BitVec.toNat_inj]
      rfl

end Sys2Proof.Proofs
end

section
/-! SUPPORT. The feed commands, and what settles after a feed changes. -/

namespace Sys2Proof.Proofs

open Sys2Proof Sys2Proof.Machine Sys2Proof.Laws

/-! ## A feed after changes of the feeds (05 R114) -/

theorem onFeed_feedAt (s : State) (y x : Nat) (f : Feed → Feed) :
    (s.onFeed y f).feedAt x = if y = x ∧ y < s.feed.feeds.length then f (s.feedAt x) else s.feedAt x := nth_modAt _ y x f

theorem onFeed_feedAt_same {s : State} {x : Nat} (h : x < s.feed.feeds.length) (f : Feed → Feed) : (s.onFeed x f).feedAt x = f (s.feedAt x) := by
  rw [onFeed_feedAt, if_pos ⟨rfl, h⟩]

theorem feedAt_of_feed {s t : State} (h : t.feed = s.feed) (x : Nat) : t.feedAt x = s.feedAt x := by
  unfold State.feedAt
  rw [h]

/-- What a feed becomes where it enters INRUSH, with its retries (05 R114, R116, R118, R122). -/
def Inrushing (gt : Nat) (retries : List Nat) (f : Feed) : Feed :=
  { f with
    phase := .inrush, onReleased := true, inrushGt := gt, c := List.replicate 8 0, overRun := 0, eQ := 0, smallDrop := 0
    due := 0, duePoint := 255, reverseRun := 0, retries := retries, retryNext := false }

/-- A feed enters INRUSH only if it is in OFF and no FORCE_OFF of this tick forbids it. -/
theorem enterInrush_feed (s : State) (y : Nat) :
    (s.enterInrush y).feed = s.feed ∨ (s.feedAt y).reported = .off ∧ ∃ l, (s.enterInrush y).feed = (s.onFeed y (Inrushing s.gt l)).feed := by
  unfold State.enterInrush
  dsimp only
  split
  · exact .inl rfl
  · rename_i h
    refine .inr ⟨not_not.mp fun hn => h (.inl hn), (if (s.feedAt y).retryNext then (s.feedAt y).window s.gt ++ [s.gt] else (s.feedAt y).retries), ?_⟩
    split
    · exact State.traced_feed ..
    · rfl

/-- A feed that does not report OFF is left alone when another enters INRUSH. -/
theorem enterInrush_feedAt {s : State} {x : Nat} (h : (s.feedAt x).reported ≠ .off) (y : Nat) : (s.enterInrush y).feedAt x = s.feedAt x := by
  rcases enterInrush_feed s y with he | ⟨ho, l, he⟩
  · exact feedAt_of_feed he x
  · rw [feedAt_of_feed he, onFeed_feedAt, if_neg]
    rintro ⟨rfl, -⟩
    exact h ho

theorem enterInrush_forced (s : State) (x y : Nat) : ((s.enterInrush y).feedAt x).forced = (s.feedAt x).forced := by
  rcases enterInrush_feed s y with he | ⟨-, l, he⟩
  · rw [feedAt_of_feed he]
  · rw [feedAt_of_feed he, onFeed_feedAt]
    split <;> rfl

theorem feedsSettle_feed (s : State) : s.feedsSettle.feed = (if s.feed.demand then (s.enterInrush 0).enterInrush 1 else s).feed := by
  unfold State.feedsSettle
  dsimp only
  generalize (if s.feed.demand = true then (s.enterInrush 0).enterInrush 1 else s) = t
  split_ifs <;> rfl

theorem feedsSettle_feedAt {s : State} {x : Nat} (h : (s.feedAt x).reported ≠ .off) : s.feedsSettle.feedAt x = s.feedAt x := by
  rw [feedAt_of_feed (feedsSettle_feed s)]
  split
  · have h0 := enterInrush_feedAt h 0
    rw [enterInrush_feedAt (h0 ▸ h), h0]
  · rfl

theorem feedsSettle_forced (s : State) (x : Nat) : (s.feedsSettle.feedAt x).forced = (s.feedAt x).forced := by
  rw [feedAt_of_feed (feedsSettle_feed s)]
  split
  · rw [enterInrush_forced, enterInrush_forced]
  · rfl

/-! ## An input loss leaves the feeds as they are (05 R134, 06 R163, 11 R309) -/

theorem emergencyStart_within (s : State) : Within [.pair, .rec_, .thyme, .trace] s s.emergencyStart := by
  unfold State.emergencyStart
  split
  · exact .refl s
  · split
    · exact .refl s
    · refine .trans ?_ ((traced_within ..).trans (mirrored_within ..))
      rfl

theorem giveWay_within (s : State) (k : Nat) : Within [.pair, .rec_, .thyme, .trace] s (s.giveWay k) := by
  refine .trans ?_ (emergencyStart_within _)
  rfl

theorem emergencyIsDue_within (s : State) (kind : EmergencyKind) : Within [.pair, .rec_, .thyme, .trace] s (s.emergencyIsDue kind) := by
  unfold State.emergencyIsDue
  split
  · exact .refl s
  · refine .trans ?_ (emergencyStart_within _)
    refine .trans ?_ (.foldl (fun s k => .guard (giveWay_within s k)) _ _)
    rfl

theorem powerLossEntry_within (s : State) : Within [.ledger, .rec_, .trace] s s.powerLossEntry := by
  unfold State.powerLossEntry
  dsimp only
  refine .guard ?_
  exact .trans (t := { s with ledger := _ }) rfl (traced_within ..)

theorem inputLossNow_feeds (s : State) : s.inputLossNow.feed.feeds = s.feed.feeds := by
  unfold State.inputLossNow
  dsimp only
  split
  · rw [State.traced_feed, State.event_feed]
    have hp : Within [.ledger, .rec_, .trace] (s.onFeeds fun c => { c with inputLoss := true }) _ := powerLossEntry_within _
    split
    · rw [(emergencyIsDue_within _ _).reads State.feed fun _ => rfl, hp.reads State.feed fun _ => rfl]
      rfl
    · rw [hp.reads State.feed fun _ => rfl]
      rfl
  · rfl

/-! ## The commands (05 R140, R141) -/

theorem check_one (b : Bool) (st : Status) (s : State) (k : Unit → Answer) : check [(b, st)] s k = if b = true then refuse st s else k () := rfl

theorem check_two (b c : Bool) (st st' : Status) (s : State) (k : Unit → Answer) :
    check [(b, st), (c, st')] s k = if b = true then refuse st s else if c = true then refuse st' s else k () := rfl

theorem bodyFeedStatus_eq (k : Ctx) (s : State) :
    bodyFeedStatus k s = ({ payload := s.feedEntry 0 ++ s.feedEntry 1 ++ i4 (s.thyme.minOffEnd.elim 0 fun g => (g - s.gt + 999) / 1000) ++ i4 0 }, s) := by
  unfold bodyFeedStatus
  cases s.thyme.minOffEnd <;> rfl

theorem mem_insertTrip {q r : TripRecord} {l : List TripRecord} (h : q ∈ insertTrip r l) : q = r ∨ q ∈ l := by
  induction l with
  | nil => exact .inl (List.mem_singleton.mp h)
  | cons p l ih =>
    unfold insertTrip at h
    split at h
    · exact List.mem_cons.mp h
    · rcases List.mem_cons.mp h with rfl | h
      · exact .inr List.mem_cons_self
      · exact (ih h).imp id (List.mem_cons_of_mem p)

theorem mem_of_sorted {q : TripRecord} {l : List TripRecord} (h : q ∈ l.foldr insertTrip []) : q ∈ l := by
  induction l with
  | nil => exact absurd h List.not_mem_nil
  | cons r l ih => exact List.mem_cons.mpr ((mem_insertTrip h).imp id ih)

/-- The records that TRIP_RECORDS_READ answers with: the first ones present from a `rec_seq` on. -/
def tripsFrom (s : State) (first n : Nat) : List TripRecord := (((s.feed.present.map Prod.snd).foldr insertTrip []).filter fun r => decide (first ≤ r.recSeq)).take n

theorem mem_tripsFrom {s : State} {first n : Nat} {q : TripRecord} (h : q ∈ tripsFrom s first n) : first ≤ q.recSeq ∧ ∃ k, (k, q) ∈ s.feed.present := by
  obtain ⟨hm, hq⟩ := List.mem_filter.mp (List.mem_of_mem_take h)
  obtain ⟨⟨k, _⟩, hk, rfl⟩ := List.mem_map.mp (mem_of_sorted hm)
  exact ⟨of_decide_eq_true hq, k, hk⟩

theorem bodyTripRecordsRead_eq (first : U32) (n : U8) (k : Ctx) (s : State) :
    bodyTripRecordsRead first n k s =
      if n = 0 ∨ 15 < n.toNat then (Reply.fail .badArg, s) else ({ payload := ((tripsFrom s first.toNat n.toNat).map TripRecord.bytes).flatten }, s) := by
  unfold bodyTripRecordsRead
  rw [check_one]
  simp only [Bool.or_eq_true, beq_iff_eq, decide_eq_true_eq]
  rfl

/-- A FORCE_OFF marks a feed in INRUSH for the next tick, and opens and marks any other (05 R139). -/
def forcedBy (gt : Nat) (f : Feed) : Feed := { (if f.phase = .inrush then { f with forceDue := true } else f.force) with forceGt := some gt }

theorem forcedBy_inrush {f : Feed} (h : f.phase = .inrush) (gt : Nat) : forcedBy gt f = { f with forceDue := true, forceGt := some gt } := by
  unfold forcedBy
  rw [if_pos h]

theorem forcedBy_forced {f : Feed} (h : f.phase ≠ .inrush) (gt : Nat) :
    (forcedBy gt f).forced = true ∧ (forcedBy gt f).reported = if f.phase = .lockout then .lockout else .forcedOff := by
  unfold forcedBy Feed.force Feed.live Feed.opened Feed.reported
  rw [if_neg h]
  cases hp : f.phase <;> simp_all

theorem forcedBy_on {f : Feed} (h : f.phase = .on) (gt : Nat) : (forcedBy gt f).phase = .off ∧ (forcedBy gt f).onReleased = false := by
  unfold forcedBy Feed.force Feed.live Feed.opened
  simp [h]

/-- A feed that FORCE_OFF has marked does not report OFF. -/
theorem forcedBy_reported (f : Feed) (gt : Nat) : (forcedBy gt f).reported ≠ .off := by
  by_cases h : f.phase = .inrush
  · rw [forcedBy_inrush h]
    simp only [Feed.reported, h]
    split <;> nofun
  · rw [(forcedBy_forced h gt).2]
    split <;> nofun

/-- The tray is powered, so that its last feed may not be forced off (05 R141). -/
def trayPowered (s : State) : Bool :=
  s.thyme.reported == .poweringUp || s.thyme.reported == .on || s.thyme.reported == .maintenance || s.thyme.reported == .poweringDown

theorem trayPowered_iff (s : State) : trayPowered s = true ↔ s.thyme.reported ∈ [TrayState.poweringUp, .on, .maintenance, .poweringDown] := by
  simp [trayPowered, or_assoc]

/-- The feeds after a FORCE_OFF of one of them, before what follows settles. -/
def afterForceOff (s : State) (x : Nat) : State :=
  let t := s.onFeed x (forcedBy s.gt)
  if (t.feedAt x).forceDue then t else t.onFeeds FeedState.shareOff

theorem afterForceOff_feedAt {s : State} {x : Nat} (h : x < s.feed.feeds.length) : (afterForceOff s x).feedAt x = forcedBy s.gt (s.feedAt x) := by
  unfold afterForceOff
  dsimp only
  split
  · exact onFeed_feedAt_same h _
  · exact onFeed_feedAt_same h (forcedBy s.gt)

theorem forceOff_feedAt {s : State} {x : Nat} (h : x < s.feed.feeds.length) :
    (((afterForceOff s x).feedsSettle).mirrored .tray).feedAt x = forcedBy s.gt (s.feedAt x) := by
  have ha := afterForceOff_feedAt h
  have hr : ((afterForceOff s x).feedAt x).reported ≠ .off := ha ▸ forcedBy_reported _ _
  rw [feedAt_of_feed (State.mirrored_feed ..), feedsSettle_feedAt hr, ha]

theorem bodyFeedSwitchForceOff_eq (x : U8) (k : Ctx) (s : State) :
    bodyFeedSwitchForceOff x k s =
      if 2 ≤ x.toNat then (Reply.fail .badArg, s)
      else if (s.feedAt (otherFeed x.toNat)).phase ≠ .on ∧ s.thyme.reported ∈ [TrayState.poweringUp, .on, .maintenance, .poweringDown] then (Reply.fail .stateConflict, s)
      else ({}, (afterForceOff s x.toNat).feedsSettle.mirrored .tray) := by
  have hp := trayPowered_iff s
  unfold trayPowered at hp
  unfold bodyFeedSwitchForceOff
  rw [check_two]
  simp only [Bool.and_eq_true, bne_iff_ne, decide_eq_true_eq, hp]
  rfl

/-- What FORCE_OFF answers and leaves (05 R139-R141). -/
theorem forceOff_answers {s : State} (h2 : s.feed.feeds.length = 2) (x : U8) (k : Ctx) :
    let a := bodyFeedSwitchForceOff x k s
    let f := s.feedAt x.toNat
    if 2 ≤ x.toNat then a.1 = Reply.fail .badArg ∧ a.2 = s
    else if (s.feedAt (otherFeed x.toNat)).phase ≠ .on ∧ s.thyme.reported ∈ [TrayState.poweringUp, .on, .maintenance, .poweringDown] then a.1 = Reply.fail .stateConflict ∧ a.2 = s
    else a.1 = {} ∧ (f.phase = .inrush → a.2.feedAt x.toNat = { f with forceDue := true, forceGt := some s.gt }) ∧
      (f.phase ≠ .inrush → (a.2.feedAt x.toNat).forced = true ∧ (a.2.feedAt x.toNat).reported = if f.phase = .lockout then .lockout else .forcedOff) ∧
      (f.phase = .on → (a.2.feedAt x.toNat).phase = .off ∧ (a.2.feedAt x.toNat).onReleased = false) := by
  dsimp only
  rw [bodyFeedSwitchForceOff_eq]
  split
  · exact ⟨rfl, rfl⟩
  · split
    · exact ⟨rfl, rfl⟩
    · rw [forceOff_feedAt (by omega)]
      exact ⟨rfl, fun hi => forcedBy_inrush hi s.gt, fun hi => forcedBy_forced hi s.gt, fun hi => forcedBy_on hi s.gt⟩

theorem feedAuto_forced {s : State} {x : Nat} (h : x < s.feed.feeds.length) :
    ((s.feedAuto x).feedAt x).forced = if (s.feedAt x).forceGt = some s.gt then (s.feedAt x).forced else false := by
  unfold State.feedAuto
  split
  · rfl
  · rw [onFeed_feedAt_same h]

theorem auto_forced {s : State} {x : Nat} (h : x < s.feed.feeds.length) :
    ((((s.feedAuto x).feedsSettle).inputLossNow.mirrored .tray).feedAt x).forced = if (s.feedAt x).forceGt = some s.gt then (s.feedAt x).forced else false := by
  rw [feedAt_of_feed (State.mirrored_feed ..), State.feedAt, inputLossNow_feeds]
  exact (feedsSettle_forced _ x).trans (feedAuto_forced h)

/-- The settings of a breaker as BREAKER_CURVE_WRITE stores them, in force and in the settings area (05 R119, 16 R433). -/
def curveWritten (s : State) (x : Nat) (b : BreakerSettings) : State :=
  ((s.onFeed x fun f => { f with breaker := b }).onFeeds fun c => { c with stored := c.stored.set x (some b) }).saveSettings.event .feed 0x030C 0 x []

theorem bodyBreakerCurveWrite_eq (x : U8) (back cmp : U16) (curve : List CurvePoint) (k : Ctx) (s : State) :
    bodyBreakerCurveWrite x back cmp curve k s =
      if 2 ≤ x.toNat ∨ validCurve curve = false ∨ back = 0 ∨ 600 < back.toNat then (Reply.fail .badArg, s)
      else if curveWithin curve (nth s.sage.limits.feeds x.toNat).envelope = false ∨ (nth s.sage.limits.feeds x.toNat).cmpCeil < cmp.toNat then (Reply.fail .limitExceeded, s)
      else ({}, curveWritten s x.toNat { curve := curve, backoffS := back.toNat, cmpA := cmp.toNat }) := by
  unfold bodyBreakerCurveWrite
  rw [check_two]
  simp only [Bool.or_eq_true, Bool.not_eq_true', beq_iff_eq, decide_eq_true_eq, or_assoc]
  rfl

theorem curveWritten_feed (s : State) (x : Nat) (b : BreakerSettings) :
    (curveWritten s x b).feed = ((s.onFeed x fun f => { f with breaker := b }).onFeeds fun c => { c with stored := c.stored.set x (some b) }).feed :=
  (State.event_feed ..).trans ((saveSettings_within (ps := [.sec]) _).reads State.feed fun _ => rfl)

theorem curveWritten_feedAt {s : State} {x : Nat} (h : x < s.feed.feeds.length) (b : BreakerSettings) : (curveWritten s x b).feedAt x = { s.feedAt x with breaker := b } :=
  (feedAt_of_feed (curveWritten_feed s x b) x).trans (onFeed_feedAt_same h fun f => { f with breaker := b })

/-- The event of a written curve is of severity 0, so that it is not noted as a severe one (16 R431). -/
theorem event_within_rec (s : State) (port : EvPort) (code src : Nat) {sev : Nat} (h : sev < 3) (payload : List Byte) : Within [.rec_] s (s.event port code sev src payload) := by
  unfold State.event
  split
  · exact .refl s
  · simp only [if_neg (Nat.not_le.mpr h)]
    split <;> rfl

theorem curveWritten_within (s : State) (x : Nat) (b : BreakerSettings) : Within [.feed, .rec_, .sec] s (curveWritten s x b) := by
  refine .trans ?_ ((event_within_rec _ _ _ _ (by decide) _).mono rfl)
  refine .trans ?_ (saveSettings_within _)
  rfl

/-- What BREAKER_CURVE_WRITE answers and leaves (05 R119, R139-R141). -/
theorem curveWrite_answers {s : State} (h2 : s.feed.feeds.length = 2) (x : U8) (back cmp : U16) (curve : List CurvePoint) (k : Ctx) :
    let a := bodyBreakerCurveWrite x back cmp curve k s
    let lim := nth s.sage.limits.feeds x.toNat
    if 2 ≤ x.toNat ∨ validCurve curve = false ∨ back = 0 ∨ 600 < back.toNat then a.1 = Reply.fail .badArg ∧ a.2 = s
    else if curveWithin curve lim.envelope = false ∨ lim.cmpCeil < cmp.toNat then a.1 = Reply.fail .limitExceeded ∧ a.2 = s
    else a.1 = {} ∧ (a.2.feedAt x.toNat).breaker = { curve := curve, backoffS := back.toNat, cmpA := cmp.toNat } ∧
      a.2.feed.stored = s.feed.stored.set x.toNat (some { curve := curve, backoffS := back.toNat, cmpA := cmp.toNat }) ∧ Within [.feed, .rec_, .sec] s a.2 := by
  dsimp only
  rw [bodyBreakerCurveWrite_eq]
  split_ifs with hx hc
  · exact ⟨rfl, rfl⟩
  · exact ⟨rfl, rfl⟩
  · have hl : x.toNat < s.feed.feeds.length := by omega
    have hw := curveWritten_feed s x.toNat { curve := curve, backoffS := back.toNat, cmpA := cmp.toNat }
    exact ⟨rfl, by rw [curveWritten_feedAt hl], congrArg FeedState.stored hw, curveWritten_within ..⟩

/-- A feed let out of LOCKOUT, with its records (05 R126). -/
def lockoutCleared (s : State) (x : Nat) : State :=
  let b := (s.feedAt x).breaker.backoffS
  (((s.onFeed x fun f => { f with phase := .backoff, retries := [], backoffEnd := s.gt + secs b }).onFeeds fun c =>
    c.rewrite (fun r => r.feed == x && r.status == .lockout) fun r => { r with status := .unresolved, retries := 0, backoffS := b }).event .feed 0x030D 0 x []).feedsSettle

theorem bodyFeedLockoutClear_eq (x : U8) (k : Ctx) (s : State) :
    bodyFeedLockoutClear x k s =
      if 2 ≤ x.toNat then (Reply.fail .badArg, s)
      else if (s.feedAt x.toNat).phase ≠ .lockout then (Reply.fail .stateConflict, s)
      else ({}, lockoutCleared s x.toNat) := by
  unfold bodyFeedLockoutClear
  rw [check_two]
  simp only [bne_iff_ne, decide_eq_true_eq]
  rfl

theorem lockoutCleared_feedAt {s : State} {x : Nat} (h : x < s.feed.feeds.length) :
    (lockoutCleared s x).feedAt x = { s.feedAt x with phase := .backoff, retries := [], backoffEnd := s.gt + secs (s.feedAt x).breaker.backoffS } := by
  unfold lockoutCleared
  dsimp only
  have hb : ∀ t : State, (t.onFeeds fun c => c.rewrite (fun r => r.feed == x && r.status == .lockout)
      fun r => { r with status := .unresolved, retries := 0, backoffS := (s.feedAt x).breaker.backoffS }).feedAt x = t.feedAt x := fun _ => rfl
  rw [feedsSettle_feedAt, feedAt_of_feed (State.event_feed ..), hb, onFeed_feedAt_same h]
  rw [feedAt_of_feed (State.event_feed ..), hb, onFeed_feedAt_same h]
  simp only [Feed.reported]
  split <;> nofun

/-- What LOCKOUT_CLEAR answers and leaves (05 R126, R141). -/
theorem lockoutClear_answers {s : State} (h2 : s.feed.feeds.length = 2) (x : U8) (k : Ctx) :
    let a := bodyFeedLockoutClear x k s
    if 2 ≤ x.toNat then a.1 = Reply.fail .badArg ∧ a.2 = s
    else if (s.feedAt x.toNat).phase ≠ .lockout then a.1 = Reply.fail .stateConflict ∧ a.2 = s
    else a.1 = {} ∧ (a.2.feedAt x.toNat).phase = .backoff ∧ (a.2.feedAt x.toNat).retries = [] ∧
      (a.2.feedAt x.toNat).backoffEnd = s.gt + secs (s.feedAt x.toNat).breaker.backoffS := by
  dsimp only
  rw [bodyFeedLockoutClear_eq]
  split_ifs with hx hc
  · exact ⟨rfl, rfl⟩
  · exact ⟨rfl, rfl⟩
  · rw [lockoutCleared_feedAt (by omega)]
    exact ⟨rfl, rfl, rfl, rfl⟩

theorem bodyBreakerCurveRead_eq (x : U8) (k : Ctx) (s : State) :
    bodyBreakerCurveRead x k s =
      let b := (s.feedAt x.toNat).breaker
      let lim := nth s.sage.limits.feeds x.toNat
      (if 2 ≤ x.toNat then Reply.fail .badArg else
        { payload := i1 0 ++ i2 b.backoffS ++ i2 b.cmpA ++ i2 0 ++ curveBytes b.curve ++ i1 0 ++ curveBytes lim.envelope ++ i2 lim.cmpCeil ++ i2 0 }, s) := by
  unfold bodyBreakerCurveRead
  rw [check_one]
  simp only [decide_eq_true_eq]
  split <;> rfl

theorem bodyFeedSwitchAuto_eq (x : U8) (k : Ctx) (s : State) :
    bodyFeedSwitchAuto x k s = if 2 ≤ x.toNat then (Reply.fail .badArg, s) else ({}, (s.feedAuto x.toNat).feedsSettle.inputLossNow.mirrored .tray) := by
  unfold bodyFeedSwitchAuto
  rw [check_one]
  simp only [decide_eq_true_eq]
  rfl

/-- What AUTO answers and leaves (05 R141, 01 R29). -/
theorem auto_answers {s : State} (h2 : s.feed.feeds.length = 2) (x : U8) (k : Ctx) :
    let a := bodyFeedSwitchAuto x k s
    if 2 ≤ x.toNat then a.1 = Reply.fail .badArg ∧ a.2 = s
    else a.1 = {} ∧ (a.2.feedAt x.toNat).forced = if (s.feedAt x.toNat).forceGt = some s.gt then (s.feedAt x.toNat).forced else false := by
  dsimp only
  rw [bodyFeedSwitchAuto_eq]
  split
  · exact ⟨rfl, rfl⟩
  · have hl : x.toNat < s.feed.feeds.length := by omega
    exact ⟨rfl, auto_forced hl⟩

/-- What TRIP_RECORDS_READ answers (05 R140). -/
theorem tripRecordsRead_answers (s : State) (first : U32) (n : U8) (k : Ctx) :
    let a := bodyTripRecordsRead first n k s
    a.2 = s ∧ if n = 0 ∨ 15 < n.toNat then a.1 = Reply.fail .badArg
      else a.1.status = .ok ∧ ∃ l : List TripRecord, l.length ≤ n.toNat ∧ a.1.payload = (l.map TripRecord.bytes).flatten ∧
        ∀ q ∈ l, first.toNat ≤ q.recSeq ∧ ∃ k, (k, q) ∈ s.feed.present := by
  dsimp only
  rw [bodyTripRecordsRead_eq]
  split_ifs
  · exact ⟨rfl, rfl⟩
  · exact ⟨rfl, rfl, tripsFrom s first.toNat n.toNat, List.length_take_le .., rfl, fun q hq => mem_tripsFrom hq⟩

/-- Settles O20, from what the body of each command answers and leaves. -/
theorem feedCommands : Obligations.feed_commands := fun s h h2 =>
  ⟨answers_of rfl fun se _ _ k _ _ _ _ _ _ => by
      rw [show runBody .feedStatus k _ = _ from bodyFeedStatus_eq k _]
      exact ⟨rfl, rfl⟩,
    fun x => answers_of rfl fun se _ _ k _ _ _ _ _ _ => by
      rw [show runBody (.breakerCurveRead x) k _ = _ from bodyBreakerCurveRead_eq x k _]
      exact ⟨rfl, rfl⟩,
    fun first n => answers_of rfl fun se _ _ k _ _ _ _ _ _ => tripRecordsRead_answers (s.taken h se) first n k,
    fun x => answers_of rfl fun se _ _ k _ _ _ _ _ _ => forceOff_answers (s := s.taken h se) h2 x k,
    fun x => answers_of rfl fun se _ _ k _ _ _ _ _ _ => auto_answers (s := s.taken h se) h2 x k,
    fun x back cmp curve => answers_of rfl fun se _ _ k _ _ _ _ _ _ => curveWrite_answers (s := s.taken h se) h2 x back cmp curve k,
    fun x => answers_of rfl fun se _ _ k _ _ _ _ _ _ => lockoutClear_answers (s := s.taken h se) h2 x k⟩

end Sys2Proof.Proofs
end

section
/-! SUPPORT. Changes that leave the dies' reports and the pair's standing as they are, and what the arbiter's shared operations change. -/

namespace Sys2Proof.Proofs

open Sys2Proof Sys2Proof.Machine

/-! ## Outward changes: the dies' reports and the standing of the pair as they were -/

/-- What the decisions of the tick read of the pair: the role, and OWN_N and ALIVE_IN as sampled (15 R405, R406). -/
def standing (p : PairState) : Role × Nat × Bool × Option Nat := (p.role, p.ownSince, p.ownLow, p.aliveIn)

/-- Within the named parts, with what the dies report and the pair's standing as they were. -/
structure Outward (ps : List Part) (s t : State) : Prop where
  within : Within ps s t
  dies : t.link.dies = s.link.dies
  standing : standing t.pair = standing s.pair

namespace Outward

variable {ps qs : List Part} {s t u : State}

theorem refl (s : State) : Outward ps s s := ⟨.refl s, rfl, rfl⟩

theorem trans (h : Outward ps s t) (h' : Outward ps t u) : Outward ps s u := ⟨h.within.trans h'.within, h'.dies.trans h.dies, h'.standing.trans h.standing⟩

theorem mono (h : Outward ps s t) (hp : among ps qs = true) : Outward qs s t := ⟨h.within.mono hp, h.dies, h.standing⟩

theorem role (h : Outward ps s t) : t.pair.role = s.pair.role := congrArg Prod.fst h.standing

theorem guard {p : Prop} [Decidable p] (h : Outward ps s t) : Outward ps s (if p then t else s) := by
  split
  · exact h
  · exact refl s

theorem foldl {α : Type} {f : State → α → State} (h : ∀ s a, Outward ps s (f s a)) (l : List α) (s : State) : Outward ps s (l.foldl f s) := foldl_within refl trans h l s

theorem reads {α : Type} (h : Outward ps s t) (f : State → α) (hf : ∀ u : State, f (u.without ps) = f u) : f t = f s := h.within.reads f hf

/-- A change beside the links and the pair. -/
theorem beside (h : Within ps s t) (hl : ps.contains .link = false) (hp : ps.contains .pair = false) : Outward ps s t :=
  ⟨h, by rw [h.reads State.link fun u => by simp only [State.without, hl]; rfl], by rw [h.reads State.pair fun u => by simp only [State.without, hp]; rfl]⟩

end Outward

section

variable {ps : List Part} (s : State)

theorem traced_outward (point source arg : Nat) (hp : among [.rec_, .trace] ps = true := by rfl) : Outward ps s (s.traced point source arg) :=
  (Outward.beside (traced_within (ps := [.rec_, .trace]) ..) rfl rfl).mono hp

theorem event_outward (port : EvPort) (code sev src : Nat) (payload : List Byte) (hp : among [.rec_, .upd] ps = true := by rfl) :
    Outward ps s (s.event port code sev src payload) :=
  (Outward.beside (event_within (ps := [.rec_, .upd]) ..) rfl rfl).mono hp

theorem mirrored_standing (kind : MirKind) : standing (s.mirrored kind).pair = standing s.pair := by
  unfold State.mirrored State.sendRecord State.sendRecordOf
  split
  · split <;> rfl
  · rfl

theorem mirrored_outward (kind : MirKind) (hp : among [.pair] ps = true := by rfl) : Outward ps s (s.mirrored kind) :=
  ⟨mirrored_within _ _ hp, by rw [State.mirrored_link], mirrored_standing s kind⟩

theorem onOp_outward (f : OpState → OpState) (hp : among [.op] ps = true := by rfl) : Outward ps s (s.onOp f) :=
  Outward.mono (ps := [.op]) ⟨rfl, rfl, rfl⟩ hp

theorem onSkv_outward (n : Nat) {f : SkvPort → SkvPort} : Outward [.link, .pair] s (s.onSkv n f) := by
  refine ⟨onSkv_within s n f, ?_, ?_⟩ <;>
  · unfold State.onSkv
    split <;> rfl

theorem portSend_outward (n cls : Nat) (body : List Byte) : Outward [.link, .pair] s (s.portSend n cls body) := (onSkv_outward s n).trans (onSkv_outward _ n)

theorem skvSend_outward (n cls : Nat) (body : List Byte) : Outward [.link, .pair] s (s.skvSend n cls body) := by
  unfold State.skvSend
  split
  · exact ⟨rfl, rfl, rfl⟩
  · exact portSend_outward ..

theorem sendTo_outward (a : ArmedChange) (pkgs : BitVec 8) : Outward [.link, .pair] s (s.sendTo a pkgs) := .foldl (fun s n => skvSend_outward s n _ _) _ s

theorem received_outward (n cls len : Nat) : Outward [.link, .pair] s (s.received n cls len) := by
  unfold State.received
  dsimp only
  split
  · exact .refl s
  · exact onSkv_outward s n

end

/-- An event that is traced and mirrored stands recorded since an earlier state of the tick. -/
theorem traced_recorded {s t : State} {port : EvPort} {code sev : Nat} (h : Recorded s t port code sev) (point source arg : Nat) (kind : MirKind) :
    Recorded s ((t.traced point source arg).mirrored kind) port code sev := by
  unfold Recorded at h ⊢
  rw [State.mirrored_rec_, traced_ports]
  exact h

/-! ## Sending changes (08 R218-R222) -/

theorem launchChange_outward (s : State) (a : ArmedChange) :
    Outward [.link, .pair, .rec_, .trace] (s.onOp fun o => { o with armed := o.armed ++ [a] }) (s.launchChange a) :=
  ((sendTo_outward ..).mono rfl).trans (traced_outward ..)

theorem launchChange_op (s : State) (a : ArmedChange) : (s.launchChange a).op = { s.op with armed := s.op.armed ++ [a] } :=
  (launchChange_outward s a).reads State.op fun _ => rfl

theorem launchChange_outward_op (s : State) (a : ArmedChange) : Outward [.link, .op, .pair, .rec_, .trace] s (s.launchChange a) :=
  (onOp_outward ..).trans ((launchChange_outward s a).mono rfl)

/-- The change of a group looks at the jobs and at what the dies report. -/
theorem groupChange_congr {s t : State} (h : Outward [.link, .op, .pair, .rec_, .trace] s t) (seq p : Nat) (g : BitVec 8) : t.groupChange seq p g = s.groupChange seq p g := by
  unfold State.groupChange State.groupStep State.inJob
  rw [h.dies, h.reads State.sync fun _ => rfl]

/-- Launching the changes of groups one by one arms them all. -/
theorem launchGroups_op (seq p : Nat) (l : List (BitVec 8)) (s : State) :
    (l.foldl (fun s g => s.launchChange (s.groupChange seq p g)) s).op = { s.op with armed := s.op.armed ++ l.map (s.groupChange seq p) } := by
  induction l generalizing s with
  | nil => simp
  | cons g l ih =>
    have h := launchChange_outward_op s (s.groupChange seq p g)
    rw [List.foldl_cons, ih, launchChange_op, List.map_congr_left fun g' _ => groupChange_congr h seq p g']
    simp

theorem launchGroups_outward (seq p : Nat) (l : List (BitVec 8)) (s : State) :
    Outward [.link, .op, .pair, .rec_, .trace] s (l.foldl (fun s g => s.launchChange (s.groupChange seq p g)) s) :=
  .foldl (fun s g => launchChange_outward_op s (s.groupChange seq p g)) l s

/-- Sending the ceiling: the next sequence, a change of its own for every group, and nothing left to wait for. -/
theorem sendChange_op (s : State) (p : Nat) :
    (s.sendChange p).op = { s.op with
      chgSeq := (s.op.chgSeq + 1) % 2 ^ 32, history := s.op.history ++ [((s.op.chgSeq + 1) % 2 ^ 32, p)]
      armed := s.op.armed ++ s.groups.map (s.groupChange ((s.op.chgSeq + 1) % 2 ^ 32) p), lastSent := some p, waiting := none, faster := none } := by
  unfold State.sendChange
  dsimp only [State.nextChange]
  rw [State.mirrored_op]
  dsimp only [State.onOp]
  rw [launchGroups_op]
  rfl

theorem sendChange_outward (s : State) (p : Nat) : Outward [.link, .op, .pair, .rec_, .trace] s (s.sendChange p) := by
  unfold State.sendChange
  refine .trans ?_ (mirrored_outward ..)
  refine .trans ?_ (onOp_outward ..)
  exact (onOp_outward ..).trans (launchGroups_outward ..)

/-! ## Moving the voltages (08 R222, 01 R31) -/

/-- Only raises and held moves of the operating point differ, beside what a rail's write changes. -/
structure Moving (s t : State) : Prop where
  outward : Outward [.op, .rec_, .sage, .trace, .upd] s t
  op : ∃ r h, t.op = { s.op with raises := r, heldMoves := h }

namespace Moving

theorem refl (s : State) : Moving s s := ⟨.refl s, _, _, rfl⟩

theorem trans {s t u : State} (h : Moving s t) (h' : Moving t u) : Moving s u := by
  obtain ⟨r, m, e⟩ := h.op
  obtain ⟨r', m', e'⟩ := h'.op
  exact ⟨h.outward.trans h'.outward, r', m', by rw [e', e]⟩

end Moving

theorem onRail_outward {ps : List Part} (s : State) (c : Nat) (f : Rail → Rail) (hp : among [.sage] ps = true := by rfl) : Outward ps s (s.onRail c f) :=
  Outward.mono (ps := [.sage]) ⟨rfl, rfl, rfl⟩ hp

theorem writeSetpoint_outward (s : State) (c mv : Nat) (bus : Option Nat) (owner : WriteOwner) : Outward [.sage] s (s.writeSetpoint c mv bus owner) := by
  unfold State.writeSetpoint
  split
  · exact ⟨rfl, rfl, rfl⟩
  · exact .refl s

theorem issueMove_outward (s : State) (c mv : Nat) : Outward [.rec_, .sage, .trace, .upd] s (s.issueMove c mv) := by
  unfold State.issueMove
  refine .trans ?_ (traced_outward ..)
  refine .trans ?_ ((writeSetpoint_outward ..).mono rfl)
  refine .trans ?_ (onRail_outward ..)
  exact .guard (event_outward ..)

/-- A move of a rail, its raise noted, is held or issued (01 R31). -/
def heldOrIssued (s : State) (c mv : Nat) : State :=
  if s.owned c then s.onOp fun o => { o with heldMoves := put (o.heldMoves.filter fun m => m.1 != c) c mv } else s.issueMove c mv

theorem moveRail_eq (s : State) (c mv : Nat) :
    s.moveRail c mv = heldOrIssued (s.onOp fun o => { o with raises := if decide (s.asked c < mv) then c :: o.raises.filter (· != c) else o.raises }) c mv := rfl

theorem heldOrIssued_moving (s : State) (c mv : Nat) : Moving s (heldOrIssued s c mv) := by
  unfold heldOrIssued
  split
  · exact ⟨onOp_outward .., _, _, rfl⟩
  · have h := issueMove_outward s c mv
    exact ⟨h.mono rfl, _, _, h.reads State.op fun _ => rfl⟩

theorem moveRail_moving (s : State) (c mv : Nat) : Moving s (s.moveRail c mv) := by
  rw [moveRail_eq]
  refine .trans ?_ (heldOrIssued_moving ..)
  exact ⟨onOp_outward .., _, _, rfl⟩

theorem moveVolts_moving (s : State) : Moving s s.moveVolts := by
  unfold State.moveVolts
  exact foldl_within (R := Moving) (α := Nat × Nat) (f := fun s m => s.moveRail m.1 m.2) Moving.refl Moving.trans (fun s m => moveRail_moving s m.1 m.2) _ s

/-! ## The release of the throttle (08 R225-R227) -/

/-- The arbiter has let go of TRAY_SLOW_N. -/
def unpulled (s : State) : State := s.onOp fun o => { o with throttle := .none, slow := false }

theorem throttleEnds_standby {s : State} (h : s.isOwner = false) : s.throttleEnds = unpulled s := if_neg (ne_true_of_eq_false h)

theorem throttleEnds_eq {s : State} (h : s.isOwner = true) :
    s.throttleEnds = (((unpulled s).event .arbiter 0x0402 0 0 (i4 (s.gt - s.op.slowGt) ++ i1 (s.op.lastSent.getD 31))).traced 69 0 (s.gt - s.op.slowGt)).mirrored .op :=
  if_pos h

/-- At the OWNER the end of the throttle is recorded (08 R226 step 4). -/
theorem throttleEnds_owner {s : State} (h : s.isOwner = true) (hp : s.rec_.ports.length = 16) :
    s.throttleEnds.op = (unpulled s).op ∧ Recorded s s.throttleEnds .arbiter 0x0402 0 ∧ Within [.op, .pair, .rec_, .trace] s s.throttleEnds := by
  have hn : EvPort.arbiter.num < (unpulled s).rec_.ports.length := hp ▸ (by decide : EvPort.arbiter.num < 16)
  have hw : Within [.op, .pair, .rec_, .trace] s (unpulled s) := rfl
  rw [throttleEnds_eq h]
  refine ⟨by rw [State.mirrored_op, State.traced_op, State.event_op], ?_, ?_⟩
  · exact traced_recorded (event_recorded (t := unpulled s) rfl hn (Nat.le_refl _) rfl ..) ..
  · exact (hw.trans ((event_within_rec _ _ _ _ (by decide) _).mono rfl)).trans ((traced_within ..).trans (mirrored_within ..))

theorem sendRelease_op (s : State) :
    let n := (s.op.chgSeq + 1) % 2 ^ 32
    s.sendRelease.op.slow = s.op.slow ∧ s.sendRelease.op.throttle = .acks n ∧ s.sendRelease.op.chgSeq = n ∧ s.sendRelease.op.lastSent = some s.op.ceil := by
  unfold State.sendRelease
  dsimp only [State.nextChange]
  rw [State.mirrored_op]
  split
  · exact ⟨rfl, rfl, rfl, rfl⟩
  · rw [launchChange_op]
    exact ⟨rfl, rfl, rfl, rfl⟩

/-- Whether the release's change leaves at once or waits for the voltages, the line stays pulled (08 R226). -/
theorem releaseStep_op {s : State} (h : s.op.throttle = .volts) :
    s.releaseStep.op.slow = s.op.slow ∧ (s.releaseStep.op.throttle = .volts ∨
      ∃ q, s.releaseStep.op.throttle = .acks q ∧ s.releaseStep.op.chgSeq = q ∧ s.releaseStep.op.lastSent = some s.op.ceil) := by
  obtain ⟨r, m, ho⟩ := (moveVolts_moving s).op
  unfold State.releaseStep
  dsimp only
  split
  · obtain ⟨hs, ht, hc, hl⟩ := sendRelease_op s.moveVolts
    rw [ho] at hs hl
    exact ⟨hs, .inr ⟨_, ht, hc, hl⟩⟩
  · rw [ho]
    exact ⟨rfl, .inl h⟩

end Sys2Proof.Proofs
end

section
/-! SUPPORT. The commands of the operating point: faster changes, acknowledgements, the cap that is not met, alerts and the release of the throttle. -/

namespace Sys2Proof.Proofs

open Sys2Proof Sys2Proof.Machine

/-! ## Changes and acknowledgements (08 R219-R222) -/

theorem exec_fasterChangeSend {s : State} {f : FasterChange} (h : s.op.faster = some f) :
    exec .fasterChangeSend s = .next (if s.maySend = true ∧ s.settled = true ∧ f.p = s.op.ceil ∧ s.groupsFull = false then s.sendChange f.p else s) := by
  show execFasterChangeSend s = _
  simp only [execFasterChangeSend, h, Bool.and_eq_true, decide_eq_true_eq, Bool.not_eq_true', and_assoc]

/-- A faster change leaves with a sequence of its own for every group, once its voltages have settled (08 R222). -/
theorem fasterChangeSend_completes {s : State} {f : FasterChange} (h : s.op.faster = some f) :
    Completes .fasterChangeSend s fun t =>
      if s.maySend = true ∧ s.settled = true ∧ f.p = s.op.ceil ∧ s.groupsFull = false then
        t.op.chgSeq = (s.op.chgSeq + 1) % 2 ^ 32 ∧ t.op.lastSent = some f.p ∧ t.op.faster = none ∧
        t.op.armed = s.op.armed ++ s.groups.map (s.groupChange ((s.op.chgSeq + 1) % 2 ^ 32) f.p) ∧ t.sage = s.sage ∧ t.thyme = s.thyme
      else t = s := by
  refine ⟨_, exec_fasterChangeSend h, ?_⟩
  split
  · have ho := sendChange_outward s f.p
    have hop := sendChange_op s f.p
    exact ⟨congrArg OpState.chgSeq hop, congrArg OpState.lastSent hop, congrArg OpState.faster hop, congrArg OpState.armed hop,
      ho.reads State.sage fun _ => rfl, ho.reads State.thyme fun _ => rfl⟩
  · rfl

/-- The armed change that a package acknowledges, with the package noted. -/
def ackedBy (n : Nat) (a : ArmedChange) : ArmedChange := { a with acked := a.acked ||| (1#8 <<< n) }

/-- An acknowledgement noted at its armed change (08 R221). -/
def acknowledged (s : State) (n : Nat) (a : ArmedChange) : State := s.onOp fun o => { o with armed := o.armed.map fun x => if x = a then ackedBy n a else x }

/-- The last acknowledgement of a change is traced (08 R221). -/
def lastAckTraced (s : State) (n : Nat) (kind : U8) (a : ArmedChange) : State :=
  if kind = 0 ∧ (ackedBy n a).pkgs &&& ~~~(ackedBy n a).acked = 0 then s.traced 66 ((members a.pkgs).headD 0) a.target else s

/-- A late application is recorded (08 R221). -/
def lateRecorded (s : State) (n : Nat) (kind : U8) (step : U64) (a : ArmedChange) : State :=
  if kind = 1 then (s.event .fp1 0x0403 1 n (i1 n ++ i8 a.seq ++ i8 a.target ++ i8 step.toNat)).traced 72 n step.toNat else s

theorem exec_pstateAck {s : State} {pkg : U8} {seq : U32} {a : ArmedChange} (hp : pkg.toNat < 8) (hh : s.hears pkg.toNat = true)
    (ha : s.op.armed.find? (fun a => a.seq == seq.toNat && a.pkgs.getLsbD pkg.toNat) = some a) (kind : U8) (step : U64) :
    exec (.pstateAck pkg seq kind step) s =
      .next ((lateRecorded (lastAckTraced (acknowledged (s.received pkg.toNat 5 24) pkg.toNat a) pkg.toNat kind a) pkg.toNat kind step a).mirrored .op) := by
  have hr : (s.received pkg.toNat 5 24).op = s.op := (received_outward ..).reads State.op fun _ => rfl
  show execPstateAck pkg seq kind step s = _
  simp only [execPstateAck, hp, hh, decide_true, Bool.and_self, if_true, hr, ha]
  rfl

theorem lastAckTraced_outward (s : State) (n : Nat) (kind : U8) (a : ArmedChange) : Outward [.rec_, .trace] s (lastAckTraced s n kind a) := .guard (traced_outward ..)

theorem lateRecorded_outward (s : State) (n : Nat) (kind : U8) (step : U64) (a : ArmedChange) : Outward [.rec_, .trace] s (lateRecorded s n kind step a) :=
  .guard (.trans (.beside ((event_within_rec _ _ _ _ (by decide) _).mono rfl) rfl rfl) (traced_outward ..))

theorem map_ackedBy (n : Nat) (a : ArmedChange) (l : List ArmedChange) :
    (l.map fun x => if x = a then ackedBy n a else x) = l.map fun x => if x = a then { x with acked := x.acked ||| (1#8 <<< n) } else x :=
  List.map_congr_left fun x _ => by
    split
    · rename_i h
      rw [h]
      rfl
    · rfl

/-- An acknowledgement of an armed change notes the package, and LATE is recorded (08 R221). -/
theorem pstateAck_completes {s : State} (h16 : s.rec_.ports.length = 16) {pkg : U8} {seq : U32} {kind : U8} {step : U64} {a : ArmedChange} (hp : pkg.toNat < 8)
    (hh : s.hears pkg.toNat = true) (ha : s.op.armed.find? (fun a => a.seq == seq.toNat && a.pkgs.getLsbD pkg.toNat) = some a) :
    Completes (.pstateAck pkg seq kind step) s fun t =>
      t.op = { s.op with armed := s.op.armed.map fun x => if x = a then { x with acked := x.acked ||| (1#8 <<< pkg.toNat) } else x } ∧
      (kind = 1 → Recorded s t .fp1 0x0403 1) ∧ Within [.op, .trace, .rec_, .pair, .link] s t := by
  refine ⟨_, exec_pstateAck hp hh ha kind step, ?_⟩
  have hr := received_outward s pkg.toNat 5 24
  have hk : Within [.op, .trace, .rec_, .pair, .link] (s.received pkg.toNat 5 24) (acknowledged (s.received pkg.toNat 5 24) pkg.toNat a) := rfl
  have ht := lastAckTraced_outward (acknowledged (s.received pkg.toNat 5 24) pkg.toNat a) pkg.toNat kind a
  have hl := lateRecorded_outward (lastAckTraced (acknowledged (s.received pkg.toNat 5 24) pkg.toNat a) pkg.toNat kind a) pkg.toNat kind step a
  have hop : (s.received pkg.toNat 5 24).op = s.op := hr.reads State.op fun _ => rfl
  refine ⟨?_, fun h1 => ?_, (((hr.within.mono rfl).trans hk).trans ((ht.trans hl).within.mono rfl)).trans (mirrored_within ..)⟩
  · rw [State.mirrored_op, hl.reads State.op fun _ => rfl, ht.reads State.op fun _ => rfl, ← map_ackedBy, ← hop]
    rfl
  · have h0 : lastAckTraced (acknowledged (s.received pkg.toNat 5 24) pkg.toNat a) pkg.toNat kind a = acknowledged (s.received pkg.toNat 5 24) pkg.toNat a :=
      if_neg fun h => by rw [h1] at h; exact absurd h.1 (by decide)
    have hrec : (s.received pkg.toNat 5 24).rec_ = s.rec_ := hr.reads State.rec_ fun _ => rfl
    have hclk : (s.received pkg.toNat 5 24).clk = s.clk := hr.reads State.clk fun _ => rfl
    rw [h0, lateRecorded, if_pos h1]
    refine traced_recorded (event_recorded (t := acknowledged (s.received pkg.toNat 5 24) pkg.toNat a) (State.gt_of_clk hclk) ?_ ?_ rfl ..) ..
    · show _ < (s.received pkg.toNat 5 24).rec_.ports.length
      rw [hrec, h16]
      decide
    · show _ ≤ (nth (s.received pkg.toNat 5 24).rec_.ports _).lost
      rw [hrec]

/-! ## A cap that is not met (08 R216) -/

theorem exec_capUnmet {s : State} (hu : 400 ≤ s.op.unmet) (ho : s.isOwner = true) (hr : s.restarting 4 = false) (hd : ∀ g, s.op.unmetGt = some g → g + secs 1 ≤ s.gt) :
    ∃ pl, exec .capUnmet s = .next ((s.onOp fun o => { o with unmetGt := some s.gt }).event .fp1 0x0407 2 0 pl) := by
  show ∃ pl, execCapUnmet s = _
  cases hg : s.op.unmetGt with
  | none => simp only [execCapUnmet, hg, hu, ho, hr, decide_true, Bool.not_false, Bool.and_self, if_true]; exact ⟨_, rfl⟩
  | some g =>
    have hs : s.since g (secs 1) = true := decide_eq_true (hd g hg)
    simp only [execCapUnmet, hg, hu, ho, hr, hs, decide_true, Bool.not_false, Bool.and_self, if_true]
    exact ⟨_, rfl⟩

theorem capUnmet_completes {s : State} (h16 : s.rec_.ports.length = 16) (hu : 400 ≤ s.op.unmet) (ho : s.isOwner = true) (hr : s.restarting 4 = false)
    (hd : ∀ g, s.op.unmetGt = some g → g + secs 1 ≤ s.gt) :
    Completes .capUnmet s fun t => t.op = { s.op with unmetGt := some s.gt } ∧ Recorded s t .fp1 0x0407 2 ∧ Within [.op, .rec_] s t := by
  obtain ⟨pl, he⟩ := exec_capUnmet hu ho hr hd
  have hw : Within [.op, .rec_] s (s.onOp fun o => { o with unmetGt := some s.gt }) := rfl
  have hn : EvPort.fp1.num < (s.onOp fun o => { o with unmetGt := some s.gt }).rec_.ports.length := h16 ▸ (by decide : EvPort.fp1.num < 16)
  exact ⟨_, he, State.event_op .., event_recorded (t := s.onOp _) rfl hn (Nat.le_refl _) rfl .., hw.trans ((event_within_rec _ _ _ _ (by decide) _).mono rfl)⟩

/-- Within a second of the last record, nothing happens. -/
theorem exec_capUnmet_recent {s : State} {g : Nat} (hg : s.op.unmetGt = some g) (hl : s.gt < g + secs 1) : exec .capUnmet s = .next s := by
  have hs : s.since g (secs 1) = false := decide_eq_false (Nat.not_le.mpr hl)
  show execCapUnmet s = _
  simp [execCapUnmet, hg, hs]

/-! ## The alert throttle (08 R225-R227) -/

/-- The alert line is noted as low. -/
def alertNoted (s : State) (k : Nat) : State := s.onOp fun o => { o with alertLow := o.alertLow ||| (1#16 <<< k) }

/-- An enabled alert pulls TRAY_SLOW_N and begins the throttle anew (08 R225). -/
def throttled (s : State) (k : Nat) : State :=
  { s with
    op := { s.op with
      throttle := .waitHigh, highSince := none, faster := none, slow := true, slowNet := true
      slowGt := if s.op.slow then s.op.slowGt else s.gt
      alertSay := if !s.op.slow ∨ s.op.alertSay ≠ 0 then s.op.alertSay ||| (1#16 <<< k) else 0 }
    upd := { s.upd with lastAlert := some s.gt }
    phase := { s.phase with slowInTick := true } }

theorem exec_vrAlertFall {s : State} {line : U8} (h : line.toNat < 16) :
    exec (.vrAlertFall line) s = .next (if s.op.alertMask.getLsbD line.toNat = true then throttled (alertNoted s line.toNat) line.toNat else alertNoted s line.toNat) := by
  have he : exec (.vrAlertFall line) s = .next (if (!s.op.alertMask.getLsbD line.toNat) = true then alertNoted s line.toNat else _) := congrArg Host.Outcome.next (if_pos h)
  rw [he]
  cases s.op.alertMask.getLsbD line.toNat
  · rfl
  · cases hs : s.op.slow <;> simp [throttled, alertNoted, State.onOp, hs]

theorem vrAlertFall_completes {s : State} {line : U8} (h : line.toNat < 16) :
    Completes (.vrAlertFall line) s fun t =>
      t.op.alertLow = s.op.alertLow ||| (1#16 <<< line.toNat) ∧ t.op.armed = s.op.armed ∧ t.sage = s.sage ∧ Within [.op, .upd, .phase] s t ∧
      (s.op.alertMask.getLsbD line.toNat = true → t.traySlow = true ∧ t.op.slow = true ∧ t.op.throttle = .waitHigh ∧ t.op.faster = none ∧ (s.op.slow = false → t.op.slowGt = s.gt)) ∧
      (s.op.alertMask.getLsbD line.toNat = false → t = { s with op := { s.op with alertLow := s.op.alertLow ||| (1#16 <<< line.toNat) } }) := by
  refine ⟨_, exec_vrAlertFall h, ?_⟩
  cases hm : s.op.alertMask.getLsbD line.toNat with
  | false => exact ⟨rfl, rfl, rfl, rfl, nofun, fun _ => rfl⟩
  | true =>
    refine ⟨rfl, rfl, rfl, rfl, fun _ => ⟨rfl, rfl, rfl, rfl, fun hs => ?_⟩, nofun⟩
    show (if s.op.slow then s.op.slowGt else s.gt) = s.gt
    rw [hs, if_neg Bool.false_ne_true]

theorem exec_throttleReleaseStart {s : State} {g : Nat} (hw : s.op.throttle = .waitHigh) (hs : s.op.highSince = some g) :
    exec .throttleReleaseStart s = .next (
      if s.gt < g + 999 then s else if s.isOwner = false then s.throttleEnds else (s.onOp fun o => { o with throttle := .volts }).releaseStep) := by
  show execThrottleReleaseStart s = _
  simp only [execThrottleReleaseStart, hw, hs, State.since, beq_self_eq_true, Bool.true_and, decide_eq_true_eq, Bool.not_eq_true', ← Nat.not_lt, ite_not]

/-- With every enabled line high for 1,000 ticks the STANDBY releases, and the OWNER goes on (08 R226 steps 1 and 2). -/
theorem throttleReleaseStart_completes {s : State} {g : Nat} (hw : s.op.throttle = .waitHigh) (hs : s.op.highSince = some g) :
    Completes .throttleReleaseStart s fun t =>
      if s.gt < g + 999 then t = s
      else if s.isOwner = false then t = { s with op := { s.op with throttle := .none, slow := false } }
      else t.op.slow = s.op.slow ∧ (t.op.throttle = .volts ∨ ∃ q, t.op.throttle = .acks q ∧ t.op.chgSeq = q ∧ t.op.lastSent = some s.op.ceil) := by
  refine ⟨_, exec_throttleReleaseStart hw hs, ?_⟩
  split
  · rfl
  · split
    · rename_i ho
      exact throttleEnds_standby ho
    · exact releaseStep_op (s := s.onOp fun o => { o with throttle := .volts }) rfl

/-- The packages in ACC_ON that still owe an acknowledgement of the release's change (08 R226 step 4). -/
def owing (s : State) (q : Nat) : BitVec 8 :=
  match s.op.armed.find? fun a => a.seq == q with
  | some a => a.pkgs &&& ~~~a.acked &&& s.onSet
  | none => 0

theorem exec_throttleRelease {s : State} {q : Nat} (hq : s.op.throttle = .acks q) (ho : s.isOwner = true) :
    exec .throttleRelease s = .next (if owing s q = 0 then s.throttleEnds else s) := by
  show execThrottleRelease s = _
  simp only [execThrottleRelease, hq, ho, Bool.true_and, beq_iff_eq]
  rfl

theorem owing_none {s : State} {q : Nat} (h : ∀ a ∈ s.op.armed, a.seq = q → a.pkgs &&& ~~~a.acked &&& s.onSet = 0) : owing s q = 0 := by
  unfold owing
  split
  · rename_i a ha
    have hq : (a.seq == q) = true := List.find?_some (p := fun a : ArmedChange => a.seq == q) ha
    exact h a (List.mem_of_find?_eq_some ha) (beq_iff_eq.mp hq)
  · rfl

theorem owing_some {s : State} {q : Nat} {a : ArmedChange} (h : s.op.armed.find? (fun a => a.seq == q) = some a) : owing s q = a.pkgs &&& ~~~a.acked &&& s.onSet := by
  unfold owing
  rw [h]

end Sys2Proof.Proofs
end

section
/-! SUPPORT. The control tick: what it measures, what its engine leaves alone, and the ceilings that it forms. -/

namespace Sys2Proof.Proofs

open Sys2Proof Sys2Proof.Machine

/-! ## What precedes the cap loop (08 R213, 09 R231, 10 R268) -/

theorem thermalTick_outward (s : State) : Outward [.cool, .rec_, .trace] s s.thermalTick := by
  unfold State.thermalTick State.thTraced
  refine .guard ?_
  have hc : Outward [.cool, .rec_, .trace] s (s.onCool fun c => { c.formTh s.op.pNow s.hot with thermGt := some s.gt }) := ⟨rfl, rfl, rfl⟩
  split
  · exact hc
  · exact hc.trans (traced_outward ..)

section Engine

variable (s : State)

theorem learnOne_outward (n : Nat) (phi adjMw pw : Int) (clean : Bool) : Outward [.phase, .rec_, .trace] s (s.learnOne n phi adjMw pw clean) := by
  unfold State.learnOne
  dsimp only
  have hp : Outward [.phase, .rec_, .trace] s { s with phase := (s.phase.learn n phi adjMw pw clean).1 } := ⟨rfl, rfl, rfl⟩
  split
  · exact hp.trans (traced_outward ..)
  · exact hp

theorem learnTick_outward : Outward [.phase, .rec_, .trace] s s.learnTick := .foldl (fun s n => learnOne_outward s n _ _ _ _) _ s

theorem onPhase_outward {ps : List Part} (f : PhaseState → PhaseState) (hp : among [.phase] ps = true := by rfl) : Outward ps s (s.onPhase f) :=
  Outward.mono (ps := [.phase]) ⟨rfl, rfl, rfl⟩ hp

theorem onSlot_outward {ps : List Part} (k : Nat) (f : ModelSlot → ModelSlot) (hp : among [.phase] ps = true := by rfl) : Outward ps s (s.onSlot k f) :=
  Outward.mono (ps := [.phase]) ⟨rfl, rfl, rfl⟩ hp

theorem marker_outward (slot action : Nat) : Outward [.pair, .phase] s (s.marker slot action) := (onPhase_outward ..).trans (mirrored_outward ..)

theorem startModel_outward (k : Nat) : Outward [.pair, .phase, .rec_, .upd] s (s.startModel k) :=
  ((onSlot_outward ..).trans (onPhase_outward ..)).trans ((event_outward ..).trans ((marker_outward ..).mono rfl))

theorem stopModel_outward (k cause : Nat) : Outward [.pair, .phase, .rec_, .upd] s (s.stopModel k cause) :=
  ((onSlot_outward ..).trans (onPhase_outward ..)).trans ((event_outward ..).trans ((marker_outward ..).mono rfl))

theorem modelActions_outward : Outward [.pair, .phase, .rec_, .upd] s s.modelActions := by
  refine .foldl (fun s k => ?_) _ s
  dsimp only
  split
  · exact stopModel_outward ..
  · split
    · exact startModel_outward ..
    · exact onSlot_outward ..

theorem beginRun_outward : Outward [.phase, .rec_, .trace] s s.beginRun := by
  unfold State.beginRun
  refine .trans (.trans ?_ (onPhase_outward ..)) (.foldl (fun s k => traced_outward ..) _ _)
  refine .guard ?_
  exact (onPhase_outward ..).trans (traced_outward ..)

theorem engineTick_outward : Outward [.pair, .phase, .rec_, .trace, .upd] s s.engineTick := by
  unfold State.engineTick
  refine .trans (.trans ?_ (mirrored_outward ..)) ((beginRun_outward _).mono rfl)
  exact (((learnTick_outward s).mono rfl).trans ((modelActions_outward _).mono rfl)).trans (onPhase_outward ..)

end Engine

/-! ## The cap loop and the ceiling (08 R210, R215, R224) -/

/-- CAPL sends again what it owes after a takeover (08 R224). -/
def owedSent (s : State) : State := if s.op.resendDue ∧ s.isOwner then (s.onOp fun o => { o with resendDue := false }).resendChanges else s

theorem resendChanges_outward (s : State) : Outward [.link, .pair] s s.resendChanges := .foldl (fun s a => sendTo_outward s a _) _ s

theorem owedSent_outward (s : State) : Outward [.link, .op, .pair] s (owedSent s) :=
  .guard ((onOp_outward ..).trans ((resendChanges_outward _).mono rfl))

theorem owedSent_op (s : State) : ∃ b, (owedSent s).op = { s.op with resendDue := b } := by
  unfold owedSent
  split
  · exact ⟨false, (resendChanges_outward _).reads State.op fun _ => rfl⟩
  · exact ⟨_, rfl⟩

theorem caplRuns_congr {ps : List Part} {s t : State} (h : Outward ps s t) (hc : ps.contains .comps = false) (hp : ps.contains .procs = false) : t.caplRuns = s.caplRuns := by
  have hcomps : t.comps = s.comps := h.reads State.comps fun u => by simp only [State.without, hc]; rfl
  have hprocs : t.procs = s.procs := h.reads State.procs fun u => by simp only [State.without, hp]; rfl
  unfold State.caplRuns State.isOwner State.restarting
  rw [h.role, hcomps, hprocs]

/-- The cap loop follows the needed P-state, or one step slower (08 R215). -/
def followed (s : State) : OpState := s.op.follow (if s.op.slower = true then min 31 (s.neededP + 1) else s.neededP)

theorem capLoop_op (s : State) : ∃ a b c d, s.capLoop.op = { followed s with unmet := a, unmetGt := b, unmetCap := c, predMw := d } := by
  unfold State.capLoop
  dsimp only
  rw [apply_ite State.op, State.mirrored_op, ite_self]
  exact ⟨_, _, _, _, rfl⟩

/-- What the rest of a control tick leaves as the cap loop and the ceiling left it. -/
def ceilings (o : OpState) : Option Nat × Nat × Nat × List Nat := (o.ctlGt, o.capCeil, o.ceil, o.contrib)

theorem budgetCheck_ceilings (s : State) : ceilings s.budgetCheck.op = ceilings s.op := by
  have h : ∀ (l : List (Nat × Int)) (f : State → Nat × Int → List Byte), (l.foldl (fun s x => s.event .fp1 0x0406 1 x.1 (f s x)) s).op = s.op := fun l f =>
    (Outward.foldl (ps := [.rec_, .upd]) (fun s x => event_outward s ..) l s).reads State.op fun _ => rfl
  have hs : ∀ (t : State) (b : Bool), ceilings (t.onOp fun o => { o with slower := b }).op = ceilings t.op := fun _ _ => rfl
  unfold State.budgetCheck
  dsimp only
  rw [hs]
  exact congrArg ceilings (h _ fun s x => i1 x.1 ++ i4s x.2 ++ i4 (s.budgetOf x.1))

theorem formCeiling_op (s : State) : ∃ c, s.formCeiling.op = { s.op with contrib := s.contributors, ceil := min 31 (s.contributors.foldl max 0), classCeil := c } := by
  unfold State.formCeiling
  dsimp only
  split
  · rw [State.mirrored_op, State.traced_op]
    exact ⟨_, rfl⟩
  · exact ⟨_, rfl⟩

theorem putInForce_ceilings (s : State) : ceilings s.putInForce.op = ceilings s.op := by
  unfold State.putInForce
  dsimp only
  rw [apply_ite State.op, State.mirrored_op, apply_ite ceilings]
  exact ite_self _

theorem moveVolts_ceilings (s : State) : ceilings s.moveVolts.op = ceilings s.op := by
  obtain ⟨r, m, h⟩ := (moveVolts_moving s).op
  rw [h]
  rfl

theorem sendChange_ceilings (s : State) (p : Nat) : ceilings (s.sendChange p).op = ceilings s.op := by
  rw [sendChange_op]
  rfl

/-- A pending faster change that the ceiling has left behind is dropped (08 R220). -/
def staleDropped (s : State) : State :=
  match s.op.faster with
  | some f => if f.p = s.op.ceil then s else s.onOp fun o => { o with faster := none }
  | none => s

theorem staleDropped_ceilings (s : State) : ceilings (staleDropped s).op = ceilings s.op := by
  unfold staleDropped
  split
  · split <;> rfl
  · rfl

/-- A faster change waits for its voltages, and leaves once they have settled (08 R222). -/
def fasterBegun (s : State) (c : Nat) : State :=
  let s := (s.onOp fun o => { o with faster := some { p := c } }).moveVolts
  let s := s.onOp fun o => { o with faster := some { p := c, waiting := o.raises } }
  if s.settled then s.sendChange c else s

theorem fasterBegun_ceilings (s : State) (c : Nat) : ceilings (fasterBegun s c).op = ceilings s.op := by
  have h : ceilings ((s.onOp fun o => { o with faster := some { p := c } }).moveVolts).op = ceilings s.op := moveVolts_ceilings _
  unfold fasterBegun
  dsimp only
  split
  · exact (sendChange_ceilings _ _).trans h
  · exact h

theorem decideChange_eq (s : State) :
    s.decideChange =
      if s.onSet = 0 then s.onOp fun o => { o with lastSent := some s.op.ceil, faster := none, waiting := none }
      else if !s.maySend then s
      else
        let t := staleDropped s
        if t.op.lastSent = some s.op.ceil then (t.onOp fun o => { o with waiting := none }).moveVolts
        else if t.groupsFull then t.onOp fun o => { o with waiting := some s.op.ceil }
        else if t.op.lastSent.any (· < s.op.ceil) then t.sendChange s.op.ceil
        else if t.op.faster.isSome then t
        else fasterBegun t s.op.ceil := rfl

theorem decideChange_ceilings (s : State) : ceilings s.decideChange.op = ceilings s.op := by
  have ht := staleDropped_ceilings s
  rw [decideChange_eq]
  dsimp only
  split
  · rfl
  split
  · rfl
  split
  · exact (moveVolts_ceilings _).trans ht
  split
  · exact ht
  split
  · exact (sendChange_ceilings _ _).trans ht
  split
  · exact ht
  · exact (fasterBegun_ceilings _ _).trans ht

/-! ## The control tick -/

theorem caplTick_eq (s : State) :
    s.caplTick = if (owedSent s).caplRuns then (((owedSent s).onOp fun o => { o with pe := (owedSent s).phase.latched }).capLoop.budgetCheck.formCeiling.putInForce).decideChange
      else owedSent s := rfl

/-- The needed P-state looks at the feeds, the limits and the operating point, and there not at what CAPL owes or at the engine's requests. -/
theorem neededP_congr {ps : List Part} {s t : State} (h : Within ps s t) (hf : ps.contains .feed = false) (hg : ps.contains .sage = false) {b : Bool} {p : List (Option Int)}
    (ho : t.op = { s.op with resendDue := b, pe := p }) : t.neededP = s.neededP := by
  have hfeed : t.feed = s.feed := h.reads State.feed fun u => by simp only [State.without, hf]; rfl
  have hsage : t.sage = s.sage := h.reads State.sage fun u => by simp only [State.without, hg]; rfl
  have hread : ∀ u : State, u.neededP = ({ ({} : State) with feed := u.feed, sage := u.sage, op := u.op } : State).neededP := fun _ => rfl
  rw [hread t, hread s, hfeed, hsage, ho]
  rfl

theorem follow_ctlGt (o : OpState) (q : Nat) : (o.follow q).ctlGt = o.ctlGt := by
  unfold OpState.follow
  split_ifs <;> rfl

theorem follow_capCeil_congr (o : OpState) (b : Bool) (p : List (Option Int)) (q : Nat) : ({ o with resendDue := b, pe := p } : OpState).follow q = { o.follow q with resendDue := b, pe := p } := by
  unfold OpState.follow
  dsimp only
  split_ifs <;> rfl

theorem followed_congr {ps : List Part} {s t : State} (h : Within ps s t) (hf : ps.contains .feed = false) (hg : ps.contains .sage = false) {b : Bool} {p : List (Option Int)}
    (ho : t.op = { s.op with resendDue := b, pe := p }) : followed t = { followed s with resendDue := b, pe := p } := by
  unfold followed
  rw [neededP_congr h hf hg ho, ho, follow_capCeil_congr]

/-- Forming the ceiling, putting it in force and acting on it leave the ceiling formed (08 R210). -/
theorem ceiling_formed (v : State) :
    let o := v.formCeiling.putInForce.decideChange.op
    o.ctlGt = v.op.ctlGt ∧ o.capCeil = v.op.capCeil ∧ o.ceil = min 31 (o.contrib.foldl max 0) ∧ o.contrib.length = 6 ∧ nth o.contrib 3 = o.capCeil := by
  obtain ⟨_, hf⟩ := formCeiling_op v
  have h := (decideChange_ceilings _).trans (putInForce_ceilings v.formCeiling)
  rw [hf] at h
  simp only [ceilings, Prod.mk.injEq] at h
  obtain ⟨hg, hcap, hceil, hcon⟩ := h
  dsimp only
  rw [hg, hcap, hceil, hcon]
  exact ⟨rfl, rfl, rfl, rfl, rfl⟩

/-- The cap loop and the budget check (08 R215, R217). -/
theorem capLoop_checked (v : State) : v.capLoop.budgetCheck.op.ctlGt = v.op.ctlGt ∧ v.capLoop.budgetCheck.op.capCeil = (followed v).capCeil := by
  obtain ⟨_, _, _, _, hl⟩ := capLoop_op v
  have h := budgetCheck_ceilings v.capLoop
  rw [hl] at h
  simp only [ceilings, Prod.mk.injEq] at h
  obtain ⟨hg, hcap, -, -⟩ := h
  exact ⟨hg.trans (follow_ctlGt ..), hcap⟩

/-- What CAPL leaves at a boundary: the ceiling of the cap loop, and the highest of the six contributors. -/
theorem caplTick_ceilings {s : State} (h : s.caplRuns = true) :
    s.caplTick.op.ctlGt = s.op.ctlGt ∧ s.caplTick.op.capCeil = (followed s).capCeil ∧ s.caplTick.op.ceil = min 31 (s.caplTick.op.contrib.foldl max 0) ∧
      s.caplTick.op.contrib.length = 6 ∧ nth s.caplTick.op.contrib 3 = s.caplTick.op.capCeil := by
  have hw := owedSent_outward s
  have hr : (owedSent s).caplRuns = true := (caplRuns_congr hw rfl rfl).trans h
  obtain ⟨b, hb⟩ := owedSent_op s
  rw [caplTick_eq, if_pos hr]
  have hf := followed_congr (s := s) (t := (owedSent s).onOp fun o => { o with pe := (owedSent s).phase.latched }) (hw.trans (onOp_outward ..)).within rfl rfl
    (b := b) (p := (owedSent s).phase.latched) (by rw [State.onOp, hb])
  obtain ⟨hg, hcap, hceil, hlen, hnth⟩ := ceiling_formed ((owedSent s).onOp fun o => { o with pe := (owedSent s).phase.latched }).capLoop.budgetCheck
  obtain ⟨hg', hcap'⟩ := capLoop_checked ((owedSent s).onOp fun o => { o with pe := (owedSent s).phase.latched })
  refine ⟨hg.trans (hg'.trans ?_), hcap.trans (hcap'.trans ?_), hceil, hlen, hnth⟩
  · show (owedSent s).op.ctlGt = _
    rw [hb]
  · rw [hf]

theorem measureTick_outward (s : State) : Outward [.op, .phase] s s.measureTick := by
  unfold State.measureTick
  dsimp only
  split
  · exact ⟨rfl, rfl, rfl⟩
  · exact ⟨rfl, rfl, rfl⟩

theorem measureTick_ctlGt (s : State) : s.measureTick.op.ctlGt = some s.gt := by
  unfold State.measureTick
  dsimp only
  split <;> rfl

/-- At a control tick boundary the engine runs before CAPL at the OWNER (08 R213, 09 R231). -/
theorem exec_controlTick {s : State} (hl : s.sage.everLocked = true) (hg : s.gt % 50 = 0) (hn : s.op.ctlGt ≠ some s.gt) (hr : s.firmwareRuns = true)
    (ho : s.thermalTick.isOwner = true) : exec .controlTick s = .next s.thermalTick.measureTick.engineTick.freshTick.caplTick := by
  have hw := thermalTick_outward s
  have hclk : s.thermalTick.clk = s.clk := hw.reads State.clk fun _ => rfl
  have hop : s.thermalTick.op = s.op := hw.reads State.op fun _ => rfl
  have hm : s.thermalTick.measureTick.isOwner = true := by
    unfold State.isOwner at ho ⊢
    rw [(measureTick_outward s.thermalTick).role]
    exact ho
  have hfw : s.thermalTick.firmwareRuns = true := by
    unfold State.firmwareRuns at hr ⊢
    rw [hclk]
    exact hr
  show execControlTick s = _
  unfold execControlTick
  dsimp only
  rw [if_pos hl, if_pos ⟨by rw [State.gt, hclk]; exact hg, by rw [hop, State.gt, hclk]; exact hn, hfw⟩, if_pos hm]

theorem exec_controlTick_off {s : State} (hg : s.gt % 50 ≠ 0) : exec .controlTick s = .next s := by
  have ht : s.thermalTick = s := if_neg fun h => hg h.1
  show execControlTick s = _
  unfold execControlTick
  rw [ht, ite_self]
  exact congrArg Host.Outcome.next (if_neg fun h => hg h.1)

/-- At an unworked boundary the cap ceiling follows the measures of the tick just ended, and the combined ceiling is formed (08 R210, R215). -/
theorem controlTick_completes {s : State} (hl : s.sage.everLocked = true) (hg : s.gt % 50 = 0) (hn : s.op.ctlGt ≠ some s.gt) (hr : s.firmwareRuns = true)
    (hc : s.thermalTick.caplRuns = true) :
    Completes .controlTick s fun t =>
      t.op.ctlGt = some s.gt ∧ t.op.capCeil = (followed s.thermalTick.measureTick).capCeil ∧
      t.op.ceil = min 31 (t.op.contrib.foldl max 0) ∧ t.op.contrib.length = 6 ∧ nth t.op.contrib 3 = t.op.capCeil := by
  have ho : s.thermalTick.isOwner = true := (Bool.and_eq_true_iff.mp hc).1
  refine ⟨_, exec_controlTick hl hg hn hr ho, ?_⟩
  have hm := measureTick_outward s.thermalTick
  have hgt : s.thermalTick.measureTick.op.ctlGt = some s.gt := (measureTick_ctlGt _).trans (congrArg some ((thermalTick_outward s).reads State.gt fun _ => rfl))
  generalize s.thermalTick.measureTick = u at hm hgt ⊢
  have hf : Outward [.pair, .phase, .rec_, .trace, .upd] u u.engineTick.freshTick := (engineTick_outward u).trans (onPhase_outward ..)
  have hcapl : u.engineTick.freshTick.caplRuns = true := (caplRuns_congr hf rfl rfl).trans ((caplRuns_congr hm rfl rfl).trans hc)
  have hop : u.engineTick.freshTick.op = u.op := hf.reads State.op fun _ => rfl
  obtain ⟨hg', hcap, hceil, hlen, hnth⟩ := caplTick_ceilings hcapl
  refine ⟨hg'.trans ((congrArg OpState.ctlGt hop).trans hgt), hcap.trans ?_, hceil, hlen, hnth⟩
  rw [followed_congr hf.within rfl rfl (b := u.op.resendDue) (p := u.op.pe) hop]

/-- Settles O31, from what each command of the operating point does. -/
theorem changesAndThrottle : Obligations.changes_and_throttle := fun s h16 _ _ =>
  ⟨fun hg => ⟨s, exec_controlTick_off hg, rfl⟩, fun hl hg hn hr hc => controlTick_completes hl hg hn hr hc, fun _ hf => fasterChangeSend_completes hf,
    fun _ _ _ _ _ hp hh ha => pstateAck_completes h16 hp hh ha,
    fun hu ho hr => ⟨capUnmet_completes h16 hu ho hr, fun _ hg hl => ⟨s, exec_capUnmet_recent hg hl, rfl⟩⟩,
    fun _ h => vrAlertFall_completes h, fun _ hw hs => throttleReleaseStart_completes hw hs,
    fun q hq ho => ⟨fun h => ⟨_, exec_throttleRelease hq ho, by rw [if_pos (owing_none h)]; exact throttleEnds_owner ho h16⟩,
      fun a ha hne => ⟨_, exec_throttleRelease hq ho, if_neg (owing_some ha ▸ hne)⟩⟩⟩

end Sys2Proof.Proofs
end

section
/-! SUPPORT. The tick of the always-on domain (01 R29), one evaluation after the other. -/

namespace Sys2Proof.Proofs

open Sys2Proof Sys2Proof.Machine

section

variable {ps : List Part} (s : State)

theorem tracedAt_outward (gt point source arg : Nat) (hp : among [.rec_, .trace] ps = true := by rfl) : Outward ps s (s.tracedAt gt point source arg) := by
  refine .mono (ps := [.rec_, .trace]) (.beside ?_ rfl rfl) hp
  unfold State.tracedAt
  split
  · dsimp only
    generalize s.trace.capture gt s.link.topStep point source arg = c
    obtain ⟨q, t, h⟩ := State.drainTrace_only { s with trace := { c.1 with buffer := c.1.buffer ++ c.2.toList } }
    rw [h]
    rfl
  · exact .refl s

theorem onCool_outward (f : CoolState → CoolState) (hp : among [.cool] ps = true := by rfl) : Outward ps s (s.onCool f) :=
  Outward.mono (ps := [.cool]) ⟨rfl, rfl, rfl⟩ hp

theorem onSage_outward (f : SageState → SageState) (hp : among [.sage] ps = true := by rfl) : Outward ps s (s.onSage f) :=
  Outward.mono (ps := [.sage]) ⟨rfl, rfl, rfl⟩ hp

/-! ## The feeds' evaluation (05 R120, R139) -/

theorem enterInrush_outward (x : Nat) : Outward [.feed, .rec_, .trace] s (s.enterInrush x) := by
  unfold State.enterInrush
  dsimp only
  split
  · exact .refl s
  · have hf (f : Feed → Feed) : Outward [.feed, .rec_, .trace] s (s.onFeed x f) := ⟨rfl, rfl, rfl⟩
    split
    · exact (hf _).trans (traced_outward ..)
    · exact hf _

end

/-- Only the feeds and what their evaluation touches differ; the pair's standing and the view of the conditions are as they were. -/
structure Viewing (s t : State) : Prop where
  outward : Outward [.feed, .pair, .rec_, .thyme, .trace] s t
  view : t.thyme.view = s.thyme.view

namespace Viewing

theorem refl (s : State) : Viewing s s := ⟨.refl s, rfl⟩

theorem trans {s t u : State} (h : Viewing s t) (h' : Viewing t u) : Viewing s u := ⟨h.outward.trans h'.outward, h'.view.trans h.view⟩

theorem guard {s t : State} {p : Prop} [Decidable p] (h : Viewing s t) : Viewing s (if p then t else s) := by
  split
  · exact h
  · exact refl s

end Viewing

theorem enterInrush_viewing (s : State) (x : Nat) : Viewing s (s.enterInrush x) :=
  have h := enterInrush_outward s x
  ⟨h.mono rfl, congrArg ThymeState.view (h.reads State.thyme fun _ => rfl)⟩

theorem feedsSettle_viewing (s : State) : Viewing s s.feedsSettle := by
  unfold State.feedsSettle
  dsimp only
  have hi : Viewing s (if s.feed.demand = true then (s.enterInrush 0).enterInrush 1 else s) := .guard ((enterInrush_viewing s 0).trans (enterInrush_viewing _ 1))
  refine hi.trans ?_
  generalize (if s.feed.demand = true then (s.enterInrush 0).enterInrush 1 else s) = t
  split
  · split
    · exact ⟨⟨rfl, rfl, rfl⟩, rfl⟩
    · split
      · exact ⟨⟨rfl, rfl, rfl⟩, rfl⟩
      · exact .refl _
  · exact .refl _

/-- The feeds as the tick leaves them: fallen where the comparator crossed, then forced, armed and sampled. -/
def feedsTicked (s : State) (cmpMv : List Nat) : State :=
  s.onFeeds fun c => { c with
    feeds := c.feeds.mapIdx fun x f => (if nth c.onFalls x then { f with onReleased := false } else f).ticked (nth cmpMv x)
    onFalls := [false, false] }

/-- No off of the tick before stands against an on. -/
def offsForgotten (s : State) : State := s.onThyme fun t => { t with offsNow := [] }

/-- A FORCE_OFF that waited for the tick ends the sharing of the feeds (05 R139). -/
def forcesTaken (s : State) (cmpMv : List Nat) : State :=
  if s.feed.feeds.any Feed.forceDue then ((feedsTicked s cmpMv).onFeeds FeedState.shareOff).mirrored .tray else feedsTicked s cmpMv

/-- The feeds settle where one was forced off, or where one in OFF is asked for. -/
def settledAfter (forced : Bool) (s : State) : State := if forced || (s.feed.demand && s.feed.feeds.any fun f => f.reported == .off) then s.feedsSettle else s

theorem feedTick_steps (s : State) (cmpMv : List Nat) : s.feedTick cmpMv = offsForgotten (settledAfter (s.feed.feeds.any Feed.forceDue) (forcesTaken s cmpMv)) := rfl

theorem feedTick_viewing (s : State) (cmpMv : List Nat) : Viewing s (s.feedTick cmpMv) := by
  have hn : Viewing s (feedsTicked s cmpMv) := ⟨⟨rfl, rfl, rfl⟩, rfl⟩
  have hs (t : State) : Viewing t (t.onFeeds FeedState.shareOff) := ⟨⟨rfl, rfl, rfl⟩, rfl⟩
  have hm (t : State) : Viewing t (t.mirrored .tray) := ⟨mirrored_outward .., congrArg ThymeState.view (State.mirrored_thyme ..)⟩
  have ho (t : State) : Viewing t (offsForgotten t) := ⟨⟨rfl, rfl, rfl⟩, rfl⟩
  have hf : Viewing s (forcesTaken s cmpMv) := hn.trans (.guard ((hs _).trans (hm _)))
  rw [feedTick_steps]
  exact (hf.trans (.guard (feedsSettle_viewing _))).trans (ho _)

theorem feedTick_offsNow (s : State) (cmpMv : List Nat) : (s.feedTick cmpMv).thyme.offsNow = [] := rfl

theorem feedTick_eq {s : State} (hd : s.feed.demand = false) (hf : s.feed.feeds.any Feed.forceDue = false) (cmpMv : List Nat) :
    s.feedTick cmpMv = offsForgotten (feedsTicked s cmpMv) := by
  have hd' : (feedsTicked s cmpMv).feed.demand = false := hd
  simp [feedTick_steps, forcesTaken, settledAfter, hf, hd']

theorem nth_mapIdx {α β : Type} [Inhabited α] [Inhabited β] {l : List α} {i : Nat} (h : i < l.length) (f : Nat → α → β) : nth (l.mapIdx f) i = f i (nth l i) := by
  simp [nth, h]

theorem nth_map_range {α : Type} [Inhabited α] {k n : Nat} (h : n < k) (f : Nat → α) : nth ((List.range k).map f) n = f n := by
  simp [nth, h]

/-- A feed that no FORCE_OFF waits for falls, is armed by its state, and is sampled (05 R120, R139). -/
theorem feedsTicked_feedAt {s : State} (hf : s.feed.feeds.any Feed.forceDue = false) {x : Nat} (h : x < s.feed.feeds.length) (cmpMv : List Nat) :
    (feedsTicked s cmpMv).feedAt x = { s.feedAt x with onReleased := (s.feedAt x).onReleased && !nth s.feed.onFalls x, armed := (s.feedAt x).live, cmpMv := nth cmpMv x } := by
  have hd : (s.feedAt x).forceDue = false := by
    have hm : s.feedAt x ∈ s.feed.feeds := by
      unfold State.feedAt nth
      rw [List.getD_eq_getElem _ _ h]
      exact List.getElem_mem h
    exact eq_false_of_ne_true (List.any_eq_false.mp hf _ hm)
  show nth (s.feed.feeds.mapIdx _) x = _
  rw [nth_mapIdx h]
  change (if nth s.feed.onFalls x = true then { s.feedAt x with onReleased := false } else s.feedAt x).ticked (nth cmpMv x) = _
  unfold Feed.ticked
  cases nth s.feed.onFalls x <;> simp [hd, Feed.live]

/-! ## Immediate-offs and the cooling (07 R192, 10) -/

theorem offTick_outward (s : State) : Outward [.rec_, .sage, .trace] s s.offTick :=
  .foldl (α := OffRun) (fun s _ => (onSage_outward s _).trans (traced_outward ..)) _ s

theorem offTick_everLocked (s : State) : s.offTick.sage.everLocked = s.sage.everLocked := by
  refine foldl_within (R := fun s t : State => t.sage.everLocked = s.sage.everLocked) (α := OffRun) (fun _ => rfl) (fun h h' => Eq.trans h' h) (fun s o => ?_) _ s
  rw [State.traced_sage]
  rfl

theorem offTick_none {s : State} (h : s.sage.offs = []) : s.offTick = s := by
  unfold State.offTick
  rw [h]
  rfl

/-- What the cooling's tick may change. -/
abbrev coolParts : List Part := [.cool, .pair, .rec_, .trace]

theorem refreshSensors_outward (s : State) : Outward coolParts s s.refreshSensors :=
  .trans (.foldl (α := Nat) (fun s _ => traced_outward s ..) _ s) (onCool_outward _ fun c => { c with sensors := c.sensors.mapIdx _ })

theorem pwmTick_outward (s : State) : Outward coolParts s s.pwmTick := by
  unfold State.pwmTick
  split
  · exact onCool_outward ..
  · exact onCool_outward ..
  · exact .refl s

theorem dutyTick_outward (s : State) : Outward coolParts s s.dutyTick := by
  unfold State.dutyTick
  refine (pwmTick_outward s).trans ?_
  dsimp only
  split
  · exact .refl _
  · refine .trans (onCool_outward ..) (.guard (mirrored_outward ..))

theorem valveTick_outward (s : State) : Outward coolParts s s.valveTick := by
  unfold State.valveTick
  dsimp only
  refine .trans (onCool_outward ..) (.foldl (fun s v => ?_) _ _)
  split
  · exact .refl s
  · exact (onCool_outward ..).trans (traced_outward ..)

theorem pressTick_outward (s : State) (press : List (List Nat)) : Outward coolParts s (s.pressTick press) := by
  unfold State.pressTick
  refine .guard ?_
  dsimp only
  split
  · exact (onCool_outward ..).trans (onCool_outward ..)
  · exact onCool_outward ..

theorem superviseFlow_outward (s : State) : Outward coolParts s s.superviseFlow := by
  unfold State.superviseFlow
  split
  · exact onCool_outward ..
  · split <;> exact onCool_outward ..

theorem coolTick_outward (s : State) (press : List (List Nat)) : Outward coolParts s (s.coolTick press) :=
  (((((refreshSensors_outward s).trans (onCool_outward ..)).trans (dutyTick_outward _)).trans (valveTick_outward _)).trans (pressTick_outward _ press)).trans (superviseFlow_outward _)

/-! ## The arbiter's own tick (08 R213, R225) -/

/-- What the arbiter's tick notes of TRAY_SLOW_N and the alert lines. -/
def pulls (o : OpState) : Bool × BitVec 16 × Nat × Nat × Option Nat := (o.slowNet, o.alertLow, o.slowUs, o.classCeil, o.highSince)

/-- What was noted of TRAY_SLOW_N and the alert lines stands. -/
structure Noting (s t : State) : Prop where
  outward : Outward [.link, .op, .pair, .phase, .rec_, .sage, .trace, .upd] s t
  pulls : pulls t.op = pulls s.op

namespace Noting

theorem refl (s : State) : Noting s s := ⟨.refl s, rfl⟩

theorem trans {s t u : State} (h : Noting s t) (h' : Noting t u) : Noting s u := ⟨h.outward.trans h'.outward, h'.pulls.trans h.pulls⟩

theorem guard {s t : State} {p : Prop} [Decidable p] (h : Noting s t) : Noting s (if p then t else s) := by
  split
  · exact h
  · exact refl s

theorem foldl {α : Type} {f : State → α → State} (h : ∀ s a, Noting s (f s a)) (l : List α) (s : State) : Noting s (l.foldl f s) := foldl_within refl trans h l s

/-- A change beside the operating point. -/
theorem beside {ps : List Part} {s t : State} (h : Outward ps s t) (hp : among ps [.link, .pair, .phase, .rec_, .sage, .trace, .upd] = true := by rfl) : Noting s t :=
  have h' := h.mono hp
  ⟨h'.mono rfl, congrArg Proofs.pulls (h'.reads State.op fun _ => rfl)⟩

theorem onOp (s : State) (f : OpState → OpState) (h : Proofs.pulls (f s.op) = Proofs.pulls s.op) : Noting s (s.onOp f) := ⟨onOp_outward .., h⟩

theorem ofMoving {s t : State} (h : Moving s t) : Noting s t := by
  obtain ⟨r, m, e⟩ := h.op
  exact ⟨h.outward.mono rfl, by rw [e]; rfl⟩

end Noting

section

variable (s : State)

theorem releaseMoves_noting : Noting s s.releaseMoves := by
  unfold State.releaseMoves
  refine .foldl (α := Nat × Nat) (fun s m => ?_) _ s
  exact .trans (.onOp s (fun o => { o with heldMoves := o.heldMoves.filter fun x => x.1 != m.1 }) rfl) (.beside (issueMove_outward ..))

theorem sendBudgets_noting : Noting s s.sendBudgets := by
  unfold State.sendBudgets
  refine .foldl (α := Nat) (fun s n => ?_) _ s
  exact .trans (.trans (.onOp s (fun o => { o with budgetSent := o.budgetSent.set n (s.budgetOf n) }) rfl) (.beside (skvSend_outward ..))) (.beside (traced_outward (ps := [.rec_, .trace]) ..))

theorem launchChange_noting (a : ArmedChange) : Noting s (s.launchChange a) :=
  ⟨(launchChange_outward_op s a).mono rfl, by rw [launchChange_op]; rfl⟩

theorem nextChange_noting (p : Nat) : Noting s (s.nextChange p).2 :=
  .onOp s (fun o => { o with chgSeq := (s.op.chgSeq + 1) % 2 ^ 32, history := o.history ++ [((s.op.chgSeq + 1) % 2 ^ 32, p)] }) rfl

theorem mirrored_noting (kind : MirKind) : Noting s (s.mirrored kind) := .beside (mirrored_outward (ps := [.pair]) ..)

theorem sendRelease_noting : Noting s s.sendRelease := by
  unfold State.sendRelease
  refine .trans ?_ (mirrored_noting ..)
  refine .trans (nextChange_noting s s.op.ceil) ?_
  dsimp only
  split
  · exact .onOp _ _ rfl
  · exact .trans (.onOp _ _ rfl) (launchChange_noting ..)

theorem releaseStep_noting : Noting s s.releaseStep := .trans (.ofMoving (moveVolts_moving s)) (.guard (sendRelease_noting _))

end

/-- The lines as read, noted. -/
def linesNoted (s : State) (low : Bool) (alertLow : BitVec 16) : State :=
  s.onOp fun o => { o with
    slowNet := low, alertLow := alertLow
    slowUs := if low then satAdd 32 o.slowUs 1 else o.slowUs
    classCeil := if low then 31 else o.ceil
    highSince := if alertLow &&& s.op.alertMask == 0 then some (o.highSince.getD s.gt) else none }

/-- The phase engine learns that the line was low in the tick (09). -/
def slowSeen (low : Bool) (s : State) : State := if low then { s with phase := { s.phase with slowInTick := true } } else s

/-- The fall of an alert line is recorded and traced (08 R225). -/
def alertSaid (s : State) : State :=
  if s.op.alertSay = 0 then s
  else ((s.event .arbiter 0x0401 1 0 (i2 s.op.alertSay.toNat)).onOp fun o => { o with alertSay := 0 }).tracedAt s.op.slowGt 68
    ((indices 16 s.op.alertSay.getLsbD).headD 0) s.op.alertSay.toNat

/-- The change in force goes to a package that enters (08 R220). -/
def changeForEntry (p : Nat) (s : State) (n : Nat) : State := (s.nextChange p).2.launchChange { seq := (s.nextChange p).1, p := p, immediate := true, pkgs := 1#8 <<< n }

/-- No package waits to enter any more. -/
def entriesDone (s : State) : State := (s.onOp fun o => { o with entering := 0 }).mirrored .op

/-- The voltages move for the packages that enter, and once they have settled each gets its change (08 R220). -/
def entriesServed (s : State) : State :=
  if s.op.entering = 0 ∨ s.restarting 4 then s
  else if s.moveVolts.settled then
    entriesDone ((members (s.moveVolts.op.entering &&& s.moveVolts.onSet)).foldl (changeForEntry (s.moveVolts.op.lastSent.getD s.moveVolts.op.ceil)) s.moveVolts)
  else s.moveVolts

/-- The release goes on where it waits for the voltages (08 R226). -/
def releaseContinued (s : State) : State := if s.op.throttle = .volts then s.releaseStep else s

/-- What only the OWNER's arbiter does in its tick. -/
def ownerTick (s : State) : State := releaseContinued (entriesServed s.releaseMoves.sendBudgets)

theorem opTick_steps (s : State) (slowLow : Bool) (alertLow : BitVec 16) :
    s.opTick slowLow alertLow =
      (let t := alertSaid (slowSeen (slowLow || s.op.slow) (linesNoted s (slowLow || s.op.slow) alertLow))
      if !t.isOwner then t else ownerTick t) := rfl

section

variable (s : State)

theorem slowSeen_noting (low : Bool) : Noting s (slowSeen low s) := .guard ⟨⟨rfl, rfl, rfl⟩, rfl⟩

theorem alertSaid_noting : Noting s (alertSaid s) := by
  unfold alertSaid
  split
  · exact .refl s
  · refine .trans ?_ (.beside (tracedAt_outward (ps := [.rec_, .trace]) ..))
    refine .trans ?_ (.onOp _ _ rfl)
    exact .beside (event_outward (ps := [.rec_, .upd]) ..)

theorem changeForEntry_noting (p n : Nat) : Noting s (changeForEntry p s n) := (nextChange_noting s p).trans (launchChange_noting ..)

theorem entriesDone_noting : Noting s (entriesDone s) := .trans (.onOp s _ rfl) (mirrored_noting ..)

theorem entriesServed_noting : Noting s (entriesServed s) := by
  have hv : Noting s s.moveVolts := .ofMoving (moveVolts_moving s)
  unfold entriesServed
  split
  · exact .refl s
  · split
    · exact hv.trans (.trans (.foldl (fun s n => changeForEntry_noting s _ n) _ _) (entriesDone_noting _))
    · exact hv

theorem ownerTick_noting : Noting s (ownerTick s) :=
  ((releaseMoves_noting s).trans (sendBudgets_noting _)).trans ((entriesServed_noting _).trans (.guard (releaseStep_noting _)))

/-- What the tick notes of the lines, the rest of the arbiter's tick leaves standing. -/
theorem opTick_noting (slowLow : Bool) (alertLow : BitVec 16) : Noting (linesNoted s (slowLow || s.op.slow) alertLow) (s.opTick slowLow alertLow) := by
  rw [opTick_steps]
  have h := (slowSeen_noting (linesNoted s (slowLow || s.op.slow) alertLow) (slowLow || s.op.slow)).trans (alertSaid_noting _)
  refine h.trans ?_
  dsimp only
  split
  · exact .refl _
  · exact ownerTick_noting _

end

/-! ## Deliveries, overlays and late answers -/

section

variable (s : State)

/-- An entry of a host queue goes to its package, with the ring where it asks for one (13). -/
def entrySent (q : HostQueue) (s : State) (e : QueueEntry) : State :=
  let t := (s.skvSend q.port 5 (cmdMessage 1 q.num e.qseq e.data)).traced 227 q.num e.qseq
  if e.ring then t.skvSend q.port 5 (cmdMessage 2 q.num e.qseq []) else t

theorem entrySent_outward (q : HostQueue) (e : QueueEntry) : Outward [.link, .pair, .rec_, .trace] s (entrySent q s e) := by
  have h : Outward [.link, .pair, .rec_, .trace] s ((s.skvSend q.port 5 (cmdMessage 1 q.num e.qseq e.data)).traced 227 q.num e.qseq) :=
    ((skvSend_outward ..).mono rfl).trans (traced_outward ..)
  exact h.trans (.guard ((skvSend_outward ..).mono rfl))

theorem deliver_outward (q : HostQueue) : Outward [.link, .pair, .rec_, .trace] s (s.deliver q) := by
  unfold State.deliver
  split
  · exact .refl s
  · have h : Outward [.link, .pair, .rec_, .trace] s ((q.entries.filter fun e => decide (q.delivered < e.qseq)).foldl (entrySent q) s) :=
      .foldl (fun s e => entrySent_outward s q e) _ s
    exact h.trans ⟨rfl, rfl, rfl⟩

theorem deliverAll_outward : Outward [.link, .pair, .rec_, .trace] s s.deliverAll := .foldl deliver_outward _ s

theorem startPush_outward (mask : BitVec 8) (obj : ObjectImage) (content : Option Mem) (overlay : Bool) : Outward [.link, .pair] s (s.startPush mask obj content overlay).2 := by
  unfold State.startPush
  dsimp only
  refine .trans ?_ (.foldl (fun s n => skvSend_outward s n _ _) (members mask) _)
  exact ⟨rfl, rfl, rfl⟩

/-- What pushing an overlay may change. -/
abbrev overlayParts : List Part := [.link, .pair, .rec_, .repro, .upd]

theorem pushOverlays_outward : Outward overlayParts s s.pushOverlays := by
  unfold State.pushOverlays
  refine .foldl (fun s n => ?_) _ s
  split
  next x _ _ =>
    split
    · have h : Outward overlayParts s (s.startPush (1#8 <<< n) x.obj x.content true).2 := (startPush_outward ..).mono rfl
      exact h.trans ⟨rfl, rfl, rfl⟩
    · have h : Outward overlayParts s { s with repro := s.repro.failPush x } := ⟨rfl, rfl, rfl⟩
      exact (h.trans (event_outward ..)).trans (event_outward ..)
  next => exact .refl s

end

/-- Only the mailbox side differs, and every batch that waits for a member waits on. -/
structure Answering (s t : State) : Prop where
  outward : Outward [.log, .ports, .rec_, .trace, .upd] s t
  batches : ∀ p, (t.port p).batches = (s.port p).batches

namespace Answering

theorem refl (s : State) : Answering s s := ⟨.refl s, fun _ => rfl⟩

theorem trans {s t u : State} (h : Answering s t) (h' : Answering t u) : Answering s u := ⟨h.outward.trans h'.outward, fun p => (h'.batches p).trans (h.batches p)⟩

/-- A change beside the ports. -/
theorem beside {ps : List Part} {s t : State} (h : Outward ps s t) (hp : among ps [.log, .rec_, .trace, .upd] = true := by rfl) : Answering s t :=
  have h' := h.mono hp
  ⟨h'.mono rfl, fun p => congrArg PortState.batches (h'.reads (State.port · p) fun _ => rfl)⟩

theorem onPort (s : State) (p : Nat) {f : PortState → PortState} (h : ∀ q, (f q).batches = q.batches) : Answering s (s.onPort p f) := by
  refine ⟨⟨rfl, rfl, rfl⟩, fun k => ?_⟩
  show (nth (modAt s.ports p f) k).batches = _
  rw [nth_modAt, apply_ite PortState.batches, h, State.port, ite_self]

end Answering

section

variable (s : State)

theorem streamOver_outward : Outward [.rec_, .upd] s s.streamOver := .beside (streamOver_within s) rfl rfl

theorem endStreamOf_answering (session : U32) : Answering s (s.endStreamOf session) := by
  unfold State.endStreamOf
  split
  · split
    · obtain ⟨r, t, h⟩ := s.sendFrame_only
      have hf : Outward [.rec_, .trace, .upd] s s.sendFrame := by
        rw [h]
        exact ⟨rfl, rfl, rfl⟩
      exact .beside (hf.trans ((streamOver_outward _).mono rfl))
    · exact .refl s
  · exact .refl s

theorem endSession_answering (p : Nat) : Answering s (s.endSession p) := by
  unfold State.endSession
  split
  · exact .refl s
  · exact (endStreamOf_answering ..).trans (.onPort _ _ fun _ => rfl)

theorem post_answering (p type : Nat) (body : List Byte) : Answering s (s.post p type body) := by
  unfold State.post
  split
  · exact .refl s
  · split
    · exact endSession_answering ..
    · exact .onPort _ _ fun _ => rfl

theorem logWrite_outward (comp level msg : Nat) (args : List Nat) : Outward [.log] s (s.logWrite comp level msg args) := by
  unfold State.logWrite
  exact .guard ⟨rfl, rfl, rfl⟩

theorem logResult_answering (session reqId : U32) (body : List Byte) : Answering s (s.logResult session reqId body) := .beside (logWrite_outward s 1 2 0 _)

theorem lateAnswer_answering (port : Nat) (session reqId : U32) (status : Status) (payload : List Byte) : Answering s (s.lateAnswer port session reqId status payload) := by
  unfold State.lateAnswer
  dsimp only
  split
  · refine .trans ?_ (logResult_answering ..)
    exact .onPort _ _ fun _ => rfl
  · split
    · exact .refl s
    · split
      · exact .refl s
      · have h (t : State) (f : Session → Session) : Answering t (t.onSession port f) := .onPort _ _ fun _ => rfl
        split
        · exact h ..
        · exact (h ..).trans (post_answering ..)

end

/-- What the restoration of the margins may change. -/
abbrev restoreParts : List Part := [.log, .ports, .rec_, .sage, .trace, .upd]

theorem restored_outward (s : State) : Outward restoreParts s s.restored ∧ ∀ p, (s.restored.port p).batches = (s.port p).batches := by
  unfold State.restored
  split
  · exact ⟨.refl s, fun _ => rfl⟩
  · have h : Answering (s.onSage fun g => { g with restores := [] }) (s.sage.restores.foldl (fun s x => s.lateAnswer x.port x.session x.reqId .ok []) _) :=
      foldl_within .refl .trans (fun s x => lateAnswer_answering s ..) _ _
    exact ⟨(onSage_outward ..).trans (h.outward.mono rfl), h.batches⟩

theorem restored_none {s : State} (h : s.sage.restores = []) : s.restored = s := by
  have hs : (s.onSage fun g => { g with restores := [] }) = s := by
    unfold State.onSage
    rw [← h]
  unfold State.restored
  dsimp only
  rw [h, List.foldl_nil, hs, ite_self]

theorem resumeBatches_none {s : State} (h0 : (s.port 0).batches = []) (h1 : (s.port 1).batches = []) : s.resumeBatches = s := by
  simp [State.resumeBatches, h0, h1]

/-! ## The tick (01 R29) -/

/-- Governor time, the pins and the samples of the tick, before anything is decided. -/
def tickBegun (s : State) (bc : List (Int × Int)) (fc : List (List (Int × Int))) (p : TickPins) : State :=
  ((({ s.viewTick with clk := { s.clk with gt := s.clk.gt + 1 } } : State).pairTick p).meterTick bc fc).journalTick p.journalBad

/-- What runs once the root PLL has locked. -/
def lockedTick (p : TickPins) (s : State) : State := (((s.coolTick p.press).opTick p.slowLow p.alertLow).deliverAll).pushOverlays

/-- The feeds and the immediate-offs have been worked off. -/
def feedsDone (s : State) (bc : List (Int × Int)) (fc : List (List (Int × Int))) (p : TickPins) : State := ((tickBegun s bc fc p).feedTick p.cmpMv).offTick

/-- The end of the tick: the evaluation after the lock, and the commands that waited for the margins. -/
def tickDone (p : TickPins) (s : State) : State := (if s.sage.everLocked then lockedTick p s else s).restored

theorem exec_arbiterTick_held {s : State} (h : s.clk.phase = .porHeld) (bc : List (Int × Int)) (fc : List (List (Int × Int))) (p : TickPins) :
    exec (.arbiterTick bc fc p) s = .next (({ s with clk := { s.clk with resetLows := if p.resetLow then min 2 (s.clk.resetLows + 1) else 0 } } : State).onPair fun q =>
      { q with aliveIn := if p.aliveChanged then some s.gt else q.aliveIn }) :=
  congrArg Host.Outcome.next (if_pos (beq_iff_eq.mpr h))

theorem exec_arbiterTick {s : State} (h : s.clk.phase ≠ .porHeld) (bc : List (Int × Int)) (fc : List (List (Int × Int))) (p : TickPins) :
    exec (.arbiterTick bc fc p) s = .next (tickDone p (feedsDone s bc fc p)).resumeBatches :=
  congrArg Host.Outcome.next (if_neg fun hp => h (eq_of_beq hp))

/-- What the decisions of a tick may change. -/
abbrev tickParts : List Part := [.cool, .feed, .link, .log, .op, .pair, .phase, .ports, .rec_, .repro, .sage, .thyme, .trace, .upd]

abbrev lockedParts : List Part := [.cool, .link, .op, .pair, .phase, .rec_, .repro, .sage, .trace, .upd]

section

variable (s : State) (p : TickPins)

theorem opTick_outward (slowLow : Bool) (alertLow : BitVec 16) : Outward lockedParts s (s.opTick slowLow alertLow) :=
  (onOp_outward (ps := lockedParts) s _).trans ((opTick_noting s slowLow alertLow).outward.mono rfl)

theorem afterOp_outward : Outward [.link, .pair, .rec_, .repro, .trace, .upd] s s.deliverAll.pushOverlays :=
  ((deliverAll_outward s).mono rfl).trans ((pushOverlays_outward _).mono rfl)

theorem lockedTick_outward : Outward lockedParts s (lockedTick p s) :=
  (((coolTick_outward s p.press).mono rfl).trans (opTick_outward _ ..)).trans ((afterOp_outward _).mono rfl)

theorem feedsDone_viewing (bc : List (Int × Int)) (fc : List (List (Int × Int))) :
    Outward [.feed, .pair, .rec_, .sage, .thyme, .trace] (tickBegun s bc fc p) (feedsDone s bc fc p) ∧
      (feedsDone s bc fc p).thyme.view = s.condView ∧ (feedsDone s bc fc p).thyme.offsNow = [] := by
  have hf := feedTick_viewing (tickBegun s bc fc p) p.cmpMv
  have ho := offTick_outward ((tickBegun s bc fc p).feedTick p.cmpMv)
  have ht : (feedsDone s bc fc p).thyme = ((tickBegun s bc fc p).feedTick p.cmpMv).thyme := ho.reads State.thyme fun _ => rfl
  rw [ht]
  exact ⟨(hf.outward.mono rfl).trans (ho.mono rfl), hf.view, feedTick_offsNow ..⟩

theorem decided_outward : Outward lockedParts s (if s.sage.everLocked then lockedTick p s else s) := .guard (lockedTick_outward s p)

/-- What the end of the tick may change, once the feeds are done. -/
abbrev endParts : List Part := [.cool, .link, .log, .op, .pair, .phase, .ports, .rec_, .repro, .sage, .trace, .upd]

theorem tickDone_outward : Outward endParts s (tickDone p s) := ((decided_outward s p).mono rfl).trans ((restored_outward _).1.mono rfl)

theorem tickDone_batches (k : Nat) : ((tickDone p s).port k).batches = (s.port k).batches :=
  ((restored_outward _).2 k).trans (congrArg PortState.batches ((decided_outward s p).reads (State.port · k) fun _ => rfl))

/-- The lines are noted as they read in this tick, and stand so to its end. -/
theorem lockedTick_pulls : pulls (lockedTick p s).op = pulls (linesNoted s (p.slowLow || s.op.slow) p.alertLow).op := by
  have hc := coolTick_outward s p.press
  have hop : (s.coolTick p.press).op = s.op := hc.reads State.op fun _ => rfl
  have hgt : (s.coolTick p.press).gt = s.gt := hc.reads State.gt fun _ => rfl
  have he : (lockedTick p s).op = ((s.coolTick p.press).opTick p.slowLow p.alertLow).op := (afterOp_outward _).reads State.op fun _ => rfl
  rw [he, (opTick_noting ..).pulls]
  unfold linesNoted State.onOp
  dsimp only
  rw [hop, hgt]

theorem tickDone_pulls (h : s.sage.everLocked = true) : pulls (tickDone p s).op = pulls (linesNoted s (p.slowLow || s.op.slow) p.alertLow).op := by
  have he : (tickDone p s).op = (lockedTick p s).op := by
    unfold tickDone
    rw [if_pos h]
    exact (restored_outward _).1.reads State.op fun _ => rfl
  rw [he, lockedTick_pulls]

end

section

variable (s : State) (bc : List (Int × Int)) (fc : List (List (Int × Int))) (p : TickPins)

/-- The state that a tick leaves where no batch waits. -/
def ticked : State := tickDone p (feedsDone s bc fc p)

theorem feedsDone_batches (k : Nat) : ((feedsDone s bc fc p).port k).batches = (s.port k).batches :=
  congrArg PortState.batches ((feedsDone_viewing s p bc fc).1.reads (State.port · k) fun _ => rfl)

theorem exec_arbiterTick_noBatch {s : State} (h : s.clk.phase ≠ .porHeld) (h0 : (s.port 0).batches = []) (h1 : (s.port 1).batches = [])
    (bc : List (Int × Int)) (fc : List (List (Int × Int))) (p : TickPins) : exec (.arbiterTick bc fc p) s = .next (ticked s bc fc p) := by
  have hb (k : Nat) : ((ticked s bc fc p).port k).batches = (s.port k).batches := (tickDone_batches ..).trans (feedsDone_batches ..)
  rw [exec_arbiterTick h]
  exact congrArg Host.Outcome.next (resumeBatches_none ((hb 0).trans h0) ((hb 1).trans h1))

theorem ticked_outward : Outward (.feed :: .thyme :: endParts) (tickBegun s bc fc p) (ticked s bc fc p) :=
  ((feedsDone_viewing s p bc fc).1.mono rfl).trans ((tickDone_outward ..).mono rfl)

theorem ticked_thyme : (ticked s bc fc p).thyme.view = s.condView ∧ (ticked s bc fc p).thyme.offsNow = [] := by
  have h : (ticked s bc fc p).thyme = (feedsDone s bc fc p).thyme := (tickDone_outward ..).reads State.thyme fun _ => rfl
  rw [h]
  exact (feedsDone_viewing s p bc fc).2

theorem ticked_standing : standing (ticked s bc fc p).pair =
    (s.pair.role, (if s.pair.ownLow = (p.ownLow || s.pair.pull) then s.pair.ownSince else s.gt + 1), (p.ownLow || s.pair.pull), if p.aliveChanged then some (s.gt + 1) else s.pair.aliveIn) :=
  (ticked_outward s bc fc p).standing

/-- What sampling alone may change. -/
abbrev sampleParts : List Part := [.clk, .pins, .feed, .op, .ledger, .thyme, .pair]

/-- The samples change the clocks, the pins and what is sampled. -/
theorem sampled_within : Within sampleParts s (offsForgotten (feedsTicked (tickBegun s bc fc p) p.cmpMv)) := by
  have hv : Within sampleParts s { s.viewTick with clk := { s.clk with gt := s.clk.gt + 1 } } := rfl
  have hp (t : State) : Within sampleParts t (t.pairTick p) := rfl
  have hm (t : State) : Within sampleParts t (t.meterTick bc fc) := rfl
  have hj (t : State) : Within sampleParts t (t.journalTick p.journalBad) := rfl
  have hf (t : State) : Within sampleParts t (feedsTicked t p.cmpMv) := rfl
  have ho (t : State) : Within sampleParts t (offsForgotten t) := rfl
  exact ((((hv.trans (hp _)).trans (hm _)).trans (hj _)).trans (hf _)).trans (ho _)

/-- Before the lock, with nothing to switch off, to ask for or to force, a tick only samples. -/
theorem ticked_unlocked (hl : s.sage.everLocked = false) (ho : s.sage.offs = []) (hr : s.sage.restores = []) (hd : s.feed.demand = false)
    (hf : s.feed.feeds.any Feed.forceDue = false) : ticked s bc fc p = offsForgotten (feedsTicked (tickBegun s bc fc p) p.cmpMv) := by
  have he : feedsDone s bc fc p = offsForgotten (feedsTicked (tickBegun s bc fc p) p.cmpMv) := by
    unfold feedsDone
    rw [feedTick_eq (s := tickBegun s bc fc p) hd hf]
    exact offTick_none ho
  have hn : tickDone p (feedsDone s bc fc p) = (feedsDone s bc fc p).restored := by
    refine congrArg State.restored (if_neg ?_)
    rw [he]
    exact ne_true_of_eq_false hl
  rw [ticked, hn, he]
  exact restored_none hr

/-- After the lock the lines stand noted as they read. -/
theorem ticked_pulls (h : s.sage.everLocked = true) :
    pulls (ticked s bc fc p).op = pulls (linesNoted (tickBegun s bc fc p) (p.slowLow || s.op.slow) p.alertLow).op := by
  have hw := (feedsDone_viewing s p bc fc).1
  have hop : (feedsDone s bc fc p).op = (tickBegun s bc fc p).op := hw.reads State.op fun _ => rfl
  have hgt : (feedsDone s bc fc p).gt = (tickBegun s bc fc p).gt := hw.reads State.gt fun _ => rfl
  have hlock : (feedsDone s bc fc p).sage.everLocked = true := by
    have hs : ((tickBegun s bc fc p).feedTick p.cmpMv).sage = s.sage := (feedTick_viewing (tickBegun s bc fc p) p.cmpMv).outward.reads State.sage fun _ => rfl
    unfold feedsDone
    rw [offTick_everLocked, hs, h]
  unfold ticked
  rw [tickDone_pulls _ _ hlock]
  unfold linesNoted State.onOp
  dsimp only
  rw [hop, hgt]
  rfl

/-- The current sum of a branch takes the sample of the tick, calibrated (08 R213). -/
theorem tickBegun_current {n : Nat} (hn : n < 12) (h : s.op.iAcc.length = 12) :
    nth (tickBegun s bc fc p).op.iAcc n = nth s.op.iAcc n + (nth s.ledger.cfg.calib (5 + 2 * n)).value (nth bc n).2 16 :=
  (nth_mapIdx (h ▸ hn) _).trans (congrArg (fun v : Int × Int => nth s.op.iAcc n + v.2) (nth_map_range hn _))

end

/-- Settles O32: each evaluation of the tick keeps what the samples and the notes before it set. -/
theorem arbiterTick : Obligations.arbiter_tick := by
  unfold Obligations.arbiter_tick
  intro s bc fc p lows
  refine ⟨fun h => ⟨_, exec_arbiterTick_held h bc fc p, rfl, rfl, rfl⟩, fun h h0 h1 => ?_⟩
  refine ⟨_, exec_arbiterTick_noBatch h h0 h1 bc fc p, ?_⟩
  have hw := ticked_outward s bc fc p
  have hs := ticked_standing s bc fc p
  obtain ⟨hv, hn⟩ := ticked_thyme s bc fc p
  obtain ⟨-, hsince, hlow, halive⟩ : _ ∧ _ ∧ _ ∧ _ := by simpa only [standing, Prod.mk.injEq] using hs
  have hclk : (ticked s bc fc p).clk = { s.clk with gt := s.clk.gt + 1, resetLows := lows } := hw.reads State.clk fun _ => rfl
  have hpins : (ticked s bc fc p).pins = (tickBegun s bc fc p).pins := hw.reads State.pins fun _ => rfl
  refine ⟨hclk, hsince, hlow, halive, by rw [hpins]; rfl, by rw [hpins]; rfl, hv, hn, fun hl ho hr hd hf => ?_, fun hl => ?_⟩
  · rw [ticked_unlocked s bc fc p hl ho hr hd hf]
    refine ⟨rfl, rfl, rfl, fun x hx => ?_, fun n hn hlen => ?_, sampled_within s bc fc p⟩
    · exact feedsTicked_feedAt (s := tickBegun s bc fc p) hf hx p.cmpMv
    · exact tickBegun_current s bc fc p hn hlen
  · obtain ⟨hnet, hal, hus, hcls, hhigh⟩ : _ ∧ _ ∧ _ ∧ _ ∧ _ := by simpa only [pulls, Prod.mk.injEq] using ticked_pulls s bc fc p hl
    exact ⟨hnet, hal, hus, hcls, hhigh.trans (if_congr beq_iff_eq rfl rfl)⟩

end Sys2Proof.Proofs
end

section
/-! SUPPORT. Encodings: little-endian fields, the fields of a step word, a sync reply, and the records of an event. -/

namespace Sys2Proof.Proofs

open Sys2Proof Sys2Proof.Machine

/-! ## Little-endian fields (00 R15) -/

@[simp] theorem length_leBytes (n v : Nat) : (leBytes n v).length = n := by
  induction n generalizing v with
  | zero => rfl
  | succ n ih => simp [leBytes, ih]

/-- `n` bytes hold a number modulo 256^n. -/
theorem ofLe_leBytes (n v : Nat) : ofLe (leBytes n v) = v % 256 ^ n := by
  induction n generalizing v with
  | zero => simp [leBytes, ofLe, Nat.mod_one]
  | succ n ih =>
    rw [leBytes, ofLe, ih, BitVec.toNat_ofNat, Nat.pow_succ' (m := 256), Nat.mod_mul]

@[simp] theorem length_i1 (v : Nat) : (i1 v).length = 1 := length_leBytes 1 v
@[simp] theorem length_i2 (v : Nat) : (i2 v).length = 2 := length_leBytes 2 v
@[simp] theorem length_i4 (v : Nat) : (i4 v).length = 4 := length_leBytes 4 _
@[simp] theorem length_i8 (v : Nat) : (i8 v).length = 8 := length_leBytes 8 v

/-- A number that does not saturate is written as it is (17 R503). -/
theorem i4_eq {v : Nat} (h : v < 2 ^ 32) : i4 v = leBytes 4 v := by
  rw [i4, Nat.min_eq_left (by omega)]

/-- What stands in a record before, in and after a field. -/
theorem take_drop_field {α : Type} {l pre post : List α} {f : List α} {k n : Nat} (hl : l = pre ++ (f ++ post)) (hk : pre.length = k) (hn : f.length = n) :
    (l.drop k).take n = f := by
  rw [hl, ← hk, ← hn, List.drop_left, List.take_left]

/-- A field of a record holds the number written there. -/
theorem ofLe_field {l pre post : List Byte} {k n v : Nat} (hl : l = pre ++ (leBytes n v ++ post)) (hk : pre.length = k) (hv : v < 256 ^ n) :
    ofLe ((l.drop k).take n) = v := by
  rw [take_drop_field hl hk (length_leBytes n v), ofLe_leBytes, Nat.mod_eq_of_lt hv]

/-! ## Step words (06 R147) -/

theorem flag_le (b : Bool) : flag b ≤ 1 := by cases b <;> decide

/-- A bit of a number is the flag that the number holds there. -/
theorem bit_eq_of_flag {w i : Nat} {b : Bool} (h : w / 2 ^ i % 2 = flag b) : bit w i = b := by
  rw [bit, Nat.testBit_eq_decide_div_mod_eq, h]
  cases b <;> rfl

/-- Every field of a step word is read back. -/
theorem stepWord_fields {op idx cnt tgt tmo : Nat} (rel val tj : Bool) (hop : op < 16) (hidx : idx < 256) (hcnt : cnt < 16) (htgt : tgt < 4096) (htmo : tmo < 2 ^ 24) :
    let w := op * 2 ^ 60 + flag rel * 2 ^ 59 + flag val * 2 ^ 58 + flag tj * 2 ^ 57 + idx * 2 ^ 48 + cnt * 2 ^ 44 + tgt * 2 ^ 24 + tmo
    w < 2 ^ 64 ∧ stepOp w = op ∧ stepRel w = rel ∧ stepVal w = val ∧ stepTj w = tj ∧ stepIdx w = idx ∧ stepCnt w = cnt ∧ stepTgt w = tgt ∧ stepTmo w = tmo := by
  intro w
  have hr := flag_le rel
  have hv := flag_le val
  have ht := flag_le tj
  refine ⟨?_, ?_, bit_eq_of_flag ?_, bit_eq_of_flag ?_, bit_eq_of_flag ?_, ?_, ?_, ?_, ?_⟩ <;>
    simp only [w, stepOp, stepIdx, stepCnt, stepTgt, stepTmo, bits] <;> omega

/-! ## Sync replies (12 R323) -/

theorem status_code_lt (s : Status) : s.code < 256 := by cases s <;> decide

/-- The fields of a sync reply at their places. -/
theorem syncReply_fields (r : SyncReply) :
    r.bytes.length = 24 ∧ ofLe (r.bytes.take 1) = r.op.toNat ∧ ofLe ((r.bytes.drop 1).take 1) = r.status.code ∧ ofLe ((r.bytes.drop 2).take 2) = r.fepoch.toNat ∧
    ofLe ((r.bytes.drop 4).take 4) = r.seq.toNat ∧ ofLe ((r.bytes.drop 8).take 8) = r.val.toNat ∧ ofLe (r.bytes.drop 16) = r.aux.toNat := by
  have hb : r.bytes = i1 r.op.toNat ++ i1 r.status.code ++ i2 r.fepoch.toNat ++ leBytes 4 r.seq.toNat ++ i8 r.val.toNat ++ i8 r.aux.toNat := rfl
  have hlen : r.bytes.length = 24 := by simp [hb]
  have haux : r.bytes.drop 16 = (r.bytes.drop 16).take 8 := (List.take_of_length_le (by simp [hlen])).symm
  refine ⟨hlen, ?_, ?_, ?_, ?_, ?_, ?_⟩
  · exact ofLe_field (k := 0) (pre := []) (by simp only [List.append_assoc]; rfl) rfl r.op.isLt
  · exact ofLe_field (pre := i1 r.op.toNat) (by simp only [hb, List.append_assoc]; rfl) rfl (status_code_lt _)
  · exact ofLe_field (pre := i1 r.op.toNat ++ i1 r.status.code) (by simp only [hb, List.append_assoc]; rfl) rfl r.fepoch.isLt
  · exact ofLe_field (pre := i1 r.op.toNat ++ i1 r.status.code ++ i2 r.fepoch.toNat) (by simp only [hb, List.append_assoc]; rfl) rfl r.seq.isLt
  · exact ofLe_field (pre := i1 r.op.toNat ++ i1 r.status.code ++ i2 r.fepoch.toNat ++ leBytes 4 r.seq.toNat) (by simp only [hb, List.append_assoc]; rfl) rfl r.val.isLt
  · rw [haux]
    exact ofLe_field (pre := i1 r.op.toNat ++ i1 r.status.code ++ i2 r.fepoch.toNat ++ leBytes 4 r.seq.toNat ++ i8 r.val.toNat) (post := [])
      (by simp only [hb, List.append_assoc, List.append_nil]; rfl) rfl r.aux.isLt

/-! ## Records of an event (17 R453) -/

@[simp] theorem length_fit (n : Nat) (l : List Byte) : (fit n l).length = n := by
  simp [fit, zeros]

/-- The part of the payload that a continuation record carries. -/
def contPart (e : EventRec) (k : Nat) : List Byte := (e.payload.drop (24 * k)).take 24

theorem length_contPart_le (e : EventRec) (k : Nat) : (contPart e k).length ≤ 24 := List.length_take_le ..

theorem cont_eq (e : EventRec) (k : Nat) : e.cont k = i2 e.event ++ i1 (contPart e k).length ++ i1 1 ++ i4 e.recSeq ++ fit 24 (contPart e k) := rfl

/-- Each record of an event is 32 bytes and names the event and its sequence. -/
theorem record_names {e : EventRec} (he : e.event < 2 ^ 16) (hs : e.recSeq < 2 ^ 32) {r : List Byte} (hr : r ∈ e.records) :
    r.length = 32 ∧ ofLe (r.take 2) = e.event ∧ ofLe ((r.drop 4).take 4) = e.recSeq := by
  have named : ∀ {a b post : List Byte}, r = i2 e.event ++ (a ++ (b ++ (leBytes 4 e.recSeq ++ post))) → a.length = 1 → b.length = 1 → post.length = 24 →
      r.length = 32 ∧ ofLe (r.take 2) = e.event ∧ ofLe ((r.drop 4).take 4) = e.recSeq := by
    intro a b post h ha hb hp
    refine ⟨by simp [h, ha, hb, hp], ofLe_field (k := 0) (pre := []) h rfl he, ofLe_field (pre := i2 e.event ++ (a ++ b)) (by simp only [h, List.append_assoc]; rfl) (by simp [ha, hb]) hs⟩
  rcases List.mem_cons.mp hr with rfl | hr
  · exact named (by simp only [EventRec.head, i4_eq hs, List.append_assoc]; rfl) (length_i1 e.sev) (length_i1 e.flagsByte) (by simp)
  · obtain ⟨k, -, rfl⟩ := List.mem_map.mp hr
    exact named (by simp only [cont_eq, i4_eq hs, List.append_assoc]) (length_i1 (contPart e k).length) (length_i1 1) (length_fit 24 (contPart e k))

/-- The used bytes of a continuation record are its part of the payload. -/
theorem cont_used (e : EventRec) (k : Nat) : ((e.cont k).drop 8).take (ofLe (((e.cont k).drop 2).take 1)) = contPart e k := by
  have hlen : ofLe (((e.cont k).drop 2).take 1) = (contPart e k).length :=
    ofLe_field (pre := i2 e.event) (by simp only [cont_eq, List.append_assoc]; rfl) rfl (Nat.lt_of_le_of_lt (length_contPart_le e k) (by decide))
  rw [hlen, cont_eq, List.drop_append_of_le_length (by simp), List.drop_of_length_le (by simp), List.nil_append, fit, List.take_take,
    Nat.min_eq_left (length_contPart_le e k), List.take_left]

/-- Chunks of a list that reach to its end make up the list. -/
theorem flatten_chunks {α : Type} (m n : Nat) (l : List α) (h : l.length ≤ m * n) : ((List.range n).map fun k => (l.drop (m * k)).take m).flatten = l := by
  induction n generalizing l with
  | zero => simpa [eq_comm] using h
  | succ n ih =>
    have hd : (l.drop m).length ≤ m * n := by rw [List.length_drop]; rw [Nat.mul_succ] at h; omega
    have := ih (l.drop m) hd
    simp only [List.drop_drop] at this
    simp only [List.range_succ_eq_map, List.map_cons, List.map_map, List.flatten_cons, Function.comp_def, Nat.mul_zero, List.drop_zero, Nat.mul_succ, Nat.add_comm _ m, this,
      List.take_append_drop]

/-- The used parts of the continuation records make up the payload. -/
theorem records_payload (e : EventRec) : ((e.records.drop 1).map fun r => (r.drop 8).take (ofLe ((r.drop 2).take 1))).flatten = e.payload := by
  have hr : e.records.drop 1 = (List.range (contRecords e.payload)).map e.cont := rfl
  rw [hr, List.map_map]
  have hc : ((fun r : List Byte => (r.drop 8).take (ofLe ((r.drop 2).take 1))) ∘ e.cont) = contPart e := funext (cont_used e)
  rw [hc]
  exact flatten_chunks 24 _ e.payload (by rw [contRecords]; omega)

/-- Settles O60: each encoding is a row of little-endian fields, and each field is read at its place. -/
theorem encodingsReadBack : Obligations.encodings_read_back := by
  unfold Obligations.encodings_read_back
  refine ⟨fun n v h => ⟨length_leBytes n v, by rw [ofLe_leBytes, Nat.mod_eq_of_lt h]⟩, fun _ _ _ _ _ rel val tj => stepWord_fields rel val tj, syncReply_fields, fun e _ he hs => ?_⟩
  exact ⟨by simp [EventRec.records, EventRec.size, Nat.add_comm], fun r hr => record_names he hs hr, records_payload e⟩

end Sys2Proof.Proofs
end

section
/-! SUPPORT. What MBOX does with a message before a command runs (02 R42-R46, R54). -/

namespace Sys2Proof.Proofs

open Sys2Proof Sys2Proof.Machine

/-! ## Messages that arrive (R42-R45) -/

theorem arrives_iff {h : Hdr} {s : State} {se : Session} : arrives h s se = true ↔
    h.port.toNat < 2 ∧ s.firmwareRuns = true ∧ s.restarting 1 = false ∧ (s.port h.port.toNat).session = some se ∧ se.accepts h = true ∧ h.msgSeq.toNat ≤ 2 ^ 48 ∧ se.judge h.reqId = .new := by
  simp only [arrives, Bool.and_eq_true, decide_eq_true_eq, Bool.not_eq_true', beq_iff_eq, and_assoc]

/-- A message that comes while MBOX serves is processed. -/
theorem completes_process {c : Instr} {m : MailMsg} {s : State} {P : State → Prop} (hc : exec c s = .next (receive m s)) (hp : m.port < 2) (hr : s.firmwareRuns = true)
    (hm : s.restarting 1 = false) (h : P (s.process m)) : Completes c s P :=
  ⟨_, hc, by rwa [Laws.receive_runs hp hr hm]⟩

section

variable {h : Hdr} {s : State} {se : Session} {code : Nat} {run : Session → State → Answer}

theorem command_discarded (ha : ∀ se, (s.port h.port.toNat).session = some se → se.accepts h = false) : s.command h code run = s.discard h.port.toNat := by
  unfold State.command
  dsimp only
  split
  · rfl
  · rename_i se hs
    rw [if_pos (by rw [ha se hs]; rfl)]

/-- The state once MBOX has noted an accepted message of the session of its port (R44). -/
def notedAt (s : State) (h : Hdr) : State := s.onSession h.port.toNat fun x => x.noted s.gt h.msgSeq.toNat

variable (hs : (s.port h.port.toNat).session = some se) (ha : se.accepts h = true)

include hs ha

theorem command_past (hb : 2 ^ 48 < h.msgSeq.toNat) : s.command h code run = s.endSession h.port.toNat := by
  simp only [State.command, hs, ha, if_pos hb, Bool.not_true, Bool.false_eq_true, if_false]

theorem command_cached (hb : h.msgSeq.toNat ≤ 2 ^ 48) {body : List Byte} (hj : se.judge h.reqId = .cached body) :
    s.command h code run = (notedAt s h).post h.port.toNat 0x11 body := by
  simp only [State.command, hs, ha, if_neg (Nat.not_lt.mpr hb), hj, Bool.not_true, Bool.false_eq_true, if_false]
  rfl

theorem command_executing (hb : h.msgSeq.toNat ≤ 2 ^ 48) (hj : se.judge h.reqId = .executing) : s.command h code run = notedAt s h := by
  simp only [State.command, hs, ha, if_neg (Nat.not_lt.mpr hb), hj, Bool.not_true, Bool.false_eq_true, if_false]
  rfl

theorem command_outOfOrder (hb : h.msgSeq.toNat ≤ 2 ^ 48) (hj : se.judge h.reqId = .outOfOrder) :
    s.command h code run = (notedAt s h).post h.port.toNat 0x11 (responseBody code (Reply.fail .badArg) h.reqId) := by
  simp only [State.command, hs, ha, if_neg (Nat.not_lt.mpr hb), hj, Bool.not_true, Bool.false_eq_true, if_false]
  rfl

end

theorem taken_session {s : State} {h : Hdr} {se : Session} (hs : (s.port h.port.toNat).session = some se) :
    ((s.taken h se).port h.port.toNat).session = some (s.handed h se) := by
  rw [State.taken, Laws.onPort_port _ (Laws.port_lt hs)]

/-- A new message of a session runs in the state in which MBOX has noted it, and its response follows (R44, R45). -/
theorem command_new {h : Hdr} {s : State} {se : Session} (ha : arrives h s se = true) (code : Nat) (run : Session → State → Answer) :
    s.command h code run = (run (s.handed h se) (s.taken h se)).2.respond h.port.toNat se.id h.reqId code (run (s.handed h se) (s.taken h se)).1 := by
  obtain ⟨-, -, -, hs, hacc, hb, hj⟩ := arrives_iff.mp ha
  have htaken : ((s.onSession h.port.toNat fun x => x.noted s.gt h.msgSeq.toNat).onSession h.port.toNat fun x => { x with lastReq := some h.reqId }) = s.taken h se := by
    unfold State.onSession
    rw [Laws.onPort_onPort _ _ _ _ (Laws.port_lt hs)]
    exact Laws.onPort_congr (by simp [hs, State.handed])
  simp only [State.command, hs, hacc, if_neg (Nat.not_lt.mpr hb), hj, Bool.not_true, Bool.false_eq_true, if_false, htaken, taken_session hs, Option.getD_some]

/-! ## The checks before a command's own (R54) -/

/-- The first of two checks decides, and where it passes the others do. -/
theorem refusal_step {c d : Prop} [Decidable c] [Decidable d] (hcd : c ↔ d) {x st : Status} {rest : Option Status} {Q : Prop}
    (h : (if c then some x else rest) = some st) (hr : rest = some st → Q) : if d then st = x else Q := by
  by_cases hc : c
  · rw [if_pos hc] at h
    rw [if_pos (hcd.mp hc)]
    exact (Option.some.inj h).symm
  · rw [if_neg hc] at h
    rw [if_neg fun hd => hc (hcd.mpr hd)]
    exact hr h

/-- The statuses of R54 in their order. -/
theorem precheck_refusal {s : State} {port : Nat} {se : Session} {sp : CmdSpec} {framing : Bool} {plen : Nat} {payRsvd : Bool} {early : Option Status} {n : Nat} {st : Status}
    (h : s.precheck port se sp framing plen payRsvd early n = some st) :
    if framing = true then st = .badArg
    else if s.isOwner = false ∧ sp.standby = false then st = .notOwner
    else if se.features.getLsbD sp.feature = false ∨ (sp.sem.isSome = true ∧ se.features.getLsbD 2 = false) ∨ se.largest < plen then st = .notNegotiated
    else se.role.code < sp.role.code → st = .denied := by
  unfold State.precheck at h
  refine refusal_step Iff.rfl h fun h => refusal_step (by simp) h fun h => refusal_step (by simp [or_assoc]) h fun h hd => ?_
  rw [if_pos hd] at h
  exact (Option.some.inj h).symm

/-- A command that one of the checks refuses answers its status and runs no further. -/
theorem runCommand_refused {s : State} {port : Nat} {reqId top : U32} {auto framing payRsvd : Bool} {extra plen : Nat} {b : Body} {se : Session} {st : Status}
    (h : s.precheck port se b.spec framing plen (payRsvd && !b.ownRsvd) (b.early se s) (se.executing.length + extra) = some st) :
    runCommand port reqId top auto framing payRsvd extra plen b se s = (Reply.fail st, s) := by
  unfold runCommand
  rw [h]
  rfl

/-- What the checks of R54 make of a command that arrives with its header and body. -/
abbrev checked (h : Hdr) (b : Body) (s : State) (se : Session) : Option Status :=
  s.precheck h.port.toNat (s.handed h se) b.spec (h.rsvd != 0 || h.plen.toNat != b.plen) h.plen.toNat (h.payRsvd != 0 && !b.ownRsvd) (b.early (s.handed h se) s) se.executing.length

theorem admitted_eq (h : Hdr) (b : Body) (s : State) (se : Session) : admitted h b s se = (arrives h s se && (checked h b s se).isNone) := rfl

/-- A command that arrives and that a check refuses is answered with its status, and nothing else happens (R54). -/
theorem process_refused {h : Hdr} {b : Body} {s : State} {se : Session} (ha : arrives h s se = true) {st : Status} (hp : checked h b s se = some st) :
    s.process (.cmd h b) = (s.taken h se).respond h.port.toNat se.id h.reqId b.code (Reply.fail st) := by
  have hr := runCommand_refused (s := s.taken h se) (reqId := h.reqId) (top := h.reqId) (auto := h.auto) (payRsvd := h.payRsvd != 0) (extra := 0) (b := b) hp
  rw [State.process, command_new ha, hr]

/-- A command whose action names none is refused, by a check or for its action (R54). -/
theorem runCommand_badAction (port : Nat) (reqId top : U32) (auto framing payRsvd : Bool) (extra plen : Nat) (code : U16) (se : Session) (s : State) :
    ∃ st, runCommand port reqId top auto framing payRsvd extra plen (.badAction code) se s = (Reply.fail st, s) ∧ (framing = true → st = .badArg) := by
  cases hp : s.precheck port se (Body.badAction code).spec framing plen (payRsvd && !(Body.badAction code).ownRsvd) ((Body.badAction code).early se s) (se.executing.length + extra) with
  | some st =>
    refine ⟨st, runCommand_refused hp, fun hf => ?_⟩
    simpa [hf] using precheck_refusal hp
  | none =>
    refine ⟨.badArg, ?_, fun _ => rfl⟩
    unfold runCommand
    rw [hp]
    rfl

/-- MBOX takes a host command through R45 and runs it under the order of R54. -/
theorem process_cmd (s : State) (h : Hdr) (b : Body) : s.process (.cmd h b) =
    s.command h b.code (runCommand h.port.toNat h.reqId h.reqId h.auto (h.rsvd != 0 || h.plen.toNat != b.plen) (h.payRsvd != 0) 0 h.plen.toNat b) := rfl

/-- What a message of another type or code answers (R44, R62, R63). -/
def unknownAnswer (h : Hdr) (code : U16) (se : Session) (s : State) : Answer :=
  if knownCode code.toNat then runCommand h.port.toNat h.reqId h.reqId h.auto (h.rsvd != 0) (h.payRsvd != 0) 0 h.plen.toNat (.badAction code) se s else refuse .badArg s

theorem process_unknown (s : State) (h : Hdr) (code : U16) : s.process (.unknown h code) = s.command h code.toNat (unknownAnswer h code) := rfl

theorem unknownAnswer_refuses (h : Hdr) (code : U16) (se : Session) (s : State) :
    ∃ st, unknownAnswer h code se s = (Reply.fail st, s) ∧ (knownCode code.toNat = false → st = .badArg) ∧ (knownCode code.toNat = true → h.rsvd ≠ 0 → st = .badArg) := by
  unfold unknownAnswer
  cases hk : knownCode code.toNat with
  | true =>
    obtain ⟨st, hst, hf⟩ := runCommand_badAction h.port.toNat h.reqId h.reqId h.auto (h.rsvd != 0) (h.payRsvd != 0) 0 h.plen.toNat code se s
    exact ⟨st, hst, fun hk => (Bool.noConfusion hk), fun _ hr => hf (bne_iff_ne.mpr hr)⟩
  | false => exact ⟨.badArg, rfl, fun _ => rfl, fun hk => (Bool.noConfusion hk)⟩

/-- A discarded message leaves the session of its port as it is. -/
theorem discard_session (s : State) (p q : Nat) : ((s.discard p).port q).session = (s.port q).session := by
  unfold State.discard State.onPort State.port
  dsimp only
  rw [nth_modAt]
  split <;> rfl

/-- Settles O6: a message goes through the states of MBOX, then the sequence and the request ID, then the checks in their order. -/
theorem mboxRules : Obligations.mbox_rules := by
  unfold Obligations.mbox_rules
  refine ⟨fun c h b s hc hp => ⟨fun hr => ⟨_, hc s, ?_⟩, fun hr hm => ⟨_, hc s, ?_⟩, fun hr hm => ?_, fun se ha hadm => ?_⟩, fun s h code hp hr hm => ⟨fun ha => ?_, fun se ha => ?_⟩⟩
  · rw [receive, if_pos (.inr (by simp [hr]))]
  · rw [receive, if_neg (by simp [MailMsg.port, hr, hp]), if_pos hm]
    rfl
  · have hproc {P : State → Prop} (h : P (s.process (.cmd h b))) : Completes c s P := completes_process (hc s) hp hr hm h
    refine ⟨fun ha => hproc ?_, fun se hs ha => ⟨fun hb => hproc ?_, fun hb => ⟨fun body hj => hproc ?_, fun hj => hproc ?_, fun hj => hproc ?_⟩⟩⟩ <;> rw [process_cmd]
    · exact command_discarded ha
    · exact command_past hs ha hb
    · exact command_cached hs ha hb hj
    · exact command_executing hs ha hb hj
    · exact command_outOfOrder hs ha hb hj
  · obtain ⟨-, hr, hm, -⟩ := arrives_iff.mp ha
    obtain ⟨st, hst⟩ : ∃ st, checked h b s se = some st := Option.ne_none_iff_exists'.mp fun hn => by simp [admitted_eq, ha, hn] at hadm
    refine completes_process (hc s) hp hr hm ⟨st, process_refused ha hst, ?_⟩
    have horder := precheck_refusal hst
    simp only [Bool.or_eq_true, bne_iff_ne] at horder
    exact horder
  · refine completes_process rfl hp hr hm ?_
    rw [process_unknown, command_discarded ha]
    exact ⟨discard_session .., rfl⟩
  · obtain ⟨st, hst, hst'⟩ := unknownAnswer_refuses h code (s.handed h se) (s.taken h se)
    refine completes_process rfl hp hr hm ⟨st, ?_, hst'⟩
    rw [process_unknown, command_new ha, hst]

end Sys2Proof.Proofs
end

section
/-! SUPPORT. Handshakes: HELLO, AUTH, and what runs out (02 R37-R41, R49, R50, R58). -/

namespace Sys2Proof.Proofs

open Sys2Proof Sys2Proof.Machine

/-! ## HELLO (R37, R41, R49, R50) -/

section

variable {s : State} {h : Hdr} (eph : BitVec 776) (nonce : BitVec 256) (features : BitVec 128)

theorem hello_discarded (hd : h.framed 1 = false ∨ h.session ≠ 0 ∨ h.gen = 0) : s.hello h eph nonce features = s.discard h.port.toNat := by
  unfold State.hello
  refine if_pos ?_
  rcases hd with hf | hn | hg
  · exact .inl (by simp [hf])
  · exact .inr (.inr hn)
  · exact .inr (.inl (by simp [hg]))

variable (hf : h.framed 1 = true) (hn : h.session = 0) (hg : h.gen ≠ 0)

include hf hn hg

theorem hello_taken_up : ¬((!h.framed 1) = true ∨ h.gen.toNat = 0 ∨ h.session ≠ 0) := by
  simp only [hf, hn, Bool.not_true, Bool.false_eq_true, ne_eq, not_true_eq_false, or_false, false_or]
  exact fun h0 => hg (BitVec.eq_of_toNat_eq h0)

theorem hello_locked (hl : (s.port h.port.toNat).lockedOut s.gt = true) : s.hello h eph nonce features = s := by
  unfold State.hello
  simp only [if_neg (hello_taken_up hf hn hg), hl, if_true]

/-- A port with a handshake just begun, whose HELLO_REPLY has left in clear text. -/
def greetedPort (hs : Handshake) (body : List Byte) (q : PortState) : PortState :=
  { q with handshake := some hs, outbox := q.outbox ++ [.clear hs.gen 2 hs.session body] }

/-- HELLO puts a handshake into its port and takes one free value. -/
theorem hello_opens (hp : h.port.toNat < s.ports.length) (hl : (s.port h.port.toNat).lockedOut s.gt = false) :
    ∃ hs body, hs.helloGt = s.gt ∧ hs.gen = min h.gen.toNat 3 ∧ hs.features = agreedFeatures (min h.gen.toNat 3) features ∧
      s.hello h eph nonce features = { s with free := s.free + 1 }.onPort h.port.toNat (greetedPort hs body) := by
  unfold State.hello
  simp only [if_neg (hello_taken_up hf hn hg), hl, Bool.false_eq_true, if_false]
  refine ⟨_, _, ?_, ?_, ?_, Laws.onPort_onPort { s with free := s.free + 1 } h.port.toNat _ _ hp⟩ <;> rfl

end

/-! ## What runs out (R37, R40, R41, R58) -/

theorem exec_handshakeTimeout {s : State} {port : U8} {hs : Handshake} (h : (s.port port.toNat).handshake = some hs) (hg : hs.helloGt + secs 5 ≤ s.gt) :
    exec (.handshakeTimeout port) s = .next (s.onPort port.toNat fun q => { q with handshake := none }) := by
  show execHandshakeTimeout port s = _
  simp only [execHandshakeTimeout, h, State.since, decide_eq_true hg, if_true]

theorem exec_authLockoutEnd {s : State} {port : U8} {e : Nat} (h : (s.port port.toNat).lockoutEnd = some e) (hg : e ≤ s.gt) :
    exec (.authLockoutEnd port) s = .next (s.onPort port.toNat fun q => { q with lockoutEnd := none, authFails := [] }) := by
  show execAuthLockoutEnd port s = _
  simp only [execAuthLockoutEnd, h, hg, if_true]

theorem exec_sessionIdleTimeout {s : State} {port : U8} {se : Session} (h : (s.port port.toNat).session = some se) (hg : se.lastMsg + secs 10 ≤ s.gt) :
    exec (.sessionIdleTimeout port) s = .next (s.endSession port.toNat) := by
  show execSessionIdleTimeout port s = _
  simp only [execSessionIdleTimeout, h, State.since, decide_eq_true hg, if_true]

/-- Settles O3: HELLO changes its port and the count of free values, and what runs out clears its field of the port. -/
theorem handshakesOpenAndRunOut : Obligations.handshakes_open_and_run_out := by
  unfold Obligations.handshakes_open_and_run_out
  refine ⟨fun s h form x y nonce features hp hl hr hm => ⟨fun hd => ?_, fun hf hn hg hk => ?_, fun hf hn hg hk => ?_⟩, fun s port hl => ⟨fun hs h hg => ?_, fun e h hg => ?_, fun se h hg => ?_⟩⟩
  · exact completes_process rfl hp hr hm (hello_discarded _ nonce features hd)
  · exact completes_process rfl hp hr hm (hello_locked _ nonce features hf hn hg hk)
  · obtain ⟨hs, body, hgt, hgen, hfeat, ht⟩ := hello_opens (uncompressed form x y) nonce features hf hn hg hl hk
    refine completes_process rfl hp hr hm ?_
    have hproc : s.process (.hello h (uncompressed form x y) nonce features) = { s with free := s.free + 1 }.onPort h.port.toNat (greetedPort hs body) := ht
    have hport : (s.process (.hello h (uncompressed form x y) nonce features)).port h.port.toNat = greetedPort hs body (s.port h.port.toNat) := by
      rw [hproc]
      exact Laws.onPort_port _ hl
    rw [hport, hproc]
    exact ⟨rfl, ⟨hs, body, rfl, hgt, hgen, hfeat, rfl⟩, fun q hq => Laws.onPort_port_ne _ _ hq, rfl⟩
  · refine ⟨_, exec_handshakeTimeout h hg, ?_⟩
    dsimp only
    rw [Laws.onPort_port _ hl]
    exact ⟨rfl, rfl, rfl⟩
  · refine ⟨_, exec_authLockoutEnd h hg, ?_⟩
    dsimp only
    rw [Laws.onPort_port _ hl]
    exact ⟨rfl, rfl, rfl⟩
  · exact ⟨_, exec_sessionIdleTimeout h hg, Laws.endSession_session .., State.endSession_sems ..⟩

/-! ## The end of a session (R39, R40) -/

theorem endStreamOf_within (s : State) (session : U32) : Within [.rec_, .trace, .upd] s (s.endStreamOf session) := by
  unfold State.endStreamOf
  split
  · split
    · obtain ⟨q, u, t, h⟩ := s.endStream_only
      rw [h]
      rfl
    · rfl
  · rfl

theorem endSession_eq {s : State} {p : Nat} {se : Session} (h : (s.port p).session = some se) :
    s.endSession p = (s.endStreamOf se.id).onPort p fun q => { q with session := none } := by
  simp only [State.endSession, h]

theorem logResult_within (s : State) (session reqId : U32) (body : List Byte) : Within [.log] s (s.logResult session reqId body) := (logWrite_outward s 1 2 0 _).within

theorem onPort_within {ps : List Part} (s : State) (p : Nat) (f : PortState → PortState) (hp : among [.ports] ps = true := by rfl) : Within ps s (s.onPort p f) :=
  Within.mono (ps := [.ports]) rfl hp

theorem logResults_within (s : State) (p : Nat) (se : Session) : Within [.log, .ports] s (s.logResults p se) := by
  unfold State.logResults
  refine (Within.mono (ps := [.log]) ?_ rfl).trans (onPort_within ..)
  exact .foldl (fun s e => logResult_within s ..) _ s

theorem logResults_length (s : State) (p : Nat) (se : Session) : (s.logResults p se).ports.length = s.ports.length := by
  unfold State.logResults
  dsimp only
  rw [Laws.onPort_length]
  refine congrArg List.length (Within.reads (ps := [.log]) ?_ State.ports fun _ => rfl)
  exact .foldl (fun s e => logResult_within s ..) _ s

theorem endSession_length (s : State) (p : Nat) : (s.endSession p).ports.length = s.ports.length := by
  cases h : (s.port p).session with
  | none => simp only [State.endSession, h]
  | some se => rw [endSession_eq h, Laws.onPort_length, (endStreamOf_within s se.id).reads State.ports fun _ => rfl]

/-- A port that a new session takes over changes nothing but the ports, the log, and the stream of the old session (R39). -/
theorem vacate_within (s : State) (p : Nat) : Within [.log, .ports, .rec_, .trace, .upd] s (s.vacate p) := by
  unfold State.vacate
  split
  · rename_i old _
    refine (logResults_within s p old).mono rfl |>.trans ?_
    obtain ⟨q, u, t, r, h⟩ := (s.logResults p old).endSession_only p
    rw [h]
    rfl
  · rfl

theorem vacate_length (s : State) (p : Nat) : (s.vacate p).ports.length = s.ports.length := by
  unfold State.vacate
  split
  · rw [endSession_length, logResults_length]
  · rfl

/-! ## AUTH (R37, R39, R41, R49) -/

/-- A port with a handshake is in the table of ports. -/
theorem port_lt_of_handshake {s : State} {p : Nat} {hs : Handshake} (h : (s.port p).handshake = some hs) : p < s.ports.length := by
  by_contra hp
  have hd : s.port p = default := by simp [State.port, nth, List.getD, List.getElem?_eq_none (Nat.le_of_not_lt hp)]
  rw [hd] at h
  exact nomatch (show (none : Option Handshake) = some hs from h)

/-- The session that AUTH establishes under a key of the table (R37). -/
def newSession (s : State) (hs : Handshake) (idx : Nat) : Session :=
  let k := nth s.cfg.hostKeys idx
  { id := hs.session, keyIdx := idx, keyHash := k.hash, role := k.role, gen := hs.gen, features := hs.features, keys := hs.keys, rxHigh := 1, rxSeen := [1], txSeq := 1, lastMsg := s.gt }

theorem establish_port {s : State} {p : Nat} (hp : p < s.ports.length) (hs : Handshake) (idx : Nat) :
    ((s.establish p hs idx).port p).handshake = none ∧ ((s.establish p hs idx).port p).session = some (newSession s hs idx) := by
  have hw := vacate_within s p
  have hc : (s.vacate p).cfg = s.cfg := hw.reads State.cfg fun _ => rfl
  have hg : (s.vacate p).gt = s.gt := hw.reads State.gt fun _ => rfl
  have hl : p < (s.vacate p).ports.length := by rwa [vacate_length]
  unfold State.establish State.postAuthReply State.postMessage
  dsimp only
  rw [Laws.onPort_onPort _ _ _ _ hl, Laws.onPort_port _ hl, hc, hg]
  exact ⟨rfl, rfl⟩

theorem establish_sems (s : State) (p : Nat) (hs : Handshake) (idx : Nat) : (s.establish p hs idx).sems = s.sems :=
  (vacate_within s p).reads State.sems fun _ => rfl

section

variable {s : State} {p : Nat} {hs : Handshake} (hp : p < s.ports.length)

include hp

theorem authRefused_port (hs : Handshake) (st : Status) :
    ((s.authRefused p hs st).port p).handshake = none ∧ ((s.authRefused p hs st).port p).session = (s.port p).session ∧
      ((s.authRefused p hs st).port p).authFails = (s.port p).authFails := by
  unfold State.authRefused State.postAuthReply State.postMessage
  rw [Laws.onPort_onPort _ _ _ _ hp, Laws.onPort_port _ hp]
  exact ⟨rfl, rfl, rfl⟩

omit hp in
theorem authRefused_length (hs : Handshake) (st : Status) : (s.authRefused p hs st).ports.length = s.ports.length :=
  (Laws.onPort_length ..).trans (Laws.onPort_length ..)

/-- A failure is noted at the present GT, and the eighth within 60 s locks the port out (R41). -/
theorem authFailed_port :
    ((s.authFailed p).port p).handshake = (s.port p).handshake ∧ ((s.authFailed p).port p).session = (s.port p).session ∧ s.gt ∈ ((s.authFailed p).port p).authFails ∧
      (7 ≤ ((s.port p).authFails.filter fun g => decide (s.gt < g + secs 60)).length → ((s.authFailed p).port p).lockoutEnd = some (s.gt + secs 60)) := by
  unfold State.authFailed
  dsimp only
  rw [show ∀ t : State, (t.event .fp0 0x0003 1 p []).port p = t.port p from fun t => congrArg (nth · p) (State.event_ports ..), Laws.onPort_port _ hp]
  exact ⟨rfl, rfl, List.mem_cons_self, fun h => if_pos (Nat.succ_le_succ h)⟩

end

/-- An AUTH is that of the handshake, authentic, and no later than 5 s after its HELLO (R37). -/
abbrev Authentic (s : State) (h : Hdr) (hs : Handshake) : Prop :=
  h.framed 3 = true ∧ h.tagOk = true ∧ h.session = hs.session ∧ h.gen.toNat = hs.gen ∧ h.msgSeq = 1 ∧ s.gt ≤ hs.helloGt + secs 5

section

variable {s : State} {h : Hdr} {hs : Handshake} {keyHash : BitVec 384} {sigOk : Bool}

theorem auth_without (hh : (s.port h.port.toNat).handshake = none) : s.auth h keyHash sigOk = s.discard h.port.toNat := by
  simp only [State.auth, hh]

theorem authentic_iff : ¬(!h.framed 3 ∨ !h.tagOk ∨ h.session ≠ hs.session ∨ h.gen.toNat ≠ hs.gen ∨ h.msgSeq ≠ 1 ∨ hs.helloGt + secs 5 < s.gt) ↔ Authentic s h hs := by
  simp only [not_or, Bool.not_eq_true', Bool.not_eq_false, ne_eq, not_not, Nat.not_lt]

variable (hh : (s.port h.port.toNat).handshake = some hs)

include hh

theorem auth_discarded (ha : ¬Authentic s h hs) : s.auth h keyHash sigOk = s.discard h.port.toNat := by
  simp only [State.auth, hh]
  exact if_pos (not_not.mp (mt authentic_iff.mp ha))

variable (ha : Authentic s h hs)

include ha

theorem auth_establishes {i : Nat} (hk : s.keyEntry h.port.toNat keyHash = some i) (hs' : sigOk = true) (hg : (nth s.cfg.hostKeys i).minGen ≤ hs.gen) :
    s.auth h keyHash sigOk = s.establish h.port.toNat hs i := by
  simp only [State.auth, hh, if_neg (authentic_iff.mpr ha), hk, hs', Bool.not_true, Bool.false_eq_true, if_false, if_neg (Nat.not_lt.mpr hg)]

theorem auth_below {i : Nat} (hk : s.keyEntry h.port.toNat keyHash = some i) (hs' : sigOk = true) (hg : hs.gen < (nth s.cfg.hostKeys i).minGen) :
    s.auth h keyHash sigOk = s.authRefused h.port.toNat hs .notNegotiated := by
  simp only [State.auth, hh, if_neg (authentic_iff.mpr ha), hk, hs', Bool.not_true, Bool.false_eq_true, if_false, if_pos hg]

theorem auth_fails (hf : s.keyEntry h.port.toNat keyHash = none ∨ sigOk = false) :
    s.auth h keyHash sigOk = (s.authRefused h.port.toNat hs .denied).authFailed h.port.toNat := by
  simp only [State.auth, hh, if_neg (authentic_iff.mpr ha)]
  cases hk : s.keyEntry h.port.toNat keyHash with
  | none => rfl
  | some i =>
    rcases hf with hf | hf
    · exact nomatch hk.symm.trans hf
    · simp only [hf, Bool.not_false, if_true]

end

/-- Settles O4: the key, the signature and the generation decide between a new session, a refusal and a failure that counts. -/
theorem authEstablishesOrRefuses : Obligations.auth_establishes_or_refuses := by
  unfold Obligations.auth_establishes_or_refuses
  intro s h keyHash sigOk hp hr hm
  have hproc {P : State → Prop} (h' : P (s.auth h keyHash sigOk)) : Completes (.auth h keyHash sigOk) s P := completes_process rfl hp hr hm h'
  refine ⟨fun hh => hproc (auth_without hh), fun hs hh => ?_⟩
  have hl := port_lt_of_handshake hh
  split
  case isFalse ha => exact hproc (auth_discarded hh ha)
  case isTrue ha =>
    refine hproc ?_
    by_cases hf : s.keyEntry h.port.toNat keyHash = none ∨ sigOk = false
    · obtain ⟨href, hsess, hfails⟩ := authRefused_port hl hs .denied
      obtain ⟨hh', hsess', hmem, hlock⟩ := authFailed_port (s := s.authRefused h.port.toNat hs .denied) (p := h.port.toNat) (by rwa [authRefused_length])
      rw [auth_fails hh ha hf]
      refine ⟨hh'.trans href, State.event_sems .., fun i hk hok => ?_, fun i hk hok => ?_, fun _ => ⟨hsess'.trans hsess, hmem, fun h7 => hlock (hfails ▸ h7)⟩⟩ <;>
        simp [hk, hok] at hf
    · obtain ⟨hk, hok⟩ := not_or.mp hf
      obtain ⟨i, hk⟩ := Option.ne_none_iff_exists'.mp hk
      have hok : sigOk = true := by simpa using hok
      have huniq {j : Nat} (hj : s.keyEntry h.port.toNat keyHash = some j) : j = i := Option.some.inj (hj.symm.trans hk)
      by_cases hg : (nth s.cfg.hostKeys i).minGen ≤ hs.gen
      · obtain ⟨hnone, hsome⟩ := establish_port hl hs i
        rw [auth_establishes hh ha hk hok hg]
        refine ⟨hnone, establish_sems .., fun j hj _ _ => ?_, fun j hj _ hlt => ?_, fun h' => absurd h' hf⟩
        · rw [huniq hj]
          exact ⟨_, hsome, rfl, rfl, rfl, rfl, rfl⟩
        · rw [huniq hj] at hlt
          omega
      · obtain ⟨href, hsess, -⟩ := authRefused_port hl hs .notNegotiated
        rw [auth_below hh ha hk hok (Nat.not_le.mp hg)]
        refine ⟨href, rfl, fun j hj _ hle => ?_, fun j hj _ _ => hsess, fun h' => absurd h' hf⟩
        rw [huniq hj] at hle
        exact absurd hle hg

end Sys2Proof.Proofs
end

section
/-! SUPPORT. Semaphores: what freeing one changes, and the semaphore commands at the OWNER and at the STANDBY (02 R54-R61). -/

namespace Sys2Proof.Proofs

open Sys2Proof Sys2Proof.Machine

/-! ## Freeing a semaphore (R58, R61) -/

/-- What the release of a semaphore can change beside the semaphores. -/
def releaseParts : List Part := [.clk, .sec, .thyme, .sage, .phase, .cool, .repro, .pair, .upd, .rec_]

theorem restoreMargins_within (s : State) : Within releaseParts s s.restoreMargins := by
  refine .foldl (fun s c => ?_) _ s
  exact (((onRail_outward (ps := [.sage]) ..).trans (writeSetpoint_outward ..)).within).mono rfl

theorem released_within (s : State) (id port : Nat) (own : Bool) : Within releaseParts s (s.released id port own) := by
  unfold State.released
  split
  · rfl
  · exact restoreMargins_within s
  · rfl
  · exact (mirrored_within (ps := releaseParts) _ _ rfl)
  · rfl
  · split <;> rfl
  · split <;> rfl
  · split
    · rfl
    · split
      · rfl
      · exact (event_within (ps := releaseParts) _ _ _ _ _ _ rfl)
  · exact (mirrored_within (ps := releaseParts) _ _ rfl)
  · rfl

/-- Freeing a semaphore changes the semaphores and what its release can change. -/
theorem freeSem_within (s : State) (id event port : Nat) : Within releaseParts ({ s with sems := s.sems.set id none } : State) (s.freeSem id event port) := by
  unfold State.freeSem
  exact ((event_within (ps := releaseParts) _ _ _ _ _ _ rfl).trans (released_within ..)).trans (mirrored_within _ _ rfl)

theorem freeSem_sems (s : State) (id event port : Nat) : (s.freeSem id event port).sems = s.sems.set id none :=
  (freeSem_within s id event port).reads State.sems fun _ => rfl

/-! ## A semaphore command at its governor (R55) -/

theorem semCommand_owner {s : State} {c : Ctx} (ho : s.isOwner = true) (code : Nat) (m : SemCmd) :
    s.semCommand c code m = s.semRun s.position c.port c.se.id c.se.keyHash c.payRsvd m := if_pos (.inl ho)

/-- An admitted semaphore command runs at the OWNER for its session. -/
theorem semCommand_taken {s : State} {h : Hdr} {se : Session} {k : Ctx} (ho : s.isOwner = true) (hp : k.port = h.port.toNat) (hse : k.se = s.handed h se) (code : Nat) (m : SemCmd) :
    (s.taken h se).semCommand k code m = (s.taken h se).semRun s.position h.port.toNat se.id se.keyHash k.payRsvd m := by
  rw [semCommand_owner (s := s.taken h se) ho, hp, hse]
  rfl

/-- A STANDBY forwards a semaphore command whose reserved fields are zero. -/
theorem semCommand_standby {s : State} {c : Ctx} (hr : s.pair.role = .standby) (hp : c.payRsvd = false) (code : Nat) (m : SemCmd) :
    ∃ x : MirOut, s.semCommand c code m = ({ forwarded := true }, s.mirOut x) := by
  unfold State.semCommand
  rw [if_neg (by simp [State.isOwner, hr, hp]), if_pos hr]
  exact ⟨_, rfl⟩

/-! ## SEM_ACQUIRE (R56) -/

section

variable {s : State} {id lease pos port : Nat} {session : U32} {keyHash : BitVec 384} {payRsvd : Bool}

theorem semAcquire_badId (h : 15 < id) : s.semAcquire id lease pos port session keyHash payRsvd = (Reply.fail .badArg, s) := by
  simp only [State.semAcquire, check, decide_eq_true h, if_true, refuse]

variable (hid : id < 16)

include hid

theorem semAcquire_badLease (hn : nth s.sems id = none) (hl : 3601 ≤ lease ∨ payRsvd = true) : s.semAcquire id lease pos port session keyHash payRsvd = (Reply.fail .badArg, s) := by
  have hb : (payRsvd || decide (3600 < lease)) = true := by simpa [or_comm, Nat.succ_le_iff] using hl
  simp only [State.semAcquire, check, hn, hb, if_true, refuse, decide_eq_true_eq, if_neg (show ¬15 < id by omega)]

omit hid in
/-- The holder that a grant enters: its token is the next free value (R56; log entry 1). -/
def granted (s : State) (lease pos port : Nat) (session : U32) (keyHash : BitVec 384) : SemHolder :=
  let len := if lease = 0 then 60 else lease
  { pos := pos, port := port, session := session, keyHash := keyHash, token := Config.freeWord s.free, leaseEnd := s.gt + secs len, leaseLen := len }

/-- A free semaphore is granted under a fresh token (R56). -/
theorem semAcquire_grants (hn : nth s.sems id = none) (hl : lease ≤ 3600) :
    let x := granted s lease pos port session keyHash
    ∃ (hold : Option Nat) (p : PairState), s.semAcquire id lease pos port session keyHash false =
      ({ payload := i8 x.token.toNat ++ i8 x.leaseEnd, hold := hold }, { s with sems := s.sems.set id (some x), free := s.free + 1, pair := p }) := by
  have hb : (false || decide (3600 < lease)) = false := by simpa using hl
  simp only [State.semAcquire, check, hn, hb, Bool.false_eq_true, if_false, decide_eq_true_eq, if_neg (show ¬15 < id by omega)]
  obtain ⟨p, hp⟩ := ({ s with sems := s.sems.set id (some (granted s lease pos port session keyHash)), free := s.free + 1 } : State).mirrored_only .sems
  exact ⟨_, p, Prod.ext rfl hp⟩

theorem semAcquire_held {x : SemHolder} (hx : nth s.sems id = some x) : s.semAcquire id lease pos port session keyHash payRsvd =
    if x.pos = pos ∧ x.port = port ∧ x.session = session then
      if 3601 ≤ lease ∨ payRsvd = true then (Reply.fail .badArg, s) else ({ payload := i8 x.token.toNat ++ i8 x.leaseEnd }, s)
    else ({ status := .semaphoreHeld, payload := i1 x.pos ++ i1 x.port ++ i2 0 ++ i4 x.session.toNat ++ i4 (x.leftMs s.gt) }, s) := by
  simp only [State.semAcquire, check, hx, decide_eq_true_eq, if_neg (show ¬15 < id by omega)]
  refine if_congr Iff.rfl (if_congr ?_ rfl rfl) rfl
  simp [or_comm, Nat.succ_le_iff]

end

/-- Settles O8: SEM_ACQUIRE by the state of its semaphore. -/
theorem semAcquireGrants : Obligations.sem_acquire_grants := by
  unfold Obligations.sem_acquire_grants
  intro s h id lease ho
  refine Laws.answers_of rfl fun se _ hs k hp hse _ _ _ hr => ⟨s.handed h se, taken_session hs, ?_⟩
  have hrun : runBody (.semAcquire id lease) k (s.taken h se) = (s.taken h se).semAcquire id.toNat lease.toNat s.position h.port.toNat se.id se.keyHash (h.payRsvd != 0) := by
    refine (semCommand_taken ho hp hse 0x0010 _).trans ?_
    rw [hr, Body.ownRsvd, Bool.and_true]
    rfl
  rw [hrun]
  have hrsvd : (h.payRsvd != 0) = true ↔ h.payRsvd ≠ 0 := bne_iff_ne
  refine ⟨fun hid => ?_, fun hid => ⟨fun hn => ?_, fun x hx => ?_⟩⟩
  · rw [semAcquire_badId hid]
    exact ⟨rfl, rfl⟩
  · split
    case isTrue hbad =>
      rw [semAcquire_badLease (s := s.taken h se) hid hn (by rwa [hrsvd])]
      exact ⟨rfl, rfl⟩
    case isFalse hgood =>
      obtain ⟨hlease, hzero⟩ := not_or.mp hgood
      obtain ⟨hold, p, hx⟩ := semAcquire_grants (s := s.taken h se) (pos := s.position) (port := h.port.toNat) (session := se.id) (keyHash := se.keyHash) hid hn (Nat.not_lt.mp hlease)
      rw [show (h.payRsvd != 0) = false by simpa using hzero, hx]
      exact ⟨_, rfl, rfl, rfl, rfl, rfl, rfl, rfl, rfl, rfl⟩
  · simp only [semAcquire_held (s := s.taken h se) hid hx, hrsvd]
    show if x.pos = s.position ∧ x.port = h.port.toNat ∧ x.session = se.id then _ else _
    split
    · split <;> exact ⟨rfl, rfl⟩
    · exact ⟨rfl, rfl⟩

/-! ## What an admission rules out, and what a check refuses (R54, R59) -/

theorem passed_step {c : Prop} [Decidable c] {x : Status} {rest : Option Status} (h : (if c then some x else rest) = none) : rest = none := by
  by_cases hc : c
  · rw [if_pos hc] at h
    exact nomatch h
  · rwa [if_neg hc] at h

/-- An admitted command has no status of its own that comes before the outstanding limit. -/
theorem admitted_early {h : Hdr} {b : Body} {s : State} {se : Session} (ha : admitted h b s se = true) : b.early (s.handed h se) s = none := by
  rw [admitted_eq, Bool.and_eq_true, Option.isNone_iff_eq_none] at ha
  have hp := ha.2
  unfold checked State.precheck at hp
  have hp := passed_step (passed_step (passed_step (passed_step hp)))
  by_contra hn
  rw [if_pos (Option.isSome_iff_ne_none.mpr hn)] at hp
  exact hn hp

theorem precheck_denied {s : State} {port : Nat} {se : Session} {sp : CmdSpec} {framing payRsvd : Bool} {plen n : Nat} (hf : framing = false) (ho : s.isOwner = true)
    (hfeat : se.features.getLsbD sp.feature = true) (hsem : sp.sem = none) (hl : plen ≤ se.largest) :
    s.precheck port se sp framing plen payRsvd (some .denied) n = some .denied := by
  simp only [State.precheck, hf, ho, hfeat, hsem, Nat.not_lt.mpr hl, Bool.not_true, Bool.false_and, Bool.false_eq_true, if_false, Option.isSome_none, Bool.or_false, decide_false,
    Option.isSome_some, if_true, ite_self]

/-! ## Tokens (R57, R59) -/

section

variable {s : State} {id : Nat} {token : U64} {keyHash : BitVec 384} {payRsvd : Bool} {k : SemHolder → Answer}

theorem key_of_token {x : SemHolder} (hf : s.foreignToken id token keyHash = false) (hx : s.tokenHolder id token = some x) : x.keyHash = keyHash := by
  simpa [State.foreignToken, hx] using hf

variable (hf : s.foreignToken id token keyHash = false)

include hf

theorem withToken_bad (hb : payRsvd = true ∨ 15 < id) : s.withToken id token keyHash payRsvd k = (Reply.fail .badArg, s) := by
  have hb' : (payRsvd || decide (15 < id)) = true := by simpa using hb
  simp only [State.withToken, check, hf, hb', Bool.false_eq_true, if_false, if_true, refuse]

variable (hr : payRsvd = false) (hid : ¬15 < id)

include hr hid

theorem withToken_none (hx : s.tokenHolder id token = none) : s.withToken id token keyHash payRsvd k = (Reply.fail .stateConflict, s) := by
  simp only [State.withToken, check, hf, hr, hx, decide_eq_false hid, Bool.or_false, Bool.false_eq_true, if_false, refuse]

theorem withToken_some {x : SemHolder} (hx : s.tokenHolder id token = some x) : s.withToken id token keyHash payRsvd k = k x := by
  simp only [State.withToken, check, hf, hr, hx, decide_eq_false hid, Bool.or_false, Bool.false_eq_true, if_false]

end

theorem mirrored_frame (s : State) : (s.mirrored .sems).sems = s.sems ∧ s.mirrored .sems = { s with sems := (s.mirrored .sems).sems, pair := (s.mirrored .sems).pair } := by
  obtain ⟨p, h⟩ := s.mirrored_only .sems
  rw [h]
  exact ⟨rfl, rfl⟩

/-- The holder of a renewed or adopted semaphore (R57, R59). -/
def renewed (s : State) (port : Nat) (session : U32) (x : SemHolder) : SemHolder :=
  { x with pos := s.position, port := port, session := session, leaseEnd := s.gt + secs x.leaseLen }

theorem not_payRsvd_iff {h : Hdr} {id : U8} : ¬(h.payRsvd ≠ 0 ∨ 15 < id.toNat) ↔ (h.payRsvd != 0) = false ∧ ¬15 < id.toNat := by
  simp

/-- SEM_RENEW at the OWNER (R57, R59). -/
theorem semRenew_answers {s : State} (ho : s.isOwner = true) (h : Hdr) (id : U8) (token : U64) :
    Answers (.semRenew h id token) h (.semRenew id token) s (fun u r t => ∃ se, (u.port h.port.toNat).session = some se ∧
      if h.payRsvd ≠ 0 ∨ 15 < id.toNat then r = Reply.fail .badArg ∧ t = u
      else match s.tokenHolder id.toNat token with
        | some x => x.keyHash = se.keyHash ∧ r.status = .ok ∧ r.payload = i8 (s.gt + secs x.leaseLen) ∧
          t.sems = s.sems.set id.toNat (some { x with pos := s.position, port := h.port.toNat, session := se.id, leaseEnd := s.gt + secs x.leaseLen }) ∧
          t = { u with sems := t.sems, pair := t.pair }
        | none => r = Reply.fail .stateConflict ∧ t = u) := by
  refine Laws.answers_of rfl fun se ha hs k hp hse _ _ _ hr => ⟨s.handed h se, taken_session hs, ?_⟩
  have hf : s.foreignToken id.toNat token se.keyHash = false := by simpa [Body.early, ho, State.handed, Session.noted] using admitted_early ha
  have hrun : runBody (.semRenew id token) k (s.taken h se) = (s.taken h se).semRenew id.toNat token s.position h.port.toNat se.id se.keyHash (h.payRsvd != 0) := by
    refine (semCommand_taken ho hp hse 0x0011 _).trans ?_
    rw [hr, Body.ownRsvd, Bool.and_true]
    rfl
  rw [hrun, State.semRenew]
  split
  case isTrue hbad =>
    rw [withToken_bad (s := s.taken h se) hf (by simpa using hbad)]
    exact ⟨rfl, rfl⟩
  case isFalse hgood =>
    obtain ⟨hz, hid⟩ := not_payRsvd_iff.mp hgood
    cases hx : s.tokenHolder id.toNat token with
    | none =>
      rw [withToken_none (s := s.taken h se) hf hz hid hx]
      exact ⟨rfl, rfl⟩
    | some x =>
      rw [withToken_some (s := s.taken h se) hf hz hid hx]
      obtain ⟨hsems, hframe⟩ := mirrored_frame { s.taken h se with sems := s.sems.set id.toNat (some (renewed s h.port.toNat se.id x)) }
      exact ⟨key_of_token hf hx, rfl, rfl, hsems, hframe⟩

/-- SEM_RELEASE at the OWNER (R58; log entry 18). -/
theorem semRelease_answers {s : State} (ho : s.isOwner = true) (h : Hdr) (id : U8) (token : U64) :
    Answers (.semRelease h id token) h (.semRelease id token) s (fun u r t =>
      if h.payRsvd ≠ 0 ∨ 15 < id.toNat then r = Reply.fail .badArg ∧ t = u
      else match s.tokenHolder id.toNat token with
        | some _ => r.status = .ok ∧ t.sems = s.sems.set id.toNat none
        | none => r = Reply.fail .stateConflict ∧ t = u) := by
  refine Laws.answers_of rfl fun se ha hs k hp hse _ _ _ hr => ?_
  have hf : s.foreignToken id.toNat token se.keyHash = false := by simpa [Body.early, ho, State.handed, Session.noted] using admitted_early ha
  have hrun : runBody (.semRelease id token) k (s.taken h se) = (s.taken h se).semRelease id.toNat token h.port.toNat se.keyHash (h.payRsvd != 0) := by
    refine (semCommand_taken ho hp hse 0x0012 _).trans ?_
    rw [hr, Body.ownRsvd, Bool.and_true]
    rfl
  rw [hrun, State.semRelease]
  split
  case isTrue hbad =>
    rw [withToken_bad (s := s.taken h se) hf (by simpa using hbad)]
    exact ⟨rfl, rfl⟩
  case isFalse hgood =>
    obtain ⟨hz, hid⟩ := not_payRsvd_iff.mp hgood
    cases hx : s.tokenHolder id.toNat token with
    | none =>
      rw [withToken_none (s := s.taken h se) hf hz hid hx]
      exact ⟨rfl, rfl⟩
    | some x =>
      rw [withToken_some (s := s.taken h se) hf hz hid hx]
      exact ⟨rfl, freeSem_sems ..⟩

/-- A token of another key than the holder's is answered DENIED, and nothing else happens (R54, R59). -/
theorem foreignToken_denied {s : State} (ho : s.isOwner = true) {c : Instr} {h : Hdr} {b : Body} (hc : exec c s = .next (receive (.cmd h b) s)) {se : Session}
    (hearly : b.early (s.handed h se) s = some .denied) (hspec : b.spec.sem = none) (hfeat : se.features.getLsbD b.spec.feature = true) (ha : arrives h s se = true) (hrsvd : h.rsvd = 0)
    (hplen : h.plen.toNat = b.plen) (hl : h.plen.toNat ≤ se.largest) :
    Completes c s fun t => t = (s.taken h se).respond h.port.toNat se.id h.reqId b.code (Reply.fail .denied) := by
  obtain ⟨hp, hr, hm, -⟩ := arrives_iff.mp ha
  refine completes_process hc hp hr hm (process_refused ha ?_)
  rw [checked, hearly]
  exact precheck_denied (by simp [hrsvd, hplen]) ho hfeat hspec hl

/-- SEM_BREAK at the OWNER (R58; log entry 18). -/
theorem semBreak_answers {s : State} (ho : s.isOwner = true) (h : Hdr) (id : U8) :
    Answers (.semBreak h id) h (.semBreak id) s (fun u r t =>
      if 15 < id.toNat then r = Reply.fail .badArg ∧ t = u
      else if nth s.sems id.toNat = none then r = Reply.fail .stateConflict ∧ t = u
      else r.status = .ok ∧ t.sems = s.sems.set id.toNat none) := by
  refine Laws.answers_of rfl fun se ha hs k hp hse _ _ _ hr => ?_
  have hrun : runBody (.semBreak id) k (s.taken h se) = (s.taken h se).semBreak id.toNat h.port.toNat false := by
    refine (semCommand_taken ho hp hse 0x0014 _).trans ?_
    rw [hr, show (Body.semBreak id).ownRsvd = false from rfl, Bool.and_false]
    rfl
  rw [hrun]
  simp only [State.semBreak, check, Bool.false_or, decide_eq_true_eq, Option.isNone_iff_eq_none, Laws.taken_sems]
  split
  · exact ⟨rfl, rfl⟩
  · split
    · exact ⟨rfl, rfl⟩
    · exact ⟨rfl, freeSem_sems ..⟩

/-- Lists of one length join to a multiple of it. -/
theorem length_flatten_map {α β : Type} {f : α → List β} {n : Nat} (h : ∀ a, (f a).length = n) (l : List α) : (l.map f).flatten.length = n * l.length := by
  rw [List.length_flatten, List.map_map, List.map_congr_left (f := List.length ∘ f) (g := fun _ => n) fun a _ => h a, List.map_const', List.sum_replicate, smul_eq_mul, Nat.mul_comm]

theorem semQuery_answer (s : State) : s.semQuery.1.status = .ok ∧ s.semQuery.1.payload.length = 12 * s.sems.length ∧ s.semQuery.2 = { s with free := s.free + 1 } := by
  refine ⟨rfl, length_flatten_map (fun x => ?_) s.sems, rfl⟩
  cases x <;> simp [i1, i2, i4, length_leBytes]

/-- SEM_QUERY at the OWNER. -/
theorem semQuery_answers {s : State} (ho : s.isOwner = true) (h : Hdr) :
    Answers (.semQuery h) h .semQuery s (fun u r t => r.status = .ok ∧ r.payload.length = 12 * s.sems.length ∧ t = { u with free := s.free + 1 }) := by
  refine Laws.answers_of rfl fun se ha hs k hp hse _ _ _ hr => ?_
  have hrun : runBody .semQuery k (s.taken h se) = (s.taken h se).semQuery := by
    refine (semCommand_taken ho hp hse 0x0013 _).trans ?_
    rw [hr, show Body.semQuery.ownRsvd = false from rfl, Bool.and_false]
    rfl
  rw [hrun]
  exact semQuery_answer (s.taken h se)

/-! ## Lease ends, and commands of the partner's sessions (R55, R58) -/

theorem exec_leaseEnd {s : State} (ho : s.isOwner = true) {id : U8} {x : SemHolder} (hx : nth s.sems id.toNat = some x) (hg : x.leaseEnd ≤ s.gt) :
    exec (.leaseEnd id) s = .next (s.freeSem id.toNat 0x0012 x.port) := by
  show execLeaseEnd id s = _
  simp only [execLeaseEnd, hx, ho, hg, and_self, if_true]

/-- A forwarded acquire of a free semaphore grants it to the partner's session, and the answer leaves over MIR (R55, R56). -/
theorem forwarded_acquire {s : State} (ho : s.isOwner = true) (hm : s.mirTrained = true) (hr : s.restarting 2 = false) (port : U8) (session reqId : U32) (keyHash : BitVec 384)
    {free : U8} {lease : U16} (hid : free.toNat < 16) (hl : lease.toNat ≤ 3600) (hn : nth s.sems free.toNat = none) :
    Completes (.forwardedSemaphoreCommand port { session := session, reqId := reqId } keyHash (.acquire free lease)) s fun t =>
      ∃ y : SemHolder, t.sems = s.sems.set free.toNat (some y) ∧ y.pos = 1 - s.position ∧ y.port = port.toNat ∧ y.session = session ∧ y.keyHash = keyHash ∧
        .semAnswer port.toNat session reqId .ok (i8 y.token.toNat ++ i8 y.leaseEnd) ∈ t.pair.out := by
  obtain ⟨hold, p, hx⟩ := semAcquire_grants (s := s) (lease := lease.toNat) (pos := 1 - s.position) (port := port.toNat) (session := session) (keyHash := keyHash) hid hn hl
  refine ⟨_, rfl, granted s lease.toNat (1 - s.position) port.toNat session keyHash, ?_⟩
  simp only [ho, hm, hr, and_self, if_true, reduceCtorEq, if_false, Bool.false_eq_true, State.semRun, hx]
  exact ⟨State.sendRecordOf_sems .., rfl, rfl, rfl, rfl, List.mem_append_right _ (List.mem_singleton_self _)⟩

/-! ## At the STANDBY (R55) -/

/-- A semaphore command with zero reserved fields is forwarded over MIR and changes nothing else. -/
theorem standby_forwards {s : State} (hr : s.pair.role = .standby) {c : Instr} {h : Hdr} {b : Body} (hz : h.payRsvd = 0) (hc : exec c s = .next (receive (.cmd h b) s)) {code : Nat} {m : SemCmd}
    (hb : ∀ k u, runBody b k u = u.semCommand k code m) :
    Answers c h b s fun u r t => r.forwarded = true ∧ t = { u with pair := { u.pair with out := t.pair.out } } ∧ t.pair.out ≠ u.pair.out := by
  refine Laws.answers_of hc fun se _ _ k _ _ _ _ _ hk => ?_
  obtain ⟨x, hx⟩ := semCommand_standby (s := s.taken h se) (c := k) hr (by simp [hk, hz]) code m
  rw [hb, hx]
  exact ⟨rfl, rfl, by simp [State.mirOut]⟩

/-- Settles O9: each command at the OWNER by the state of its semaphore, and each of them at the STANDBY. -/
theorem semCommandsAct : Obligations.sem_commands_act := by
  unfold Obligations.sem_commands_act
  refine fun s h id token => ⟨fun ho => ⟨semRenew_answers ho h id token, semRelease_answers ho h id token, ?_, semBreak_answers ho h id, semQuery_answers ho h, ?_, ?_⟩, fun hr hz lease m hm => ?_⟩
  · intro c b hcb x se hx hkey ha hrsvd hplen hfeat hl
    have hf : s.foreignToken id.toNat token se.keyHash = true := by simpa [State.foreignToken, hx] using hkey
    have hearly : (if s.isOwner && s.foreignToken id.toNat token (s.handed h se).keyHash then some Status.denied else none) = some .denied := if_pos (by rw [ho]; exact hf)
    rcases hcb with ⟨rfl, rfl⟩ | ⟨rfl, rfl⟩
    · exact foreignToken_denied ho rfl hearly rfl hfeat ha hrsvd hplen hl
    · exact foreignToken_denied ho rfl hearly rfl hfeat ha hrsvd hplen hl
  · exact fun x hx hg => ⟨_, exec_leaseEnd ho hx hg, freeSem_sems ..⟩
  · exact fun hm hr port session reqId keyHash free lease hid hl hn => forwarded_acquire ho hm hr port session reqId keyHash hid hl hn
  · simp only [List.mem_cons, List.not_mem_nil, or_false] at hm
    rcases hm with rfl | rfl | rfl | rfl | rfl <;> exact standby_forwards hr hz rfl fun _ _ => rfl

end Sys2Proof.Proofs
end

section
/-! SUPPORT. The session commands (02 R40, R42, R44, R58, R63; 17 R464). -/

namespace Sys2Proof.Proofs

open Sys2Proof Sys2Proof.Machine

/-! ## Queries (R42, R44, R63) -/

theorem sessionInfo_answers (s : State) (h : Hdr) :
    Answers (.sessionInfo h) h .sessionInfo s (fun u r t => t = u ∧ ∃ se, (u.port h.port.toNat).session = some se ∧
      r = { payload := leBytes 4 se.id.toNat ++ i1 se.gen ++ i1 se.role.code ++ i2 0 ++ featureBytes se.features ++ i4 (u.port h.port.toNat).discards ++ i4 (u.port h.port.toNat).rxDropped }) := by
  refine Laws.answers_of rfl fun se _ hs k hp hse _ _ _ _ => ?_
  have hrun : runBody .sessionInfo k (s.taken h se) = bodySessionInfo k (s.taken h se) := rfl
  rw [hrun, bodySessionInfo, hp, hse]
  exact ⟨rfl, s.handed h se, taken_session hs, rfl⟩

/-! ## Events (17 R464) -/

section

variable {first : U32} {count : U8} (hc : count ≠ 0) (c : Ctx) {s : State}

include hc

/-- A poll for a record that the ring no longer holds starts at the oldest, with detail 1. -/
theorem bodyEventPoll_oldest (he : (s.rec_.ring.head?.any fun e => !seqLe e.recSeq first.toNat) = true) :
    bodyEventPoll first count c s = ({ payload := takeBodies count.toNat c.se.largest s.rec_.ring, detail := 1 }, s) := by
  have hcount : (count == 0) = false := beq_eq_false_iff_ne.mpr hc
  cases hl : s.rec_.ring with
  | nil =>
    rw [hl] at he
    exact nomatch he
  | cons e es =>
    rw [hl, List.head?_cons, Option.any_some] at he
    have hb : seqLe e.recSeq first.toNat = false := Bool.not_inj he
    simp only [bodyEventPoll, check, hcount, hl, hb, Bool.false_eq_true, if_false, Bool.not_false, if_true, flag]

/-- Any other poll starts at the record asked for. -/
theorem bodyEventPoll_onward (he : ¬(s.rec_.ring.head?.any fun e => !seqLe e.recSeq first.toNat) = true) :
    bodyEventPoll first count c s = ({ payload := takeBodies count.toNat c.se.largest (s.rec_.ring.filter fun e => seqLe first.toNat e.recSeq) }, s) := by
  have hcount : (count == 0) = false := beq_eq_false_iff_ne.mpr hc
  cases hl : s.rec_.ring with
  | nil => simp only [bodyEventPoll, check, hcount, hl, Bool.false_eq_true, if_false, flag]
  | cons e es =>
    rw [hl, List.head?_cons, Option.any_some] at he
    have hb : seqLe e.recSeq first.toNat = true := Bool.not_inj (Bool.eq_false_of_not_eq_true he)
    simp only [bodyEventPoll, check, hcount, hl, hb, Bool.false_eq_true, if_false, Bool.not_true, flag]

end

theorem eventPoll_answers (s : State) (h : Hdr) (first : U32) (count : U8) :
    Answers (.eventPoll h first count) h (.eventPoll first count) s fun u r t => t = u ∧ ∃ se, (u.port h.port.toNat).session = some se ∧
      if count = 0 then r = Reply.fail .badArg
      else if (s.rec_.ring.head?.any fun e => !seqLe e.recSeq first.toNat) = true then r = { payload := takeBodies count.toNat se.largest s.rec_.ring, detail := 1 }
      else r = { payload := takeBodies count.toNat se.largest (s.rec_.ring.filter fun e => seqLe first.toNat e.recSeq) } := by
  refine Laws.answers_of rfl fun se _ hs k hp hse _ _ _ _ => ?_
  have hrun : runBody (.eventPoll first count) k (s.taken h se) = bodyEventPoll first count k (s.taken h se) := rfl
  rw [hrun]
  by_cases hc : count = 0
  · subst hc
    exact ⟨rfl, s.handed h se, taken_session hs, by rw [if_pos rfl]; rfl⟩
  · by_cases he : (s.rec_.ring.head?.any fun e => !seqLe e.recSeq first.toNat) = true
    · rw [bodyEventPoll_oldest (s := s.taken h se) hc k he, hse]
      exact ⟨rfl, s.handed h se, taken_session hs, by rw [if_neg hc, if_pos he]; rfl⟩
    · rw [bodyEventPoll_onward (s := s.taken h se) hc k he, hse]
      exact ⟨rfl, s.handed h se, taken_session hs, by rw [if_neg hc, if_neg he]; rfl⟩

theorem bodyEventSubscribe_eq {groups : U16} {sev : U8} {c : Ctx} (hb : subscribeBeyond c.se groups sev = false) (s : State) :
    bodyEventSubscribe groups sev c s =
      if c.payRsvd = true ∨ 4 < sev.toNat then (Reply.fail .badArg, s) else ({}, s.onSession c.port fun se => { se with evGroups := groups, evMinSev := sev.toNat }) := by
  simp only [bodyEventSubscribe, check, hb, Bool.false_eq_true, if_false, Bool.or_eq_true, decide_eq_true_eq]
  rfl

theorem eventSubscribe_answers (s : State) (h : Hdr) (groups : U16) (sev : U8) :
    Answers (.eventSubscribe h groups sev) h (.eventSubscribe groups sev) s fun u r t =>
      if h.payRsvd = 0 ∧ sev.toNat ≤ 4 then r = {} ∧ t = u.onSession h.port.toNat fun se => { se with evGroups := groups, evMinSev := sev.toNat }
      else r = Reply.fail .badArg ∧ t = u := by
  refine Laws.answers_of rfl fun se ha hs k hp hse _ _ _ hr => ?_
  have hb : subscribeBeyond k.se groups sev = false := by
    rw [hse]
    simpa [Body.early] using admitted_early ha
  have hrun : runBody (.eventSubscribe groups sev) k (s.taken h se) = bodyEventSubscribe groups sev k (s.taken h se) := rfl
  have hk : k.payRsvd = true ∨ 4 < sev.toNat ↔ ¬(h.payRsvd = 0 ∧ sev.toNat ≤ 4) := by
    rw [hr, show (Body.eventSubscribe groups sev).ownRsvd = true from rfl, Bool.and_true, bne_iff_ne, not_and_or, Nat.not_le]
  rw [hrun, bodyEventSubscribe_eq hb, hp]
  split
  case isTrue hgood => rw [if_neg fun hbad => hk.mp hbad hgood]; exact ⟨rfl, rfl⟩
  case isFalse hbad => rw [if_pos (hk.mpr hbad)]; exact ⟨rfl, rfl⟩

/-! ## SESSION_CLOSE (R40, R58) -/

/-- The semaphores freed one after the other. -/
def freedAll (l : List Nat) (sems : List (Option SemHolder)) : List (Option SemHolder) := l.foldl (fun x id => x.set id none) sems

theorem nth_freedAll (l : List Nat) (sems : List (Option SemHolder)) (id : Nat) : nth (freedAll l sems) id = if id ∈ l then none else nth sems id := by
  induction l generalizing sems with
  | nil => rfl
  | cons i l ih =>
    have hset : nth (sems.set i none) id = if id = i then none else nth sems id := by
      by_cases hi : id = i
      · subst hi
        rw [nth_set, if_pos rfl]
        split
        · rfl
        · rename_i hout
          simp only [true_and, Nat.not_lt] at hout
          simp [nth, List.getD, List.getElem?_eq_none hout]
          rfl
      · rw [nth_set, if_neg fun h => hi h.1.symm, if_neg hi]
    rw [freedAll, List.foldl_cons, ← freedAll, ih, hset]
    by_cases hl : id ∈ l <;> by_cases hi : id = i <;> simp [hl, hi]

/-- The semaphores that a session holds at its governor. -/
abbrev mine (s : State) (port : Nat) (session : U32) : List Nat := indices 16 fun id => s.holds id port session

theorem semClose_within (s : State) (pos port : Nat) (session : U32) : Within (.sems :: releaseParts) s (s.semClose pos port session) :=
  .foldl (fun s id => .trans (show Within (.sems :: releaseParts) s { s with sems := s.sems.set id none } from rfl) ((freeSem_within s id 0x0011 port).mono rfl)) _ s

theorem foldl_sems {f : State → Nat → State} (h : ∀ s id, (f s id).sems = s.sems.set id none) (l : List Nat) (s : State) : (l.foldl f s).sems = freedAll l s.sems := by
  induction l generalizing s with
  | nil => rfl
  | cons i l ih => rw [List.foldl_cons, ih, h]; rfl

theorem closeSems_within (s : State) (port : Nat) (session : U32) : Within (.sems :: releaseParts) s (s.closeSems port session) := by
  unfold State.closeSems
  split
  · exact semClose_within s _ port session
  · dsimp only
    split
    · rfl
    · refine .trans (.foldl (fun s id => ?_) _ s) rfl
      exact .trans (show Within (.sems :: releaseParts) s { s with sems := s.sems.set id none } from rfl) ((released_within _ id port true).mono rfl)

/-- A closing session frees what it holds, and nothing else (R58). -/
theorem closeSems_sems (s : State) (port : Nat) (session : U32) : (s.closeSems port session).sems = freedAll (mine s port session) s.sems := by
  unfold State.closeSems
  have hmine : (indices 16 fun id => (nth s.sems id).any fun h => h.pos == s.position && h.port == port && h.session == session) = mine s port session := by
    refine congrArg (indices 16) (funext fun id => ?_)
    unfold State.holds
    cases nth s.sems id <;> rfl
  split
  · rw [State.semClose, hmine]
    exact foldl_sems (fun s id => freeSem_sems s id 0x0011 port) _ s
  · dsimp only
    split
    case isTrue hm => rw [mine, hm]; rfl
    case isFalse => exact foldl_sems (fun s id => ((released_within { s with sems := s.sems.set id none } id port true).reads State.sems fun _ => rfl)) _ s

theorem closeSems_ports (s : State) (port : Nat) (session : U32) : (s.closeSems port session).ports = s.ports :=
  (closeSems_within s port session).reads State.ports fun _ => rfl

/-- A session is gone once the response to its SESSION_CLOSE has left (R40). -/
theorem closeAfter_gone {s : State} {p : Nat} {reqId : U32} (h : ∀ se, (s.port p).session = some se → se.closing = some reqId) : ((s.closeAfter p reqId).port p).session = none := by
  unfold State.closeAfter
  split
  · rename_i se hse
    rw [if_pos (h se hse)]
    exact Laws.endSession_session s p
  · assumption

/-- A message that leaves changes nothing of its session but the count of messages, or ends it (R40, R43). -/
theorem post_session {s : State} {p : Nat} {se : Session} (hs : (s.port p).session = some se) (type : Nat) (body : List Byte) :
    ((s.post p type body).port p).session = none ∨ ((s.post p type body).port p).session = some { se with txSeq := se.txSeq + 1 } := by
  simp only [State.post, hs]
  split
  · exact .inl (Laws.endSession_session s p)
  · rw [Laws.onPort_port _ (Laws.port_lt hs)]
    exact .inr rfl

/-- A session that closes with a response is gone once it has left (R40). -/
theorem respond_closes {s : State} {p : Nat} {se : Session} {reqId : U32} (hs : (s.port p).session = some se) (hc : se.closing = some reqId) (code : Nat) :
    ((s.respond p se.id reqId code {}).port p).session = none := by
  simp only [State.respond, hs, ne_eq, not_true_eq_false, if_false, Bool.false_eq_true]
  refine closeAfter_gone fun se' hse' => ?_
  have hkeep : ((s.onSession p fun se => se.keep { reqId := reqId, body := responseBody code {} reqId }).port p).session = some (se.keep { reqId := reqId, body := responseBody code {} reqId }) := by
    unfold State.onSession
    rw [Laws.onPort_port _ (Laws.port_lt hs), hs]
    rfl
  rcases post_session hkeep 0x11 (responseBody code {} reqId) with h | h <;> rw [h] at hse'
  · exact nomatch hse'
  · rw [← Option.some.inj hse']
    exact hc

theorem sessionClose_answers (s : State) (h : Hdr) :
    Answers (.sessionClose h) h .sessionClose s (fun u r t => r = {} ∧ ∀ se, (u.port h.port.toNat).session = some se →
      ((t.respond h.port.toNat se.id h.reqId 0x0003 r).port h.port.toNat).session = none ∧
      ∀ id, id < 16 → nth t.sems id = if s.holds id h.port.toNat se.id = true then none else nth s.sems id) := by
  refine Laws.answers_of rfl fun se _ hs k hp hse _ _ htop _ => ?_
  have hrun : runBody .sessionClose k (s.taken h se) = bodySessionClose k (s.taken h se) := rfl
  rw [hrun, bodySessionClose, hp, hse, htop]
  refine ⟨rfl, fun se' hs' => ?_⟩
  obtain rfl : s.handed h se = se' := Option.some.inj ((taken_session hs).symm.trans hs')
  have hports := closeSems_ports (s.taken h se) h.port.toNat se.id
  have hclosing : ((((s.taken h se).closeSems h.port.toNat se.id).onSession h.port.toNat fun x => { x with closing := some h.reqId }).port h.port.toNat).session =
      some { s.handed h se with closing := some h.reqId } := by
    unfold State.onSession
    rw [Laws.onPort_port _ (by rw [hports]; exact Laws.port_lt hs'), State.port, hports, ← State.port, hs']
    rfl
  refine ⟨respond_closes hclosing rfl 0x0003, fun id hid => ?_⟩
  show nth ((s.taken h se).closeSems h.port.toNat se.id).sems id = _
  rw [closeSems_sems, nth_freedAll]
  refine if_congr ?_ rfl rfl
  simp only [mine, indices, List.mem_filter, List.mem_range, hid, true_and]
  rfl

/-- Settles O5: each session command by its body. -/
theorem sessionCommands : Obligations.session_commands := by
  unfold Obligations.session_commands
  refine fun s h => ⟨sessionInfo_answers s h, Laws.answers_of rfl fun _ _ _ _ _ _ _ _ _ _ => ⟨rfl, rfl⟩, Laws.answers_of rfl fun _ _ _ _ _ _ _ _ _ _ => ⟨rfl, rfl⟩,
    eventPoll_answers s h, eventSubscribe_answers s h, sessionClose_answers s h⟩

end Sys2Proof.Proofs
end

section
/-! SUPPORT. Batches: how one member is taken, and what the batch answers (02 R45, R52, R53). -/

namespace Sys2Proof.Proofs

open Sys2Proof Sys2Proof.Machine

/-! ## Taking a member (R45, R52) -/

/-- A request ID that a session notes. -/
abbrev noting (rid : U32) (x : Session) : Session := { x with lastReq := some rid }

section

variable {r : BatchRun} {port : Nat} {auto : Bool} {code : Nat} {rid : U32} {run : Session → State → Answer} {se : Session}
  (hs : (r.s.port port).session = some se) (hj : se.judge rid = .new)

include hs hj

/-- A new member runs, and its response joins those before it. -/
theorem take_new (hr : r.stopped = false) (hc : se.closing = none) {a : Reply} {u : State} (hrun : run (noting rid se) (r.s.onSession port (noting rid)) = (a, u)) (hf : a.forwarded = false) :
    r.take port auto code rid run =
      ({ r with s := u.onSession port fun x => x.keep { reqId := rid, body := responseBody code a rid }, hold := laterHold r.hold a.hold } : BatchRun).answered auto (responseBody code a rid) := by
  have hgo : ¬(r.stopped = true ∨ se.closing.isSome = true) := by simp [hr, hc]
  simp only [BatchRun.take, hs, if_neg hgo, hj]
  rw [hrun]
  simp only [hf, Bool.false_eq_true, if_false]

/-- After the stop a new member is answered STATE_CONFLICT and runs no more. -/
theorem take_stopped (hr : r.stopped = true) :
    r.take port auto code rid run =
      { r with out := r.out ++ responseBody code (Reply.fail .stateConflict) rid
               s := r.s.onSession port fun x => (noting rid x).keep { reqId := rid, body := responseBody code (Reply.fail .stateConflict) rid } } := by
  simp only [BatchRun.take, hs, hr, hj, true_or, if_true, beq_self_eq_true]

end

theorem members_cons {r r' : BatchRun} {port : Nat} {auto : Bool} {top : U32} {m : Member} (h : r.member port auto top m = r') (hw : r'.waits = none) (ms : List Member) :
    r.members port auto top (m :: ms) = r'.members port auto top ms := by
  rw [BatchRun.members, h]
  simp only [hw, Option.isSome_none, Bool.false_eq_true, if_false]

theorem laterHold_none (a : Option Nat) : laterHold none a = a := by cases a <;> rfl

/-- A member whose framing is right runs as a command of its own would, beside its batch (R52). -/
theorem member_cmd (r : BatchRun) (port : Nat) (auto : Bool) (top rid : U32) (a : Bool) {plen : U16} {b : Body} (hp : plen.toNat = b.plen) :
    r.member port auto top (.cmd rid a 0 0 plen b) = r.take port auto b.code rid (runCommand port rid top a false false 1 b.plen b) := by
  rw [BatchRun.member, hp]
  simp

/-- A batch inside a batch and an unknown code are refused (R52). -/
theorem member_refused (r : BatchRun) (port : Nat) (auto : Bool) (top rid : U32) {code : Nat} {m : Member}
    (hm : (m = .batch rid ∧ code = 0x0007) ∨ (m = .unknown rid (BitVec.ofNat 16 code) ∧ code < 65536)) :
    r.member port auto top m = r.take port auto code rid fun _ s => refuse .badArg s := by
  rcases hm with ⟨rfl, rfl⟩ | ⟨rfl, hc⟩
  · rfl
  · rw [BatchRun.member, BitVec.toNat_ofNat, Nat.mod_eq_of_lt hc]

/-! ## The batch (R52, R53) -/

theorem finish_answered {r : BatchRun} (hw : r.waits = none) (port : Nat) (session reqId : U32) (auto : Bool) (rest : List Member) :
    r.finish port session reqId auto rest = ({ payload := r.out, hold := r.hold }, r.s) := by
  simp only [BatchRun.finish, hw]

section

variable {s : State} {h : Hdr} {members : List Member} {se : Session} (ha : admittedBatch h members s se = true)

include ha

/-- The batch before its first member. -/
abbrev batchStart (s : State) (h : Hdr) (se : Session) : BatchRun := { s := s.taken h se }

/-- An admitted batch takes its members and is answered with what they answered. -/
theorem batch_completes {r : BatchRun} {rest : List Member} (hr : (batchStart s h se).members h.port.toNat h.auto h.reqId members = (r, rest)) {P : State → Prop}
    (hP : P ((r.finish h.port.toNat se.id h.reqId h.auto rest).2.respond h.port.toNat se.id h.reqId 0x0007 (r.finish h.port.toNat se.id h.reqId h.auto rest).1)) :
    Completes (.batch h members) s P := by
  obtain ⟨harr, hpre⟩ := Bool.and_eq_true_iff.mp ha
  obtain ⟨hp, hrun, hm, -⟩ := arrives_iff.mp harr
  have hbatch : runBatch h members (s.handed h se) (s.taken h se) = r.finish h.port.toNat se.id h.reqId h.auto rest := by
    have hnone : (s.taken h se).precheck h.port.toNat (s.handed h se) (specOfCode 0x0007) (h.rsvd != 0 || decide (16 < members.length)) h.plen.toNat (h.payRsvd != 0) none
        (s.handed h se).executing.length = none := Option.isNone_iff_eq_none.mp hpre
    simp only [runBatch, hnone]
    rw [hr]
    rfl
  refine completes_process rfl hp hrun hm ?_
  have hproc : s.process (.batch h members) = s.command h 0x0007 (runBatch h members) := rfl
  rw [hproc, command_new harr, hbatch]
  exact hP

theorem batchStart_session : ((batchStart s h se).s.port h.port.toNat).session = some (s.handed h se) := by
  obtain ⟨-, -, -, hs, -⟩ := arrives_iff.mp (Bool.and_eq_true_iff.mp ha).1
  exact taken_session hs

/-- A batch of one new member that answers at once carries its response body. -/
theorem batch_one {m : Member} {rid : U32} {code : Nat} {run : Session → State → Answer} (hms : members = [m])
    (hm : (batchStart s h se).member h.port.toNat h.auto h.reqId m = (batchStart s h se).take h.port.toNat h.auto code rid run) (hj : (s.handed h se).judge rid = .new) (hc : se.closing = none)
    {a : Reply} {u : State} (hrun : run (noting rid (s.handed h se)) ((s.taken h se).onSession h.port.toNat (noting rid)) = (a, u)) (hf : a.forwarded = false) :
    Completes (.batch h members) s fun t =>
      t = (u.onSession h.port.toNat fun x => x.keep { reqId := rid, body := responseBody code a rid }).respond h.port.toNat se.id h.reqId 0x0007 { payload := responseBody code a rid, hold := a.hold } := by
  have htake := take_new (auto := h.auto) (code := code) (batchStart_session ha) hj rfl hc hrun hf
  rw [laterHold_none] at htake
  refine batch_completes ha (hms ▸ members_cons (hm.trans htake) rfl []) ?_
  rw [finish_answered rfl]
  rfl

/-- A batch of two members is answered with what both answered. -/
theorem batch_two {m m' : Member} {r r' : BatchRun} (hms : members = [m, m']) (hr : (batchStart s h se).member h.port.toNat h.auto h.reqId m = r) (hw : r.waits = none)
    (hr' : r.member h.port.toNat h.auto h.reqId m' = r') (hw' : r'.waits = none) :
    Completes (.batch h members) s fun t => t = r'.s.respond h.port.toNat se.id h.reqId 0x0007 { payload := r'.out, hold := r'.hold } := by
  refine batch_completes ha (hms ▸ (members_cons hr hw [m']).trans (members_cons hr' hw' [])) ?_
  rw [finish_answered hw']

/-- The session of a batch whose first member has been refused. -/
abbrev refusedSession (s : State) (h : Hdr) (se : Session) (rid : U32) (code : Nat) : Session :=
  (noting rid (s.handed h se)).keep { reqId := rid, body := responseBody code (Reply.fail .badArg) rid }

/-- The state of a batch whose first member has been refused. -/
abbrev refusedState (s : State) (h : Hdr) (se : Session) (rid : U32) (code : Nat) : State :=
  ((s.taken h se).onSession h.port.toNat (noting rid)).onSession h.port.toNat fun x => x.keep { reqId := rid, body := responseBody code (Reply.fail .badArg) rid }

theorem refusedState_session (rid : U32) (code : Nat) : ((refusedState s h se rid code).port h.port.toNat).session = some (refusedSession s h se rid code) := by
  have hs := batchStart_session ha
  have hp := Laws.port_lt hs
  unfold refusedState State.onSession
  rw [Laws.onPort_onPort _ _ _ _ hp, Laws.onPort_port _ hp]
  simp [hs]

/-- A batch whose first member has been refused: without AUTO it has stopped. -/
abbrev refusedRun (s : State) (h : Hdr) (se : Session) (rid : U32) (code : Nat) (auto : Bool) : BatchRun :=
  { s := refusedState s h se rid code, out := responseBody code (Reply.fail .badArg) rid, stopped := !auto }

/-- An unknown code as the first member is answered BAD_ARG, and without AUTO it stops the batch. -/
theorem unknown_first (rid : U32) (code : U16) (hj : (s.handed h se).judge rid = .new) (hc : se.closing = none) :
    (batchStart s h se).member h.port.toNat h.auto h.reqId (.unknown rid code) = refusedRun s h se rid code.toNat h.auto := by
  refine (take_new (auto := h.auto) (code := code.toNat) (run := fun _ s => refuse .badArg s) (batchStart_session ha) hj rfl hc rfl rfl).trans ?_
  cases h.auto <;> rfl

end

/-- Settles O7: the members are taken one after the other, each by its request ID and by whether the batch has stopped. -/
theorem batches : Obligations.batches := by
  unfold Obligations.batches
  intro s h members se ha
  refine ⟨?_, fun rid auto plen b hms hplen hj hc a u hrun hf => ?_, fun rid code m hm hms hj hc => ?_, fun rid code m rid' auto plen b hm hms hplen hj hc hj' => ?_⟩
  · exact ⟨_, _, rfl, batch_completes ha rfl rfl⟩
  · exact batch_one ha hms (member_cmd _ _ _ _ _ _ hplen) hj hc hrun hf
  · obtain ⟨t, ht, he⟩ := batch_one ha hms (member_refused _ _ _ _ _ hm) hj hc rfl rfl
    exact ⟨t, ht, _, rfl, he⟩
  · subst hm
    have hfirst := unknown_first ha rid code hj hc
    have hs := refusedState_session ha rid code.toNat
    refine ⟨fun hauto => ?_, fun hauto => ⟨(refusedState s h se rid code.toNat).onSession h.port.toNat (noting rid'), rfl, noting rid' (refusedSession s h se rid code.toNat), ?_, fun a u hrun hf => ?_⟩⟩
    · have hstop : (refusedRun s h se rid code.toNat h.auto).stopped = true := by rw [hauto]; rfl
      have hsecond := (member_cmd _ h.port.toNat h.auto h.reqId rid' auto hplen).trans (take_stopped (r := refusedRun s h se rid code.toNat h.auto) hs hj' hstop)
      obtain ⟨t, ht, he⟩ := batch_two ha hms hfirst rfl hsecond rfl
      exact ⟨t, ht, _, rfl, he⟩
    · rw [State.onSession, Laws.onPort_port _ (Laws.port_lt hs), hs]
      rfl
    · have hgo : (refusedRun s h se rid code.toNat h.auto).stopped = false := by rw [hauto]; rfl
      have hsecond := (member_cmd _ h.port.toNat h.auto h.reqId rid' auto hplen).trans (take_new (r := refusedRun s h se rid code.toNat h.auto) hs hj' hgo hc hrun hf)
      rw [laterHold_none] at hsecond
      obtain ⟨t, ht, he⟩ := batch_two ha hms hfirst rfl hsecond rfl
      exact ⟨t, ht, _, rfl, he⟩

end Sys2Proof.Proofs
end

section
/-! SUPPORT. What the shared operations leave of Rosemary's state: telemetry frames, pushes to sessions, and events at Rosemary's own port (02 R48, 17 R449-R452, R465, R466). -/

namespace Sys2Proof.Proofs

open Sys2Proof Sys2Proof.Machine

/-! ## Telemetry: frames leave, and nothing else of Rosemary changes (17 R465, R466) -/

/-- Of Rosemary's state only the stream has changed, and frames have left. -/
structure Telemetry (s t : State) : Prop where
  within : Within [.rec_, .trace] s t
  rec_ : t.rec_ = { s.rec_ with stream := t.rec_.stream, frames := t.rec_.frames }
  frames : ∃ l, t.rec_.frames = s.rec_.frames ++ l

namespace Telemetry

theorem refl (s : State) : Telemetry s s := ⟨.refl s, rfl, [], (List.append_nil _).symm⟩

theorem trans {s t u : State} (h : Telemetry s t) (h' : Telemetry t u) : Telemetry s u := by
  obtain ⟨l, hl⟩ := h.frames
  obtain ⟨l', hl'⟩ := h'.frames
  exact ⟨h.within.trans h'.within, by rw [h'.rec_, h.rec_], l ++ l', by rw [hl', hl, List.append_assoc]⟩

theorem guard {s t : State} {p : Prop} [Decidable p] (h : Telemetry s t) : Telemetry s (if p then t else s) := by
  split
  · exact h
  · exact refl s

/-- A change of the trace points and of the stream alone. -/
theorem streamed (s : State) (t : TraceState) (x : Option StreamState) : Telemetry s { s with trace := t, rec_ := { s.rec_ with stream := x } } :=
  ⟨rfl, rfl, [], (List.append_nil _).symm⟩

theorem queues {s t : State} (h : Telemetry s t) : t.rec_.queues = s.rec_.queues := by rw [h.rec_]

theorem intake {s t : State} (h : Telemetry s t) : t.rec_.ports = s.rec_.ports := by rw [h.rec_]

end Telemetry

/-- The state once the frame being filled has left. -/
def frameSent (s : State) (st : StreamState) : State :=
  { s with rec_ := { s.rec_ with
      frames := s.rec_.frames ++ [TelemetryFrame.make (((nth s.ports st.port).session.map Session.keys).getD {}) st.session st.frameType st.tseq st.frame]
      stream := some { st with tseq := st.tseq + 1, frame := [] } } }

theorem sendFrame_some {s : State} {st : StreamState} (h : s.rec_.stream = some st) (hf : st.frame ≠ []) : ∃ t, s.sendFrame = { frameSent s st with trace := t } := by
  simp only [State.sendFrame, h, if_neg hf]
  split <;> exact ⟨_, rfl⟩

theorem sendFrame_telemetry (s : State) : Telemetry s s.sendFrame := by
  cases h : s.rec_.stream with
  | none =>
    simp only [State.sendFrame, h]
    exact .refl s
  | some st =>
    by_cases hf : st.frame = []
    · simp only [State.sendFrame, h, if_pos hf]
      exact .refl s
    · obtain ⟨t, ht⟩ := sendFrame_some h hf
      rw [ht]
      exact ⟨rfl, rfl, _, rfl⟩

theorem freshFrame_telemetry (s : State) (type : Nat) : Telemetry s (s.freshFrame type) := by
  unfold State.freshFrame
  split
  · exact .guard (sendFrame_telemetry s)
  · exact .refl s

theorem fillFrame_telemetry (s : State) (type : Nat) (r : List Byte) : Telemetry s (s.fillFrame type r) := by
  unfold State.fillFrame
  split
  · exact .refl s
  · dsimp only
    refine .trans ?_ (.guard (sendFrame_telemetry _))
    exact .streamed s s.trace _

theorem stream_telemetry (s : State) (type : Nat) (recs : List (List Byte)) : Telemetry s (s.stream type recs) :=
  foldl_within .refl .trans (fun s r => (freshFrame_telemetry s type).trans (fillFrame_telemetry _ type r)) recs s

theorem drainTrace_telemetry (s : State) : Telemetry s s.drainTrace := by
  unfold State.drainTrace
  refine .guard (.trans (t := { s with trace := { s.trace with buffer := [] } }) ?_ (stream_telemetry ..))
  exact .streamed s _ s.rec_.stream

theorem traced_telemetry (s : State) (point source arg : Nat) : Telemetry s (s.traced point source arg) := by
  unfold State.traced State.tracedAt
  refine .guard (.trans ?_ (drainTrace_telemetry _))
  exact .streamed s _ s.rec_.stream

/-! ## Pushes to sessions (02 R48) -/

/-- An event offered to the session of one port. -/
def pushedTo (s : State) (r : EventRec) (again : Bool) (p : Nat) : State :=
  match (s.port p).session with
  | some se => if se.wants r then s.post p 0x12 (eventBody r again) else s
  | none => s

theorem push_eq (s : State) (r : EventRec) (again : Bool) : s.push r again = pushedTo (pushedTo s r again 0) r again 1 := rfl

/-- The message by which a session is told of an event, if it wants it. -/
def pushMessages (se : Session) (r : EventRec) (again : Bool) : List PortMessage :=
  if se.wants r = true then [.encrypted se.keys se.gen 0x12 se.id (se.txSeq + 1) (eventBody r again)] else []

/-- While a session may still send, an event changes its port alone, and leaves there if the session wants it. -/
theorem pushedTo_port {s : State} {p : Nat} (hb : ∀ se, (s.port p).session = some se → se.txSeq < 2 ^ 48) (r : EventRec) (again : Bool) :
    pushedTo s r again p = { s with ports := (pushedTo s r again p).ports } ∧ (∀ q, q ≠ p → (pushedTo s r again p).port q = s.port q) ∧
      ∀ se, (s.port p).session = some se → ((pushedTo s r again p).port p).outbox = (s.port p).outbox ++ pushMessages se r again := by
  cases hs : (s.port p).session with
  | none =>
    have he : pushedTo s r again p = s := by simp only [pushedTo, hs]
    rw [he]
    exact ⟨rfl, fun _ _ => rfl, fun se h => nomatch h⟩
  | some se =>
    by_cases hw : se.wants r = true
    · simp only [pushedTo, hs, hw, if_true, State.post, if_neg (Nat.not_le.mpr (hb se hs))]
      refine ⟨rfl, fun q hq => Laws.onPort_port_ne _ _ hq, fun x hx => ?_⟩
      rw [Laws.onPort_port _ (Laws.port_lt hs), ← Option.some.inj hx, pushMessages, if_pos hw]
    · have he : pushedTo s r again p = s := by simp only [pushedTo, hs, if_neg hw]
      rw [he]
      refine ⟨rfl, fun _ _ => rfl, fun x hx => ?_⟩
      rw [← Option.some.inj hx, pushMessages, if_neg hw, List.append_nil]

/-- Every session may send at least one more message (R40). -/
def MaySend (s : State) : Prop := ∀ p se, (s.port p).session = some se → se.txSeq < 2 ^ 48

/-- A push changes the ports alone, and leaves at each port whose session wants it (R48). -/
theorem push_ports {s : State} (hb : MaySend s) (r : EventRec) (again : Bool) :
    s.push r again = { s with ports := (s.push r again).ports } ∧
      ∀ p se, p < 2 → (s.port p).session = some se → ((s.push r again).port p).outbox = (s.port p).outbox ++ pushMessages se r again := by
  obtain ⟨heq, hothers, hout⟩ := pushedTo_port (hb 0) r again
  have hb1 : ∀ se, ((pushedTo s r again 0).port 1).session = some se → se.txSeq < 2 ^ 48 := by
    rw [hothers 1 (by decide)]
    exact hb 1
  obtain ⟨heq', hothers', hout'⟩ := pushedTo_port hb1 r again
  rw [push_eq]
  refine ⟨by rw [heq', heq], fun p se hp hs => ?_⟩
  obtain rfl | rfl : p = 0 ∨ p = 1 := by omega
  · rw [hothers' 0 (by decide)]
    exact hout se hs
  · rw [hothers 1 (by decide)] at hout'
    exact hout' se hs

/-! ## Events at Rosemary's own port (17 R452) -/

/-- An event at Rosemary's own port waits there always, and one below severity 3 changes nothing else. -/
theorem event_rosemary (s : State) {code sev : Nat} (hc : reservedEvent code = false) (hs : sev < 3) (src : Nat) (payload : List Byte) :
    s.event .rosemary code sev src payload = { s with rec_ := { s.rec_ with
      ports := s.rec_.ports.set 0 { nth s.rec_.ports 0 with waiting := (nth s.rec_.ports 0).waiting ++ [eventRecord s .rosemary code sev src payload], lostPending := false } } } := by
  simp only [State.event, hc, Bool.false_eq_true, if_false, if_neg (Nat.not_le.mpr hs), or_true, if_true]
  rfl

end Sys2Proof.Proofs
end

section
/-! SUPPORT. Handling queues: what scheduling makes of a queue, and what a post leaves of Rosemary's state (17 R458, R459). -/

namespace Sys2Proof.Proofs

open Sys2Proof Sys2Proof.Machine

/-! ## Scheduling (R458) -/

/-- A queue after its processor has looked at it: the highest waiting entry runs where it stands above the running one and the processor serves. -/
def scheduled (q : HandlingQueue) (serving : Bool) : HandlingQueue :=
  match nextEntry q.entries with
  | none => q
  | some e => if (∀ y ∈ q.running.head?, y.sev < e.sev) ∧ serving = true then { q with entries := q.entries.filter fun x => x ≠ e, running := e :: q.running } else q

theorem scheduled_none {q : HandlingQueue} (h : nextEntry q.entries = none) (serving : Bool) : scheduled q serving = q := by
  simp only [scheduled, h]

theorem scheduled_some {q : HandlingQueue} {e : HandleEntry} (h : nextEntry q.entries = some e) (serving : Bool) :
    scheduled q serving = if (∀ y ∈ q.running.head?, y.sev < e.sev) ∧ serving = true then { q with entries := q.entries.filter fun x => x ≠ e, running := e :: q.running } else q := by
  simp only [scheduled, h]

theorem scheduled_overflow (q : HandlingQueue) (serving : Bool) : (scheduled q serving).overflow = q.overflow := by
  cases h : nextEntry q.entries with
  | none => rw [scheduled_none h]
  | some e =>
    rw [scheduled_some h]
    split <;> rfl

/-- Scheduling loses no entry: what waited still waits, or runs. -/
theorem mem_scheduled {q : HandlingQueue} {x : HandleEntry} (hx : x ∈ q.entries) (serving : Bool) : x ∈ (scheduled q serving).entries ∨ x ∈ (scheduled q serving).running := by
  cases h : nextEntry q.entries with
  | none => rw [scheduled_none h]; exact .inl hx
  | some e =>
    rw [scheduled_some h]
    split
    · by_cases hxe : x = e
      · exact .inr (hxe ▸ List.mem_cons_self)
      · exact .inl (List.mem_filter.mpr ⟨hx, by simpa using hxe⟩)
    · exact .inl hx

/-- A table with an entry written over by itself. -/
theorem set_nth_self {α : Type} [Inhabited α] (l : List α) (i : Nat) : l.set i (nth l i) = l := by
  refine List.ext_getElem? fun j => ?_
  rw [List.getElem?_set]
  split
  · rename_i h
    subst h
    split
    · rename_i h
      simp [nth, List.getD, List.getElem?_eq_getElem h]
    · rename_i h
      exact (List.getElem?_eq_none (Nat.le_of_not_lt h)).symm
  · rfl

/-- The state with one handling queue replaced. -/
abbrev withQueue (s : State) (proc : Nat) (q : HandlingQueue) : State := { s with rec_ := { s.rec_ with queues := s.rec_.queues.set proc q } }

theorem withQueue_withQueue (s : State) (proc : Nat) (q q' : HandlingQueue) : withQueue (withQueue s proc q) proc q' = withQueue s proc q' := by
  simp only [withQueue, List.set_set]

theorem Telemetry.withQueue {s t : State} (h : Telemetry s t) (proc : Nat) (q : HandlingQueue) : Telemetry (withQueue s proc q) (withQueue t proc q) where
  within := h.within
  rec_ := by simp only [h.queues]; rw [h.rec_]
  frames := h.frames

/-- Scheduling replaces the queue of its processor, and beside it only telemetry moves. -/
theorem schedule_telemetry (s : State) (proc : Nat) :
    Telemetry (withQueue s proc (scheduled (nth s.rec_.queues proc) (nth s.procs proc).restartUntil.isNone)) (s.schedule proc) := by
  have hsame : withQueue s proc (nth s.rec_.queues proc) = s := by rw [withQueue, set_nth_self]
  cases h : nextEntry (nth s.rec_.queues proc).entries with
  | none =>
    rw [scheduled_none h, hsame]
    simp only [State.schedule, h]
    exact .refl s
  | some e =>
    have hpush := traced_telemetry (withQueue s proc { nth s.rec_.queues proc with
      entries := (nth s.rec_.queues proc).entries.filter fun x => x ≠ e, running := e :: (nth s.rec_.queues proc).running }) 251 proc e.recSeq
    rw [scheduled_some h]
    by_cases hgo : (∀ y ∈ (nth s.rec_.queues proc).running.head?, y.sev < e.sev) ∧ (nth s.procs proc).restartUntil.isNone = true
    · rw [if_pos hgo]
      obtain ⟨hsev, hserve⟩ := hgo
      cases hr : (nth s.rec_.queues proc).running with
      | nil =>
        simp only [State.schedule, h, hr, hserve, Bool.and_self, if_true]
        exact .refl _
      | cons y ys =>
        have hy : decide (y.sev < e.sev) = true := decide_eq_true (hsev y (by rw [hr]; rfl))
        simp only [State.schedule, h, hr, hserve, hy, Bool.and_self, if_true, if_neg (List.cons_ne_nil y ys)]
        exact hr ▸ hpush
    · rw [if_neg hgo, hsame]
      have hstay : s.schedule proc = s := by
        simp only [State.schedule, h]
        refine if_neg fun hgo' => hgo ?_
        obtain ⟨hstart, hserve⟩ := Bool.and_eq_true _ _ ▸ hgo'
        refine ⟨fun y hy => ?_, hserve⟩
        cases hr : (nth s.rec_.queues proc).running with
        | nil => rw [hr] at hy; exact nomatch hy
        | cons x xs =>
          rw [hr] at hy hstart
          exact Option.some.inj hy ▸ of_decide_eq_true hstart
      rw [hstay]
      exact .refl s

/-! ## Posting (R458, R459) -/

/-- What a post to a handling queue leaves of Rosemary's state. -/
def posted (r : RecorderState) : List Nat × Nat × List EventRec × List EventRec := (r.bySev, r.nextSeq, r.ring, r.spill)

/-- Rosemary's records and counts are as they were, and nothing beside Rosemary and the trace points has changed. -/
structure Handling (s t : State) : Prop where
  within : Within [.rec_, .trace] s t
  posted : posted t.rec_ = posted s.rec_

namespace Handling

theorem refl (s : State) : Handling s s := ⟨.refl s, rfl⟩

theorem trans {s t u : State} (h : Handling s t) (h' : Handling t u) : Handling s u := ⟨h.within.trans h'.within, h'.posted.trans h.posted⟩

theorem ofTelemetry {s t : State} (h : Telemetry s t) : Handling s t := ⟨h.within, by rw [h.rec_]; rfl⟩

theorem queue (s : State) (proc : Nat) (q : HandlingQueue) : Handling s (withQueue s proc q) := ⟨rfl, rfl⟩

end Handling

theorem event_posted (s : State) (port : EvPort) (code sev src : Nat) (payload : List Byte) : posted (s.event port code sev src payload).rec_ = posted s.rec_ := by
  unfold State.event
  split
  · rfl
  · dsimp only
    split <;> split <;> rfl

theorem event_handling (s : State) (port : EvPort) (code : Nat) {sev : Nat} (hs : sev < 3) (src : Nat) (payload : List Byte) : Handling s (s.event port code sev src payload) :=
  ⟨(event_within_rec s port code src hs payload).mono rfl, event_posted ..⟩

/-- A queue that has refused or displaced an entry. -/
def overflowed (q : HandlingQueue) : HandlingQueue := { q with overflow := satAdd 32 q.overflow 1 }

theorem queueOverflow_handling (s : State) (proc : Nat) (e : HandleEntry) : Handling s (s.queueOverflow proc e) :=
  (Handling.queue s proc (overflowed (nth s.rec_.queues proc))).trans ((event_handling _ _ _ (by decide) _ _).trans (.ofTelemetry (traced_telemetry ..)))

/-- A queue with new waiting entries, whose depth is noted. -/
def refilled (q : HandlingQueue) (l : List HandleEntry) : HandlingQueue := { q with entries := l, peak := max q.peak l.length }

theorem enqueue_handling (s : State) (proc : Nat) (e : HandleEntry) : Handling s (s.enqueue proc e) := by
  have hfill (l : List HandleEntry) (x : Nat) : Handling s ((withQueue s proc (refilled (nth s.rec_.queues proc) l)).traced 250 proc x) :=
    (Handling.queue s proc _).trans (.ofTelemetry (traced_telemetry ..))
  unfold State.enqueue
  dsimp only
  split
  · exact hfill ..
  · split
    · split
      · exact (hfill ..).trans (queueOverflow_handling ..)
      · exact queueOverflow_handling ..
    · exact queueOverflow_handling ..

/-- A queue that is not full takes a post at its end, and beside it only telemetry moves. -/
theorem enqueue_room {s : State} {proc : Nat} (h : (nth s.rec_.queues proc).entries.length < 64) (e : HandleEntry) :
    Telemetry (withQueue s proc (refilled (nth s.rec_.queues proc) ((nth s.rec_.queues proc).entries ++ [e]))) (s.enqueue proc e) := by
  simp only [State.enqueue, if_pos h]
  exact traced_telemetry ..

/-- The queue of a processor after a post for which it has room. -/
def postedQueue (q : HandlingQueue) (e : HandleEntry) (serving : Bool) : HandlingQueue := scheduled (refilled q (q.entries ++ [e])) serving

/-- What the posting of a record leaves alone. -/
theorem postHandler_handling (s : State) (r : EventRec) : Handling s (s.postHandler r) := by
  unfold State.postHandler
  split
  · exact .refl s
  · refine (enqueue_handling ..).trans (.trans (.queue ..) (.ofTelemetry (schedule_telemetry ..)))

/-- A record above INFO is posted to its processor's queue, and beside it only telemetry moves. -/
theorem postHandler_room {s : State} {r : EventRec} (h4 : s.rec_.queues.length = 4) (hs : 0 < r.sev) (hc : r.event ≠ 0x0D03) :
    let f := procOf (compOfCode r.event)
    (nth s.rec_.queues f).entries.length < 64 →
      Telemetry (withQueue s f (postedQueue (nth s.rec_.queues f) { recSeq := r.recSeq, sev := r.sev } (nth s.procs f).restartUntil.isNone)) (s.postHandler r) := by
  intro f hroom
  have hf : f < s.rec_.queues.length := h4 ▸ procOf_lt _
  have hq := enqueue_room hroom { recSeq := r.recSeq, sev := r.sev }
  have hqueue : nth (s.enqueue f { recSeq := r.recSeq, sev := r.sev }).rec_.queues f = refilled (nth s.rec_.queues f) ((nth s.rec_.queues f).entries ++ [{ recSeq := r.recSeq, sev := r.sev }]) := by
    rw [hq.queues]
    exact nth_set_self hf _
  have hprocs : (s.enqueue f { recSeq := r.recSeq, sev := r.sev }).procs = s.procs := hq.within.reads State.procs fun _ => rfl
  have hsched := schedule_telemetry (s.enqueue f { recSeq := r.recSeq, sev := r.sev }) f
  rw [hqueue, hprocs] at hsched
  have hposted := (hq.withQueue f _).trans hsched
  rw [withQueue_withQueue] at hposted
  unfold State.postHandler
  rw [if_neg (by omega)]
  exact hposted

end Sys2Proof.Proofs
end

section
/-! SUPPORT. The acceptance of one occurrence: what merging and what writing a record leave (17 R451-R459). -/

namespace Sys2Proof.Proofs

open Sys2Proof Sys2Proof.Machine

/-! ## Rings -/

theorem trimOldest_getLast? {α : Type} {size : α → Nat} {cap : Nat} {e : α} (h : size e ≤ cap) (l : List α) : (trimOldest size cap (l ++ [e])).getLast? = some e := by
  induction l with
  | nil =>
    rw [List.nil_append, trimOldest, List.map_nil, List.foldl_nil, if_pos h]
    rfl
  | cons x l ih =>
    rw [List.cons_append, trimOldest]
    split
    · rw [← List.cons_append, List.getLast?_append_of_ne_nil _ (List.cons_ne_nil e [])]
      rfl
    · exact ih

/-! ## Writing a record (R451, R456) -/

/-- Rosemary's rings and counts once an occurrence is written as a new record. -/
def written (r : RecorderState) (e : EventRec) : RecorderState :=
  ((({ r with bySev := modAt r.bySev e.sev (· + 1), nextSeq := (r.nextSeq + 1) % 2 ^ 32 } : RecorderState).append { e with recSeq := r.nextSeq }).spillOne { e with recSeq := r.nextSeq })

section

variable (r : RecorderState) (e : EventRec)

@[simp] theorem written_bySev : (written r e).bySev = modAt r.bySev e.sev (· + 1) := by
  unfold written RecorderState.spillOne
  split <;> rfl

@[simp] theorem written_nextSeq : (written r e).nextSeq = (r.nextSeq + 1) % 2 ^ 32 := by
  unfold written RecorderState.spillOne
  split <;> rfl

@[simp] theorem written_ports : (written r e).ports = r.ports := by
  unfold written RecorderState.spillOne
  split <;> rfl

@[simp] theorem written_queues : (written r e).queues = r.queues := by
  unfold written RecorderState.spillOne
  split <;> rfl

end

theorem written_ring {r : RecorderState} {e : EventRec} (h : e.size ≤ 16384) : (written r e).ring.getLast? = some { e with recSeq := r.nextSeq } := by
  have hring : (written r e).ring = trimOldest EventRec.size 16384 (r.ring ++ [{ e with recSeq := r.nextSeq }]) := by
    unfold written RecorderState.spillOne
    split <;> rfl
  rw [hring]
  exact trimOldest_getLast? (size := EventRec.size) (e := { e with recSeq := r.nextSeq }) h r.ring

theorem written_spill {r : RecorderState} {e : EventRec} (hs : r.spilling = true) (h : e.size ≤ r.spillBytes / 32) :
    (written r e).spill.getLast? = some { e with recSeq := r.nextSeq } := by
  have hspill : (written r e).spill = trimOldest EventRec.size (r.spillBytes / 32) (r.spill ++ [{ e with recSeq := r.nextSeq }]) := by
    unfold written RecorderState.spillOne
    exact congrArg RecorderState.spill (if_pos hs)
  rw [hspill]
  exact trimOldest_getLast? (size := EventRec.size) (e := { e with recSeq := r.nextSeq }) h r.spill

/-! ## Telling of a record: the partner, the sessions and the stream (R413, R48, R465) -/

/-- The state once a record has been put on the telemetry stream, if that takes events. -/
def streamedRecord (s : State) (r : EventRec) : State :=
  match s.rec_.stream with
  | some st => if st.bits.getLsbD 1 then s.stream 2 r.records else s
  | none => s

theorem streamedRecord_telemetry (s : State) (r : EventRec) : Telemetry s (streamedRecord s r) := by
  unfold streamedRecord
  split
  · exact .guard (stream_telemetry ..)
  · exact .refl s

/-- The state once a new record is mirrored, pushed and streamed. -/
def told (s : State) (r : EventRec) : State := streamedRecord ((s.sendRecordOf .events r.recSeq).push r false) r

theorem sendRecordOf_pair (s : State) (kind : MirKind) (item : Nat) : s.sendRecordOf kind item = { s with pair := (s.sendRecordOf kind item).pair } := by
  unfold State.sendRecordOf
  split <;> rfl

/-- A record leaves over MIR while the pair mirrors or is syncing (R410). -/
theorem sendRecordOf_outstanding {s : State} (h : s.mirrors = true) (kind : MirKind) (item : Nat) :
    ∃ m ∈ (s.sendRecordOf kind item).pair.outstanding, m.kind = kind ∧ m.item = item := by
  rw [State.sendRecordOf, if_pos h]
  exact ⟨_, List.mem_append_right _ (List.mem_singleton_self _), rfl, rfl⟩

/-- While the sessions may send, telling of a record changes the pair and the ports, and beside them only telemetry moves. -/
theorem told_telemetry {s : State} (hb : MaySend s) (r : EventRec) : ∃ ps, Telemetry { s.sendRecordOf .events r.recSeq with ports := ps } (told s r) := by
  have hb' : MaySend (s.sendRecordOf .events r.recSeq) := by
    unfold MaySend State.port
    rw [State.sendRecordOf_ports]
    exact hb
  have hpush := (push_ports hb' r false).1
  refine ⟨((s.sendRecordOf .events r.recSeq).push r false).ports, ?_⟩
  rw [← hpush]
  exact streamedRecord_telemetry ..

/-! ## Acceptance (R451, R454) -/

/-- Rosemary's state once a record that may merge has its key in the merge table. -/
def keyed (r : RecorderState) (e : EventRec) : RecorderState :=
  if mergeable e.event e.sev then
    { r with merge := (({ event := e.event, sev := e.sev, src := e.src, recSeq := e.recSeq, last := e.gt } : MergeKey) ::
        r.merge.filter fun k => !(k.event == e.event && k.sev == e.sev && k.src == e.src)).take 64 }
  else r

theorem keyed_posted (r : RecorderState) (e : EventRec) : posted (keyed r e) = posted r := by
  unfold keyed
  split <;> rfl

theorem keyed_queues (r : RecorderState) (e : EventRec) : (keyed r e).queues = r.queues := by
  unfold keyed
  split <;> rfl

theorem keyed_ports (r : RecorderState) (e : EventRec) : (keyed r e).ports = r.ports := by
  unfold keyed
  split <;> rfl

theorem acceptRecord_new {s : State} {e : EventRec} (h : s.rec_.mergesInto e = none) :
    s.acceptRecord e = (told { s with rec_ := keyed (written s.rec_ e) { e with recSeq := s.rec_.nextSeq } } { e with recSeq := s.rec_.nextSeq }).postHandler { e with recSeq := s.rec_.nextSeq } := by
  have h' : ({ s.rec_ with bySev := modAt s.rec_.bySev e.sev (· + 1) } : RecorderState).mergesInto e = none := h
  simp only [State.acceptRecord, h']
  rfl

theorem acceptRecord_merged {s : State} {e : EventRec} {k : MergeKey} (h : s.rec_.mergesInto e = some k) :
    ∃ m n, s.acceptRecord e = { s with rec_ := { s.rec_ with
      bySev := modAt s.rec_.bySev e.sev (· + 1)
      ring := s.rec_.ring.map fun x => if x.recSeq = k.recSeq then x.repeated e.gt else x
      merge := m
      satCount := n
      repeatDue := k.recSeq :: s.rec_.repeatDue.filter (fun n => n != k.recSeq) } } := by
  have h' : ({ s.rec_ with bySev := modAt s.rec_.bySev e.sev (· + 1) } : RecorderState).mergesInto e = some k := h
  simp only [State.acceptRecord, h']
  exact ⟨_, _, rfl⟩

/-- An occurrence is written as a new record, mirrored, pushed and streamed, and its handler is not posted yet. -/
structure Written (s : State) (e : EventRec) (u : State) : Prop where
  within : Within [.rec_, .trace, .pair, .ports] s u
  posted : posted u.rec_ = posted (written s.rec_ e)
  queues : u.rec_.queues = s.rec_.queues
  intake : u.rec_.ports = s.rec_.ports
  mirrored : s.mirrors = true → ∃ m ∈ u.pair.outstanding, m.kind = .events ∧ m.item = s.rec_.nextSeq

theorem told_written {s : State} (hb : MaySend s) (e : EventRec) :
    Written s e (told { s with rec_ := keyed (written s.rec_ e) { e with recSeq := s.rec_.nextSeq } } { e with recSeq := s.rec_.nextSeq }) := by
  let w : State := { s with rec_ := keyed (written s.rec_ e) { e with recSeq := s.rec_.nextSeq } }
  obtain ⟨ps, ht⟩ := told_telemetry (s := w) hb { e with recSeq := s.rec_.nextSeq }
  rw [sendRecordOf_pair w] at ht
  exact {
    within := .trans (t := { w with pair := (w.sendRecordOf .events s.rec_.nextSeq).pair, ports := ps }) rfl (ht.within.mono rfl)
    posted := (Handling.ofTelemetry ht).posted.trans (keyed_posted ..)
    queues := ht.queues.trans ((keyed_queues ..).trans (written_queues ..))
    intake := ht.intake.trans ((keyed_ports ..).trans (written_ports ..))
    mirrored := fun hm => by
      have hpair := ht.within.reads State.pair fun _ => rfl
      rw [hpair]
      exact sendRecordOf_outstanding (s := w) hm .events s.rec_.nextSeq }

/-! ## The post of a new record to its processor's queue (R458) -/

/-- A lone entry that finds its processor serving and nothing as severe running starts at once. -/
theorem postedQueue_starts {q : HandlingQueue} {x : HandleEntry} (hq : q.entries = []) (hr : ∀ y ∈ q.running.head?, y.sev < x.sev) :
    (postedQueue q x true).running = x :: q.running ∧ (postedQueue q x true).entries = [] := by
  have hnext : nextEntry (refilled q (q.entries ++ [x])).entries = some x := by
    rw [hq]
    rfl
  rw [postedQueue, scheduled_some hnext, if_pos ⟨hr, rfl⟩]
  exact ⟨rfl, by simp [refilled, hq]⟩

theorem mem_postedQueue (q : HandlingQueue) (x : HandleEntry) (serving : Bool) : x ∈ (postedQueue q x serving).entries ∨ x ∈ (postedQueue q x serving).running :=
  mem_scheduled (q := refilled q (q.entries ++ [x])) (List.mem_append_right _ (List.mem_singleton_self x)) serving

theorem postedQueue_overflow (q : HandlingQueue) (x : HandleEntry) (serving : Bool) : (postedQueue q x serving).overflow = q.overflow := scheduled_overflow ..

/-- Where a post for which there is room ends: it starts at once, or it waits or runs. -/
theorem postedQueue_place (q : HandlingQueue) (x : HandleEntry) (restart : Option Nat) :
    if restart = none ∧ q.entries = [] ∧ (∀ y ∈ q.running.head?, y.sev < x.sev) then
      (postedQueue q x restart.isNone).running = x :: q.running ∧ (postedQueue q x restart.isNone).entries = []
    else x ∈ (postedQueue q x restart.isNone).entries ∨ x ∈ (postedQueue q x restart.isNone).running := by
  split
  · rename_i h
    obtain ⟨rfl, hq, hr⟩ := h
    exact postedQueue_starts hq hr
  · exact mem_postedQueue ..

theorem postHandler_none {r : EventRec} (h : r.sev = 0 ∨ r.event = 0x0D03) (s : State) : s.postHandler r = s := if_pos h

end Sys2Proof.Proofs
end

section
/-! SUPPORT. Rosemary's commands, and the obligation about them (02 R48, 17 R451-R459, R466). -/

namespace Sys2Proof.Proofs

open Sys2Proof Sys2Proof.Machine

/-- A command that acts under a condition, and otherwise does nothing. -/
theorem completes_ite {c : Instr} {s : State} {C : Prop} [Decidable C] {P : State → Prop} (hdoes : C → Completes c s P) (hnot : ¬C → exec c s = .next s) :
    Completes c s fun t => if C then P t else t = s := by
  by_cases h : C
  · obtain ⟨t, ht, hp⟩ := hdoes h
    exact ⟨t, ht, (if_pos h).mpr hp⟩
  · exact ⟨s, hnot h, (if_neg h).mpr rfl⟩

/-! ## The intake (R451, R454) -/

/-- The state once a record has left its intake port. -/
abbrev taken (s : State) (i : Nat) (p : IntakePort) : State := { s with rec_ := { s.rec_ with ports := s.rec_.ports.set i p } }

theorem exec_recordIntake_none {s : State} (h : firstWaiting s.rec_.ports 0 = none) : exec .recordIntake s = .next s := by
  show execRecordIntake s = _
  simp only [execRecordIntake, h]

theorem exec_recordIntake_some {s : State} {i : Nat} {e : EventRec} {p : IntakePort} (h : firstWaiting s.rec_.ports 0 = some (i, e, p)) :
    exec .recordIntake s = .next ((taken s i p).acceptRecord e) := by
  show execRecordIntake s = _
  simp only [execRecordIntake, h]

theorem acceptRecord_written {s : State} {e : EventRec} (hb : MaySend s) (h : s.rec_.mergesInto e = none) :
    ∃ u, Written s e u ∧ s.acceptRecord e = u.postHandler { e with recSeq := s.rec_.nextSeq } :=
  ⟨_, told_written hb e, acceptRecord_new h⟩

/-- What a new record leaves of Rosemary's rings and counts, wherever its handler goes. -/
theorem acceptRecord_posted {s : State} {e : EventRec} (hb : MaySend s) (h : s.rec_.mergesInto e = none) : posted (s.acceptRecord e).rec_ = posted (written s.rec_ e) := by
  obtain ⟨u, hu, heq⟩ := acceptRecord_written hb h
  rw [heq]
  exact (postHandler_handling ..).posted.trans hu.posted

theorem acceptRecord_within {s : State} {e : EventRec} (hb : MaySend s) (h : s.rec_.mergesInto e = none) : Within [.rec_, .trace, .pair, .ports] s (s.acceptRecord e) := by
  obtain ⟨u, hu, heq⟩ := acceptRecord_written hb h
  rw [heq]
  exact hu.within.trans ((postHandler_handling ..).within.mono rfl)

theorem acceptRecord_mirrored {s : State} {e : EventRec} (hb : MaySend s) (h : s.rec_.mergesInto e = none) (hm : s.mirrors = true) :
    ∃ m ∈ (s.acceptRecord e).pair.outstanding, m.kind = .events ∧ m.item = s.rec_.nextSeq := by
  obtain ⟨u, hu, heq⟩ := acceptRecord_written hb h
  have hpair : (s.acceptRecord e).pair = u.pair := by
    rw [heq]
    exact (postHandler_handling ..).within.reads State.pair fun _ => rfl
  rw [hpair]
  exact hu.mirrored hm

/-- INFO and 0x0D03 are not posted. -/
theorem acceptRecord_unposted {s : State} {e : EventRec} (hb : MaySend s) (h : s.rec_.mergesInto e = none) (hsev : e.sev = 0 ∨ e.event = 0x0D03) :
    (s.acceptRecord e).rec_.queues = s.rec_.queues ∧ (s.acceptRecord e).rec_.ports = s.rec_.ports := by
  obtain ⟨u, hu, heq⟩ := acceptRecord_written hb h
  rw [heq, postHandler_none (r := { e with recSeq := s.rec_.nextSeq }) hsev]
  exact ⟨hu.queues, hu.intake⟩

/-- A record above INFO goes to its processor's queue, where there is room (R458). -/
theorem acceptRecord_queued {s : State} {e : EventRec} (h4 : s.rec_.queues.length = 4) (hb : MaySend s) (h : s.rec_.mergesInto e = none) (hsev : 0 < e.sev) (hcode : e.event ≠ 0x0D03) :
    let f := procOf (compOfCode e.event)
    (nth s.rec_.queues f).entries.length < 64 →
      (s.acceptRecord e).rec_.ports = s.rec_.ports ∧
      nth (s.acceptRecord e).rec_.queues f = postedQueue (nth s.rec_.queues f) { recSeq := s.rec_.nextSeq, sev := e.sev } (nth s.procs f).restartUntil.isNone := by
  intro f hroom
  obtain ⟨u, hu, heq⟩ := acceptRecord_written hb h
  have hprocs : u.procs = s.procs := hu.within.reads State.procs fun _ => rfl
  have hpost := postHandler_room (s := u) (r := { e with recSeq := s.rec_.nextSeq }) (hu.queues ▸ h4) hsev hcode (hu.queues ▸ hroom)
  rw [heq]
  refine ⟨hpost.intake.trans hu.intake, ?_⟩
  rw [hpost.queues]
  refine (nth_set_self (hu.queues ▸ h4 ▸ procOf_lt _) _).trans ?_
  rw [hu.queues, hprocs]

/-! ## The end of a handler (R458) -/

theorem exec_handlerComplete_running {s : State} {n : U8} (h : n.toNat < 4 ∧ (nth s.procs n.toNat).restartUntil = none) {x : HandleEntry} {rest : List HandleEntry}
    (hr : (nth s.rec_.queues n.toNat).running = x :: rest) :
    exec (.handlerComplete n) s = .next ((withQueue s n.toNat { nth s.rec_.queues n.toNat with running := rest }).schedule n.toNat) := by
  show execHandlerComplete n s = _
  simp only [execHandlerComplete, if_pos h, hr]

theorem exec_handlerComplete_idle {s : State} {n : U8} (h : n.toNat < 4 ∧ (nth s.procs n.toNat).restartUntil = none → (nth s.rec_.queues n.toNat).running = []) :
    exec (.handlerComplete n) s = .next s := by
  show execHandlerComplete n s = _
  by_cases hn : n.toNat < 4 ∧ (nth s.procs n.toNat).restartUntil = none
  · simp only [execHandlerComplete, if_pos hn, h hn]
  · simp only [execHandlerComplete, if_neg hn]

/-- After a handler has ended, the queue of its processor is the scheduled one, and the other queues are as they were. -/
theorem handlerEnds {s : State} {p : Nat} (hp : p < s.rec_.queues.length) (hserve : (nth s.procs p).restartUntil = none) (q : HandlingQueue) :
    let t := (withQueue s p q).schedule p
    Within [.rec_, .trace] s t ∧ (∀ j, j ≠ p → nth t.rec_.queues j = nth s.rec_.queues j) ∧ nth t.rec_.queues p = scheduled q true := by
  intro t
  have hsched := schedule_telemetry (withQueue s p q) p
  have hq : nth (withQueue s p q).rec_.queues p = q := nth_set_self hp q
  rw [withQueue_withQueue, hq] at hsched
  have hserving : (nth (withQueue s p q).procs p).restartUntil.isNone = true := by
    rw [show (withQueue s p q).procs = s.procs from rfl, hserve]
    rfl
  rw [hserving] at hsched
  refine ⟨.trans (t := withQueue s p (scheduled q true)) rfl hsched.within, fun j hj => ?_, ?_⟩
  · rw [hsched.queues]
    exact (nth_set ..).trans (if_neg fun h => hj h.1.symm)
  · rw [hsched.queues]
    exact nth_set_self hp _

/-- A serving processor resumes what runs, unless a more severe entry waits. -/
theorem scheduled_serving {q : HandlingQueue} {e : HandleEntry} (h : nextEntry q.entries = some e) :
    scheduled q true = if ∃ y ∈ q.running.head?, e.sev ≤ y.sev then q else { q with running := e :: q.running, entries := q.entries.filter fun x => x ≠ e } := by
  rw [scheduled_some h]
  by_cases hy : ∃ y ∈ q.running.head?, e.sev ≤ y.sev
  · have hall : ¬((∀ y ∈ q.running.head?, y.sev < e.sev) ∧ true = true) := fun hall => by
      obtain ⟨y, hm, hle⟩ := hy
      exact Nat.not_lt.mpr hle (hall.1 y hm)
    rw [if_pos hy, if_neg hall]
  · have hall : (∀ y ∈ q.running.head?, y.sev < e.sev) ∧ true = true := ⟨fun y hm => Nat.lt_of_not_le fun hle => hy ⟨y, hm, hle⟩, rfl⟩
    rw [if_neg hy, if_pos hall]

/-! ## Lost counts (R452) -/

/-- The state once the losses of the intake ports are reported and counted anew. -/
abbrev lossesReported (s : State) : State := { s with rec_ := { s.rec_ with lostReport := some s.gt, ports := s.rec_.ports.map IntakePort.reported } }

/-- The lost counts of the ports beside Rosemary's own. -/
def lostCounts (s : State) : List Byte := ((s.rec_.ports.drop 1).map fun p => i2 (min 65535 p.lost)).flatten

/-- Losses are due a report: there are some, and the last report is a second old. -/
def LossDue (s : State) : Prop := (∀ g ∈ s.rec_.lostReport, g + secs 1 ≤ s.gt) ∧ ∃ p ∈ s.rec_.ports.drop 1, 0 < p.lost

theorem since_iff {s : State} {t d : Nat} : s.since t d = true ↔ t + d ≤ s.gt := by
  simp [State.since]

theorem exec_intakeLossReport_due {s : State} (h : LossDue s) : exec .intakeLossReport s = .next ((lossesReported s).event .rosemary 0x0D05 1 0 (lostCounts s)) := by
  obtain ⟨hgt, hlost⟩ := h
  have hany : ((s.rec_.ports.drop 1).any fun p => decide (0 < p.lost)) = true := List.any_eq_true.mpr (by simpa using hlost)
  show execIntakeLossReport s = _
  cases hr : s.rec_.lostReport with
  | none => simp only [execIntakeLossReport, hr, hany, Bool.and_self, if_true]; rfl
  | some g =>
    have hs : s.since g (secs 1) = true := since_iff.mpr (hgt g hr)
    simp only [execIntakeLossReport, hr, hany, hs, Bool.and_self, if_true]
    rfl

theorem exec_intakeLossReport_early {s : State} (h : ¬LossDue s) : exec .intakeLossReport s = .next s := by
  show execIntakeLossReport s = _
  refine congrArg Host.Outcome.next (if_neg fun hdue => h ?_)
  obtain ⟨hgt, hany⟩ := Bool.and_eq_true _ _ ▸ hdue
  refine ⟨fun g hg => ?_, by simpa using hany⟩
  rw [Option.mem_def.mp hg] at hgt
  exact since_iff.mp hgt

theorem intakeLossReport_reports {s : State} (h16 : s.rec_.ports.length = 16) :
    let t := (lossesReported s).event .rosemary 0x0D05 1 0 (lostCounts s)
    t.rec_.lostReport = some s.gt ∧ (∀ i, 0 < i → (nth t.rec_.ports i).lost = 0) ∧ Within [.rec_] s t ∧
      ∃ e ∈ (nth t.rec_.ports 0).waiting, e.event = 0x0D05 ∧ e.sev = 1 ∧ e.gt = s.gt ∧ e.payload = lostCounts s := by
  intro t
  have ht : t = _ := event_rosemary (lossesReported s) (by decide) (by decide) 0 (lostCounts s)
  have hlen : (s.rec_.ports.map IntakePort.reported).length = 16 := by rw [List.length_map, h16]
  have hpayload : (lostCounts s).length = 30 := by
    rw [lostCounts, length_flatten_map fun p => length_i2 _, List.length_drop, h16]
  rw [ht]
  refine ⟨rfl, fun i hi => ?_, rfl, ?_⟩
  · rw [show nth _ i = _ from (nth_set ..).trans (if_neg fun h => absurd h.1.symm (Nat.ne_of_gt hi)), nth_map _ _ rfl]
    rfl
  · rw [show (nth _ 0) = _ from nth_set_self (by rw [hlen]; decide) _]
    refine ⟨_, List.mem_append_right _ (List.mem_singleton_self _), rfl, rfl, rfl, ?_⟩
    exact List.take_of_length_le (by omega)

/-! ## Repeats (R48) -/

/-- A merged record is due a push: its count has risen, and the last push is a second old. -/
def RepeatDue (s : State) (n : Nat) : Prop := s.rec_.repeatDue.contains n = true ∧ (look s.rec_.repeatLast n = 0 ∨ look s.rec_.repeatLast n + secs 1 ≤ s.gt)

/-- The state once the push of a repeat is noted. -/
abbrev repeatNoted (s : State) (n : Nat) : State :=
  { s with rec_ := { s.rec_ with repeatDue := s.rec_.repeatDue.filter (fun k => k != n), repeatLast := put s.rec_.repeatLast n s.gt } }

theorem repeatDue_iff (s : State) (n : Nat) : (s.rec_.repeatDue.contains n && (look s.rec_.repeatLast n == 0 || s.since (look s.rec_.repeatLast n) (secs 1))) = true ↔ RepeatDue s n := by
  rw [Bool.and_eq_true, Bool.or_eq_true, since_iff, beq_iff_eq]
  rfl

theorem exec_repeatPush_due {s : State} {n : U32} {r : EventRec} (hr : s.rec_.ring.find? (fun x => x.recSeq == n.toNat) = some r) (h : RepeatDue s n.toNat) :
    exec (.repeatPush n) s = .next ((repeatNoted s n.toNat).push r true) := by
  show execRepeatPush n s = _
  simp only [execRepeatPush, hr, if_pos ((repeatDue_iff ..).mpr h)]

theorem exec_repeatPush_early {s : State} {n : U32} (h : ¬((∃ r ∈ s.rec_.ring, r.recSeq = n.toNat) ∧ RepeatDue s n.toNat)) : exec (.repeatPush n) s = .next s := by
  show execRepeatPush n s = _
  cases hr : s.rec_.ring.find? (fun x => x.recSeq == n.toNat) with
  | none => simp only [execRepeatPush, hr]
  | some r =>
    have hseq : (r.recSeq == n.toNat) = true := List.find?_some (p := fun x : EventRec => x.recSeq == n.toNat) hr
    have hdue : ¬RepeatDue s n.toNat := fun hdue => h ⟨⟨r, List.mem_of_find?_eq_some hr, beq_iff_eq.mp hseq⟩, hdue⟩
    simp only [execRepeatPush, hr, if_neg fun hc => hdue ((repeatDue_iff ..).mp hc)]

/-! ## Telemetry frames (R466) -/

/-- A telemetry frame begins with its header in clear. -/
theorem make_header (k : SessionKeys) (session : U32) (type tseq : Nat) (records : List (List Byte)) :
    (TelemetryFrame.make k session type tseq records).wire.take 24 =
      i4 0x4D54474C ++ i1 type ++ i1 records.length ++ i2 0 ++ i8 tseq ++ leBytes 4 session.toNat ++ i4 0 :=
  List.take_left' (by simp)

/-- A frame has waited its 100 microseconds. -/
def FrameDue (s : State) (st : StreamState) : Prop := st.frame ≠ [] ∧ st.frameGt + 100 ≤ s.gt

theorem exec_telemetryFrameTimeout_due {s : State} {st : StreamState} (h : s.rec_.stream = some st) (hd : FrameDue s st) : exec .telemetryFrameTimeout s = .next s.sendFrame.drainTrace := by
  show execTelemetryFrameTimeout s = _
  simp only [execTelemetryFrameTimeout, h]
  rw [if_pos ⟨hd.1, since_iff.mpr hd.2⟩]

theorem exec_telemetryFrameTimeout_early {s : State} (h : ∀ st, s.rec_.stream = some st → ¬FrameDue s st) : exec .telemetryFrameTimeout s = .next s := by
  show execTelemetryFrameTimeout s = _
  cases hst : s.rec_.stream with
  | none => simp only [execTelemetryFrameTimeout, hst]
  | some st =>
    simp only [execTelemetryFrameTimeout, hst]
    rw [if_neg fun hd => h st hst ⟨hd.1, since_iff.mp hd.2⟩]

/-- A due frame leaves, and where trace records are not streamed nothing follows it. -/
theorem telemetryFrameTimeout_sends {s : State} {st : StreamState} (h : s.rec_.stream = some st) (hf : st.frame ≠ []) :
    let f := TelemetryFrame.make (((nth s.ports st.port).session.map Session.keys).getD {}) st.session st.frameType st.tseq st.frame
    let t := s.sendFrame.drainTrace
    (∃ l, t.rec_.frames = s.rec_.frames ++ f :: l) ∧ Within [.rec_, .trace] s t ∧
      (st.bits.getLsbD 0 = false → t.rec_.frames = s.rec_.frames ++ [f] ∧ t.rec_.stream = some { st with tseq := st.tseq + 1, frame := [] }) := by
  intro f t
  obtain ⟨x, hx⟩ := sendFrame_some h hf
  have ht := drainTrace_telemetry s.sendFrame
  obtain ⟨l, hl⟩ := ht.frames
  refine ⟨⟨l, ?_⟩, (sendFrame_telemetry s).within.trans ht.within, fun hbit => ?_⟩
  · rw [hl, hx]
    exact List.append_assoc ..
  · have hstay : t = s.sendFrame := by
      refine if_neg fun hany => Bool.false_ne_true ?_
      rw [hx] at hany
      exact hbit.symm.trans hany
    rw [hstay, hx]
    exact ⟨rfl, rfl⟩

/-! ## The spill (R456) -/

theorem exec_spillStop_running {s : State} {c : U8} (h : (c = 1 ∨ c = 2) ∧ s.rec_.spilling = true) :
    exec (.spillStop c) s = .next ({ s with rec_ := { s.rec_ with spilling := false } }.event .rosemary 0x0D06 2 0 (i1 c.toNat)) := by
  show execSpillStop c s = _
  rw [execSpillStop, if_pos h.1, State.stopSpill, if_pos h.2]

theorem exec_spillStop_idle {s : State} {c : U8} (h : ¬((c = 1 ∨ c = 2) ∧ s.rec_.spilling = true)) : exec (.spillStop c) s = .next s := by
  show execSpillStop c s = _
  unfold execSpillStop
  split
  · rename_i hc
    rw [State.stopSpill, if_neg fun hs => h ⟨hc, hs⟩]
  · rfl

/-! ## The obligation -/

/-- Settles O56: a new record's rings, mirror record and post are followed from its writing to its queue; the other commands are each their own small change. -/
theorem recorderEvents : Obligations.recorder_events := by
  unfold Obligations.recorder_events
  intro s h16 h4 hb
  refine ⟨fun h => ⟨s, exec_recordIntake_none h, rfl⟩, fun i e p h hsize => ⟨_, exec_recordIntake_some h, ?_⟩, fun n => ?_, ?_, fun n => ?_, ?_, fun c => ?_⟩
  · cases hm : s.rec_.mergesInto e with
    | some k =>
      obtain ⟨m, n, heq⟩ := acceptRecord_merged (s := taken s i p) (e := e) (k := k) hm
      rw [heq]
      refine ⟨rfl, fun k' hk => ?_, fun h => nomatch h⟩
      obtain rfl := Option.some.inj hk
      exact ⟨rfl, rfl, rfl, rfl, List.mem_cons_self, rfl⟩
    | none =>
      have hm' : (taken s i p).rec_.mergesInto e = none := hm
      have hb' : MaySend (taken s i p) := hb
      have hposted := acceptRecord_posted hb' hm'
      simp only [posted, Prod.mk.injEq, written_bySev, written_nextSeq] at hposted
      obtain ⟨hsev, hseq, hring, hspill⟩ := hposted
      refine ⟨hsev, fun k hk => (nomatch hk), fun _ => ⟨hseq, ?_, acceptRecord_within hb' hm', fun hs hcap => ?_, acceptRecord_mirrored hb' hm', acceptRecord_unposted hb' hm', fun hpos hcode hroom => ?_⟩⟩
      · rw [hring]
        exact written_ring (hsize.trans (by decide))
      · rw [hspill]
        exact written_spill hs (hsize.trans hcap)
      · obtain ⟨hports, hqueue⟩ := acceptRecord_queued (s := taken s i p) h4 hb' hm' hpos hcode hroom
        refine ⟨hports, ?_⟩
        rw [hqueue]
        exact ⟨postedQueue_overflow .., postedQueue_place _ { recSeq := s.rec_.nextSeq, sev := e.sev } (nth s.procs (procOf (compOfCode e.event))).restartUntil⟩
  · refine completes_ite (fun hn => ?_) fun hn => exec_handlerComplete_idle fun h => absurd h hn
    cases hr : (nth s.rec_.queues n.toNat).running with
    | nil => exact ⟨s, exec_handlerComplete_idle fun _ => hr, rfl⟩
    | cons x rest =>
      obtain ⟨hwithin, hothers, hqueue⟩ := handlerEnds (h4 ▸ hn.1) hn.2 { nth s.rec_.queues n.toNat with running := rest }
      refine ⟨_, exec_handlerComplete_running hn hr, hwithin, hothers, ?_⟩
      rw [hqueue]
      cases hnext : nextEntry (nth s.rec_.queues n.toNat).entries with
      | none => exact scheduled_none (q := { nth s.rec_.queues n.toNat with running := rest }) hnext true
      | some e => exact scheduled_serving (q := { nth s.rec_.queues n.toNat with running := rest }) hnext
  · exact completes_ite (fun hdue => ⟨_, exec_intakeLossReport_due hdue, intakeLossReport_reports h16⟩) exec_intakeLossReport_early
  · refine completes_ite (fun ⟨hex, hdue⟩ => ?_) exec_repeatPush_early
    obtain ⟨r, hr⟩ := Option.isSome_iff_exists.mp (List.find?_isSome (p := fun x : EventRec => x.recSeq == n.toNat) |>.mpr (by simpa using hex))
    obtain ⟨hpush, hout⟩ := push_ports (s := repeatNoted s n.toNat) hb r true
    refine ⟨_, exec_repeatPush_due hr hdue, ?_⟩
    rw [hpush]
    refine ⟨by simp, rfl, rfl, rfl, fun r' hr' p se hp hse => ?_⟩
    obtain rfl := Option.some.inj (hr.symm.trans hr')
    exact hout p se hp hse
  · cases hst : s.rec_.stream with
    | none => exact ⟨s, exec_telemetryFrameTimeout_early fun st h => absurd (hst.symm.trans h) nofun, fun _ => rfl, nofun⟩
    | some st =>
      by_cases hdue : FrameDue s st
      · obtain ⟨hframes, hwithin, hstay⟩ := telemetryFrameTimeout_sends hst hdue.1
        refine ⟨_, exec_telemetryFrameTimeout_due hst hdue, nofun, fun st' h => ?_⟩
        obtain rfl := Option.some.inj h
        exact (if_pos hdue).mpr ⟨hframes, hwithin, make_header .., hstay⟩
      · refine ⟨s, exec_telemetryFrameTimeout_early fun st' h => Option.some.inj (hst.symm.trans h) ▸ hdue, nofun, fun st' h => ?_⟩
        obtain rfl := Option.some.inj h
        exact (if_neg hdue).mpr rfl
  · refine completes_ite (fun hc => ⟨_, exec_spillStop_running hc, ?_⟩) exec_spillStop_idle
    have hrec := event_recorded (s := s) (t := { s with rec_ := { s.rec_ with spilling := false } }) (port := .rosemary) rfl (h16 ▸ by decide) (Nat.le_refl _) (code := 0x0D06) (by decide) 2 0 (i1 c.toNat)
    rw [event_rosemary _ (by decide) (by decide)] at hrec ⊢
    exact ⟨rfl, rfl, rfl, hrec, rfl⟩

end Sys2Proof.Proofs
end

section
/-! SUPPORT. What putting an accelerator into a state changes beside Thyme's table, and what an immediate-off leaves of the clock and the outputs. -/

namespace Sys2Proof.Proofs

open Sys2Proof Sys2Proof.Machine

/-! ## Accelerator states, part by part (00 R13, 03 R78) -/

/-- What follows a change of an accelerator's state, beside the table of states and the resets. -/
abbrev accParts : List Part := [.cool, .ledger, .link, .op, .pair, .phase, .rec_, .repro, .sec, .sync, .trace, .upd]

section

variable {ps : List Part} (s : State)

theorem onLedger_within (f : LedgerState → LedgerState) (hp : among [.ledger] ps = true := by rfl) : Within ps s (s.onLedger f) := Within.mono (ps := [.ledger]) rfl hp

theorem noteUnopened_within (ent : List (Nat × Nat)) : Within accParts s (s.noteUnopened ent) :=
  .foldl (fun s _ => .guard ((onLedger_within s _).trans (event_within ..))) ent s

theorem settleDie_within (i : Nat) : Within accParts s (s.settleDie i) := by
  unfold State.settleDie
  dsimp only
  refine .trans ?_ (onLedger_within ..)
  split
  · exact .guard (noteUnopened_within ..)
  · exact .refl s

theorem settlePkg_within (n : Nat) : Within accParts s (s.settlePkg n) := .foldl (fun s _ => settleDie_within s _) _ s

theorem failSubst_within (n : Nat) : Within accParts s (s.failSubst n) := by
  unfold State.failSubst
  refine .trans (t := { s with repro := _ }) rfl (.foldl (fun s p => ?_) _ _)
  exact .trans (t := { s with repro := _ }) rfl (event_within ..)

theorem throttleIdle_within : Within accParts s s.throttleIdle := by
  unfold State.throttleIdle State.throttleEnds
  refine .guard (.trans (t := { s with op := _ }) rfl (.guard ?_))
  exact (event_within ..).trans ((traced_within ..).trans (mirrored_within ..))

theorem leaveAccOn_within (n : Nat) : Within accParts s (s.leaveAccOn n) := by
  unfold State.leaveAccOn
  dsimp only
  refine .trans (.trans ?_ (.foldl (fun _ _ => event_within ..) _ _)) (throttleIdle_within _)
  refine .trans ?_ (failSubst_within _ n)
  exact .trans (t := { s with link := _, op := _, sync := _, phase := _ }) rfl (.foldl (fun _ _ => event_within ..) _ _)

theorem enterAccOn_within (n : Nat) : Within accParts s (s.enterAccOn n) :=
  .trans (t := { s with op := _, link := _, sync := _, ledger := _, repro := _ }) rfl (saveSettings_within ..)

end

/-- The table of states with the accelerator's new one, and its reset low in ACC_OFF and ACC_FAULT. -/
def accPut (s : State) (n : Nat) (a : AccState) : State :=
  { s with
    thyme := { s.thyme with accs := s.thyme.accs.set n a }
    sage := if a = .off ∨ a = .fault then { s.sage with accReset := s.sage.accReset &&& ~~~(1#8 <<< n) } else s.sage }

/-- Putting an accelerator into a state changes its entry and its reset, and what follows from the change. -/
theorem setAcc_within (s : State) (n : Nat) (a : AccState) : Within accParts (accPut s n a) (s.setAcc n a) := by
  unfold State.setAcc
  dsimp only
  refine .trans ?_ (.guard ((refreshSensors_outward _).within.mono rfl |>.trans (event_within ..)))
  refine .trans ?_ (.guard (enterAccOn_within ..))
  refine .trans ?_ (.guard (leaveAccOn_within ..))
  have hs : Within accParts s (if ((s.acc n == .on) != (a == .on)) = true then s.settlePkg n else s) := .guard (settlePkg_within s n)
  generalize (if ((s.acc n == .on) != (a == .on)) = true then s.settlePkg n else s) = t at hs ⊢
  have ht : t.thyme = s.thyme := hs.reads State.thyme fun _ => rfl
  have hg : t.sage = s.sage := hs.reads State.sage fun _ => rfl
  have hp : Within accParts (accPut s n a) (accPut t n a) := by
    unfold accPut
    rw [ht, hg]
    exact congrArg (fun u : State => { u with thyme := (accPut s n a).thyme, sage := (accPut s n a).sage }) hs
  refine hp.trans ?_
  unfold accPut
  split <;> exact .refl _

/-! ## What an immediate-off leaves of the clock and the outputs (07 R191-R194) -/

/-- The clock and the branches are as they were, and no reset is released where none was. -/
structure Lowering (s t : State) : Prop where
  clk : t.clk = s.clk
  branches : t.sage.branches = s.sage.branches
  accReset : s.sage.accReset = 0 → t.sage.accReset = 0

namespace Lowering

theorem refl (s : State) : Lowering s s := ⟨rfl, rfl, id⟩

theorem trans {s t u : State} (h : Lowering s t) (h' : Lowering t u) : Lowering s u :=
  ⟨h'.clk.trans h.clk, h'.branches.trans h.branches, fun e => h'.accReset (h.accReset e)⟩

theorem guard {s t : State} {p : Prop} [Decidable p] (h : Lowering s t) : Lowering s (if p then t else s) := by
  split
  · exact h
  · exact refl s

theorem guardNot {s t : State} {p : Prop} [Decidable p] (h : Lowering s t) : Lowering s (if p then s else t) := by
  split
  · exact refl s
  · exact h

theorem foldl {α : Type} {f : State → α → State} (h : ∀ s a, Lowering s (f s a)) (l : List α) (s : State) : Lowering s (l.foldl f s) := foldl_within refl trans h l s

/-- A change beside the clock and Sage. -/
theorem beside {ps : List Part} {s t : State} (h : Within ps s t) (hc : ps.contains .clk = false := by rfl) (hs : ps.contains .sage = false := by rfl) : Lowering s t := by
  have hg : t.sage = s.sage := h.reads State.sage fun u => by simp only [State.without, hs]; rfl
  exact ⟨h.reads State.clk fun u => by simp only [State.without, hc]; rfl, by rw [hg], fun e => by rw [hg]; exact e⟩

end Lowering

theorem onThyme_lowering (s : State) (f : ThymeState → ThymeState) : Lowering s (s.onThyme f) := ⟨rfl, rfl, id⟩

theorem setAcc_lowering (s : State) (n : Nat) (a : AccState) : Lowering s (s.setAcc n a) := by
  refine .trans (t := accPut s n a) ⟨rfl, ?_, fun h => ?_⟩ (.beside (setAcc_within s n a))
  · unfold accPut
    split <;> rfl
  · unfold accPut
    split
    · exact (congrArg (· &&& _) h).trans BitVec.zero_and
    · exact h

theorem stop_lowering (s : State) (k : Nat) : Lowering s (s.stop k) := ⟨rfl, rfl, id⟩

theorem stopRun_lowering (scope : Nat) (s : State) (j : Nat) : Lowering s (stopRun scope s j) :=
  .trans (t := s.stop j) (stop_lowering s j) (.guardNot (setAcc_lowering ..))

theorem stopAll_lowering (s : State) (scope : Nat) : Lowering s (s.stopAll scope) := by
  rw [stopAll_eq]
  exact .foldl (fun s j => .guard (stopRun_lowering scope s j)) _ s

theorem abortEvent_within (s : State) (k cause code : Nat) : Within [.rec_, .thyme, .trace, .upd] s (s.abortEvent k cause code) :=
  .trans (t := s.onCtx k _) rfl ((event_within ..).trans (traced_within ..))

theorem abortSage_lowering (s : State) (scope k : Nat) : Lowering s (s.abortSage scope k) := by
  rw [abortSage_eq]
  refine .guardNot (.trans (.beside (abortEvent_within s k 1 0)) ?_)
  unfold abortSageRest
  split
  · split
    · exact stop_lowering ..
    · exact (stopAll_lowering _ scope).trans (onThyme_lowering (State.stopAll _ scope) _)
  · exact (stop_lowering _ k).trans (.guardNot (setAcc_lowering ..))

theorem offLatches_lowering (s : State) (scope : Nat) (kind : OffKind) : Lowering s (offLatches s scope kind) := by
  have hs (t : State) (f : SageState → SageState) (hb : (f t.sage).branches = t.sage.branches) (ha : (f t.sage).accReset = t.sage.accReset) : Lowering t (t.onSage f) :=
    ⟨rfl, hb, fun e => ha.trans e⟩
  have hf : Lowering s ((List.range 8).foldl (fun s n => if s.acc n = .fault then s else s.setAcc n .off) s) := .foldl (fun s n => .guardNot (setAcc_lowering ..)) _ s
  unfold offLatches
  split
  · refine hf.trans ?_
    generalize List.foldl _ s _ = t
    cases kind with
    | fault => exact (onThyme_lowering ..).trans (hs _ _ rfl rfl)
    | thermal => exact (onThyme_lowering ..).trans (hs _ _ rfl rfl)
    | unlatched => exact .refl _
  · exact .guardNot ((setAcc_lowering ..).trans (hs _ _ rfl rfl))

/-- What follows the latches of an immediate-off: the rest leaves the latches as they are. -/
def offRest (s : State) (scope rule : Nat) (kind : OffKind) (started : Bool) : State :=
  (((offNoted (offCancels s scope kind) scope rule started).mirrored .grants).mirrored .tray).emergencyStart

theorem emergencyStart_latchFault (s : State) : s.emergencyStart.thyme.latchFault = s.thyme.latchFault := by
  unfold State.emergencyStart
  split
  · rfl
  · split
    · rfl
    · rw [State.mirrored_thyme, State.traced_thyme]
      rfl

theorem offNoted_within (s : State) (scope rule : Nat) (started : Bool) : Within [.rec_, .sage, .trace] s (offNoted s scope rule started) := by
  unfold offNoted
  split
  · exact .refl s
  · exact .trans (t := s.onSage _) rfl (traced_within ..)

theorem offNoted_sage (s : State) (scope rule : Nat) (started : Bool) : ∃ l, (offNoted s scope rule started).sage = { s.sage with offs := l } := by
  unfold offNoted
  split
  · exact ⟨_, rfl⟩
  · exact ⟨_, State.traced_sage ..⟩

theorem offCancels_within (s : State) (scope : Nat) (kind : OffKind) : Within [.thyme] s (offCancels s scope kind) := by
  unfold offCancels
  split
  · rfl
  · exact .guard rfl

theorem offCancels_latchFault (s : State) (scope : Nat) (kind : OffKind) : (offCancels s scope kind).thyme.latchFault = s.thyme.latchFault := by
  unfold offCancels
  split
  · rfl
  · split <;> rfl

/-- What follows the latches leaves them and the outputs as they are. -/
theorem offRest_spec (s : State) (scope rule : Nat) (kind : OffKind) (started : Bool) :
    Lowering s (offRest s scope rule kind started) ∧ (offRest s scope rule kind started).thyme.latchFault = s.thyme.latchFault ∧
      (offRest s scope rule kind started).sage.holdFault = s.sage.holdFault := by
  have hc := offCancels_within s scope kind
  have hn := offNoted_within (offCancels s scope kind) scope rule started
  obtain ⟨l, hl⟩ := offNoted_sage (offCancels s scope kind) scope rule started
  have he : Within [.pair, .rec_, .thyme, .trace] (offNoted (offCancels s scope kind) scope rule started) (offRest s scope rule kind started) :=
    ((mirrored_within ..).trans (mirrored_within ..)).trans (emergencyStart_within _)
  have hg : (offRest s scope rule kind started).sage = { s.sage with offs := l } := by
    rw [he.reads State.sage fun _ => rfl, hl, hc.reads State.sage fun _ => rfl]
  refine ⟨⟨?_, by rw [hg], fun h => by rw [hg]; exact h⟩, ?_, by rw [hg]⟩
  · rw [he.reads State.clk fun _ => rfl, hn.reads State.clk fun _ => rfl, hc.reads State.clk fun _ => rfl]
  · rw [offRest, emergencyStart_latchFault, State.mirrored_thyme, State.mirrored_thyme, hn.reads State.thyme fun _ => rfl, offCancels_latchFault]

theorem offLatches_fault {scope : Nat} (h : wideScope scope = true) (s : State) :
    (offLatches s scope .fault).thyme.latchFault = true ∧ (offLatches s scope .fault).sage.holdFault = true := by
  unfold offLatches
  rw [if_pos h]
  exact ⟨rfl, rfl⟩

/-! ### The pins of the tray's scope (07 R191, R192; nets of 17 R503) -/

/-- A net that qualifies is in the set that a scan of the nets collects. -/
theorem collected_bit {p : Nat → Prop} [DecidablePred p] {j : Nat} (hj : j < 103) (hp : p j) (l : List Nat) (a : BitVec 103) (h : j ∈ l ∨ a.getLsbD j = true) :
    (l.foldl (fun a k => if p k then a ||| netBit k else a) a).getLsbD j = true := by
  induction l generalizing a with
  | nil => exact h.resolve_left List.not_mem_nil
  | cons k l ih =>
    refine ih _ ?_
    rcases h with h | h
    · rcases List.mem_cons.mp h with rfl | h
      · right
        dsimp only
        rw [if_pos hp, BitVec.getLsbD_or]
        simp [netBit, hj]
      · exact .inl h
    · right
      dsimp only
      split
      · rw [BitVec.getLsbD_or, h, Bool.true_or]
      · exact h

theorem scopeNets_branch {scope b : Nat} (hw : wideScope scope = true) (hb : trayBranch b = true) (s : State) : (s.scopeNets scope).getLsbD (64 + b) = true := by
  have hl : b < 12 := by
    simp only [trayBranch, Bool.and_eq_true, decide_eq_true_eq] at hb
    exact hb.1
  refine collected_bit (by omega) ?_ _ _ (.inl (List.mem_range.mpr (by omega)))
  have ht : s.netTargets (64 + b) = [.branch b] := by
    rw [State.netTargets, if_neg (by omega), if_pos (by omega), Nat.add_sub_cancel_left]
  simp [ht, State.targetInScope, hw, hb]

theorem scopeNets_reset {scope n : Nat} (hw : wideScope scope = true) (hn : n < 8) (s : State) : (s.scopeNets scope).getLsbD (76 + n) = true := by
  refine collected_bit (by omega) ?_ _ _ (.inl (List.mem_range.mpr (by omega)))
  have ht : s.netTargets (76 + n) = [.accReset n] := by
    rw [State.netTargets, if_neg (by omega), if_neg (by omega), if_pos (by omega), Nat.add_sub_cancel_left]
  simp [ht, State.targetInScope, hw]

theorem grantedNets_branch {s : State} {b : Nat} (hb : trayBranch b = true) (h : s.sage.branches.getLsbD b = true) : s.grantedNets.getLsbD (64 + b) = true := by
  simp only [trayBranch, Bool.and_eq_true, decide_eq_true_eq, bne_iff_ne] at hb
  have hm : ∀ b < 12, b ≠ 9 → (~~~(1#103 <<< 9)).getLsbD b = true := by decide
  have hx : (s.sage.branches.zeroExtend 103 &&& ~~~(1#103 <<< 9)).getLsbD b = true := by
    rw [BitVec.getLsbD_and, hm b hb.1 hb.2, BitVec.zeroExtend, BitVec.getLsbD_setWidth, h]
    simp
    omega
  have hs : ((s.sage.branches.zeroExtend 103 &&& ~~~(1#103 <<< 9)) <<< 64).getLsbD (64 + b) = true := by
    rw [BitVec.getLsbD_shiftLeft, Nat.add_sub_cancel_left, hx]
    simp
    omega
  simp only [State.grantedNets, BitVec.getLsbD_or, hs, Bool.or_true, Bool.true_or]

theorem grantedNets_reset {s : State} {n : Nat} (hn : n < 8) (h : s.sage.accReset.getLsbD n = true) : s.grantedNets.getLsbD (76 + n) = true := by
  simp [State.grantedNets, h, show 76 + n < 103 by omega]

/-- The outputs of the tray's branches and accelerators are low. -/
def TrayLow (s : State) : Prop := s.sage.branches &&& 0xDFF#12 = 0 ∧ s.sage.accReset = 0

theorem Lowering.trayLow {s t : State} (h : Lowering s t) (hl : TrayLow s) : TrayLow t := ⟨h.branches ▸ hl.1, h.accReset hl.2⟩

theorem scopeOff_trayLow {scope : Nat} (hw : wideScope scope = true) (s : State) : TrayLow (s.scopeOff scope) := by
  have hb : (s.scopeOff scope).sage.branches = s.sage.branches &&& (1#12 <<< 9) := if_pos hw
  have ha : (s.scopeOff scope).sage.accReset = 0 := if_pos hw
  exact ⟨by rw [hb, BitVec.and_assoc]; exact BitVec.and_zero, ha⟩

/-- Where nothing of the tray's scope is on, its outputs are low already. -/
theorem trayLow_of_nothingOn {s : State} {scope : Nat} (hw : wideScope scope = true) (h : s.anyOn scope = false) : TrayLow s := by
  have hnet (k : Nat) (hk : k < 103) (hs : (s.scopeNets scope).getLsbD k = true) : s.grantedNets.getLsbD k = false := by
    simp only [State.anyOn, Bool.or_eq_false_iff, List.any_eq_false, List.mem_range, Bool.and_eq_true, not_and, Bool.not_eq_true] at h
    exact h.2 k hk hs
  constructor
  · refine BitVec.eq_of_getLsbD_eq fun b hb => ?_
    rw [BitVec.getLsbD_and]
    cases hm : (0xDFF#12).getLsbD b with
    | false => simp
    | true =>
      have ht : trayBranch b = true := by
        revert hm
        interval_cases b <;> decide
      cases hv : s.sage.branches.getLsbD b with
      | false => simp
      | true => exact absurd (grantedNets_branch ht hv) (by rw [hnet _ (by omega) (scopeNets_branch hw ht s)]; exact Bool.false_ne_true)
  · refine BitVec.eq_of_getLsbD_eq fun n hn => ?_
    cases hv : s.sage.accReset.getLsbD n with
    | false => simp
    | true => exact absurd (grantedNets_reset hn hv) (by rw [hnet _ (by omega) (scopeNets_reset hw hn s)]; exact Bool.false_ne_true)

theorem offPins_trayLow {scope : Nat} (hw : wideScope scope = true) (s : State) (started : Bool) : TrayLow (offPins s scope started) := by
  unfold offPins
  split
  · rename_i h
    simp only [Bool.and_eq_true, Bool.not_eq_true'] at h
    exact trayLow_of_nothingOn hw h.2
  · exact scopeOff_trayLow hw s

/-- An immediate-off of the tray with the fault latch: the clock goes on, the tray's outputs are low, and the latch holds (03 R70, 07 R191-R194). -/
theorem immediateOff_tray {scope : Nat} (hw : wideScope scope = true) (s : State) (rule : Nat) :
    (s.immediateOff scope rule .fault).clk = s.clk ∧ TrayLow (s.immediateOff scope rule .fault) ∧
      (s.immediateOff scope rule .fault).thyme.latchFault = true ∧ (s.immediateOff scope rule .fault).sage.holdFault = true := by
  rw [immediateOff_eq]
  dsimp only
  generalize (s.sage.holdFault || s.sage.holdThermal || (decide (scope < 8) && s.sage.holdBranch.getLsbD scope)) = started
  have hc : (offPins s scope started).clk = s.clk := by
    unfold offPins
    split <;> rfl
  have hv : Lowering (offPins s scope started) ((s.sageVictims scope (OffKind.fault == .unlatched)).foldl (fun s k => s.abortSage scope k) (offPins s scope started)) :=
    .foldl (fun s k => abortSage_lowering s scope k) _ _
  generalize List.foldl _ (offPins s scope started) _ = v at hv ⊢
  have hl := hv.trans (offLatches_lowering v scope .fault)
  obtain ⟨hlf, hlh⟩ := offLatches_fault hw v
  obtain ⟨hr, hrf, hrh⟩ := offRest_spec (offLatches v scope .fault) scope rule .fault started
  exact ⟨(hl.trans hr).clk.trans hc, (hl.trans hr).trayLow (offPins_trayLow hw s started), hrf.trans hlf, hrh.trans hlh⟩

end Sys2Proof.Proofs
end

section
/-! SUPPORT. The loss and the return of the clock, and the on-die temperature. -/

namespace Sys2Proof.Proofs

open Sys2Proof Sys2Proof.Machine

/-! ## Changes that leave the pair's own state alone, and only send -/

/-- The pair's state beside its port and what has left on it. -/
def bearing (p : PairState) : PairState := { p with mir := {}, out := [] }

/-- The pair's state is as it was, beside its port; messages may have left. -/
structure Sending (s t : State) : Prop where
  pair : bearing t.pair = bearing s.pair
  out : ∃ l, t.pair.out = s.pair.out ++ l

namespace Sending

theorem refl (s : State) : Sending s s := ⟨rfl, [], (List.append_nil _).symm⟩

theorem trans {s t u : State} (h : Sending s t) (h' : Sending t u) : Sending s u := by
  obtain ⟨l, hl⟩ := h.out
  obtain ⟨l', hl'⟩ := h'.out
  exact ⟨h'.pair.trans h.pair, l ++ l', by rw [hl', hl, List.append_assoc]⟩

theorem guard {s t : State} {p : Prop} [Decidable p] (h : Sending s t) : Sending s (if p then t else s) := by
  split
  · exact h
  · exact refl s

theorem foldl {α : Type} {f : State → α → State} (h : ∀ s a, Sending s (f s a)) (l : List α) (s : State) : Sending s (l.foldl f s) := foldl_within refl trans h l s

/-- A change beside the pair. -/
theorem beside {s t : State} (h : t.pair = s.pair) : Sending s t := ⟨by rw [h], [], by rw [h, List.append_nil]⟩

theorem reads {α : Type} {s t : State} (h : Sending s t) (f : PairState → α) (hf : ∀ p, f (bearing p) = f p) : f t.pair = f s.pair := by
  rw [← hf t.pair, ← hf s.pair, h.pair]

end Sending

section

variable (s : State)

theorem traced_sending (point source arg : Nat) : Sending s (s.traced point source arg) := .beside (State.traced_pair ..)

theorem event_sending (port : EvPort) (code sev src : Nat) (payload : List Byte) : Sending s (s.event port code sev src payload) := .beside (State.event_pair ..)

theorem onSkv_sending (n : Nat) (f : SkvPort → SkvPort) : Sending s (s.onSkv n f) := by
  unfold State.onSkv
  split
  · exact ⟨rfl, [], (List.append_nil _).symm⟩
  · exact .beside rfl

theorem portTo_sending (n : Nat) (ph : PortPhase) : Sending s (s.portTo n ph) := (onSkv_sending s n _).trans (traced_sending ..)

theorem refreshPaths_sending : Sending s s.refreshPaths := .foldl (fun s n => portTo_sending s n _) _ s

theorem toMirrorState_sending {m : MirrorPhase} (hm : m ≠ .mirroring) : Sending (s.onPair fun p => { p with mstate := m }) (s.toMirrorState m) := by
  unfold State.toMirrorState
  rw [if_neg hm]
  split
  · rename_i h
    exact .beside (by rw [← h]; rfl)
  · exact traced_sending ..

theorem releaseOwn_sending : Sending (s.onPair fun p => { p with pull := false }) s.releaseOwn := by
  unfold State.releaseOwn
  split
  · exact traced_sending ..
  · rename_i h
    exact .beside (by rw [← eq_false_of_ne_true h]; rfl)

end

/-- Ownership ends: the governor pulls OWN_N no more, and its role is open (15 R404, R407). -/
theorem dropOwnership_pair (s : State) : s.dropOwnership.pair.role = .undecided ∧ s.dropOwnership.pair.pull = false := by
  have h1 : Sending (s.onPair fun p => { p with pull := false }) s.releaseOwn := releaseOwn_sending s
  have h2 := toMirrorState_sending (drivesDropped s.releaseOwn) (m := .detached) nofun
  have hp : ((drivesDropped s.releaseOwn).toMirrorState .detached).pair.pull = false := (h2.reads PairState.pull fun _ => rfl).trans (h1.reads PairState.pull fun _ => rfl)
  rw [dropOwnership_eq]
  generalize (drivesDropped s.releaseOwn).toMirrorState .detached = t at hp
  split
  · exact ⟨‹_›, hp⟩
  · have h3 : Sending (t.onPair fun p => { p with role := .undecided }) (((t.onPair fun p => { p with role := .undecided }).traced 240 t.position 2).refreshPaths) :=
      (traced_sending ..).trans (refreshPaths_sending _)
    exact ⟨h3.reads PairState.role fun _ => rfl, (h3.reads PairState.pull fun _ => rfl).trans hp⟩

/-! ## The switch to OSC_INT (03 R69-R72) -/

/-- The clock part once REFCLK or the root PLL is lost. -/
def lostClock (c : ClockState) (pllOnly : Bool) : ClockState :=
  { c with
    source := .oscInt, health := if pllOnly then c.health else .lost, pllLocked := false, goodWindows := 0, lossGt := some c.gt, coreInReset := true, phase := .waitClock, recoveryAt := none }

/-- The switch to OSC_INT stops the core domain, the spill and the links, and changes nothing else. -/
theorem toOscInt_eq (s : State) (pllOnly : Bool) : ∃ r u, s.toOscInt pllOnly =
    { s with clk := lostClock s.clk pllOnly, rec_ := r, upd := u, link := { store := s.link.store }, sync := s.sync.afterWarm, pair := { s.pair with mir := {} } } := by
  unfold State.toOscInt State.stopSpill
  split
  · obtain ⟨r, u, h⟩ := State.event_only { s with rec_ := { s.rec_ with spilling := false } } .rosemary 0x0D06 2 0 (i1 2)
    rw [h]
    exact ⟨r, u, rfl⟩
  · exact ⟨_, _, rfl⟩

/-- A loss on OSC_INT changes nothing. -/
theorem clockLost_oscInt {s : State} (h : s.clk.source = .oscInt) (pllOnly : Bool) : s.clockLost pllOnly = s := if_pos h

section

variable {s : State} (hs : s.clk.source = .pll) (pllOnly : Bool)

include hs

/-- Before the first lock a loss only switches to OSC_INT (03 R72). -/
theorem clockLost_unlocked (hl : s.sage.everLocked = false) : s.clockLost pllOnly = s.toOscInt pllOnly := by
  simp [State.clockLost, hs, hl]

/-- With the partner ALIVE the role is given up (03 R70). -/
theorem clockLost_paired (hl : s.sage.everLocked = true) (ha : s.aliveInRecent = true) :
    s.clockLost pllOnly = ((s.toOscInt pllOnly).dropOwnership.onPair fun p => { p with releaseAt := some ((s.toOscInt pllOnly).dropOwnership.gt + 50) }).event .sage 0x0110 3 0 [] := by
  simp [State.clockLost, hs, hl, ha]

/-- Alone, the tray's scope goes off (03 R70). -/
theorem clockLost_alone (hl : s.sage.everLocked = true) (ha : s.aliveInRecent = false) :
    s.clockLost pllOnly = ((s.toOscInt pllOnly).immediateOff 14 70 .fault).event .sage 0x0110 4 0 [] := by
  simp [State.clockLost, hs, hl, ha]

/-- The tray is the partner's: the role is open, OWN_N released, ALIVE_OUT still, and the outputs are as they were. -/
theorem clockLost_paired_spec (hl : s.sage.everLocked = true) (ha : s.aliveInRecent = true) :
    (s.clockLost pllOnly).clk = lostClock s.clk pllOnly ∧ (s.clockLost pllOnly).pair.role = .undecided ∧ (s.clockLost pllOnly).pair.pull = false ∧
      (s.clockLost pllOnly).pins.aliveOut = false ∧ (s.clockLost pllOnly).sage = s.sage := by
  obtain ⟨r, u, ho⟩ := toOscInt_eq s pllOnly
  have hw := dropOwnership_within (s.toOscInt pllOnly)
  obtain ⟨hrole, hpull⟩ := dropOwnership_pair (s.toOscInt pllOnly)
  rw [clockLost_paired hs pllOnly hl ha]
  simp only [State.event_clk, State.event_pair, State.event_pins, State.event_sage, State.onPair_clk, State.onPair_pins, State.onPair_sage]
  refine ⟨?_, hrole, hpull, dropOwnership_aliveOut _, ?_⟩
  · exact (hw.reads State.clk fun _ => rfl).trans (by rw [ho])
  · exact (hw.reads State.sage fun _ => rfl).trans (by rw [ho])

/-- Alone, the tray's branches and resets are low, and the fault latch holds them. -/
theorem clockLost_alone_spec (hl : s.sage.everLocked = true) (ha : s.aliveInRecent = false) :
    (s.clockLost pllOnly).clk = lostClock s.clk pllOnly ∧ TrayLow (s.clockLost pllOnly) ∧ (s.clockLost pllOnly).thyme.latchFault = true ∧
      (s.clockLost pllOnly).sage.holdFault = true := by
  obtain ⟨r, u, ho⟩ := toOscInt_eq s pllOnly
  have hi := immediateOff_tray (scope := 14) rfl (s.toOscInt pllOnly) 70
  rw [clockLost_alone hs pllOnly hl ha]
  unfold TrayLow at hi ⊢
  simp only [State.event_clk, State.event_thyme, State.event_sage]
  exact ⟨hi.1.trans (by rw [ho]), hi.2⟩

/-- Every loss leaves the governor on OSC_INT with its core domain stopped. -/
theorem clockLost_clk : (s.clockLost pllOnly).clk = lostClock s.clk pllOnly := by
  cases hl : s.sage.everLocked with
  | false =>
    obtain ⟨r, u, ho⟩ := toOscInt_eq s pllOnly
    rw [clockLost_unlocked hs pllOnly hl, ho]
  | true =>
    cases ha : s.aliveInRecent with
    | false => exact (clockLost_alone_spec hs pllOnly hl ha).1
    | true => exact (clockLost_paired_spec hs pllOnly hl ha).1

theorem refclkLoss_completes : Completes (.refclkLoss pllOnly) s fun t =>
    t.clk.source = .oscInt ∧ t.clk.coreInReset = true ∧ t.clk.pllLocked = false ∧ t.clk.lossGt = some s.gt ∧
    (s.sage.everLocked = false → t.sage = s.sage ∧ t.feed = s.feed ∧ t.thyme = s.thyme ∧ t.cool = s.cool ∧ t.pins = s.pins ∧ t.op = s.op ∧ t.pair = { s.pair with mir := {} }) ∧
    (s.sage.everLocked = true → s.aliveInRecent = true →
      t.pair.role = .undecided ∧ t.pair.pull = false ∧ t.pins.aliveOut = false ∧ t.sage.rails = s.sage.rails ∧ t.sage.branches = s.sage.branches) ∧
    (s.sage.everLocked = true → s.aliveInRecent = false →
      t.sage.branches &&& 0xDFF#12 = 0 ∧ t.sage.accReset = 0 ∧ t.thyme.latchFault = true ∧ t.sage.holdFault = true) := by
  refine ⟨s.clockLost pllOnly, rfl, ?_⟩
  have hc := clockLost_clk hs pllOnly
  refine ⟨by rw [hc]; rfl, by rw [hc]; rfl, by rw [hc]; rfl, by rw [hc]; rfl, fun hl => ?_, fun hl ha => ?_, fun hl ha => ?_⟩
  · obtain ⟨r, u, ho⟩ := toOscInt_eq s pllOnly
    rw [clockLost_unlocked hs pllOnly hl, ho]
    exact ⟨rfl, rfl, rfl, rfl, rfl, rfl, rfl⟩
  · obtain ⟨-, hrole, hpull, halive, hsage⟩ := clockLost_paired_spec hs pllOnly hl ha
    exact ⟨hrole, hpull, halive, by rw [hsage], by rw [hsage]⟩
  · obtain ⟨-, ⟨hb, hr⟩, hlf, hhf⟩ := clockLost_alone_spec hs pllOnly hl ha
    exact ⟨hb, hr, hlf, hhf⟩

end

/-! ## The return of REFCLK (03 R71) -/

/-- The state from which the warm reset of a returned REFCLK starts. -/
def clockBack (s : State) : State :=
  (s.event .sage 0x0112 1 0 (i8 (s.gt - s.clk.lossGt.getD s.gt))).onClk fun c => { c with source := .pll, health := .good, pllLocked := true, goodWindows := 1024, lossGt := none }

theorem exec_refclkReturn (s : State) :
    exec .refclkReturn s = .next (if s.clk.source = .oscInt ∧ s.sage.everLocked ∧ !s.clk.tempLost then (clockBack s).warmReset .refclkReturn else s) := rfl

/-- A warm reset leaves the clock source and its lock as they are. -/
theorem warmReset_source (s : State) (source : WarmSource) :
    (s.warmReset source).clk.source = s.clk.source ∧ (s.warmReset source).clk.pllLocked = s.clk.pllLocked ∧ (s.warmReset source).clk.lossGt = s.clk.lossGt := by
  obtain ⟨l, hl⟩ := startedOver_eq (warmEnds s source) (s.pair.mstate == .mirroring) source
  have hc : (warmEnds s source).clk = s.clk := (warmEnds_within s source).reads State.clk fun _ => rfl
  rw [warmReset_eq, hl]
  simp only [warmClock, hc, ClockState.restarted, ClockState.released]
  split
  · split <;> exact ⟨rfl, rfl, rfl⟩
  · exact ⟨rfl, rfl, rfl⟩

theorem refclkReturn_completes {s : State} (hs : s.clk.source = .oscInt) (hl : s.sage.everLocked = true) (ht : s.clk.tempLost = false) :
    Completes .refclkReturn s fun t =>
      t.clk.source = .pll ∧ t.clk.pllLocked = true ∧ t.clk.lossGt = none ∧ t.clk.warmInProgress = true ∧ t.ports = [{}, {}] ∧ t.sage.rails = s.sage.rails := by
  refine ⟨_, by rw [exec_refclkReturn, if_pos ⟨hs, hl, by rw [ht]; rfl⟩], ?_⟩
  obtain ⟨h1, h2, h3⟩ := warmReset_source (clockBack s) .refclkReturn
  obtain ⟨hrails, -, -, -, -, -, -, -, -, -, hports, -, -, -, -, -, -, hwarm, -⟩ := warmReset_warmed (clockBack s) .refclkReturn
  exact ⟨h1, h2, h3, hwarm, hports, hrails.trans (congrArg SageState.rails (State.event_sage ..))⟩

theorem refclkReturn_nothing {s : State} (h : s.clk.source = .pll ∨ s.sage.everLocked = false ∨ s.clk.tempLost = true) : exec .refclkReturn s = .next s := by
  rw [exec_refclkReturn, if_neg]
  rintro ⟨h1, h2, h3⟩
  rcases h with h | h | h <;> simp_all

/-! ## The on-die temperature (19 R502) -/

/-- The reading is noted, and the advisory's change recorded. -/
def dieNoted (x : Int) (s : State) : State :=
  let t := s.onClk fun c => c.onDie x
  if !s.clk.tempAdvisory ∧ t.clk.tempAdvisory then t.event .sage 0x0114 1 0 [] else if s.clk.tempAdvisory ∧ !t.clk.tempAdvisory then t.event .sage 0x0114 0 0 [] else t

theorem dieNoted_clk (x : Int) (s : State) : (dieNoted x s).clk = s.clk.onDie x := by
  unfold dieNoted
  dsimp only
  split
  · rw [State.event_clk]; rfl
  · split
    · rw [State.event_clk]; rfl
    · rfl

/-- Ten hot readings in a row count as the loss of the PLL. -/
def dieLost (x : Int) (s : State) : State := ((s.onClk fun c => { c with tempLost := true }).clockLost true).event .sage 0x0114 3 0 (i4s x)

theorem exec_onDieTempRead {s : State} (hp : s.clk.phase ≠ .porHeld) (x : Int) :
    exec (.onDieTempRead x) s = .next (if (s.clk.onDie x).hotReadings = 10 ∧ !(s.clk.onDie x).tempLost then dieLost x (dieNoted x s) else dieNoted x s) := by
  have he : exec (.onDieTempRead x) s = .next (if (dieNoted x s).clk.hotReadings = 10 ∧ !(dieNoted x s).clk.tempLost then dieLost x (dieNoted x s) else dieNoted x s) :=
    congrArg Host.Outcome.next (if_neg hp)
  rw [he, dieNoted_clk]

/-- After ten hot readings the loss is that of the temperature too, and the governor is on OSC_INT. -/
theorem dieLost_clk (x : Int) (s : State) :
    (dieLost x s).clk = if s.clk.source = .oscInt then { s.clk with tempLost := true } else lostClock { s.clk with tempLost := true } true := by
  unfold dieLost
  rw [State.event_clk]
  split
  · exact congrArg State.clk (clockLost_oscInt (s := s.onClk fun c => { c with tempLost := true }) ‹_› true)
  · refine clockLost_clk (s := s.onClk fun c => { c with tempLost := true }) ?_ true
    show s.clk.source = .pll
    cases h : s.clk.source with
    | oscInt => contradiction
    | pll => rfl

/-- What a loss of the PLL keeps of the on-die supervision. -/
theorem dieLost_keeps (x : Int) (s : State) :
    (dieLost x s).clk.hotReadings = s.clk.hotReadings ∧ (dieLost x s).clk.tempAdvisory = s.clk.tempAdvisory ∧ (dieLost x s).clk.tempLost = true ∧ (dieLost x s).clk.source = .oscInt := by
  rw [dieLost_clk]
  split
  · exact ⟨rfl, rfl, rfl, ‹_›⟩
  · exact ⟨rfl, rfl, rfl, rfl⟩

theorem onDieTempRead_completes {s : State} (hp : s.clk.phase ≠ .porHeld) (x : Int) :
    Completes (.onDieTempRead x) s fun t =>
      t.clk.hotReadings = (if 115 ≤ x then min 10 (s.clk.hotReadings + 1) else 0) ∧
      (100 ≤ x → t.clk.tempAdvisory = true) ∧ (x < 95 → t.clk.tempAdvisory = false) ∧ (95 ≤ x → x < 100 → t.clk.tempAdvisory = s.clk.tempAdvisory) ∧
      (115 ≤ x → 9 ≤ s.clk.hotReadings → t.clk.tempLost = true ∧ (s.clk.tempLost = false → t.clk.source = .oscInt)) ∧
      (x < 95 → ∀ g, s.clk.coolSince = some g → g + secs 1 ≤ s.gt → t.clk.tempLost = false) := by
  refine ⟨_, exec_onDieTempRead hp x, ?_⟩
  generalize ht : (if (s.clk.onDie x).hotReadings = 10 ∧ (!(s.clk.onDie x).tempLost) = true then dieLost x (dieNoted x s) else dieNoted x s) = t
  have hkeep : t.clk.hotReadings = (s.clk.onDie x).hotReadings ∧ t.clk.tempAdvisory = (s.clk.onDie x).tempAdvisory := by
    obtain ⟨h1, h2, -, -⟩ := dieLost_keeps x (dieNoted x s)
    rw [dieNoted_clk] at h1 h2
    rw [← ht]
    split
    · exact ⟨h1, h2⟩
    · rw [dieNoted_clk]
      exact ⟨rfl, rfl⟩
  refine ⟨hkeep.1, fun h => ?_, fun h => ?_, fun h h' => ?_, fun h h9 => ?_, fun h g hg hle => ?_⟩
  · rw [hkeep.2]
    exact if_pos h
  · rw [hkeep.2]
    exact (if_neg (by omega)).trans (if_pos h)
  · rw [hkeep.2]
    exact (if_neg (by omega)).trans (if_neg (by omega))
  · have hot : (s.clk.onDie x).hotReadings = 10 := (if_pos h).trans (by omega)
    have hlost : (s.clk.onDie x).tempLost = s.clk.tempLost := by
      simp [ClockState.onDie, show ¬x < 95 by omega]
    rw [← ht, hot, hlost]
    cases hl : s.clk.tempLost with
    | false =>
      obtain ⟨-, -, h3, h4⟩ := dieLost_keeps x (dieNoted x s)
      rw [if_pos ⟨rfl, rfl⟩]
      exact ⟨h3, fun _ => h4⟩
    | true =>
      rw [if_neg (fun h => Bool.false_ne_true h.2), dieNoted_clk, hlost]
      exact ⟨hl, fun h => absurd h (by decide)⟩
  · have hcold : (s.clk.onDie x).hotReadings = 0 := if_neg (by omega)
    have hlost : (s.clk.onDie x).tempLost = false := by
      simp [ClockState.onDie, h, hg, hle]
    rw [← ht, if_neg (fun e => by rw [hcold] at e; exact absurd e.1 (by decide)), dieNoted_clk]
    exact hlost

/-- Settles O12, from what a loss, a return and a reading do. -/
theorem clockLossAndReturn : Obligations.clock_loss_and_return := fun _ =>
  ⟨fun pllOnly h => ⟨_, congrArg Host.Outcome.next (clockLost_oscInt h pllOnly), rfl⟩, fun pllOnly h => refclkLoss_completes h pllOnly, refclkReturn_completes,
    fun h => ⟨_, refclkReturn_nothing h, rfl⟩, fun _ h => ⟨_, congrArg Host.Outcome.next (if_pos h), rfl⟩, fun x h => onDieTempRead_completes h x⟩

end Sys2Proof.Proofs
end

section
/-! SUPPORT. What is recorded stays recorded; the start of the firmware, the decision that it is alone, and STANDBY. -/

namespace Sys2Proof.Proofs

open Sys2Proof Sys2Proof.Machine

/-! ## The intake ports only gain -/

/-- Between two states of one tick the intake ports have lost no record and forgotten no loss. -/
structure Adding (s t : State) : Prop where
  clk : t.clk = s.clk
  size : t.rec_.ports.length = s.rec_.ports.length
  waiting : ∀ p, (nth s.rec_.ports p).waiting ⊆ (nth t.rec_.ports p).waiting
  lost : ∀ p, (nth s.rec_.ports p).lost ≤ (nth t.rec_.ports p).lost

namespace Adding

theorem gt {s t : State} (h : Adding s t) : t.gt = s.gt := congrArg ClockState.gt h.clk

/-- A change that leaves the ports and the clocks alone. -/
theorem beside {s t : State} (hg : t.clk = s.clk) (h : t.rec_.ports = s.rec_.ports) : Adding s t :=
  ⟨hg, by rw [h], fun _ => by rw [h]; exact List.Subset.refl _, fun _ => by rw [h]⟩

theorem refl (s : State) : Adding s s := .beside rfl rfl

theorem trans {s t u : State} (h : Adding s t) (h' : Adding t u) : Adding s u :=
  ⟨h'.clk.trans h.clk, h'.size.trans h.size, fun p _ he => h'.waiting p (h.waiting p he), fun p => (h.lost p).trans (h'.lost p)⟩

theorem guard {s t : State} {p : Prop} [Decidable p] (h : Adding s t) : Adding s (if p then t else s) := by
  split
  · exact h
  · exact refl s

theorem guardNot {s t : State} {p : Prop} [Decidable p] (h : Adding s t) : Adding s (if p then s else t) := by
  split
  · exact refl s
  · exact h

theorem foldl {α : Type} {f : State → α → State} (h : ∀ s a, Adding s (f s a)) (l : List α) (s : State) : Adding s (l.foldl f s) := foldl_within refl trans h l s

/-- What is recorded stays recorded. -/
theorem recorded {r s t : State} {port : EvPort} {code sev : Nat} (h : Adding s t) (hr : Recorded r s port code sev) : Recorded r t port code sev := by
  rcases hr with ⟨e, he, hx⟩ | hr
  · exact .inl ⟨e, h.waiting _ he, hx⟩
  · exact .inr (hr.trans_le (h.lost _))

end Adding

section

variable (s : State)

theorem event_adding (port : EvPort) (code sev src : Nat) (payload : List Byte) : Adding s (s.event port code sev src payload) := by
  unfold State.event
  split
  · exact .refl s
  · dsimp only
    generalize hu : (if 3 ≤ sev then ({ s with upd := { s.upd with lastSevere := some s.gt } } : State) else s) = u
    have hs : u.clk = s.clk ∧ u.rec_ = s.rec_ := by
      rw [← hu]
      split <;> exact ⟨rfl, rfl⟩
    have hset : ∀ (p : IntakePort) (n : Nat), (nth s.rec_.ports port.num).waiting ⊆ p.waiting → (nth s.rec_.ports port.num).lost ≤ p.lost →
        Adding s { u with rec_ := { s.rec_ with ports := s.rec_.ports.set port.num p, lostTotal := n } } := fun p n hw hl => by
      refine ⟨hs.1, List.length_set .., fun q => ?_, fun q => ?_⟩
      · show _ ⊆ (nth (s.rec_.ports.set port.num p) q).waiting
        rw [nth_set]
        split
        · exact (‹port.num = q ∧ _›).1 ▸ hw
        · exact List.Subset.refl _
      · show _ ≤ (nth (s.rec_.ports.set port.num p) q).lost
        rw [nth_set]
        split
        · exact (‹port.num = q ∧ _›).1 ▸ hl
        · exact le_rfl
    rw [hs.2]
    split
    · exact hset _ _ (List.subset_append_left ..) le_rfl
    · exact hset _ _ (List.Subset.refl _) (Nat.le_succ _)

theorem traced_adding (point source arg : Nat) : Adding s (s.traced point source arg) := .beside (State.traced_clk ..) (traced_ports ..)

theorem mirrored_adding (kind : MirKind) : Adding s (s.mirrored kind) := .beside (State.mirrored_clk ..) (congrArg RecorderState.ports (State.mirrored_rec_ ..))

theorem saveSettings_adding : Adding s s.saveSettings := by
  rw [saveSettings_eq]
  exact .beside rfl rfl

end

/-- An event is recorded since any earlier state of its tick. -/
theorem Adding.event {s t : State} {port : EvPort} (h : Adding s t) (hp : port.num < s.rec_.ports.length) {code : Nat} (hc : reservedEvent code = false) (sev src : Nat) (payload : List Byte) :
    Recorded s (t.event port code sev src payload) port code sev :=
  event_recorded h.gt (by rw [h.size]; exact hp) (h.lost _) hc sev src payload

/-! ## What the start of the firmware touches -/

/-- An event notes the time of a severe one, and nothing else of the update's state. -/
theorem event_upd (s : State) (port : EvPort) (code sev src : Nat) (payload : List Byte) :
    (s.event port code sev src payload).upd = { s.upd with lastSevere := (s.event port code sev src payload).upd.lastSevere } := by
  unfold State.event
  split
  · rfl
  · dsimp only
    split <;> split <;> rfl

theorem event_block (s : State) (port : EvPort) (code sev src : Nat) (payload : List Byte) : (s.event port code sev src payload).upd.block = s.upd.block := by
  rw [event_upd]

/-- The parts of the settings copy that any schema has are read. -/
def fixedRead (s : State) : State :=
  match s.sec.settingsInForce with
  | some c => s.readFixed c
  | none => s

/-- The event of a settings body that is reset. -/
def schemaSaid (s t : State) : State :=
  match s.sec.settingsInForce with
  | some c => t.event .fp0 0x0C15 1 0 (i2 c.schema ++ i2 s.runningManifest.schema)
  | none => t

/-- The settings body at its reset values. -/
def bodyReset (s : State) : State :=
  ((s.onThyme fun t => { t with autoOn := s.cfg.autoOn }).onFeeds fun f =>
    { f with stored := [none, none], feeds := f.feeds.mapIdx fun x g => { g with breaker := nth s.cfg.breakers x } }).onPhase fun p => { p with stored := List.replicate 8 none }

theorem checkSchema_eq (s : State) : s.checkSchema =
    match s.sec.settingsInForce.filter fun c => c.schema == s.runningManifest.schema with
    | some c => (fixedRead s).readBody c
    | none => (bodyReset (schemaSaid s (fixedRead s))).saveSettingsAs s.runningManifest.schema := by
  unfold State.checkSchema
  rfl

/-- What reading the settings can change. -/
abbrev schemaParts : List Part := [.feed, .phase, .rec_, .repro, .sec, .thyme, .upd]

/-- What taking the handoff block can change. -/
abbrev handoffParts : List Part := [.cool, .ledger, .link, .log, .op, .rec_, .sec, .sync, .upd]

section

variable (s : State)

theorem fixedRead_within : Within schemaParts s (fixedRead s) := by
  unfold fixedRead
  split <;> rfl

/-- A body of settings changes Thyme, the feeds and the phase engine. -/
theorem body_within (f : ThymeState → ThymeState) (g : FeedState → FeedState) (h : PhaseState → PhaseState) : Within schemaParts s (((s.onThyme f).onFeeds g).onPhase h) := by
  have h1 : Within schemaParts s (s.onThyme f) := rfl
  generalize s.onThyme f = u at h1 ⊢
  have h2 : Within schemaParts u (u.onFeeds g) := rfl
  exact (h1.trans h2).trans rfl

theorem readBody_within (c : SettingsCopy) : Within schemaParts s (s.readBody c) := body_within s ..

theorem bodyReset_within : Within schemaParts s (bodyReset s) := body_within s ..

theorem schemaSaid_within (t : State) : Within schemaParts t (schemaSaid s t) := by
  unfold schemaSaid
  split
  · exact event_within ..
  · exact .refl t

theorem saveSettingsAs_within (schema : Nat) : Within schemaParts s (s.saveSettingsAs schema) := by
  unfold State.saveSettingsAs
  dsimp only
  split <;> rfl

theorem checkSchema_within : Within schemaParts s s.checkSchema := by
  rw [checkSchema_eq]
  split
  · exact (fixedRead_within s).trans (readBody_within _ _)
  · exact (((fixedRead_within s).trans (schemaSaid_within s _)).trans (bodyReset_within _)).trans (saveSettingsAs_within _ _)

theorem takeSection_within (b : HandoffBlock) (comp : Nat) : Within handoffParts s (s.takeSection b comp) := by
  unfold State.takeSection
  split <;> rfl

end

/-- The sections that are taken. -/
def handoffTaken (s : State) : List (Nat × Nat) :=
  let b := s.upd.block
  let mine := s.sec.runningSlot.any fun k => (nth s.sec.slots k).generation.toNat == b.targetGen
  let block := s.sec.cfgInForce.any fun k => (nth s.sec.cfgCopies k).obj.man.digest == b.targetCfg
  if mine && block then b.sections.filter s.takesSection else []

/-- The update's state once the block is done with. -/
def blockDone (s : State) (taken : List (Nat × Nat)) (lost : List Nat) (u : UpdateState) : UpdateState :=
  { u with
    block := { s.upd.block with pending := false, consumed := true }, plan := if taken.any (fun x => x.1 == 3) then u.plan else {}
    handoff := if taken = [] then 3 else if lost = [] then 1 else 2 }

/-- The sections the block loses. -/
def handoffLost (s : State) : List Nat := (s.upd.block.sections.filter fun x => !(handoffTaken s).contains x).map Prod.fst

/-- A pending block is used up. -/
def handoffDone (s : State) : State :=
  (((handoffTaken s).foldl (fun u x => u.takeSection s.upd.block x.1) s).onUpd (blockDone s (handoffTaken s) (handoffLost s))).saveSettings

theorem takeHandoff_eq (s : State) : s.takeHandoff =
    if !s.upd.block.pending then s
    else if handoffTaken s ≠ [] ∧ handoffLost s = [] then (handoffDone s).event .fp0 0x0C14 0 0 []
    else (handoffDone s).event .fp0 0x0C14 2 0 (((handoffLost s).map i1).flatten) := by
  unfold State.takeHandoff
  rfl

theorem handoffDone_within (s : State) : Within handoffParts s (handoffDone s) := by
  have h1 := Within.foldl (fun u x => takeSection_within u s.upd.block x.1) (handoffTaken s) s
  have h2 := fun u : State => (show Within handoffParts u (u.onUpd (blockDone s (handoffTaken s) (handoffLost s))) from rfl)
  exact (h1.trans (h2 _)).trans (saveSettings_within _)

theorem takeHandoff_within (s : State) : Within handoffParts s s.takeHandoff := by
  rw [takeHandoff_eq]
  split
  · exact .refl s
  · split <;> exact (handoffDone_within s).trans (event_within ..)

/-- Taken or refused, the handoff block waits no more. -/
theorem takeHandoff_pending (s : State) : s.takeHandoff.upd.block.pending = false := by
  rw [takeHandoff_eq]
  split
  · simp_all
  · have hd : (handoffDone s).upd.block.pending = false := by
      unfold handoffDone
      rw [saveSettings_eq]
      rfl
    split
    · rw [event_block]
      exact hd
    · rw [event_block]
      exact hd

/-! ## The ledger's session -/

/-- A change of the ledger, recorded in events: the handoff block is kept. -/
structure Booking (s t : State) : Prop where
  within : Within [.ledger, .rec_, .upd] s t
  adding : Adding s t
  block : t.upd.block = s.upd.block

namespace Booking

theorem refl (s : State) : Booking s s := ⟨.refl s, .refl s, rfl⟩

theorem trans {s t u : State} (h : Booking s t) (h' : Booking t u) : Booking s u := ⟨h.within.trans h'.within, h.adding.trans h'.adding, h'.block.trans h.block⟩

theorem event (s : State) (port : EvPort) (code sev src : Nat) (payload : List Byte) : Booking s (s.event port code sev src payload) := ⟨event_within .., event_adding .., event_block ..⟩

theorem ledger (s : State) (f : LedgerState → LedgerState) : Booking s (s.onLedger f) := ⟨rfl, .beside rfl rfl, rfl⟩

end Booking

section

variable (s : State)

theorem form_booking (v : EpochView) (kind cls : Nat) (flags : BitVec 8) (tag tf tl : Nat) (c eUj : Int) (aux : Nat) : Booking s (s.form v kind cls flags tag tf tl c eUj aux) := by
  unfold State.form
  exact .ledger s _

theorem release_booking (first : Nat) : Booking s (s.release first) := .ledger s _

theorem genesis_booking : Booking s s.genesis := by
  unfold State.genesis
  dsimp only
  refine Booking.trans (Booking.trans ?_ (release_booking _ _)) (Booking.event _ _ _ _ _ _)
  exact ((Booking.ledger s _).trans (form_booking ..)).trans (.ledger _ _)

theorem restoreFrom_booking (c : Checkpoint) (por : Bool) : Booking s (s.restoreFrom c por) := by
  unfold State.restoreFrom
  dsimp only
  exact (Booking.ledger s _).trans (.event ..)

theorem ledgerStart_booking (por : Bool) : Booking s (s.ledgerStart por) := by
  unfold State.ledgerStart
  dsimp only
  generalize hu : s.onLedger _ = u
  have h1 : Booking s u := hu ▸ .ledger s _
  refine (h1.trans (u := ite _ _ _) ?_).trans (.ledger _ _)
  split
  · exact (Booking.ledger u _).trans (.event ..)
  · split
    · exact genesis_booking u
    · split
      · exact restoreFrom_booking ..
      · exact (genesis_booking u).trans (.event ..)

theorem ledgerRestore_within : Within [.ledger, .pair, .rec_, .upd] s s.ledgerRestore := by
  unfold State.ledgerRestore
  split
  · exact .refl s
  · exact ((ledgerStart_booking s _).within.mono rfl).trans (t := s.ledgerStart _) rfl

theorem ledgerRestore_block : s.ledgerRestore.upd.block = s.upd.block := by
  unfold State.ledgerRestore
  split
  · rfl
  · exact (ledgerStart_booking s _).block

end

/-! ## The three commands -/

/-- The firmware's state before its processors begin. -/
def handedOver (s : State) : State := s.checkSchema.takeHandoff.ledgerRestore

theorem handedOver_within (s : State) : Within [.cool, .feed, .ledger, .link, .log, .op, .pair, .phase, .rec_, .repro, .sec, .sync, .thyme, .upd] s (handedOver s) :=
  (((checkSchema_within s).mono rfl).trans ((takeHandoff_within _).mono rfl)).trans ((ledgerRestore_within _).mono rfl)

theorem handedOver_pending (s : State) : (handedOver s).upd.block.pending = false :=
  (congrArg HandoffBlock.pending (ledgerRestore_block _)).trans (takeHandoff_pending _)

/-- FP0-FP3 run, and MIR begins to train. -/
def processorsStart (s : State) : State :=
  (((s.onUpd UpdateState.settled).onPhase fun p => { p with loadPending := true }).onPair fun p => { p with mirTrainGt := some s.gt }).startSpill.onClk fun c => { c with phase := .starting }

theorem processorsStart_spec (s : State) : (processorsStart s).clk.phase = .starting ∧ (processorsStart s).pair.mirTrainGt = some s.gt ∧ (processorsStart s).phase.loadPending = true ∧
    (processorsStart s).upd.block = s.upd.block ∧ (processorsStart s).sage = s.sage := by
  unfold processorsStart
  generalize hv : ((s.onUpd UpdateState.settled).onPhase fun p => { p with loadPending := true }).onPair (fun p => { p with mirTrainGt := some s.gt }) = v
  obtain ⟨hmir, hload, hblock, hsage⟩ : v.pair.mirTrainGt = some s.gt ∧ v.phase.loadPending = true ∧ v.upd.block = s.upd.block ∧ v.sage = s.sage := hv ▸ ⟨rfl, rfl, rfl, rfl⟩
  exact ⟨rfl, hmir, hload, hblock, hsage⟩

theorem handoffAcceptance_completes {s : State} (h : s.clk.phase = .handoff) :
    Completes .handoffAcceptance s fun t => t.clk.phase = .starting ∧ t.pair.mirTrainGt = some s.gt ∧ t.phase.loadPending = true ∧ t.upd.block.pending = false ∧ t.sage = s.sage := by
  have he : exec .handoffAcceptance s = .next (processorsStart (handedOver s)) := congrArg Host.Outcome.next (if_pos h)
  obtain ⟨hphase, hmir, hload, hblock, hsage⟩ := processorsStart_spec (handedOver s)
  refine ⟨_, he, hphase, hmir.trans ?_, hload, (congrArg HandoffBlock.pending hblock).trans (handedOver_pending s), hsage.trans ?_⟩
  · exact (handedOver_within s).reads (fun u => some u.gt) fun _ => rfl
  · exact (handedOver_within s).reads State.sage fun _ => rfl

theorem aloneDecision_completes {s : State} {g : Nat} (hg : s.pair.mirTrainGt = some g) (hf : s.firmwareRuns = true) (hr : s.pair.role = .undecided) (hle : g + ms 100 ≤ s.gt)
    (ha : ∀ a, s.pair.aliveIn = some a → a < g) : Completes .aloneDecision s fun t => t = { s with pair := { s.pair with alone := true } } := by
  have hsilent : s.pair.aliveIn.all (fun a => decide (a < g)) = true := by
    cases h : s.pair.aliveIn with
    | none => rfl
    | some a => exact decide_eq_true (ha a h)
  refine ⟨s.onPair fun p => { p with alone := true }, ?_, rfl⟩
  show execAloneDecision s = _
  unfold execAloneDecision
  rw [hg]
  exact congrArg Host.Outcome.next (if_pos ⟨hf, hr, decide_eq_true hle, hsilent⟩)

/-- A record to the partner leaves the role as it is. -/
theorem mirrored_role (s : State) (kind : MirKind) : (s.mirrored kind).pair.role = s.pair.role := by
  unfold State.mirrored State.sendRecord State.sendRecordOf
  split
  · split <;> rfl
  · rfl

/-- The tray's state at the end of the start-up, at the partner too. -/
def stoodBy (s : State) : State := (s.onThyme fun t => { t with tray := .standby }).mirrored .tray

theorem standbyEntry_completes {s : State} (hp : s.clk.phase = .starting) (hl : s.sage.locked = true) (ht : s.thyme.loaded = true) (hk : ∀ k, k < 14 → s.restarting k = false)
    (hb : s.ledger.begun = true) (hr : s.pair.role ≠ .undecided) :
    Completes .standbyEntry s fun t =>
      t.clk = { s.clk with phase := .running, warmInProgress := false } ∧ (s.thyme.tray ≠ .off → t = { s with clk := t.clk }) ∧
      (s.thyme.tray = .off → ∃ u : State, u.thyme = { s.thyme with tray := .standby } ∧ u.without [.clk, .thyme, .pair] = s.without [.clk, .thyme, .pair] ∧
        t = if s.isOwner = true ∧ s.thyme.autoOn = true ∧ s.thyme.latched = false then u.request .trayOn else u) := by
  have hready : s.standbyReady = true := by
    have hall : (List.range 14).all (fun k => !s.restarting k) = true := by
      simpa using hk
    have hrole : (s.pair.role != .undecided) = true := by
      simpa using hr
    unfold State.standbyReady
    rw [hl, ht, hall, hb, hrole]
    rfl
  let v := s.onClk fun c => { c with phase := .running, warmInProgress := false }
  have he : exec .standbyEntry s = .next (if s.thyme.tray = .off then
      if (stoodBy v).isOwner ∧ (stoodBy v).thyme.autoOn ∧ !(stoodBy v).thyme.latched then (stoodBy v).request .trayOn else stoodBy v
    else v) := congrArg Host.Outcome.next (if_pos ⟨hp, hready⟩)
  refine ⟨_, he, ?_⟩
  by_cases ho : s.thyme.tray = .off
  · have hth : (stoodBy v).thyme = { s.thyme with tray := .standby } := State.mirrored_thyme ..
    have hw : Within [.clk, .thyme, .pair] s (stoodBy v) := (show Within [.clk, .thyme, .pair] s (v.onThyme fun t => { t with tray := .standby }) from rfl).trans (mirrored_within _ _)
    have hclk : (stoodBy v).clk = v.clk := State.mirrored_clk ..
    have hown : (stoodBy v).isOwner = s.isOwner := congrArg (· == Role.owner) (mirrored_role (v.onThyme _) .tray)
    have hreq : (stoodBy v).isOwner = true ∧ (stoodBy v).thyme.autoOn = true ∧ (!(stoodBy v).thyme.latched) = true ↔ s.isOwner = true ∧ s.thyme.autoOn = true ∧ s.thyme.latched = false := by
      rw [hown, hth, Bool.not_eq_true']
      rfl
    rw [if_pos ho]
    simp only [hreq]
    refine ⟨?_, fun h => absurd ho h, fun _ => ⟨stoodBy v, hth, hw, rfl⟩⟩
    split
    · exact (State.mirrored_clk ..).trans hclk
    · exact hclk
  · rw [if_neg ho]
    exact ⟨rfl, fun _ => rfl, fun h => absurd h ho⟩

/-- Settles O15, from the handoff, the decision and the entry. -/
theorem startUpEndsInStandby : Obligations.start_up_ends_in_standby := fun _ =>
  ⟨handoffAcceptance_completes, fun _ => aloneDecision_completes, standbyEntry_completes⟩

end Sys2Proof.Proofs
end

section
/-! SUPPORT. Power requests: what TRAY_POWER and ACC_POWER answer and leave. -/

namespace Sys2Proof.Proofs

open Sys2Proof Sys2Proof.Machine

/-! ## TRAY_POWER (05 R137, 06 R162, R170) -/

/-- A feed that a power-up would switch on. -/
def FeedReady (s : State) : Prop := ∃ f ∈ s.feed.feeds, f.reported = .off

/-- Every feed is barred from a power-up. -/
def FeedsBarred (s : State) : Prop := ∀ f ∈ s.feed.feeds, f.reported = .lockout ∨ f.reported = .forcedOff

theorem feedReady_iff (s : State) : (s.feed.feeds.any fun f => f.reported == .off) = true ↔ FeedReady s := by
  simp [FeedReady]

theorem feedsBarred_iff (s : State) : (s.feed.feeds.all fun f => f.reported == .lockout || f.reported == .forcedOff) = true ↔ FeedsBarred s := by
  simp [FeedsBarred]

/-- A request waits for the next tick, at the partner too. -/
theorem request_spec (s : State) (r : PowerRequest) :
    (s.request r).thyme = { s.thyme with requests := s.thyme.requests ++ [(r, s.gt + 1)] } ∧ Within [.thyme, .pair] s (s.request r) := by
  refine ⟨State.mirrored_thyme .., ?_⟩
  exact Within.trans (t := s.onThyme _) rfl (mirrored_within _ _)

/-- A deferral is recorded, and changes nothing else. -/
theorem deferred_spec {s : State} (h16 : s.rec_.ports.length = 16) (k d : Nat) :
    (s.deferred k d).1 = { status := .deferred, detail := d } ∧ (s.deferred k d).2.thyme = s.thyme ∧ Recorded s (s.deferred k d).2 .fp1 0x0206 0 ∧
      Within [.rec_, .pair] s (s.deferred k d).2 := by
  refine ⟨rfl, ?_, ?_, ?_⟩
  · exact (State.mirrored_thyme ..).trans (State.event_thyme ..)
  · exact recorded_of_rec (event_recorded rfl (by rw [h16]; decide) le_rfl (by decide) 0 k (i1 k)) (State.mirrored_rec_ ..)
  · exact ((event_within_rec s .fp1 0x0206 k (by decide) (i1 k)).mono rfl).trans (mirrored_within _ _)

/-- What TRAY_POWER on answers and leaves in STANDBY: the feeds decide (05 R137). -/
theorem trayPowerOn_standby {s : State} (h16 : s.rec_.ports.length = 16) (hr : s.thyme.reported = .standby) (c : Ctx) :
    let a := bodyTrayPowerOn c s
    (FeedReady s → a.1 = { status := .accepted } ∧ a.2.thyme = { s.thyme with requests := s.thyme.requests ++ [(.trayOn, s.gt + 1)] } ∧ Within [.thyme, .pair] s a.2) ∧
    (¬FeedReady s → FeedsBarred s → a.1 = Reply.fail .stateConflict ∧ a.2 = s) ∧
    (¬FeedReady s → ¬FeedsBarred s → a.1 = { status := .deferred, detail := s.deferDetail } ∧ a.2.thyme = { s.thyme with deferredUp := true } ∧
      Recorded s a.2 .fp1 0x0206 0 ∧ Within [.thyme, .rec_, .pair] s a.2) := by
  have he : bodyTrayPowerOn c s =
      if s.feed.feeds.any fun f => f.reported == .off then accepted (s.request .trayOn)
      else if s.feed.feeds.all fun f => f.reported == .lockout || f.reported == .forcedOff then refuse .stateConflict s
      else (s.onThyme fun t => { t with deferredUp := true }).deferred 0 s.deferDetail := by
    unfold bodyTrayPowerOn
    rw [hr]
  dsimp only
  rw [he, ← feedReady_iff, ← feedsBarred_iff]
  refine ⟨fun h => ?_, fun h h' => ?_, fun h h' => ?_⟩
  · rw [if_pos h]
    exact ⟨rfl, request_spec s .trayOn⟩
  · rw [if_neg h, if_pos h']
    exact ⟨rfl, rfl⟩
  · rw [if_neg h, if_neg h']
    obtain ⟨h1, h2, h3, h4⟩ := deferred_spec (s := s.onThyme fun t => { t with deferredUp := true }) h16 0 s.deferDetail
    exact ⟨h1, h2, h3, Within.trans (t := s.onThyme fun t => { t with deferredUp := true }) rfl (h4.mono rfl)⟩

/-- On the way down a TRAY_POWER on waits as a pending on (06 R162). -/
theorem trayPowerOn_down {s : State} (h9 : s.thyme.ctxs.length = 9) (h16 : s.rec_.ports.length = 16) (hr : s.thyme.reported = .poweringDown) (c : Ctx) :
    let a := bodyTrayPowerOn c s
    a.1.status = .deferred ∧ (a.2.ctx 0).pendOn = true ∧ Recorded s a.2 .fp1 0x0206 0 ∧ Within [.thyme, .rec_, .pair] s a.2 := by
  have he : ∃ d, bodyTrayPowerOn c s = (s.onCtx 0 fun c => { c with pendOn := true }).deferred 0 d := by
    unfold bodyTrayPowerOn
    rw [hr]
    exact ⟨_, rfl⟩
  obtain ⟨d, he⟩ := he
  dsimp only
  rw [he]
  obtain ⟨h1, h2, h3, h4⟩ := deferred_spec (s := s.onCtx 0 fun c => { c with pendOn := true }) h16 0 d
  refine ⟨by rw [h1], ?_, h3, Within.trans (t := s.onCtx 0 fun c => { c with pendOn := true }) rfl (h4.mono rfl)⟩
  have hc := ctx_onCtx (s := s) (k := 0) (by omega) fun c => { c with pendOn := true }
  rw [State.ctx, h2]
  exact congrArg ThymeCtx.pendOn hc

/-- What TRAY_POWER on answers and leaves, by the state of the tray. -/
theorem trayPowerOn_answers {s : State} (h9 : s.thyme.ctxs.length = 9) (h16 : s.rec_.ports.length = 16) (c : Ctx) :
    let a := bodyTrayPowerOn c s
    match s.thyme.reported with
    | .off => a.1 = Reply.fail .stateConflict ∧ a.2 = s
    | .standby => (FeedReady s → a.1 = { status := .accepted } ∧ a.2.thyme = { s.thyme with requests := s.thyme.requests ++ [(.trayOn, s.gt + 1)] } ∧ Within [.thyme, .pair] s a.2) ∧
      (¬FeedReady s → FeedsBarred s → a.1 = Reply.fail .stateConflict ∧ a.2 = s) ∧
      (¬FeedReady s → ¬FeedsBarred s → a.1 = { status := .deferred, detail := s.deferDetail } ∧ a.2.thyme = { s.thyme with deferredUp := true } ∧
        Recorded s a.2 .fp1 0x0206 0 ∧ Within [.thyme, .rec_, .pair] s a.2)
    | .poweringDown => a.1.status = .deferred ∧ (a.2.ctx 0).pendOn = true ∧ Recorded s a.2 .fp1 0x0206 0 ∧ Within [.thyme, .rec_, .pair] s a.2
    | .poweringUp | .on | .maintenance => a.1 = {} ∧ a.2 = s
    | .faultOff | .thermalOff | .leakOff => a.1 = Reply.fail .emergencyActive ∧ a.2 = s := by
  cases hr : s.thyme.reported with
  | standby => exact trayPowerOn_standby h16 hr c
  | poweringDown => exact trayPowerOn_down h9 h16 hr c
  | off | poweringUp | on | maintenance | faultOff | thermalOff | leakOff =>
    unfold bodyTrayPowerOn
    rw [hr]
    exact ⟨rfl, rfl⟩

/-- A running off, or one on its way, leaves nothing to take. -/
def OffBusy (s : State) (c : ThymeCtx) (k : Nat) : Prop := c.offTaken = true ∨ c.unwinding = true ∨ s.runKind k = if k = 0 then 2 else 4

/-- An off request of context k is on its way already. -/
def offWaits (s : State) (k : Nat) (req : PowerRequest) : Bool :=
  (s.ctx k).offTaken || (s.ctx k).unwinding || s.runKind k == (if k = 0 then 2 else 4) || s.thyme.requests.any fun r => r.1 == req

theorem offWaits_iff (s : State) (k : Nat) (req : PowerRequest) : offWaits s k req = true ↔ ¬(¬OffBusy s (s.ctx k) k ∧ ∀ q ∈ s.thyme.requests, q.1 ≠ req) := by
  simp only [offWaits, OffBusy, Bool.or_eq_true, beq_iff_eq, List.any_eq_true, not_and_or, not_not, not_forall, exists_prop, or_assoc, ne_eq]

/-- An off request of context k, where p says that there is something to switch off, is accepted. -/
def OffAccepted (s : State) (k : Nat) (req : PowerRequest) (p : Prop) : Prop := p ∧ ¬OffBusy s (s.ctx k) k ∧ ∀ q ∈ s.thyme.requests, q.1 ≠ req

/-- The answer to an off request of context k, where p says that there is something to switch off. -/
def offAnswer (s : State) (k : Nat) (req : PowerRequest) (p : Prop) [Decidable p] : Answer :=
  if p then
    if offWaits s k req then okay [] s else accepted (s.request req)
  else okay [] (s.mirrored .thyme)

/-- An off request is accepted once, and else leaves Thyme as it is. -/
theorem offAnswer_spec (s : State) (k : Nat) (req : PowerRequest) (p : Prop) [Decidable p] :
    let a := offAnswer s k req p
    ∃ l, a.2.thyme = { s.thyme with requests := s.thyme.requests ++ l } ∧ (∀ q ∈ l, q.1 = req) ∧ Within [.thyme, .pair] s a.2 ∧
      (OffAccepted s k req p → a.1 = { status := .accepted } ∧ (req, s.gt + 1) ∈ l) ∧ (¬OffAccepted s k req p → a.1 = {}) := by
  dsimp only
  have hsame : s.thyme = { s.thyme with requests := s.thyme.requests ++ [] } := by rw [List.append_nil]
  unfold offAnswer
  by_cases hp : p
  · rw [if_pos hp]
    by_cases hb : offWaits s k req = true
    · rw [if_pos hb]
      exact ⟨[], hsame, by simp, .refl s, fun h => absurd h.2 ((offWaits_iff ..).mp hb), fun _ => rfl⟩
    · rw [if_neg hb]
      obtain ⟨ht, hw⟩ := request_spec s req
      exact ⟨[(req, s.gt + 1)], ht, by simp, hw, fun _ => ⟨rfl, List.mem_singleton_self _⟩, fun h => absurd ⟨hp, not_not.mp fun h' => hb ((offWaits_iff ..).mpr h')⟩ h⟩
  · rw [if_neg hp]
    exact ⟨[], (State.mirrored_thyme ..).trans hsame, by simp, mirrored_within _ _, fun h => absurd h.1 hp, fun _ => rfl⟩

/-- A tray off request cancels a pending on. -/
theorem cancelTrayOn_spec {s : State} (h9 : s.thyme.ctxs.length = 9) :
    s.cancelTrayOn.ctx 0 = { s.ctx 0 with pendOn := false } ∧ s.cancelTrayOn.thyme.deferredUp = false ∧
      s.cancelTrayOn.thyme.requests = s.thyme.requests.filter (fun r => r.1 != .trayOn) ∧ s.cancelTrayOn.runKind 0 = s.runKind 0 ∧ s.cancelTrayOn.thyme.reported = s.thyme.reported ∧
      Within [.thyme] s s.cancelTrayOn := by
  have hc : s.cancelTrayOn.ctx 0 = { s.ctx 0 with pendOn := false } :=
    ctx_onCtx (s := s.onThyme fun t => { t with deferredUp := false, requests := t.requests.filter fun r => r.1 != .trayOn }) (by rw [State.onThyme]; simp [h9]) _
  refine ⟨hc, rfl, rfl, ?_, rfl, rfl⟩
  unfold State.runKind
  rw [hc]
  rfl

/-- Off requests are not among the cancelled ones. -/
theorem filter_requests {l : List (PowerRequest × Nat)} {r req : PowerRequest} (h : r ≠ req) : (∀ q ∈ l.filter (fun q => q.1 != r), q.1 ≠ req) ↔ ∀ q ∈ l, q.1 ≠ req := by
  simp only [List.mem_filter, bne_iff_ne]
  exact ⟨fun hl q hq e => hl q ⟨hq, fun hr => h (hr.symm.trans e)⟩ e, fun hl q hq => hl q hq.1⟩

theorem trayOff_eq (s : State) : s.trayOff = offAnswer s.cancelTrayOn 0 .trayOff (s.cancelTrayOn.thyme.reported ∈ [TrayState.poweringUp, .on, .maintenance]) := by
  unfold State.trayOff offAnswer
  dsimp only
  cases s.cancelTrayOn.thyme.reported <;> rfl

/-- What TRAY_POWER off answers and leaves. -/
theorem trayOff_answers {s : State} (h9 : s.thyme.ctxs.length = 9) :
    let a := s.trayOff
    (a.2.ctx 0).pendOn = false ∧ a.2.thyme.deferredUp = false ∧ (∀ g, (PowerRequest.trayOn, g) ∉ a.2.thyme.requests) ∧ Within [.thyme, .pair] s a.2 ∧
      (OffAccepted s 0 .trayOff (s.thyme.reported ∈ [TrayState.poweringUp, .on, .maintenance]) → a.1 = { status := .accepted } ∧ (PowerRequest.trayOff, s.gt + 1) ∈ a.2.thyme.requests) ∧
      (¬OffAccepted s 0 .trayOff (s.thyme.reported ∈ [TrayState.poweringUp, .on, .maintenance]) → a.1 = {}) := by
  obtain ⟨hc, hd, hq, hk, hr, hw⟩ := cancelTrayOn_spec h9
  rw [trayOff_eq]
  have ha := offAnswer_spec s.cancelTrayOn 0 .trayOff (s.cancelTrayOn.thyme.reported ∈ [TrayState.poweringUp, .on, .maintenance])
  generalize offAnswer s.cancelTrayOn 0 .trayOff (s.cancelTrayOn.thyme.reported ∈ [TrayState.poweringUp, .on, .maintenance]) = a at ha ⊢
  obtain ⟨l, ht, hl, hwa, hyes, hno⟩ := ha
  simp only [OffAccepted, OffBusy, hr, hc, hk, hq, filter_requests (r := .trayOn) (req := .trayOff) nofun] at hyes hno
  dsimp only
  have hg : s.cancelTrayOn.gt = s.gt := hw.reads State.gt fun _ => rfl
  refine ⟨?_, by rw [ht]; exact hd, fun g h => ?_, (hw.mono rfl).trans hwa, fun h => ?_, hno⟩
  · rw [State.ctx.eq_def, ht]
    exact congrArg ThymeCtx.pendOn hc
  · rw [ht, hq] at h
    rcases List.mem_append.mp h with h | h
    · simp at h
    · exact absurd (hl _ h) nofun
  · rw [ht, ← hg]
    exact ⟨(hyes h).1, List.mem_append_right _ (hyes h).2⟩

/-! ## ACC_POWER (03 R78, 06 R162, R170) -/

theorem accBarred_iff (s : State) : s.accBarred = true ↔ s.trayPowered = false ∨ s.runs 0 = true := by
  simp [State.accBarred]

/-- An accelerator's pending on is cancelled. -/
theorem cancelAccOn_spec {s : State} {n : Nat} (h9 : s.thyme.ctxs.length = 9) (hn : n < 8) :
    (s.cancelAccOn n).ctx (n + 1) = { s.ctx (n + 1) with pendOn := false } ∧ (s.cancelAccOn n).thyme.accMinOffEnd = s.thyme.accMinOffEnd.set n none ∧
      (s.cancelAccOn n).thyme.requests = s.thyme.requests.filter (fun r => r.1 != .accOn n) ∧ (s.cancelAccOn n).runKind (n + 1) = s.runKind (n + 1) ∧
      (s.cancelAccOn n).acc n = s.acc n ∧ Within [.thyme] s (s.cancelAccOn n) := by
  have hc : (s.cancelAccOn n).ctx (n + 1) = { s.ctx (n + 1) with pendOn := false } :=
    ctx_onCtx (s := s.onThyme fun t => { t with accMinOffEnd := t.accMinOffEnd.set n none, requests := t.requests.filter fun r => r.1 != .accOn n })
      (show n + 1 < s.thyme.ctxs.length by omega) _
  refine ⟨hc, rfl, rfl, ?_, rfl, rfl⟩
  unfold State.runKind
  rw [hc]
  rfl

/-- ACC_POWER on of an accelerator in ACC_OFF becomes a request. -/
theorem accOn_request {s : State} {n : Nat} (h9 : s.thyme.ctxs.length = 9) (hn : n < 8) :
    let t := (s.cancelAccOn n).request (.accOn n)
    (PowerRequest.accOn n, s.gt + 1) ∈ t.thyme.requests ∧ (t.ctx (n + 1)).pendOn = false ∧ Within [.thyme, .pair] s t := by
  obtain ⟨hc, -, -, -, -, hw⟩ := cancelAccOn_spec h9 hn
  obtain ⟨ht, hrw⟩ := request_spec (s.cancelAccOn n) (.accOn n)
  refine ⟨?_, ?_, (hw.mono rfl).trans hrw⟩
  · rw [ht]
    exact List.mem_append_right _ (List.mem_singleton_self _)
  · rw [State.ctx.eq_def, ht]
    exact congrArg ThymeCtx.pendOn hc

/-- ACC_POWER on of an accelerator on its way down waits as a pending on. -/
theorem accOn_deferred {s : State} {k : Nat} (hk : k < s.thyme.ctxs.length) (h16 : s.rec_.ports.length = 16) :
    let a := (s.onCtx k fun c => { c with pendOn := true }).deferred k 0
    a.1 = { status := .deferred } ∧ (a.2.ctx k).pendOn = true ∧ Recorded s a.2 .fp1 0x0206 0 ∧ Within [.thyme, .rec_, .pair] s a.2 := by
  obtain ⟨h1, h2, h3, h4⟩ := deferred_spec (s := s.onCtx k fun c => { c with pendOn := true }) h16 k 0
  refine ⟨h1, ?_, h3, Within.trans (t := s.onCtx k fun c => { c with pendOn := true }) rfl (h4.mono rfl)⟩
  rw [State.ctx.eq_def, h2]
  exact congrArg ThymeCtx.pendOn (ctx_onCtx hk fun c => { c with pendOn := true })

/-- What ACC_POWER on answers and leaves, by the state of the accelerator. -/
theorem accPowerOn_answers {s : State} (h9 : s.thyme.ctxs.length = 9) (h16 : s.rec_.ports.length = 16) (acc : U8) (c : Ctx) :
    let a := bodyAccPowerOn acc c s
    let n := acc.toNat
    if 7 < n then a.1 = Reply.fail .badArg ∧ a.2 = s
    else if s.trayPowered = false ∨ s.runs 0 = true then a.1 = Reply.fail .stateConflict ∧ a.2 = s
    else match s.acc n with
      | .off => if nth s.thyme.set.accUp n = 255 then a.1 = Reply.fail .stateConflict ∧ a.2 = s
        else a.1 = { status := .accepted } ∧ (PowerRequest.accOn n, s.gt + 1) ∈ a.2.thyme.requests ∧ (a.2.ctx (n + 1)).pendOn = false ∧ Within [.thyme, .pair] s a.2
      | .down => a.1 = { status := .deferred } ∧ (a.2.ctx (n + 1)).pendOn = true ∧ Recorded s a.2 .fp1 0x0206 0 ∧ Within [.thyme, .rec_, .pair] s a.2
      | .up | .on => a.1 = {} ∧ a.2 = s
      | .fault => a.1 = Reply.fail .stateConflict ∧ a.2 = s := by
  dsimp only
  unfold bodyAccPowerOn
  rw [check_two]
  simp only [decide_eq_true_eq, accBarred_iff]
  by_cases h1 : 7 < acc.toNat
  · simp only [if_pos h1]
    exact ⟨rfl, rfl⟩
  · by_cases h2 : s.trayPowered = false ∨ s.runs 0 = true
    · simp only [if_neg h1, if_pos h2]
      exact ⟨rfl, rfl⟩
    · simp only [if_neg h1, if_neg h2]
      cases s.acc acc.toNat with
      | off =>
        by_cases h3 : nth s.thyme.set.accUp acc.toNat = 255
        · simp only [if_pos h3]
          exact ⟨rfl, rfl⟩
        · simp only [if_neg h3]
          exact ⟨rfl, accOn_request h9 (by omega)⟩
      | down => exact accOn_deferred (by omega) h16
      | up | on | fault => exact ⟨rfl, rfl⟩

theorem bodyAccPowerOff_eq (acc : U8) (c : Ctx) (s : State) : bodyAccPowerOff acc c s =
    if 7 < acc.toNat then refuse .badArg s
    else if s.trayPowered = false ∨ s.runs 0 = true then refuse .stateConflict s
    else offAnswer (s.cancelAccOn acc.toNat) (acc.toNat + 1) (.accOff acc.toNat) ((s.cancelAccOn acc.toNat).acc acc.toNat = .up ∨ (s.cancelAccOn acc.toNat).acc acc.toNat = .on) := by
  unfold bodyAccPowerOff
  rw [check_two]
  simp only [decide_eq_true_eq, accBarred_iff]
  rfl

/-- What ACC_POWER off answers and leaves. -/
theorem accPowerOff_answers {s : State} (h9 : s.thyme.ctxs.length = 9) (h8 : s.thyme.accMinOffEnd.length = 8) (acc : U8) (c : Ctx) :
    let a := bodyAccPowerOff acc c s
    let n := acc.toNat
    if 7 < n then a.1 = Reply.fail .badArg ∧ a.2 = s
    else if s.trayPowered = false ∨ s.runs 0 = true then a.1 = Reply.fail .stateConflict ∧ a.2 = s
    else
      Within [.thyme, .pair] s a.2 ∧ (a.2.ctx (n + 1)).pendOn = false ∧ nth a.2.thyme.accMinOffEnd n = none ∧
      (OffAccepted s (n + 1) (.accOff n) (s.acc n = .up ∨ s.acc n = .on) → a.1 = { status := .accepted } ∧ (PowerRequest.accOff n, s.gt + 1) ∈ a.2.thyme.requests) ∧
      (¬OffAccepted s (n + 1) (.accOff n) (s.acc n = .up ∨ s.acc n = .on) → a.1 = {}) := by
  dsimp only
  rw [bodyAccPowerOff_eq]
  generalize acc.toNat = n
  by_cases h1 : 7 < n
  · simp only [if_pos h1]
    exact ⟨rfl, rfl⟩
  · by_cases h2 : s.trayPowered = false ∨ s.runs 0 = true
    · simp only [if_neg h1, if_pos h2]
      exact ⟨rfl, rfl⟩
    · simp only [if_neg h1, if_neg h2]
      obtain ⟨hc, hm, hq, hk, hacc, hw⟩ := cancelAccOn_spec (s := s) (n := n) h9 (by omega)
      have ha := offAnswer_spec (s.cancelAccOn n) (n + 1) (.accOff n) ((s.cancelAccOn n).acc n = .up ∨ (s.cancelAccOn n).acc n = .on)
      generalize offAnswer (s.cancelAccOn n) (n + 1) (.accOff n) ((s.cancelAccOn n).acc n = .up ∨ (s.cancelAccOn n).acc n = .on) = a at ha ⊢
      obtain ⟨l, ht, -, hwa, hyes, hno⟩ := ha
      simp only [OffAccepted, OffBusy, hacc, hc, hk, hq, filter_requests (r := .accOn n) (req := .accOff n) nofun] at hyes hno
      have hg : (s.cancelAccOn n).gt = s.gt := hw.reads State.gt fun _ => rfl
      refine ⟨(hw.mono rfl).trans hwa, ?_, ?_, fun h => ?_, hno⟩
      · rw [State.ctx.eq_def, ht]
        exact congrArg ThymeCtx.pendOn hc
      · rw [ht, hm]
        exact nth_set_self (by omega) none
      · rw [ht, ← hg]
        exact ⟨(hyes h).1, List.mem_append_right _ (hyes h).2⟩

/-- What ACC_POWER reset answers and leaves (03 R78). -/
theorem accPowerReset_answers (s : State) (acc : U8) (c : Ctx) :
    let a := bodyAccPowerReset acc c s
    let n := acc.toNat
    if 7 < n then a.1 = Reply.fail .badArg ∧ a.2 = s
    else if s.acc n ≠ .on then a.1 = Reply.fail .stateConflict ∧ a.2 = s
    else a.1 = { status := .accepted } ∧ a.2.sage = { s.sage with accReset := s.sage.accReset &&& ~~~(1#8 <<< n) } ∧
      a.2.thyme = { s.thyme with resetAction := s.thyme.resetAction.set n (some (s.gt + ms 1, c.port)) } ∧ Within [.thyme, .sage, .pair] s a.2 := by
  dsimp only
  unfold bodyAccPowerReset
  rw [check_two]
  simp only [decide_eq_true_eq, bne_iff_ne]
  by_cases h1 : 7 < acc.toNat
  · simp only [if_pos h1]
    exact ⟨rfl, rfl⟩
  · by_cases h2 : s.acc acc.toNat ≠ .on
    · simp only [if_neg h1, if_pos h2]
      exact ⟨rfl, rfl⟩
    · simp only [if_neg h1, if_neg h2]
      refine ⟨rfl, State.mirrored_sage .., State.mirrored_thyme .., ?_⟩
      refine Within.trans ?_ (mirrored_within _ _)
      rfl

end Sys2Proof.Proofs
end

section
/-! SUPPORT. The release of a package's reset. -/

namespace Sys2Proof.Proofs

open Sys2Proof Sys2Proof.Machine

/-! ## The reset of a package is released (03 R78, 06 R175) -/

/-- Pushes have ended, with their records and what substitutions wait for: links, dies and the plan are as they were. -/
structure Unpushed (s t : State) : Prop where
  within : Within [.link, .pair, .rec_, .repro, .sec, .upd] s t
  adding : Adding s t
  plan : t.upd.plan = s.upd.plan
  ports : t.link.ports = s.link.ports

namespace Unpushed

theorem refl (s : State) : Unpushed s s := ⟨.refl s, .refl s, rfl, rfl⟩

theorem trans {s t u : State} (h : Unpushed s t) (h' : Unpushed t u) : Unpushed s u :=
  ⟨h.within.trans h'.within, h.adding.trans h'.adding, h'.plan.trans h.plan, h'.ports.trans h.ports⟩

theorem foldl {α : Type} {f : State → α → State} (h : ∀ s a, Unpushed s (f s a)) (l : List α) (s : State) : Unpushed s (l.foldl f s) := foldl_within refl trans h l s

end Unpushed

section

variable (s : State)

theorem event_unpushed (port : EvPort) (code sev src : Nat) (payload : List Byte) : Unpushed s (s.event port code sev src payload) :=
  ⟨event_within .., event_adding .., by rw [event_upd], congrArg LinkState.ports (State.event_link ..)⟩

theorem mirrored_unpushed (kind : MirKind) : Unpushed s (s.mirrored kind) :=
  ⟨mirrored_within .., mirrored_adding .., congrArg UpdateState.plan (State.mirrored_upd ..), congrArg LinkState.ports (State.mirrored_link ..)⟩

theorem saveSettings_unpushed : Unpushed s s.saveSettings :=
  ⟨saveSettings_within s, saveSettings_adding s, by rw [saveSettings_eq], by rw [saveSettings_eq]⟩

theorem onRepro_unpushed (r : ReproState) : Unpushed s { s with repro := r } := ⟨rfl, .beside rfl rfl, rfl, rfl⟩

theorem substDone_unpushed (push n : Nat) (ok : Bool) : Unpushed s (s.substDone push n ok) := by
  unfold State.substDone
  split
  · exact .refl s
  · refine (onRepro_unpushed s _).trans (t := { s with repro := { s.repro with pushing := s.repro.pushing.filter fun p => p.1 != push } }) ?_
    dsimp only
    split
    · exact ((onRepro_unpushed _ _).trans (event_unpushed ..)).trans (mirrored_unpushed ..)
    · split
      · exact onRepro_unpushed _ _
      · exact (((onRepro_unpushed _ _).trans (saveSettings_unpushed _)).trans (event_unpushed ..)).trans (mirrored_unpushed ..)

theorem pushEnds_unpushed (push n : Nat) (ok : Bool) : Unpushed s (s.pushEnds push n ok) := by
  have h : Unpushed s { s with link := s.link.pushLeaves push n } := ⟨rfl, .beside rfl rfl, rfl, rfl⟩
  exact (h.trans (event_unpushed ..)).trans (substDone_unpushed ..)

theorem failPushes_unpushed (n : Nat) : Unpushed s (s.failPushes n) := .foldl (fun s _ => pushEnds_unpushed s ..) _ s

end

/-- A change of one port. -/
theorem onSkv_phase {s : State} {n : Nat} (hn : n ≠ 10) {f : SkvPort → SkvPort} {ph : PortPhase} (hf : ∀ p, (f p).phase = ph) (hd : ({} : SkvPort).phase = ph) :
    ((s.onSkv n f).skv n).phase = ph := by
  simp only [State.onSkv, State.skv, if_neg hn]
  rw [nth_modAt]
  split
  · exact hf _
  · rename_i h
    rw [nth, List.getD_eq_default _ _ (by omega)]
    exact hd

theorem onSkv_adding (s : State) (n : Nat) (f : SkvPort → SkvPort) : Adding s (s.onSkv n f) := by
  unfold State.onSkv
  split <;> exact .beside rfl rfl

theorem portTo_adding (s : State) (n : Nat) (ph : PortPhase) : Adding s (s.portTo n ph) := (onSkv_adding s n _).trans (traced_adding ..)

theorem portTo_within (s : State) (n : Nat) (ph : PortPhase) : Within [.link, .pair, .rec_, .trace] s (s.portTo n ph) := (onSkv_within s n _).trans (traced_within ..)

theorem skv_of_ports {s t : State} {n : Nat} (hn : n ≠ 10) (h : t.link.ports = s.link.ports) : t.skv n = s.skv n := by
  simp only [State.skv, if_neg hn, h]

/-- The parts that the release of a reset can change, beside Thyme and Sage. -/
abbrev retrainParts : List Part := [.ledger, .link, .pair, .rec_, .repro, .sec, .trace, .upd]

/-- Link n trains anew, unless it is not in use. -/
theorem retrainReset_spec (s : State) {n : Nat} (hn : n ≠ 10) :
    Within retrainParts s (s.retrainReset n) ∧ Adding s (s.retrainReset n) ∧ (s.retrainReset n).upd.plan = s.upd.plan ∧
      ((s.retrainReset n).skv n).phase = if (s.skv n).phase = .unused then .unused else .training := by
  unfold State.retrainReset
  dsimp only
  generalize hu : (s.onLink fun l => { l with queues := l.queues.map fun (q : HostQueue) => if q.port = n then q.resumeAfter (s.skv n) else q }) = u
  have hw : Within retrainParts s u := hu ▸ rfl
  have ha : Adding s u := hu ▸ .beside rfl rfl
  have hplan : u.upd = s.upd := hu ▸ rfl
  have hports : u.link.ports = s.link.ports := hu ▸ rfl
  split
  · exact ⟨hw, ha, by rw [hplan], by rw [skv_of_ports hn hports]; assumption⟩
  · have hv := fun v : State => failPushes_unpushed v n
    have hphase : (((u.onSkv n fun p => p.fallen p.phase).portTo n .training).skv n).phase = .training := by
      unfold State.portTo
      dsimp only
      rw [skv_of_ports hn (congrArg LinkState.ports (State.traced_link ..))]
      exact onSkv_phase hn (fun _ => rfl) rfl
    have hupd : ((u.onSkv n fun p => p.fallen p.phase).portTo n .training).upd = u.upd :=
      (State.traced_upd ..).trans ((State.onSkv_upd ..).trans (State.onSkv_upd ..))
    refine ⟨?_, ?_, ?_, ?_⟩
    · refine hw.trans (.trans ?_ ((hv _).within.mono rfl))
      exact (onSkv_within u n _).trans ((portTo_within _ n _).mono rfl)
    · exact ha.trans (((onSkv_adding u n _).trans (portTo_adding ..)).trans (hv _).adding)
    · rw [(hv _).plan, hupd, hplan]
    · rw [skv_of_ports hn (hv _).ports]
      exact hphase

/-- The entries of a table that are cleared, and those that it does not hold, read clear. -/
theorem nth_cleared {α : Type} [Inhabited α] (l : List α) {i : Nat} {f : Nat → α → α} {P : α → Prop} (hf : ∀ x, P (f i x)) (hd : P default) : P (nth (l.mapIdx f) i) := by
  by_cases h : i < l.length
  · rw [nth_mapIdx h]
    exact hf _
  · rw [nth, List.getD_eq_default _ _ (by rw [List.length_mapIdx]; omega)]
    exact hd

/-- The reports of the package's dies are compared anew. -/
theorem freshReports_rseq (s : State) (n d : Nat) (hd : d / 8 = n) : (nth (s.freshReports n).link.dies d).rseq = none ∧ (nth (s.freshReports n).ledger.dies d).rseq = none :=
  ⟨nth_cleared s.link.dies (P := fun x => x.rseq = none) (fun _ => by rw [if_pos hd]) rfl, nth_cleared s.ledger.dies (P := fun x => x.rseq = none) (fun _ => by rw [if_pos hd]) rfl⟩

theorem freshReports_spec (s : State) (n : Nat) : Within [.ledger, .link] s (s.freshReports n) ∧ (s.freshReports n).link.ports = s.link.ports := ⟨rfl, rfl⟩

/-- A change of the plan, saved and sent on. -/
theorem onPlan_spec (s : State) (f : UpdatePlan → UpdatePlan) : Within [.pair, .sec, .upd] s (s.onPlan f) ∧ (s.onPlan f).upd.plan = f s.upd.plan := by
  unfold State.onPlan
  refine ⟨?_, ?_⟩
  · refine .trans ?_ (mirrored_within _ _)
    refine .trans ?_ (saveSettings_within _)
    rfl
  · rw [State.mirrored_upd, saveSettings_eq]
    rfl

/-- ACC_RESET_N is high again. -/
def resetRaised (s : State) (n : Nat) : State :=
  (s.onThyme fun h => { h with resetAction := h.resetAction.set n none }).onSage fun g => { g with accReset := g.accReset ||| (1#8 <<< n) }

/-- The release is recorded. -/
def resetHigh (s : State) (n port : Nat) : State := ((resetRaised s n).mirrored .grants).event .fp1 0x020A 0 n (i1 n ++ i1 port)

/-- The package's link and reports start anew. -/
def packageFresh (s : State) (n port : Nat) : State := ((resetHigh s n port).retrainReset n).freshReports n

theorem exec_accResetRelease {s : State} {acc : U8} {g p : Nat} (hr : nth s.thyme.resetAction acc.toNat = some (g, p)) (hg : g ≤ s.gt) :
    exec (.accResetRelease acc) s = .next (
      if s.acc acc.toNat ≠ .on then s.onThyme fun h => { h with resetAction := h.resetAction.set acc.toNat none }
      else if (packageFresh s acc.toNat p).upd.plan.step = .resetting acc.toNat then
        (packageFresh s acc.toNat p).onPlan fun q => { q with step := .waiting acc.toNat ((packageFresh s acc.toNat p).gt + secs 2) }
      else packageFresh s acc.toNat p) := by
  show execAccResetRelease acc s = _
  unfold execAccResetRelease
  simp only [hr, if_neg (Nat.not_lt.mpr hg)]
  rfl

/-- What the release of a package's reset changes. -/
theorem packageFresh_spec {s : State} {n : Nat} (h8 : n < 8) (h16 : s.rec_.ports.length = 16) (port : Nat) :
    let t := packageFresh s n port
    t.thyme = { s.thyme with resetAction := s.thyme.resetAction.set n none } ∧ t.sage = { s.sage with accReset := s.sage.accReset ||| (1#8 <<< n) } ∧ t.clk = s.clk ∧
      Recorded s t .fp1 0x020A 0 ∧ (t.skv n).phase = (if (s.skv n).phase = .unused then .unused else .training) ∧
      (∀ d, d / 8 = n → (nth t.link.dies d).rseq = none ∧ (nth t.ledger.dies d).rseq = none) ∧ t.upd.plan = s.upd.plan := by
  intro t
  have hn : n ≠ 10 := by omega
  have h1 : Adding s ((resetRaised s n).mirrored .grants) := .trans (t := resetRaised s n) (.beside rfl rfl) (mirrored_adding _ _)
  have hrec : Recorded s (resetHigh s n port) .fp1 0x020A 0 := h1.event (by rw [h16]; decide) (by decide) ..
  obtain ⟨hw, ha, hplan, hphase⟩ := retrainReset_spec (resetHigh s n port) hn
  obtain ⟨hfw, hfp⟩ := freshReports_spec ((resetHigh s n port).retrainReset n) n
  have hall : Within retrainParts (resetHigh s n port) t := hw.trans (hfw.mono rfl)
  have hskv : (resetHigh s n port).skv n = s.skv n := skv_of_ports hn (congrArg LinkState.ports ((State.event_link ..).trans (State.mirrored_link ..)))
  refine ⟨?_, ?_, ?_, ?_, ?_, fun d hd => freshReports_rseq _ n d hd, ?_⟩
  · exact (hall.reads State.thyme fun _ => rfl).trans ((State.event_thyme ..).trans (State.mirrored_thyme ..))
  · exact (hall.reads State.sage fun _ => rfl).trans ((State.event_sage ..).trans (State.mirrored_sage ..))
  · exact (hall.reads State.clk fun _ => rfl).trans ((State.event_clk ..).trans (State.mirrored_clk ..))
  · exact recorded_of_rec (ha.recorded hrec) rfl
  · rw [hskv] at hphase
    exact (congrArg SkvPort.phase (skv_of_ports hn hfp)).trans hphase
  · have hhigh : (resetHigh s n port).upd.plan = s.upd.plan :=
      (event_unpushed ..).plan.trans (mirrored_unpushed (resetRaised s n) .grants).plan
    exact hplan.trans hhigh

/-- ACC_RESET_N is released; the package's link and reports start anew, and the update plan goes on (03 R78, 06 R175). -/
theorem accResetRelease_completes {s : State} {acc : U8} {g p : Nat} (h8 : acc.toNat < 8) (h16 : s.rec_.ports.length = 16)
    (hr : nth s.thyme.resetAction acc.toNat = some (g, p)) (hg : g ≤ s.gt) :
    let n := acc.toNat
    Completes (.accResetRelease acc) s fun t =>
      t.thyme = { s.thyme with resetAction := s.thyme.resetAction.set n none } ∧
      (s.acc n ≠ .on → t.without [.thyme] = s.without [.thyme]) ∧
      (s.acc n = .on → t.sage = { s.sage with accReset := s.sage.accReset ||| (1#8 <<< n) } ∧ Recorded s t .fp1 0x020A 0 ∧
        (t.skv n).phase = (if (s.skv n).phase = .unused then .unused else .training) ∧
        (∀ d, d < 64 → d / 8 = n → (nth t.link.dies d).rseq = none ∧ (nth t.ledger.dies d).rseq = none) ∧
        t.upd.plan.step = if s.upd.plan.step = .resetting n then .waiting n (s.gt + secs 2) else s.upd.plan.step) := by
  intro n
  refine ⟨_, exec_accResetRelease hr hg, ?_⟩
  by_cases hon : s.acc n = .on
  · obtain ⟨ht, hs, hc, hrec, hphase, hdies, hplan⟩ := packageFresh_spec h8 h16 p
    rw [if_neg (not_not.mpr hon)]
    by_cases hstep : (packageFresh s n p).upd.plan.step = .resetting n
    · rw [if_pos hstep]
      obtain ⟨hw, hp⟩ := onPlan_spec (packageFresh s n p) fun q => { q with step := .waiting n ((packageFresh s n p).gt + secs 2) }
      have hlink := hw.reads State.link fun _ => rfl
      refine ⟨(hw.reads State.thyme fun _ => rfl).trans ht, fun h => absurd hon h, fun _ => ⟨(hw.reads State.sage fun _ => rfl).trans hs, ?_, ?_, fun d _ hd => ?_, ?_⟩⟩
      · exact recorded_of_rec hrec (hw.reads State.rec_ fun _ => rfl)
      · exact (congrArg SkvPort.phase (skv_of_ports (by omega) (congrArg LinkState.ports hlink))).trans hphase
      · have hledger := hw.reads State.ledger fun _ => rfl
        have hd' := hdies d hd
        rw [← hlink, ← hledger] at hd'
        exact hd'
      · have hgt : (packageFresh s n p).gt = s.gt := congrArg ClockState.gt hc
        rw [hplan] at hstep
        rw [if_pos hstep, ← hgt]
        exact congrArg UpdatePlan.step hp
    · rw [if_neg hstep]
      rw [hplan] at hstep
      exact ⟨ht, fun h => absurd hon h, fun _ => ⟨hs, hrec, hphase, fun d _ hd => hdies d hd, by rw [hplan, if_neg hstep]⟩⟩
  · rw [if_pos hon]
    exact ⟨rfl, fun _ => rfl, fun h => absurd h hon⟩

end Sys2Proof.Proofs
end

section
/-! SUPPORT. What an accepted power request does in its tick. -/

namespace Sys2Proof.Proofs

open Sys2Proof Sys2Proof.Machine

/-! ## The first tick of a program leaves the contexts and the programs alone -/

/-- The clocks are as they were, and Thyme beside the tray's and the accelerators' states and what waits. -/
structure Steady (s t : State) : Prop where
  clk : t.clk = s.clk
  thyme : t.thyme = { s.thyme with tray := t.thyme.tray, accs := t.thyme.accs, pwrok := t.thyme.pwrok, deferredUp := t.thyme.deferredUp, requests := t.thyme.requests }

namespace Steady

theorem refl (s : State) : Steady s s := ⟨rfl, rfl⟩

theorem trans {s t u : State} (h : Steady s t) (h' : Steady t u) : Steady s u := ⟨h'.clk.trans h.clk, by rw [h'.thyme, h.thyme]⟩

theorem guard {s t : State} {p : Prop} [Decidable p] (h : Steady s t) : Steady s (if p then t else s) := by
  split
  · exact h
  · exact refl s

theorem foldl {α : Type} {f : State → α → State} (h : ∀ s a, Steady s (f s a)) (l : List α) (s : State) : Steady s (l.foldl f s) := foldl_within refl trans h l s

theorem gt {s t : State} (h : Steady s t) : t.gt = s.gt := congrArg ClockState.gt h.clk

/-- What of Thyme does not look at these states reads the same. -/
theorem reads {α : Type} {s t : State} (h : Steady s t) (f : ThymeState → α)
    (hf : ∀ x tray accs pwrok up reqs, f { x with tray := tray, accs := accs, pwrok := pwrok, deferredUp := up, requests := reqs } = f x) : f t.thyme = f s.thyme := by
  rw [h.thyme]
  exact hf ..

theorem ctx {s t : State} (h : Steady s t) (k : Nat) : t.ctx k = s.ctx k := h.reads (fun x => nth x.ctxs k) fun _ _ _ _ _ _ => rfl

end Steady

theorem Quiet.steady {s t : State} (h : Quiet s t) : Steady s t := ⟨h.clk, by rw [h.thyme]⟩

section

variable (s : State)

theorem setAcc_steady (n : Nat) (a : AccState) : Steady s (s.setAcc n a) := .trans (t := s.onThyme _) ⟨rfl, rfl⟩ (setAcc_quiet s n a).steady

theorem setAcc_tray (n : Nat) (a : AccState) : (s.setAcc n a).thyme.tray = s.thyme.tray := by
  rw [(setAcc_quiet s n a).thyme]
  rfl

/-- A feed that starts keeps the clocks and Thyme. -/
theorem enterInrush_beside (x : Nat) : (s.enterInrush x).clk = s.clk ∧ (s.enterInrush x).thyme = s.thyme ∧ (s.enterInrush x).feed.demand = s.feed.demand := by
  unfold State.enterInrush
  dsimp only
  split
  · exact ⟨rfl, rfl, rfl⟩
  · split
    · exact ⟨State.traced_clk .., State.traced_thyme .., (congrArg FeedState.demand (State.traced_feed ..)).trans rfl⟩
    · exact ⟨rfl, rfl, rfl⟩

/-- The feeds settle, and what was deferred with them; the tray's state and the demand stay. -/
theorem feedsSettle_steady : Steady s s.feedsSettle ∧ s.feedsSettle.thyme.tray = s.thyme.tray ∧ s.feedsSettle.feed.demand = s.feed.demand := by
  unfold State.feedsSettle
  dsimp only
  generalize ht : (if s.feed.demand = true then (s.enterInrush 0).enterInrush 1 else s) = t
  have hi : t.clk = s.clk ∧ t.thyme = s.thyme ∧ t.feed.demand = s.feed.demand := by
    obtain ⟨h1, h2, h3⟩ := enterInrush_beside s 0
    obtain ⟨g1, g2, g3⟩ := enterInrush_beside (s.enterInrush 0) 1
    rw [← ht]
    split
    · exact ⟨g1.trans h1, g2.trans h2, g3.trans h3⟩
    · exact ⟨rfl, rfl, rfl⟩
  obtain ⟨hc, hth, hd⟩ := hi
  have hs : Steady s t := ⟨hc, by rw [hth]⟩
  have htray : t.thyme.tray = s.thyme.tray := congrArg ThymeState.tray hth
  split_ifs
  · exact ⟨hs.trans ⟨rfl, rfl⟩, htray, hd⟩
  · exact ⟨hs.trans ⟨rfl, rfl⟩, htray, hd⟩
  · exact ⟨hs, htray, hd⟩
  · exact ⟨hs, htray, hd⟩

theorem onFeeds_steady (f : FeedState → FeedState) : Steady s (s.onFeeds f) := ⟨rfl, rfl⟩

theorem setTray_steady (x : TrayState) : Steady s (s.onThyme fun t => { t with tray := x }) := ⟨rfl, rfl⟩

theorem setDemand_steady : Steady s s.setDemand ∧ s.setDemand.thyme.tray = s.thyme.tray ∧ s.setDemand.feed.demand = true := by
  obtain ⟨h1, h2, h3⟩ := feedsSettle_steady (s.onFeeds fun c => { c with demand := true })
  have hm := mirrored_quiet (s.onFeeds fun c => { c with demand := true }).feedsSettle .tray
  exact ⟨((onFeeds_steady s _).trans h1).trans hm.steady, (congrArg ThymeState.tray hm.thyme).trans h2, (congrArg FeedState.demand hm.feed).trans h3⟩

/-- An accelerator's power-good and reset go low on its way down. -/
def accLow (n : Nat) : State :=
  (s.onThyme fun t => { t with pwrok := t.pwrok &&& ~~~(1#8 <<< n) }).onSage fun g => { g with accReset := g.accReset &&& ~~~(1#8 <<< n) }

theorem accLow_steady (n : Nat) : Steady s (accLow s n) ∧ (accLow s n).thyme.tray = s.thyme.tray := ⟨⟨rfl, rfl⟩, rfl⟩

theorem accsDown_eq : s.accsDown = (List.range 8).foldl (fun s n => if s.acc n = .up ∨ s.acc n = .on ∨ s.acc n = .down then accLow (s.setAcc n .down) n else s) s := rfl

/-- What the accelerators' way down changes: the tray's state stays. -/
theorem accsDown_steady : Steady s s.accsDown ∧ s.accsDown.thyme.tray = s.thyme.tray := by
  rw [accsDown_eq]
  refine foldl_within (R := fun s t => Steady s t ∧ t.thyme.tray = s.thyme.tray) (fun s => ⟨.refl s, rfl⟩) (fun h h' => ⟨h.1.trans h'.1, h'.2.trans h.2⟩) (fun s n => ?_) _ s
  split
  · obtain ⟨h1, h2⟩ := accLow_steady (s.setAcc n .down) n
    exact ⟨(setAcc_steady s n .down).trans h1, h2.trans (setAcc_tray s n .down)⟩
  · exact ⟨.refl s, rfl⟩

/-- The state change of a program's first tick (06 R160). -/
theorem enterKind_steady (k : Nat) : Steady s (s.enterKind k) := by
  unfold State.enterKind
  split
  · exact (setTray_steady s _).trans (setDemand_steady _).1
  · exact ((dropMargins_quiet s).steady.trans (setTray_steady _ _)).trans (.guard (accsDown_steady _).1)
  · exact setAcc_steady ..
  · exact (dropMargins_quiet s).steady.trans (setAcc_steady ..)
  · exact .refl s

theorem enterKind_up {k : Nat} (h : s.runKind k = 1) : (s.enterKind k).thyme.tray = .poweringUp ∧ (s.enterKind k).feed.demand = true := by
  unfold State.enterKind
  rw [h]
  exact (setDemand_steady _).2

theorem enterKind_down {k : Nat} (h : s.runKind k = 2) : (s.enterKind k).thyme.tray = .poweringDown := by
  have hdown : ∀ u : State, (if u.thyme.emergency.isSome then u.accsDown else u).thyme.tray = u.thyme.tray := fun u => by
    split
    · exact (accsDown_steady u).2
    · rfl
  unfold State.enterKind
  rw [h]
  exact hdown _

theorem enterKind_accUp {k : Nat} (h : s.runKind k = 3) (hk : k - 1 < s.thyme.accs.length) : (s.enterKind k).acc (k - 1) = .up := by
  unfold State.enterKind
  rw [h]
  exact setAcc_acc hk _

theorem enterKind_accDown {k : Nat} (h : s.runKind k = 4) (hk : k - 1 < s.thyme.accs.length) : (s.enterKind k).acc (k - 1) = .down := by
  unfold State.enterKind
  rw [h]
  exact setAcc_acc (s := s.dropMargins) hk _

end

/-- The context from its first tick on. -/
def unstarted (s : State) (k : Nat) : State := s.onCtx k fun c => { c with starting := none, progTick := s.gt }

/-- A program's first tick changes its context, its kind's states, and the rest quietly. -/
theorem firstTick_quiet {s : State} {k : Nat} {how : StartKind} (h : (s.ctx k).starting = some how) : Quiet ((unstarted s k).enterKind k) (s.firstTick k) := by
  unfold State.firstTick
  rw [h]
  dsimp only
  refine .trans ?_ ((mirrored_quiet _ .tray).trans (mirrored_quiet _ .thyme))
  split
  · exact (event_quiet ..).trans (traced_quiet ..)
  · exact (event_quiet ..).trans (traced_quiet ..)
  · exact event_quiet ..

theorem firstTick_steady {s : State} {k : Nat} {how : StartKind} (h : (s.ctx k).starting = some how) : Steady (unstarted s k) (s.firstTick k) :=
  (enterKind_steady _ k).trans (firstTick_quiet h).steady

theorem firstTick_none {s : State} {k : Nat} (h : (s.ctx k).starting = none) : s.firstTick k = s := by
  unfold State.firstTick
  rw [h]

/-! ## A program that starts (06 R142, R160, R168) -/

/-- A context at the start of a program. -/
def begun (c : ThymeCtx) (prog idx tick : Nat) (how : StartKind) : ThymeCtx :=
  { mark := if how = .fresh then none else c.mark, abortCause := c.abortCause, abortCode := c.abortCode, pendOn := c.pendOn, endTick := c.endTick
    held := if how = .fresh then [] else c.held, prog := some prog, idx := idx, stepTick := tick, progTick := tick
    starting := some how, unwinding := how != .fresh, after := if how = .mirrorAbort then .toFault else .normal }

theorem begin_ctx {s : State} {k : Nat} (hk : k < s.thyme.ctxs.length) (prog idx tick : Nat) (how : StartKind) : (s.begin k prog idx tick how).ctx k = begun (s.ctx k) prog idx tick how :=
  ctx_onCtx hk _

/-- What a program that starts in this tick leaves. -/
theorem startNow_spec {s : State} {k : Nat} (hk : k < s.thyme.ctxs.length) (ha : s.thyme.accs.length = 8) (h9 : k < 9) (prog idx : Nat) :
    let t := s.startNow k prog idx
    t.ctx k = { begun (s.ctx k) prog idx s.gt .fresh with starting := none } ∧
      (s.thyme.set.kind prog = 1 → t.thyme.tray = .poweringUp ∧ t.feed.demand = true) ∧ (s.thyme.set.kind prog = 2 → t.thyme.tray = .poweringDown) ∧
      (s.thyme.set.kind prog = 3 → t.acc (k - 1) = .up) ∧ (s.thyme.set.kind prog = 4 → t.acc (k - 1) = .down) := by
  intro t
  have hb := begin_ctx hk prog idx s.gt .fresh
  have hq : Quiet ((unstarted (s.begin k prog idx s.gt .fresh) k).enterKind k) t := firstTick_quiet (how := .fresh) (by rw [hb]; rfl)
  generalize hu : unstarted (s.begin k prog idx s.gt .fresh) k = u at hq
  have huc : u.ctx k = { begun (s.ctx k) prog idx s.gt .fresh with starting := none } := by
    rw [← hu, unstarted, ctx_onCtx (by rw [State.begin, onCtx_ctxs_length]; exact hk), hb]
    rfl
  have hset : u.thyme.set = s.thyme.set := hu ▸ rfl
  have hkind : u.runKind k = s.thyme.set.kind prog := by
    unfold State.runKind
    rw [huc, hset]
    rfl
  have hacc : k - 1 < u.thyme.accs.length := by
    rw [← hu]
    show k - 1 < s.thyme.accs.length
    omega
  refine ⟨?_, fun h => ?_, fun h => ?_, fun h => ?_, fun h => ?_⟩
  · rw [hq.ctx, (enterKind_steady u k).ctx, huc]
  · rw [hq.thyme, hq.feed]
    exact enterKind_up u (hkind.trans h)
  · rw [hq.thyme]
    exact enterKind_down u (hkind.trans h)
  · rw [hq.acc]
    exact enterKind_accUp u (hkind.trans h) hacc
  · rw [hq.acc]
    exact enterKind_accDown u (hkind.trans h) hacc

/-- What a program leaves that starts in this tick, or in the next where its context has ended one in this. -/
theorem startIn_spec {s : State} {k : Nat} (hk : k < s.thyme.ctxs.length) (ha : s.thyme.accs.length = 8) (h9 : k < 9) (prog idx : Nat) :
    let t := s.startIn k prog idx
    (t.ctx k).prog = some prog ∧ (t.ctx k).idx = idx ∧ ((s.ctx k).endTick = some s.gt → (t.ctx k).stepTick = s.gt + 1) ∧
      ((s.ctx k).endTick ≠ some s.gt → (t.ctx k).stepTick = s.gt ∧
        (s.thyme.set.kind prog = 1 → t.thyme.tray = .poweringUp ∧ t.feed.demand = true) ∧ (s.thyme.set.kind prog = 2 → t.thyme.tray = .poweringDown) ∧
        (s.thyme.set.kind prog = 3 → t.acc (k - 1) = .up) ∧ (s.thyme.set.kind prog = 4 → t.acc (k - 1) = .down)) := by
  dsimp only
  unfold State.startIn
  split
  · rename_i he
    rw [begin_ctx hk]
    exact ⟨rfl, rfl, fun _ => rfl, fun h => absurd he h⟩
  · rename_i he
    obtain ⟨hc, hkinds⟩ := startNow_spec hk ha h9 prog idx
    rw [hc]
    exact ⟨rfl, rfl, fun h => absurd h he, fun _ => ⟨rfl, hkinds⟩⟩

/-! ## An off request takes effect (06 R161, R172) -/

/-- What an off request leaves of a running power-up: its step goes on to its end, or the mirror program begins. -/
def OffIn (s t : State) (k : Nat) : Prop :=
  if ((s.ctx k).inStep = true ∧ s.waitsFreely k = false) ∨ ((s.ctx k).inStep = false ∧ (s.ctx k).stepTick ≤ s.gt) then
    t.ctx k = { s.ctx k with offTaken := true }
  else (t.ctx k).prog = some (s.thyme.set.mirror ((s.ctx k).prog.getD 0)) ∧ (t.ctx k).starting = some .mirrorOff ∧ (t.ctx k).stepTick = s.gt + 1

/-- A step that ends under an off request, beside a USER program's, gives way to the mirror program. -/
theorem stepDone_mirror {s : State} {k : Nat} (hk : k < s.thyme.ctxs.length) (hd : s.thyme.emergencyDue = none) (ho : (s.ctx k).offTaken = true) (h6 : s.runKind k ≠ 6) (next : Nat) :
    ((s.stepDone k next).ctx k).prog = some (s.thyme.set.mirror ((s.ctx k).prog.getD 0)) ∧ ((s.stepDone k next).ctx k).starting = some .mirrorOff ∧
      ((s.stepDone k next).ctx k).stepTick = s.gt + 1 := by
  have he : s.stepDone k next = (s.toMirror k .mirrorOff).mirrored .thyme := by
    unfold State.stepDone
    simp only [hd, Option.isSome_none, Bool.false_eq_true, if_false, ho, if_true, if_neg h6]
  rw [he, (mirrored_quiet ..).ctx]
  unfold State.toMirror
  rw [begin_ctx hk]
  exact ⟨rfl, rfl, rfl⟩

/-- An off request reaches a context that runs a power-up. -/
theorem takeOff_offIn {s : State} {k : Nat} (hk : k < s.thyme.ctxs.length) (hd : s.thyme.emergencyDue = none) (hp : (s.ctx k).prog.isSome = true) (hw : (s.ctx k).unwinding = false)
    (h6 : s.runKind k ≠ 6) : OffIn s (s.takeOff k) k := by
  have hcond : ((s.ctx k).inStep && !s.waitsFreely k || (!(s.ctx k).inStep && decide ((s.ctx k).stepTick ≤ s.gt))) = true ↔
      ((s.ctx k).inStep = true ∧ s.waitsFreely k = false) ∨ ((s.ctx k).inStep = false ∧ (s.ctx k).stepTick ≤ s.gt) := by
    simp only [Bool.or_eq_true, Bool.and_eq_true, Bool.not_eq_true', decide_eq_true_eq]
  have hgo : ((s.ctx k).prog.isNone || (s.ctx k).unwinding) = false := by
    rw [hw, Bool.or_false]
    rw [Option.isNone_eq_false_iff]
    exact hp
  unfold OffIn State.takeOff
  simp only [hgo, Bool.false_eq_true, if_false, hcond]
  split
  · exact ctx_onCtx hk _
  · have hc : (s.onCtx k fun c => { c with offTaken := true }).ctx k = { s.ctx k with offTaken := true } := ctx_onCtx hk _
    have hm := stepDone_mirror (s := s.onCtx k fun c => { c with offTaken := true }) (by rwa [onCtx_ctxs_length]) hd (by rw [hc]) (by rw [State.runKind, hc]; exact h6) (s.ctx k).idx
    rw [hc] at hm
    exact hm

/-- Only contexts other than k have changed, and what has left for the partner. -/
structure Aside (k : Nat) (s t : State) : Prop where
  within : Within [.thyme, .pair] s t
  thyme : t.thyme = { s.thyme with ctxs := t.thyme.ctxs }
  ctxs : t.thyme.ctxs.length = s.thyme.ctxs.length
  ctx : t.ctx k = s.ctx k

namespace Aside

variable {k : Nat}

theorem refl (s : State) : Aside k s s := ⟨.refl s, rfl, rfl, rfl⟩

theorem trans {s t u : State} (h : Aside k s t) (h' : Aside k t u) : Aside k s u :=
  ⟨h.within.trans h'.within, by rw [h'.thyme, h.thyme], h'.ctxs.trans h.ctxs, h'.ctx.trans h.ctx⟩

theorem onCtx (s : State) {j : Nat} (h : j ≠ k) (f : ThymeCtx → ThymeCtx) : Aside k s (s.onCtx j f) := ⟨rfl, rfl, onCtx_ctxs_length .., ctx_onCtx_ne h f⟩

theorem mirrored (s : State) (kind : MirKind) : Aside k s (s.mirrored kind) :=
  ⟨mirrored_within .., by rw [State.mirrored_thyme], by rw [State.mirrored_thyme], (mirrored_quiet ..).ctx k⟩

end Aside

/-- A change of a context that keeps its program keeps its kind. -/
theorem runKind_onCtx (s : State) (j k : Nat) {f : ThymeCtx → ThymeCtx} (hf : ∀ c, (f c).prog = c.prog) : (s.onCtx j f).runKind k = s.runKind k := by
  have hp : ((s.onCtx j f).ctx k).prog = (s.ctx k).prog := by
    show (nth (modAt s.thyme.ctxs j f) k).prog = _
    rw [nth_modAt]
    split
    · exact hf _
    · rfl
  unfold State.runKind
  rw [hp]
  rfl

/-- Of a context that runs a power-up, an off request changes that context alone. -/
theorem takeOff_aside {s : State} {j k : Nat} (hj : j ≠ k) (hd : s.thyme.emergencyDue = none) (h3 : s.runKind j = 3) : Aside k s (s.takeOff j) := by
  have hdone : ∀ u : State, u.thyme.emergencyDue = none → u.runKind j = 3 → ∀ n, Aside k u (u.stepDone j n) := fun u hd h3 n => by
    unfold State.stepDone
    simp only [hd, Option.isSome_none, Bool.false_eq_true, if_false, h3]
    refine .trans ?_ (.mirrored ..)
    split
    · exact .onCtx u hj _
    · exact .onCtx u hj _
  unfold State.takeOff
  dsimp only
  split
  · exact .refl s
  · split
    · exact .onCtx s hj _
    · have hk := (runKind_onCtx s j j (f := fun c => { c with offTaken := true }) fun _ => rfl).trans h3
      exact (Aside.onCtx s hj _).trans (hdone (s.onCtx j fun c => { c with offTaken := true }) hd hk _)

/-- The accelerators' power-ups take an off request; the tray's context is as it was. -/
theorem takeOffAccs_aside {s : State} (hd : s.thyme.emergencyDue = none) : Aside 0 s s.takeOffAccs := by
  refine foldl_within (R := fun s t => s.thyme.emergencyDue = none → Aside 0 s t) (fun s _ => .refl s) (fun {s t u} h h' hd => ?_) (fun s n hd => ?_) _ s hd
  · have ht := h hd
    exact ht.trans (h' (by rw [ht.thyme]; exact hd))
  · split
    · exact takeOff_aside (by omega) hd ‹_›
    · exact .refl s

/-! ## POWER_REQUEST_TAKE_EFFECT (06 R160-R164, R170) -/

/-- A request has been taken out, and the rest that it looks at is as it was. -/
structure Asking (s u : State) : Prop where
  clk : u.clk = s.clk
  feed : u.feed = s.feed
  pair : u.pair = s.pair
  thyme : u.thyme = { s.thyme with requests := u.thyme.requests }
  adding : Adding s u

namespace Asking

variable {s u : State}

theorem ctx (h : Asking s u) (k : Nat) : u.ctx k = s.ctx k := by
  rw [State.ctx.eq_def, h.thyme]
  rfl

theorem runKind (h : Asking s u) (k : Nat) : u.runKind k = s.runKind k := by
  rw [State.runKind.eq_def, h.ctx, h.thyme]
  rfl

theorem acc (h : Asking s u) (n : Nat) : u.acc n = s.acc n := by
  rw [State.acc.eq_def, h.thyme]
  rfl

theorem gt (h : Asking s u) : u.gt = s.gt := congrArg ClockState.gt h.clk

theorem reported (h : Asking s u) : u.thyme.reported = s.thyme.reported := by
  rw [h.thyme]
  rfl

theorem set (h : Asking s u) : u.thyme.set = s.thyme.set := by
  rw [h.thyme]

theorem due (h : Asking s u) : u.thyme.emergencyDue = s.thyme.emergencyDue := by
  rw [h.thyme]

theorem waitsFreely (h : Asking s u) (k : Nat) : u.waitsFreely k = s.waitsFreely k := by
  simp only [State.waitsFreely, State.word, h.ctx, h.set]

theorem offIn (h : Asking s u) {t : State} {k : Nat} (ho : OffIn u t k) : OffIn s t k := by
  simpa only [OffIn, h.ctx, h.waitsFreely, h.gt, h.set] using ho

end Asking

/-- The state in which request r is taken out, and traced. -/
def asking (s : State) (r : PowerRequest × Nat) (k v : Nat) : State := (s.onThyme fun t => { t with requests := t.requests.erase r }).traced 38 k v

theorem asking_spec (s : State) (r : PowerRequest × Nat) (k v : Nat) : Asking s (asking s r k v) := by
  unfold asking
  refine ⟨State.traced_clk .., State.traced_feed .., State.traced_pair .., ?_, .trans (t := s.onThyme _) (.beside rfl rfl) (traced_adding ..)⟩
  rw [State.traced_thyme]
  rfl

/-- What a request does, once it is taken out. -/
def requestNow (s : State) : PowerRequest → State
  | .trayOn => s.trayUpNow
  | .trayOff => s.trayOffNow
  | .accOn n => s.accRequestNow n true
  | .accOff n => s.accRequestNow n false

theorem exec_powerRequestTakeEffect {s : State} {req : PowerRequest} (hs : s.serves = true) (hw : s.waitsForT req = false) (hq : ∃ g, (req, g) ∈ s.thyme.requests ∧ g ≤ s.gt) :
    ∃ t, exec (.powerRequestTakeEffect req) s = .next t ∧ ((∀ n, req = .accOn n ∨ req = .accOff n → n < 8) → ∃ u, Asking s u ∧ Quiet (requestNow u req) t ∧ t.rec_ = (requestNow u req).rec_) := by
  obtain ⟨g, hmem, hg⟩ := hq
  have hfind : ∃ r, s.thyme.requests.find? (fun r => s.serves && !s.waitsForT req && r.1 == req && decide (r.2 ≤ s.gt)) = some r := by
    rw [← Option.isSome_iff_exists, List.find?_isSome]
    exact ⟨_, hmem, by simp [hs, hw, hg]⟩
  obtain ⟨r, hr⟩ := hfind
  have he : exec (.powerRequestTakeEffect req) s = execPowerRequestTakeEffect req s := rfl
  unfold execPowerRequestTakeEffect at he
  simp only [hr] at he
  have hsent : ∀ u : State, Asking s u → ∃ u', Asking s u' ∧ Quiet (requestNow u' req) ((requestNow u req).mirrored .thyme) ∧ ((requestNow u req).mirrored .thyme).rec_ = (requestNow u' req).rec_ :=
    fun u hu => ⟨u, hu, mirrored_quiet .., State.mirrored_rec_ ..⟩
  refine ⟨_, he, fun hn => ?_⟩
  cases req with
  | trayOn => exact hsent _ (asking_spec s r 0 1)
  | trayOff => exact hsent _ (asking_spec s r 0 2)
  | accOn n =>
    simp only [if_pos (hn n (.inl rfl))]
    exact hsent _ (asking_spec s r (n + 1) 1)
  | accOff n =>
    simp only [if_pos (hn n (.inr rfl))]
    exact hsent _ (asking_spec s r (n + 1) 2)

namespace Asking

variable {s u : State}

theorem ctxs (h : Asking s u) (h9 : s.thyme.ctxs.length = 9) : u.thyme.ctxs.length = 9 := by
  rw [h.thyme]
  exact h9

theorem accs (h : Asking s u) (h8 : s.thyme.accs.length = 8) : u.thyme.accs.length = 8 := by
  rw [h.thyme]
  exact h8

theorem runs (h : Asking s u) (k : Nat) : u.runs k = s.runs k := by
  rw [State.runs, h.ctx]
  rfl

theorem powered (h : Asking s u) : u.trayPowered = s.trayPowered := by
  simp only [State.trayPowered, h.reported]

end Asking

theorem runKind_idle {s : State} {k : Nat} (h : s.runs k = false) : s.runKind k = 0 := by
  unfold State.runs at h
  unfold State.runKind
  cases hp : (s.ctx k).prog with
  | none => rfl
  | some p => simp [hp] at h

theorem running_of_kind {s : State} {k n : Nat} (h : s.runKind k = n + 1) : (s.ctx k).prog.isSome = true := by
  unfold State.runKind at h
  cases hp : (s.ctx k).prog with
  | none => simp [hp] at h
  | some p => rfl

section

variable {s u : State} (h : Asking s u) (h9 : s.thyme.ctxs.length = 9) (h8 : s.thyme.accs.length = 8) (hd : s.thyme.emergencyDue = none)

include h h9 h8 hd

/-- A tray power-up in STANDBY starts, or is deferred (05 R137, 06 R160). -/
theorem trayUpNow_spec (h16 : s.rec_.ports.length = 16) (hr : s.thyme.reported = .standby) (hi : s.runs 0 = false) :
    let t := u.trayUpNow
    let up := s.thyme.set.trayUp
    (FeedReady s → (t.ctx 0).prog = some up ∧ (t.ctx 0).idx = s.thyme.set.first up ∧
      if (s.ctx 0).endTick = some s.gt then (t.ctx 0).stepTick = s.gt + 1 else (t.ctx 0).stepTick = s.gt ∧ (s.thyme.set.kind up = 1 → t.thyme.tray = .poweringUp ∧ t.feed.demand = true)) ∧
    (¬FeedReady s → ¬FeedsBarred s → (t.ctx 0).prog = none ∧ t.thyme.deferredUp = true ∧ Recorded s t .fp1 0x0206 0) := by
  have hgo : ¬(u.thyme.reported ≠ .standby || u.runs 0 || u.thyme.emergencyDue.isSome) = true := by
    simp [h.reported, hr, h.runs, hi, h.due, hd]
  have he : u.trayUpNow =
      if u.feed.feeds.any fun f => f.reported == .off then u.startIn 0 u.thyme.set.trayUp (u.thyme.set.first u.thyme.set.trayUp)
      else if u.feed.feeds.all fun f => f.reported == .lockout || f.reported == .forcedOff then u
      else (u.onThyme fun t => { t with deferredUp := true }).event .fp1 0x0206 0 0 (i1 0) := if_neg hgo
  dsimp only
  rw [he, h.feed, ← feedReady_iff, ← feedsBarred_iff]
  refine ⟨fun hf => ?_, fun hf hb => ?_⟩
  · obtain ⟨h1, h2, h3, h4⟩ := startIn_spec (s := u) (k := 0) (by rw [h.ctxs h9]; decide) (h.accs h8) (by decide) u.thyme.set.trayUp (u.thyme.set.first u.thyme.set.trayUp)
    rw [h.ctx, h.gt] at h3 h4
    rw [if_pos hf]
    rw [h.set] at h1 h2 h3 h4 ⊢
    refine ⟨h1, h2, ?_⟩
    split
    · exact h3 ‹_›
    · exact ⟨(h4 ‹_›).1, (h4 ‹_›).2.1⟩
  · rw [if_neg hf, if_neg hb]
    refine ⟨?_, ?_, ?_⟩
    · rw [(event_quiet ..).ctx]
      show (u.ctx 0).prog = none
      rw [h.ctx]
      simpa [State.runs] using hi
    · rw [State.event_thyme]
      rfl
    · exact Adding.event (t := u.onThyme fun t => { t with deferredUp := true }) (h.adding.trans (.beside rfl rfl)) (by rw [h16]; decide) (by decide) ..

omit h8 in
/-- An off request while the tray powers up ends its step (06 R161). -/
theorem trayOffNow_up (hr : s.thyme.reported = .poweringUp) (hk : s.runKind 0 = 1) (hw : (s.ctx 0).unwinding = false) : OffIn s u.trayOffNow 0 := by
  have he : u.trayOffNow = u.takeOffAccs.takeOff 0 := by
    unfold State.trayOffNow
    rw [h.reported, hr]
  have ha : Aside 0 u u.takeOffAccs := takeOffAccs_aside (h.due.trans hd)
  generalize u.takeOffAccs = v at he ha
  have hset : v.thyme.set = s.thyme.set := by
    rw [ha.thyme]
    exact h.set
  have hctx : v.ctx 0 = s.ctx 0 := ha.ctx.trans (h.ctx 0)
  have hkind : v.runKind 0 = 1 := by
    rw [State.runKind.eq_def, hctx, hset]
    exact hk
  have ho := takeOff_offIn (s := v) (k := 0) (by rw [ha.ctxs, h.ctxs h9]; decide) (by rw [ha.thyme]; exact h.due.trans hd) (running_of_kind hkind) (by rw [hctx]; exact hw) (by rw [hkind]; decide)
  have hgt : v.gt = s.gt := (ha.within.reads State.gt fun _ => rfl).trans h.gt
  have hfree : v.waitsFreely 0 = s.waitsFreely 0 := by
    simp only [State.waitsFreely, State.word, hctx, hset]
  rw [he]
  simpa only [OffIn, hctx, hfree, hset, hgt] using ho

/-- An off request of a powered tray starts the power-down (06 R170). -/
theorem trayOffNow_powered (hp : s.trayPowered = true) (hi : s.runs 0 = false) :
    let t := u.trayOffNow
    let down := s.thyme.set.mirror s.thyme.set.trayUp
    (t.ctx 0).prog = some down ∧ (t.ctx 0).idx = s.thyme.set.first down ∧
      if (s.ctx 0).endTick = some s.gt then (t.ctx 0).stepTick = s.gt + 1 else (t.ctx 0).stepTick = s.gt ∧ (s.thyme.set.kind down = 2 → t.thyme.tray = .poweringDown) := by
  have he : u.trayOffNow = u.takeOffAccs.startIn 0 u.trayDownProg (u.thyme.set.first u.trayDownProg) := by
    have hrep : u.thyme.reported = .on ∨ u.thyme.reported = .maintenance := by
      simpa [State.trayPowered, h.reported] using hp
    unfold State.trayOffNow
    rcases hrep with hrep | hrep <;> rw [hrep] <;> simp [h.due, hd, h.runs, hi, runKind_idle ((h.runs 0).trans hi)]
  have ha : Aside 0 u u.takeOffAccs := takeOffAccs_aside (h.due.trans hd)
  intro t down
  have ht : t = u.takeOffAccs.startIn 0 down (s.thyme.set.first down) := by
    rw [show t = _ from he, State.trayDownProg, h.set]
  generalize u.takeOffAccs = v at ht ha
  have hset : v.thyme.set = s.thyme.set := by
    rw [ha.thyme]
    exact h.set
  have hgt : v.gt = s.gt := (ha.within.reads State.gt fun _ => rfl).trans h.gt
  have hv := startIn_spec (s := v) (k := 0) (by rw [ha.ctxs, h.ctxs h9]; decide) (by rw [ha.thyme]; exact h.accs h8) (by decide) down (s.thyme.set.first down)
  rw [← ht, ha.ctx, h.ctx, hset, hgt] at hv
  obtain ⟨h1, h2, h3, h4⟩ := hv
  refine ⟨h1, h2, ?_⟩
  split
  · exact h3 ‹_›
  · exact ⟨(h4 ‹_›).1, (h4 ‹_›).2.2.1⟩

omit hd

/-- A power-up or power-down of an accelerator starts (06 R160, R170). -/
theorem accStart_spec {n : Nat} (hn : n < 8) (prog : Nat) :
    let t := u.startIn (n + 1) prog (u.thyme.set.first prog)
    (t.ctx (n + 1)).prog = some prog ∧ (t.ctx (n + 1)).idx = s.thyme.set.first prog ∧
      ((s.ctx (n + 1)).endTick ≠ some s.gt → (s.thyme.set.kind prog = 3 → t.acc n = .up) ∧ (s.thyme.set.kind prog = 4 → t.acc n = .down)) := by
  have hv := startIn_spec (s := u) (k := n + 1) (by rw [h.ctxs h9]; omega) (h.accs h8) (by omega) prog (u.thyme.set.first prog)
  rw [h.ctx, h.set, h.gt] at hv
  obtain ⟨h1, h2, -, h4⟩ := hv
  dsimp only
  rw [h.set]
  exact ⟨h1, h2, fun hne => (h4 hne).2.2.2⟩

include hd

theorem accOnNow_spec {n : Nat} (hn : n < 8) (hp : s.trayPowered = true) (hi : s.runs (n + 1) = false) (ha : s.acc n = .off) (h0 : s.runs 0 = false) (hup : nth s.thyme.set.accUp n ≠ 255) :
    let t := u.accRequestNow n true
    let up := nth s.thyme.set.accUp n
    (t.ctx (n + 1)).prog = some up ∧ (t.ctx (n + 1)).idx = s.thyme.set.first up ∧ ((s.ctx (n + 1)).endTick ≠ some s.gt → s.thyme.set.kind up = 3 → t.acc n = .up) := by
  have he : u.accRequestNow n true = u.startIn (n + 1) (nth s.thyme.set.accUp n) (u.thyme.set.first (nth s.thyme.set.accUp n)) := by
    unfold State.accRequestNow
    simp [h.powered, hp, h.runs, hi, h.due, hd, h.set, hup, h.acc, ha, h0]
  dsimp only
  rw [he]
  obtain ⟨h1, h2, h3⟩ := accStart_spec h h9 h8 hn (nth s.thyme.set.accUp n)
  exact ⟨h1, h2, fun hne => (h3 hne).1⟩

theorem accOffNow_on {n : Nat} (hn : n < 8) (hp : s.trayPowered = true) (hi : s.runs (n + 1) = false) (ha : s.acc n = .on) (hup : nth s.thyme.set.accUp n ≠ 255) :
    let t := u.accRequestNow n false
    let down := s.thyme.set.mirror (nth s.thyme.set.accUp n)
    (t.ctx (n + 1)).prog = some down ∧ ((s.ctx (n + 1)).endTick ≠ some s.gt → s.thyme.set.kind down = 4 → t.acc n = .down) := by
  have he : u.accRequestNow n false = u.startIn (n + 1) (s.thyme.set.mirror (nth s.thyme.set.accUp n)) (u.thyme.set.first (s.thyme.set.mirror (nth s.thyme.set.accUp n))) := by
    unfold State.accRequestNow
    simp [h.powered, hp, h.runs, hi, h.due, hd, h.set, hup, h.acc, ha, runKind_idle ((h.runs _).trans hi)]
  dsimp only
  rw [he]
  obtain ⟨h1, -, h3⟩ := accStart_spec h h9 h8 hn (s.thyme.set.mirror (nth s.thyme.set.accUp n))
  exact ⟨h1, fun hne => (h3 hne).2⟩

omit h8 in
theorem accOffNow_up {n : Nat} (hn : n < 8) (hk : s.runKind (n + 1) = 3) (hw : (s.ctx (n + 1)).unwinding = false) : OffIn s (u.accRequestNow n false) (n + 1) := by
  have hku : u.runKind (n + 1) = 3 := (h.runKind _).trans hk
  have he : u.accRequestNow n false = u.takeOff (n + 1) := by
    unfold State.accRequestNow
    simp [hku]
  rw [he]
  exact h.offIn (takeOff_offIn (by rw [h.ctxs h9]; omega) (h.due.trans hd) (running_of_kind hku) (by rw [h.ctx]; exact hw) (by rw [hku]; decide))

end

/-- An accepted request takes effect in the next tick (06 R160-R164, R170). -/
theorem powerRequestTakeEffect_completes {s : State} {n : Nat} (h9 : s.thyme.ctxs.length = 9) (h8 : s.thyme.accs.length = 8) (h16 : s.rec_.ports.length = 16) {req : PowerRequest}
    (hs : s.serves = true) (hw : s.waitsForT req = false) (hq : ∃ g, (req, g) ∈ s.thyme.requests ∧ g ≤ s.gt) (hd : s.thyme.emergencyDue = none) :
    let down := s.thyme.set.mirror s.thyme.set.trayUp
    let accUp := nth s.thyme.set.accUp n
    Completes (.powerRequestTakeEffect req) s fun t =>
      (req = .trayOn → s.thyme.reported = .standby → s.runs 0 = false →
        (FeedReady s → (t.ctx 0).prog = some s.thyme.set.trayUp ∧ (t.ctx 0).idx = s.thyme.set.first s.thyme.set.trayUp ∧
          if (s.ctx 0).endTick = some s.gt then (t.ctx 0).stepTick = s.gt + 1 else (t.ctx 0).stepTick = s.gt ∧ (s.thyme.set.kind s.thyme.set.trayUp = 1 → t.thyme.tray = .poweringUp ∧ t.feed.demand = true)) ∧
        (¬FeedReady s → ¬FeedsBarred s → (t.ctx 0).prog = none ∧ t.thyme.deferredUp = true ∧ Recorded s t .fp1 0x0206 0)) ∧
      (req = .trayOff →
        (s.thyme.reported = .poweringUp → s.runKind 0 = 1 → (s.ctx 0).unwinding = false → (s.ctx 0).offTaken = false → OffIn s t 0) ∧
        (s.trayPowered = true → s.runs 0 = false → (t.ctx 0).prog = some down ∧ (t.ctx 0).idx = s.thyme.set.first down ∧
          if (s.ctx 0).endTick = some s.gt then (t.ctx 0).stepTick = s.gt + 1 else (t.ctx 0).stepTick = s.gt ∧ (s.thyme.set.kind down = 2 → t.thyme.tray = .poweringDown))) ∧
      (req = .accOn n → n < 8 → s.trayPowered = true → s.runs (n + 1) = false → s.acc n = .off → s.runs 0 = false → accUp ≠ 255 →
        (t.ctx (n + 1)).prog = some accUp ∧ (t.ctx (n + 1)).idx = s.thyme.set.first accUp ∧ ((s.ctx (n + 1)).endTick ≠ some s.gt → s.thyme.set.kind accUp = 3 → t.acc n = .up)) ∧
      (req = .accOff n → n < 8 →
        (s.runKind (n + 1) = 3 → (s.ctx (n + 1)).unwinding = false → (s.ctx (n + 1)).offTaken = false → OffIn s t (n + 1)) ∧
        (s.trayPowered = true → s.runs (n + 1) = false → s.acc n = .on → accUp ≠ 255 →
          (t.ctx (n + 1)).prog = some (s.thyme.set.mirror accUp) ∧ ((s.ctx (n + 1)).endTick ≠ some s.gt → s.thyme.set.kind (s.thyme.set.mirror accUp) = 4 → t.acc n = .down))) := by
  obtain ⟨t, he, ht⟩ := exec_powerRequestTakeEffect hs hw hq
  refine ⟨t, he, fun hreq hr hi => ?_, fun hreq => ?_, fun hreq hn hp hi ha h0 hup => ?_, fun hreq hn => ?_⟩
  · obtain ⟨u, hu, hm, hrec⟩ := ht (by simp [hreq])
    subst hreq
    obtain ⟨h1, h2⟩ := trayUpNow_spec hu h9 h8 hd h16 hr hi
    simp only [hm.ctx, hm.thyme, hm.feed]
    exact ⟨h1, fun hf hb => ⟨(h2 hf hb).1, (h2 hf hb).2.1, recorded_of_rec (h2 hf hb).2.2 hrec⟩⟩
  · obtain ⟨u, hu, hm, -⟩ := ht (by simp [hreq])
    subst hreq
    simp only [OffIn, hm.ctx, hm.thyme]
    exact ⟨fun hr hk hw _ => trayOffNow_up hu h9 hd hr hk hw, trayOffNow_powered hu h9 h8 hd⟩
  · obtain ⟨u, hu, hm, -⟩ := ht (by simp [hreq, hn])
    subst hreq
    simp only [hm.ctx, hm.acc]
    exact accOnNow_spec hu h9 h8 hd hn hp hi ha h0 hup
  · obtain ⟨u, hu, hm, -⟩ := ht (by simp [hreq, hn])
    subst hreq
    simp only [OffIn, hm.ctx, hm.acc]
    exact ⟨fun hk hw _ => accOffNow_up hu h9 hd hn hk hw, accOffNow_on hu h9 h8 hd hn⟩

/-- Settles O24, from what each command answers and leaves, and from what a request does in its tick. -/
theorem powerRequests : Obligations.power_requests := by
  unfold Obligations.power_requests
  intro s h acc h9 h8 _ hmin h16
  refine ⟨Laws.answers_of rfl fun se _ _ k _ _ _ _ _ _ => trayPowerOn_answers (s := s.taken h se) h9 h16 k, Laws.answers_of rfl fun se _ _ k _ _ _ _ _ _ => ?_,
    Laws.answers_of rfl fun se _ _ k _ _ _ _ _ _ => accPowerOn_answers (s := s.taken h se) h9 h16 acc k, Laws.answers_of rfl fun se _ _ k _ _ _ _ _ _ => ?_,
    Laws.answers_of rfl fun se _ _ k hp _ _ _ _ _ => ?_, fun g p hn hr hg => accResetRelease_completes hn h16 hr hg,
    fun req hs hw hq hd => powerRequestTakeEffect_completes h9 h8 h16 hs hw hq hd⟩
  · obtain ⟨hpend, hup, hreq, hw, hyes, hno⟩ := trayOff_answers (s := s.taken h se) h9
    exact ⟨hpend, hup, hreq, hw, ite_prop_iff_and.mpr ⟨hyes, hno⟩⟩
  · obtain ⟨hbad, hgood⟩ := ite_prop_iff_and.mp (accPowerOff_answers (s := s.taken h se) h9 hmin acc k)
    refine ite_prop_iff_and.mpr ⟨hbad, fun hn => ite_prop_iff_and.mpr ⟨(ite_prop_iff_and.mp (hgood hn)).1, fun hp => ?_⟩⟩
    obtain ⟨hw, hpend, hend, hyes, hno⟩ := (ite_prop_iff_and.mp (hgood hn)).2 hp
    exact ⟨hw, hpend, hend, ite_prop_iff_and.mpr ⟨hyes, hno⟩⟩
  · have ha := accPowerReset_answers (s.taken h se) acc k
    rw [hp] at ha
    exact ha

end Sys2Proof.Proofs
end

section
/-! SUPPORT. What the ROM and the resident loader choose, and what they leave. -/

namespace Sys2Proof.Proofs

open Sys2Proof Sys2Proof.Machine

/-! ## The selection (04 R93) -/

/-- What is picked rests on the places and on the anchor header alone. -/
theorem selectPlace_pick {s t : State} (h : t.anchor = s.anchor) (places : List Slot) (type : Nat) (force : Option Nat) :
    (t.selectPlace places type force).1 = (s.selectPlace places type force).1 := by
  simp only [State.selectPlace, h]

theorem selectPlace_within (s : State) (places : List Slot) (type : Nat) (force : Option Nat) : Within [.rec_, .upd] s (s.selectPlace places type force).2 :=
  (Within.foldl (fun s _ => event_within s ..) _ s).trans (.foldl (fun s _ => event_within s ..) _ _)

/-! ## The ROM (03 R79-R81, 04 R91, R105) -/

theorem diagProgress_within (s : State) : Within [.sec, .free] s s.diagProgress := .guard rfl

/-- A report changes nothing of the secure start but what has left on UART DIAG. -/
theorem diagProgress_sec (s : State) : s.diagProgress.sec = { s.sec with diag := s.diagProgress.sec.diag } := by
  unfold State.diagProgress
  split <;> rfl

/-- At a warm reset BOOT_MODE alone is sampled again. -/
theorem sampleStraps_spec (s : State) (read : Straps) :
    (s.sampleStraps read).straps = { s.straps with bootMode := if s.clk.strapsNew then s.straps.bootMode else read.bootMode } ∧ Within [.straps, .rec_, .upd] s (s.sampleStraps read) := by
  unfold State.sampleStraps
  split
  · exact ⟨rfl, .refl s⟩
  · dsimp only
    split
    · exact ⟨rfl, rfl⟩
    · exact ⟨State.event_straps .., .trans (t := { s with straps := { s.straps with bootMode := read.bootMode } }) rfl (event_within ..)⟩

/-- The ROM's state with the keys derived and a header adopted. -/
def romKeyed (s : State) : State := (s.onSec fun c => { c.derived with anchor := adoptedHeader c.anchors }).diagProgress

theorem romKeyed_spec (s : State) :
    (romKeyed s).sec = { s.sec.derived with anchor := adoptedHeader s.sec.anchors, diag := (romKeyed s).sec.diag } ∧ Within [.sec, .free] s (romKeyed s) :=
  ⟨diagProgress_sec _, .trans (t := s.onSec _) rfl (diagProgress_within _)⟩

/-- The keys and the serial are derived, and the rest of the ROM keeps them. -/
structure Keyed (s t : State) : Prop where
  within : Within [.clk, .free, .rec_, .sec, .upd] s t
  keys : t.sec.keys = identityKeys (Config.pufSeed s.sec.helperData)
  serial : t.sec.serial = serialOf ((identityKeys (Config.pufSeed s.sec.helperData)).headD 0)

theorem enterRecovery_keyed {s u : State} (h : Keyed s u) : Keyed s u.enterRecovery := ⟨h.within.trans rfl, h.keys, h.serial⟩

theorem diagReport_keyed {s u : State} (h : Keyed s u) : Keyed s u.diagReport := ⟨h.within.trans rfl, h.keys, h.serial⟩

theorem romKeyed_keyed (s : State) : Keyed s (romKeyed s) := by
  obtain ⟨hsec, hw⟩ := romKeyed_spec s
  exact ⟨hw.mono rfl, by rw [hsec]; rfl, by rw [hsec]; rfl⟩

theorem selectPlace_keyed {s u : State} (h : Keyed s u) (places : List Slot) (type : Nat) (force : Option Nat) : Keyed s (u.selectPlace places type force).2 := by
  have hw := selectPlace_within u places type force
  have hsec := hw.reads State.sec fun _ => rfl
  exact ⟨h.within.trans (hw.mono rfl), by rw [hsec]; exact h.keys, by rw [hsec]; exact h.serial⟩

/-- The loader copy that is picked under header i. -/
def romPick (s : State) (i : Nat) : Option Nat := (({ s with sec := { s.sec with anchor := some i } } : State).selectPlace s.sec.loaders 2 none).1

/-- The picked copy runs, and with none the recovery loader. -/
def copyRun : Option Nat × State → State
  | (some k, u) => (u.onSec fun c => { c with runningLoader := some k }).onClk fun c => { c with phase := .loader }
  | (none, u) => u.enterRecovery

theorem copyRun_keyed {s : State} {a : Option Nat × State} (h : Keyed s a.2) : Keyed s (copyRun a) := by
  obtain ⟨c, u⟩ := a
  cases c with
  | none => exact enterRecovery_keyed h
  | some k => exact ⟨h.within.trans rfl, h.keys, h.serial⟩

theorem copyRun_phase (a : Option Nat × State) :
    (∀ k, a.1 = some k → (copyRun a).clk.phase = .loader ∧ (copyRun a).sec.runningLoader = some k ∧ (copyRun a).sec.anchor = a.2.sec.anchor) ∧ (a.1 = none → (copyRun a).clk.phase = .recovery) := by
  obtain ⟨c, u⟩ := a
  cases c with
  | none => exact ⟨nofun, fun _ => rfl⟩
  | some k =>
    refine ⟨fun j hj => ?_, nofun⟩
    obtain rfl := Option.some.inj hj
    exact ⟨rfl, rfl, rfl⟩

theorem romRun_eq (s : State) : s.romRun =
    if (romKeyed s).sec.anchor.isNone then (romKeyed s).diagReport.enterRecovery
    else if (romKeyed s).straps.bootMode = 3 ∨ (romKeyed s).clk.recoveryNext then (romKeyed s).enterRecovery
    else copyRun ((romKeyed s).selectPlace (romKeyed s).sec.loaders 2 none) := by
  unfold State.romRun
  rfl

/-- What the ROM chooses from the keys on. -/
theorem romRun_spec (s : State) :
    let t := s.romRun
    Keyed s t ∧
      (adoptedHeader s.sec.anchors = none ∨ s.straps.bootMode = 3 ∨ s.clk.recoveryNext = true → t.clk.phase = .recovery) ∧
      (∀ i k, adoptedHeader s.sec.anchors = some i → s.straps.bootMode ≠ 3 → s.clk.recoveryNext = false → romPick s i = some k →
        t.clk.phase = .loader ∧ t.sec.runningLoader = some k ∧ t.sec.anchor = some i) ∧
      (∀ i, adoptedHeader s.sec.anchors = some i → romPick s i = none → t.clk.phase = .recovery) := by
  intro t
  have ht : t = _ := romRun_eq s
  obtain ⟨hsec, hw⟩ := romKeyed_spec s
  have hk := romKeyed_keyed s
  have hmode : (romKeyed s).straps = s.straps := hw.reads State.straps fun _ => rfl
  have hnext : (romKeyed s).clk = s.clk := hw.reads State.clk fun _ => rfl
  generalize romKeyed s = u at ht hsec hw hk hmode hnext
  have hanchor : u.sec.anchor = adoptedHeader s.sec.anchors := congrArg SecureState.anchor hsec
  have hanchors : u.sec.anchors = s.sec.anchors := (congrArg SecureState.anchors hsec).trans rfl
  have hloaders : u.sec.loaders = s.sec.loaders := (congrArg SecureState.loaders hsec).trans rfl
  rw [hmode, hnext, hanchor] at ht
  cases hi : adoptedHeader s.sec.anchors with
  | none =>
    have hrec : t = u.diagReport.enterRecovery := by rw [ht, hi]; exact if_pos rfl
    rw [hrec]
    exact ⟨enterRecovery_keyed (diagReport_keyed hk), fun _ => rfl, nofun, nofun⟩
  | some i =>
    rw [hi, if_neg (by simp)] at ht
    by_cases hrec : s.straps.bootMode = 3 ∨ s.clk.recoveryNext = true
    · rw [ht, if_pos hrec]
      exact ⟨enterRecovery_keyed hk, fun _ => rfl, fun _ _ _ h3 hr => (hrec.elim h3 (ne_true_of_eq_false hr)).elim, fun _ _ _ => rfl⟩
    · rw [ht, if_neg hrec, hloaders]
      have hp : (u.selectPlace s.sec.loaders 2 none).1 = romPick s i := by
        refine selectPlace_pick ?_ ..
        simp only [State.anchor, hanchor, hi, hanchors]
      obtain ⟨hsome, hnone⟩ := copyRun_phase (u.selectPlace s.sec.loaders 2 none)
      rw [hp] at hsome hnone
      have hva : (u.selectPlace s.sec.loaders 2 none).2.sec.anchor = some i := by
        rw [(selectPlace_within u ..).reads State.sec fun _ => rfl, hanchor, hi]
      rw [hva] at hsome
      refine ⟨copyRun_keyed (selectPlace_keyed hk ..), fun h => absurd (h.resolve_left nofun) hrec, fun j k hj _ _ hjk => ?_, fun j hj hjk => ?_⟩
      · obtain rfl := Option.some.inj hj
        exact hsome k hjk
      · obtain rfl := Option.some.inj hj
        exact hnone hjk

theorem adoptedHeader_none {l : List AnchorHeader} (h : ∀ i, i < 2 → (nth l i).valid = false) : adoptedHeader l = none := by
  simp [adoptedHeader, h 0 (by decide), h 1 (by decide)]

/-- The ROM's branches by BOOT_MODE (03 R81). -/
theorem exec_romBoot {s : State} (hp : s.clk.phase = .rom) (samples : List (BitVec 11)) :
    let u := s.sampleStraps (strapMajority samples)
    exec (.romBoot samples) s = .next (if u.straps.bootMode = 4 then u.onClk fun c => { c with phase := .scan }
      else if u.straps.bootMode = 6 ∨ u.straps.bootMode = 7 then (u.diagWrite (i1 u.straps.bootMode.toNat)).onClk fun c => { c with phase := .halted }
      else u.romRun) := congrArg Host.Outcome.next (if_neg (not_not.mpr hp))

/-- What the ROM chooses (03 R79-R81, 04 R91, R93, R105). -/
theorem romBoot_completes {s : State} (samples : List (BitVec 11)) (hp : s.clk.phase = .rom) :
    let mode := if s.clk.strapsNew then s.straps.bootMode else (strapMajority samples).bootMode
    let keys := identityKeys (Config.pufSeed s.sec.helperData)
    Completes (.romBoot samples) s fun t =>
      t.straps = { s.straps with bootMode := mode } ∧ t.sage = s.sage ∧
      (mode = 4 → t.clk.phase = .scan) ∧ (mode = 6 ∨ mode = 7 → t.clk.phase = .halted) ∧
      (mode ≠ 4 → mode ≠ 6 → mode ≠ 7 →
        t.sec.keys = keys ∧ t.sec.serial = serialOf (keys.headD 0) ∧
        ((∀ i, i < 2 → (nth s.sec.anchors i).valid = false) ∨ mode = 3 ∨ s.clk.recoveryNext = true → t.clk.phase = .recovery) ∧
        (∀ i k, adoptedHeader s.sec.anchors = some i → mode ≠ 3 → s.clk.recoveryNext = false → romPick s i = some k →
          t.clk.phase = .loader ∧ t.sec.runningLoader = some k ∧ t.sec.anchor = some i) ∧
        (∀ i, adoptedHeader s.sec.anchors = some i → romPick s i = none → t.clk.phase = .recovery)) := by
  intro mode keys
  obtain ⟨hstraps, hw⟩ := sampleStraps_spec s (strapMajority samples)
  refine ⟨_, exec_romBoot hp samples, ?_⟩
  generalize s.sampleStraps (strapMajority samples) = u at hstraps hw
  have hmode : u.straps.bootMode = mode := by rw [hstraps]
  have hsage : u.sage = s.sage := hw.reads State.sage fun _ => rfl
  have hsec : u.sec = s.sec := hw.reads State.sec fun _ => rfl
  have hclk : u.clk = s.clk := hw.reads State.clk fun _ => rfl
  simp only [hmode]
  split_ifs with h4 h67
  · exact ⟨hstraps, hsage, fun _ => rfl, fun h => absurd h (by rw [h4]; decide), fun h => absurd h4 h⟩
  · exact ⟨hstraps, hsage, fun h => absurd h h4, fun _ => rfl, fun _ h6 h7 => (h67.elim h6 h7).elim⟩
  · obtain ⟨hk, hrec, hload, hnone⟩ := romRun_spec u
    have hpick : romPick u = romPick s := funext fun i => by
      unfold romPick
      rw [hsec]
      refine selectPlace_pick ?_ ..
      simp only [State.anchor]
    obtain ⟨hkw, hkeys, hserial⟩ := hk
    rw [hsec] at hkeys hserial
    rw [hsec, hmode, hclk] at hrec hload
    rw [hsec] at hnone
    rw [hpick] at hload hnone
    refine ⟨(hkw.reads State.straps fun _ => rfl).trans hstraps, (hkw.reads State.sage fun _ => rfl).trans hsage, fun h => absurd h h4, fun h => absurd h h67, fun _ _ _ =>
      ⟨hkeys, hserial, fun h => hrec (h.imp_left adoptedHeader_none), hload, hnone⟩⟩

/-! ## The limit block (01 R20, 07 R197) -/

/-- The bounds in force, and whether they are locked. -/
def bounds (g : SageState) : LimitBlock × Bool × Bool := (g.limits, g.locked, g.everLocked)

/-- What the loader's steps can change, beside the limit block, the configuration and the secure start. -/
abbrev loadParts : List Part := [.cool, .feed, .ledger, .link, .log, .op, .pair, .phase, .pins, .rec_, .repro, .sage, .thyme, .upd]

/-- A step of the loader that keeps the bounds. -/
structure Loading (s t : State) : Prop where
  within : Within loadParts s t
  bounds : bounds t.sage = bounds s.sage

namespace Loading

theorem refl (s : State) : Loading s s := ⟨.refl s, rfl⟩

theorem trans {s t u : State} (h : Loading s t) (h' : Loading t u) : Loading s u := ⟨h.within.trans h'.within, h'.bounds.trans h.bounds⟩

theorem guard {s t : State} {p : Prop} [Decidable p] (h : Loading s t) : Loading s (if p then t else s) := by
  split
  · exact h
  · exact refl s

theorem guardNot {s t : State} {p : Prop} [Decidable p] (h : Loading s t) : Loading s (if p then s else t) := by
  split
  · exact refl s
  · exact h

theorem foldl {α : Type} {f : State → α → State} (h : ∀ s a, Loading s (f s a)) (l : List α) (s : State) : Loading s (l.foldl f s) := foldl_within refl trans h l s

end Loading

section

variable (s : State)

theorem event_loading (port : EvPort) (code sev src : Nat) (payload : List Byte) : Loading s (s.event port code sev src payload) := ⟨event_within .., congrArg Proofs.bounds (State.event_sage ..)⟩

theorem writeSetpoint_loading (c mv : Nat) (bus : Option Nat) (owner : WriteOwner) : Loading s (s.writeSetpoint c mv bus owner) := by
  unfold State.writeSetpoint
  split
  · exact ⟨rfl, rfl⟩
  · exact .refl s

theorem onOp_loading (f : OpState → OpState) : Loading s (s.onOp f) := ⟨rfl, rfl⟩
theorem onPhase_loading (f : PhaseState → PhaseState) : Loading s (s.onPhase f) := ⟨rfl, rfl⟩
theorem onFeeds_loading (f : FeedState → FeedState) : Loading s (s.onFeeds f) := ⟨rfl, rfl⟩
theorem onCool_loading (f : CoolState → CoolState) : Loading s (s.onCool f) := ⟨rfl, rfl⟩
theorem onThyme_loading (f : ThymeState → ThymeState) : Loading s (s.onThyme f) := ⟨rfl, rfl⟩
theorem onLedger_loading (f : LedgerState → LedgerState) : Loading s (s.onLedger f) := ⟨rfl, rfl⟩
theorem onLink_loading (f : LinkState → LinkState) : Loading s (s.onLink f) := ⟨rfl, rfl⟩
theorem onRepro_loading (f : ReproState → ReproState) : Loading s (s.onRepro f) := ⟨rfl, rfl⟩
theorem onSage_loading {f : SageState → SageState} (h : ∀ g, bounds (f g) = bounds g) : Loading s (s.onSage f) := ⟨rfl, h _⟩
theorem mirrored_loading (kind : MirKind) : Loading s (s.mirrored kind) := ⟨mirrored_within .., congrArg bounds (State.mirrored_sage ..)⟩
theorem logged_loading (l : LogState) (r : RecorderState) : Loading s { s with log := l, rec_ := r } := ⟨rfl, rfl⟩

/-- The held values are clamped; the bounds stay. -/
theorem reclamp_loading : Loading s s.reclamp := by
  unfold State.reclamp
  refine .trans (.trans (.trans (.trans (.trans (.trans ?_ (onSage_loading _ ?_)) (onOp_loading ..)) (onPhase_loading ..)) (onFeeds_loading ..)) (onCool_loading ..)) (.refl _)
  · exact .foldl (fun s _ => writeSetpoint_loading s ..) _ s
  · exact fun _ => rfl

/-- The bounds are those of the block, and locked. -/
theorem lockLimits_spec (l : LimitBlock) (digest : List Byte) : bounds (s.lockLimits l digest).sage = (l, true, true) ∧ Within loadParts s (s.lockLimits l digest) := by
  unfold State.lockLimits
  dsimp only
  generalize hu : (if !s.sage.everLocked ∧ s.aliveInRecent then ({ s with pins := { s.pins with shadowHold := some (shadowNets &&& ~~~s.pins.shadowLatch) } } : State) else s) = u
  have hw : Within loadParts s u := hu ▸ .guard rfl
  have hb : bounds (u.onSage fun g => { g with limits := l, shadow := none, locked := true, everLocked := true, lockWarm := s.sage.everLocked }).sage = (l, true, true) := rfl
  generalize hv : (u.onSage fun g => { g with limits := l, shadow := none, locked := true, everLocked := true, lockWarm := s.sage.everLocked }) = v at hb
  have hvw : Within loadParts u v := hv ▸ rfl
  have hr : Loading v (if s.sage.everLocked = true then v.reclamp else v) := .guard (reclamp_loading v)
  have he := hr.trans (event_loading _ .sage 0x0101 0 0 (ib s.sage.everLocked ++ digest.take 8))
  exact ⟨he.bounds.trans hb, (hw.trans hvw).trans he.within⟩

/-- The configuration block is in force, and the bounds stay. -/
theorem loadConfig_spec (c : ConfigBlock) : (s.loadConfig c).cfg = c ∧ Loading { s with cfg := c } (s.loadConfig c) := by
  have h : Loading { s with cfg := c } (s.loadConfig c) := by
    unfold State.loadConfig
    refine .trans ?_ (logged_loading ..)
    refine .trans (.trans (.trans (.trans (.trans (.trans ?_ (onOp_loading ..)) (onPhase_loading ..)) (onCool_loading ..)) (onLedger_loading ..)) (onLink_loading ..)) (onRepro_loading ..)
    refine .trans ?_ ((onOp_loading ..).trans (event_loading ..))
    have hin : ∀ u : State, Loading u (u.install c.programs 0) := fun u => ((onThyme_loading ..).trans (event_loading ..)).trans (mirrored_loading ..)
    refine .trans (.trans (.trans (onSage_loading _ ?_) (onFeeds_loading ..)) (onThyme_loading ..)) (.guard (hin _))
    exact fun _ => rfl
  exact ⟨h.within.reads State.cfg fun _ => rfl, h⟩

/-- The trip area is read; the bounds stay. -/
theorem readTrips_loading : Loading s s.readTrips := by
  unfold State.readTrips
  dsimp only
  generalize hu : List.foldl _ s (List.range _) = u
  have h : Loading s u := hu ▸ .foldl (fun s _ => event_loading s ..) _ s
  refine h.trans ?_
  split
  · exact .refl u
  · exact (onFeeds_loading ..).trans (.guardNot (event_loading ..))

theorem selectPlace_loading (places : List Slot) (type : Nat) (force : Option Nat) : Loading s (s.selectPlace places type force).2 :=
  (Loading.foldl (fun s _ => event_loading s ..) _ s).trans (.foldl (fun s _ => event_loading s ..) _ _)

/-! ## The resident loader (04 R92-R95) -/

/-- With nothing staged and no minimum version raised, nothing is committed. -/
theorem commitStaged_nothing {slot : Nat} (hc : s.sec.cfgStaging = none) (ha : s.sec.anchorStaging = none) (hf : (nth s.sec.slots slot).obj.man.floor ≤ s.anchor.minVersion) :
    s.commitStaged slot = (false, s.onSec fun c => { c with cfgStaging := none, anchorStaging := none }) := by
  simp [State.commitStaged, State.stagedConfig, State.stagedKey, hc, ha, Nat.not_lt.mpr hf]

/-- The slot that is not chosen may be retired: nothing but its state word changes. -/
theorem retireLoser_spec (slot : Nat) : (s.retireLoser slot).sec.cfgInForce = s.sec.cfgInForce ∧ Within [.rec_, .sec, .upd] s (s.retireLoser slot) := by
  unfold State.retireLoser
  dsimp only
  split
  · exact ⟨(congrArg SecureState.cfgInForce (State.event_sec ..)).trans rfl, .trans (t := s.onSec _) rfl (event_within ..)⟩
  · exact ⟨rfl, .refl s⟩

end

/-- The loader starts slot j. -/
def slotStarted (s : State) (j : Nat) : State := (s.onSec fun c => { c with runningSlot := some j, gateOpen := false }).onClk fun c => { c with phase := .handoff }

/-- With nothing to commit, the slot that is picked starts. -/
theorem startSlot_spec {s : State} {j : Nat} (hp : (s.selectPlace s.sec.slots 1 s.straps.forced).1 = some j) (hc : s.sec.cfgStaging = none) (ha : s.sec.anchorStaging = none)
    (hf : (nth s.sec.slots j).obj.man.floor ≤ s.anchor.minVersion) :
    let t := s.startSlot
    t.clk.phase = .handoff ∧ t.sec.runningSlot = some j ∧ t.sec.gateOpen = false ∧ t.sec.cfgInForce = s.sec.cfgInForce ∧ bounds t.sage = bounds s.sage ∧ t.cfg = s.cfg := by
  have hl := selectPlace_loading s s.sec.slots 1 s.straps.forced
  have hs : s.startSlot = match s.selectPlace s.sec.slots 1 s.straps.forced with
    | (none, u) => u.noImage
    | (some k, u) => if (u.commitStaged k).1 then ((u.commitStaged k).2.onSage fun g => { g with locked := false, shadow := none }).onClk fun c => { c with phase := .rom }
      else slotStarted ((u.commitStaged k).2.retireLoser k) k := by
    unfold State.startSlot
    rfl
  generalize s.selectPlace s.sec.slots 1 s.straps.forced = a at hp hl hs
  obtain ⟨c, u⟩ := a
  obtain rfl : c = some j := hp
  have hsec : u.sec = s.sec := hl.within.reads State.sec fun _ => rfl
  have hanchor : u.anchor = s.anchor := by simp only [State.anchor, hsec]
  dsimp only at hs hl
  rw [commitStaged_nothing u (by rw [hsec]; exact hc) (by rw [hsec]; exact ha) (by rw [hsec, hanchor]; exact hf)] at hs
  rw [hs]
  simp only [Bool.false_eq_true, if_false]
  obtain ⟨hrs, hrw⟩ := retireLoser_spec (u.onSec fun c => { c with cfgStaging := none, anchorStaging := none }) j
  generalize (u.onSec fun c => { c with cfgStaging := none, anchorStaging := none }).retireLoser j = v at hrs hrw
  refine ⟨rfl, rfl, rfl, ?_, ?_, ?_⟩
  · show v.sec.cfgInForce = _
    exact hrs.trans (congrArg SecureState.cfgInForce hsec : u.sec.cfgInForce = s.sec.cfgInForce)
  · exact (congrArg bounds (hrw.reads State.sage fun _ => rfl)).trans hl.bounds
  · exact (hrw.reads State.cfg fun _ => rfl).trans (hl.within.reads State.cfg fun _ => rfl)

/-- The state in which copy k of the configuration block is loaded. -/
def configLoaded (s : State) (k : Nat) : State :=
  let o := nth s.sec.cfgCopies k
  (((s.onSec fun c => { c with cfgInForce := some k }).lockLimits o.cfg.limits (digestBytes o.obj.man.digest)).loadConfig o.cfg).readTrips

theorem configLoaded_spec (s : State) (k : Nat) :
    let t := configLoaded s k
    let c := (nth s.sec.cfgCopies k).cfg
    bounds t.sage = (c.limits, true, true) ∧ t.cfg = c ∧ t.sec = { s.sec with cfgInForce := some k } ∧ t.straps = s.straps := by
  intro t c
  obtain ⟨hb, hw⟩ := lockLimits_spec (s.onSec fun c => { c with cfgInForce := some k }) c.limits (digestBytes (nth s.sec.cfgCopies k).obj.man.digest)
  have ht : t = (((s.onSec fun c => { c with cfgInForce := some k }).lockLimits c.limits (digestBytes (nth s.sec.cfgCopies k).obj.man.digest)).loadConfig c).readTrips := rfl
  generalize (s.onSec fun c => { c with cfgInForce := some k }).lockLimits c.limits (digestBytes (nth s.sec.cfgCopies k).obj.man.digest) = u at hb hw ht
  obtain ⟨hc, hl⟩ := loadConfig_spec u c
  have hr := hl.trans (readTrips_loading (u.loadConfig c))
  rw [← ht] at hr
  refine ⟨hr.bounds.trans hb, ?_, ?_, ?_⟩
  · exact hr.within.reads State.cfg fun _ => rfl
  · exact (hr.within.reads State.sec fun _ => rfl).trans (hw.reads State.sec fun _ => rfl)
  · exact (hr.within.reads State.straps fun _ => rfl).trans (hw.reads State.straps fun _ => rfl)

theorem exec_residentLoaderRun {s : State} (hp : s.clk.phase = .loader) :
    exec .residentLoaderRun s = .next (match s.diagProgress.configCopy with
      | none => (s.diagProgress.event .fp0 0x0C05 4 0 []).noImage
      | some k => (configLoaded s.diagProgress k).startSlot) := by
  show execResidentLoaderRun s = _
  unfold execResidentLoaderRun
  rw [hp]
  rfl

/-- What a report leaves of what the loader looks at. -/
theorem diagProgress_keeps (s : State) :
    s.diagProgress.anchor = s.anchor ∧ s.diagProgress.configCopy = s.configCopy ∧ s.diagProgress.sec.cfgCopies = s.sec.cfgCopies ∧ s.diagProgress.sec.slots = s.sec.slots ∧
      s.diagProgress.sec.cfgStaging = s.sec.cfgStaging ∧ s.diagProgress.sec.anchorStaging = s.sec.anchorStaging ∧ s.diagProgress.straps = s.straps ∧ s.diagProgress.clk = s.clk := by
  unfold State.diagProgress
  split <;> exact ⟨rfl, rfl, rfl, rfl, rfl, rfl, rfl, rfl⟩

/-- The recovery loader runs with the limit block locked (04 R92). -/
theorem toRecovery_spec (s : State) : s.toRecovery.clk.phase = .recovery ∧ s.toRecovery.sage.locked = true := by
  refine ⟨rfl, ?_⟩
  show (if s.sage.locked = true then s else s.lockLimits {} (zeros 8)).sage.locked = true
  split
  · assumption
  · exact congrArg (fun b => b.2.1) (lockLimits_spec s {} (zeros 8)).1

/-- With no good copy of the configuration block after a power-on reset, the recovery loader follows (04 R92). -/
theorem loader_noConfig {s : State} (hp : s.clk.phase = .loader) (hc : s.configCopy = none) (hpor : s.clk.porBoot = true) :
    Completes .residentLoaderRun s fun t => t.clk.phase = .recovery ∧ t.sage.locked = true := by
  obtain ⟨-, hcopy, -, -, -, -, -, hclk⟩ := diagProgress_keeps s
  refine ⟨_, exec_residentLoaderRun hp, ?_⟩
  rw [hcopy, hc]
  have hno : (s.diagProgress.event .fp0 0x0C05 4 0 []).noImage = (s.diagProgress.event .fp0 0x0C05 4 0 []).toRecovery := if_pos (.inl (by rw [State.event_clk, hclk]; exact hpor))
  dsimp only
  rw [hno]
  exact toRecovery_spec _

/-- With copy k good and slot j picked, and nothing to commit, slot j starts under the limits of copy k (04 R92). -/
theorem loader_starts {s : State} {k j : Nat} (hp : s.clk.phase = .loader) (hc : s.configCopy = some k) (hcs : s.sec.cfgStaging = none) (has : s.sec.anchorStaging = none)
    (hj : (s.selectPlace s.sec.slots 1 s.straps.forced).1 = some j) (hf : (nth s.sec.slots j).obj.man.floor ≤ s.anchor.minVersion) :
    Completes .residentLoaderRun s fun t =>
      t.clk.phase = .handoff ∧ t.sec.cfgInForce = some k ∧ t.sec.runningSlot = some j ∧ t.sage.locked = true ∧ t.sage.everLocked = true ∧
      t.sage.limits = (nth s.sec.cfgCopies k).cfg.limits ∧ t.cfg = (nth s.sec.cfgCopies k).cfg ∧ t.sec.gateOpen = false := by
  obtain ⟨hanchor, hcopy, hcopies, hslots, hstage, hastage, hstraps, -⟩ := diagProgress_keeps s
  refine ⟨_, exec_residentLoaderRun hp, ?_⟩
  rw [hcopy, hc]
  obtain ⟨hb, hcfg, hsec, hst⟩ := configLoaded_spec s.diagProgress k
  dsimp only
  rw [hcopies] at hb hcfg
  rw [hstraps] at hst
  generalize configLoaded s.diagProgress k = u at hb hcfg hsec hst
  have hus : u.sec.slots = s.sec.slots := by rw [hsec]; exact hslots
  have hua : u.anchor = s.anchor := by
    rw [← hanchor]
    simp only [State.anchor, hsec]
  obtain ⟨h1, h2, h3, h4, h5, h6⟩ := startSlot_spec (s := u) (j := j) (by rw [hus, hst, selectPlace_pick hua]; exact hj) (by rw [hsec]; exact hstage.trans hcs)
    (by rw [hsec]; exact hastage.trans has) (by rw [hus, hua]; exact hf)
  rw [hb] at h5
  refine ⟨h1, ?_, h2, congrArg (fun b => b.2.1) h5, congrArg (fun b => b.2.2) h5, congrArg (fun b => b.1) h5, h6.trans hcfg, h3⟩
  rw [h4, hsec]

/-- Settles O14, from the ROM's choice and from the loader's. -/
theorem romAndLoaderChoose : Obligations.rom_and_loader_choose :=
  ⟨fun _ samples hp => romBoot_completes samples hp, fun _ hp hc hpor => loader_noConfig hp hc hpor, fun _ _ _ hp hc hcs has hj hf => loader_starts hp hc hcs has hj hf⟩

end Sys2Proof.Proofs
end

section
/-! SUPPORT. The steps that switch: what the start and the end of a step keep, and the switching of enable targets. -/

namespace Sys2Proof.Proofs

open Sys2Proof Sys2Proof.Machine

/-! ## A step that starts reads what its program's first tick left (06 R143) -/

section

variable {s : State} {k op : Nat}

/-- The parts that a step's switching can change. -/
abbrev stepParts : List Part := [.thyme, .sage, .trace, .rec_, .pair]

theorem entered_within (s : State) (k op : Nat) : Within [.thyme, .trace, .rec_, .pair] (s.firstTick k) (entered s k op) := entered_without s k op

theorem entered_sage (s : State) (k op : Nat) : (entered s k op).sage = (s.firstTick k).sage := (entered_within s k op).reads State.sage fun _ => rfl

theorem entered_thyme (s : State) (k op : Nat) : (entered s k op).thyme = { (s.firstTick k).thyme with ctxs := (entered s k op).thyme.ctxs } := by
  rw [(entered_quiet s k op).thyme]
  rfl

theorem entered_set (s : State) (k op : Nat) : (entered s k op).thyme.set = (s.firstTick k).thyme.set := by
  rw [entered_thyme]

theorem entered_ctxs (s : State) (k op : Nat) : (entered s k op).thyme.ctxs.length = (s.firstTick k).thyme.ctxs.length := by
  rw [(entered_quiet s k op).thyme]
  exact onCtx_ctxs_length ..

theorem entered_ctx_ne {j : Nat} (h : k ≠ j) : (entered s k op).ctx j = (s.firstTick k).ctx j := by
  rw [(entered_quiet s k op).ctx]
  exact ctx_onCtx_ne h _

theorem entered_acc (s : State) (k op n : Nat) : (entered s k op).acc n = (s.firstTick k).acc n := by
  unfold State.acc
  rw [entered_thyme]

theorem entered_stride (hk : k < (s.firstTick k).thyme.ctxs.length) (op : Nat) : (entered s k op).strideOf k = (s.firstTick k).strideOf k := by
  simp only [State.strideOf, entered_ctx hk, entered_set]
  rfl

theorem entered_permit (hk : k < (s.firstTick k).thyme.ctxs.length) (op : Nat) : (entered s k op).permitOf k = (s.firstTick k).permitOf k := by
  simp only [State.permitOf, entered_ctx hk, entered_sage]
  rfl

theorem entered_rail (s : State) (k op r : Nat) : (entered s k op).rail r = (s.firstTick k).rail r := by
  unfold State.rail
  rw [entered_sage]

theorem entered_heldOff (s : State) (k op : Nat) : (entered s k op).heldOff = (s.firstTick k).heldOff := by
  funext e
  cases e <;> simp only [State.heldOff, State.targetInScope, entered_rail, entered_sage]

/-- Nothing waits at a step that neither an off request nor an emergency cuts short. -/
theorem cut_false {u : State} (h : u.cut k = false) : (u.ctx k).offTaken = false ∧ u.thyme.emergencyDue = none := by
  simpa [State.cut] using h

/-- A step that completes in its own tick, its context otherwise as it was. -/
theorem next_ctx {v : State} (hk : k < v.thyme.ctxs.length) (hd : v.thyme.emergencyDue = none) (ho : (v.ctx k).offTaken = false) :
    (v.next k).ctx k = (v.ctx k).goesTo ((v.ctx k).idx + 1) v.gt ∧ Within [.thyme, .pair] v (v.next k) ∧ (v.next k).thyme = { v.thyme with ctxs := (v.next k).thyme.ctxs } ∧
      ∀ j, j ≠ k → (v.next k).ctx j = v.ctx j := by
  have he : v.next k = (v.onCtx k fun c => c.goesTo ((v.ctx k).idx + 1) v.gt).mirrored .thyme := stepDone_goes hd ho _
  rw [he]
  refine ⟨by rw [(mirrored_quiet ..).ctx, ctx_onCtx hk], ?_, ?_, fun j hj => ?_⟩
  · refine .trans ?_ (mirrored_within _ _)
    rfl
  · rw [State.mirrored_thyme]
    rfl
  · rw [(mirrored_quiet ..).ctx, ctx_onCtx_ne hj.symm]

end

/-! ## One enable target is switched (06 R149) -/

/-- The level of an enable target. -/
def enableLevel (s : State) : EnableTarget → Bool
  | .rail r => (s.rail r).granted
  | .branch b => s.sage.branches.getLsbD b
  | .accReset n => s.sage.accReset.getLsbD n

/-- ACC_RESET_N rises of no package in ACC_OFF or ACC_FAULT. -/
def mayRise (s : State) : EnableTarget → Bool
  | .accReset n => s.acc n != .off && s.acc n != .fault
  | _ => true

/-- The level that an ENABLE gives a target. -/
def switched (s : State) (on : Bool) (e : EnableTarget) : Bool :=
  if on = true ∧ e ∈ s.thyme.offsNow then enableLevel s e else on && mayRise s e

/-- The enable of a rail that goes over a bus. -/
def ToWrite (s : State) (on : Bool) (r : Nat) : Prop := ¬(on = true ∧ .rail r ∈ s.thyme.offsNow) ∧ (s.rail r).granted ≠ on ∧ (s.rail r).map.pmBus ≠ none

/-- A target that the arbiter has. -/
def InRange : EnableTarget → Prop
  | .rail c => c < 192
  | .branch b => b < 12
  | .accReset n => n < 8

theorem inRange_of_permitted {p : BitVec 256} {e : EnableTarget} (h : permitted p e = true) : InRange e := by
  cases e with
  | rail c => exact of_decide_eq_true (p := c < 192) (Bool.and_eq_true_iff.mp h).1
  | branch b => exact of_decide_eq_true (p := b < 12) (Bool.and_eq_true_iff.mp h).1
  | accReset n => exact of_decide_eq_true (p := n < 8) (Bool.and_eq_true_iff.mp h).1

/-- What the switching of targets by context k leaves, but for the targets' levels and the rails' enables. -/
structure Switching (k : Nat) (on : Bool) (s t : State) : Prop where
  within : Within [.thyme, .sage] s t
  sage : t.sage = { s.sage with rails := t.sage.rails, buses := t.sage.buses, branches := t.sage.branches, accReset := t.sage.accReset }
  thyme : t.thyme = { s.thyme with ctxs := t.thyme.ctxs, offsNow := t.thyme.offsNow }
  offs : on = true → t.thyme.offsNow = s.thyme.offsNow
  rails : t.sage.rails.length = s.sage.rails.length
  ctxs : t.thyme.ctxs.length = s.thyme.ctxs.length
  ctx : t.ctx k = { s.ctx k with busWait := (t.ctx k).busWait }

namespace Switching

variable {k : Nat} {on : Bool} {s t u : State}

theorem refl (s : State) : Switching k on s s := ⟨.refl s, rfl, rfl, fun _ => rfl, rfl, rfl, rfl⟩

theorem trans (h : Switching k on s t) (h' : Switching k on t u) : Switching k on s u :=
  ⟨h.within.trans h'.within, by rw [h'.sage, h.sage], by rw [h'.thyme, h.thyme], fun ho => (h'.offs ho).trans (h.offs ho), h'.rails.trans h.rails, h'.ctxs.trans h.ctxs, by rw [h'.ctx, h.ctx]⟩

theorem acc (h : Switching k on s t) (n : Nat) : t.acc n = s.acc n := by
  rw [State.acc.eq_def, h.thyme]
  rfl

end Switching

/-- What an ENABLE of the targets `ts` leaves. -/
structure SwitchedAll (k : Nat) (on : Bool) (ts : List EnableTarget) (s t : State) : Prop where
  keeps : Switching k on s t
  level : ∀ e ∈ ts, enableLevel t e = switched s on e
  others : ∀ e, e ∉ ts → enableLevel t e = enableLevel s e
  rails : ∀ r, .rail r ∉ ts → t.rail r = s.rail r
  waits : ∀ r, r ∈ (t.ctx k).busWait ↔ r ∈ (s.ctx k).busWait ∨ (.rail r ∈ ts ∧ ToWrite s on r)

/-- The rail's enable is driven, and its write waits where it goes over a bus. -/
def railDriven (s : State) (k c : Nat) (on : Bool) (f : Rail → Rail) : State :=
  match (s.rail c).map.pmBus with
  | some b => ((s.onRail c f).busWrite b { rail := c, kind := .operation on, owner := .thyme k }).onCtx k fun x => { x with busWait := c :: x.busWait }
  | none => s.onRail c f

theorem rail_onRail {s : State} {c : Nat} (hc : c < s.sage.rails.length) (f : Rail → Rail) (r : Nat) : (s.onRail c f).rail r = if r = c then f (s.rail c) else s.rail r := by
  show nth (modAt s.sage.rails c f) r = _
  rw [nth_modAt]
  by_cases h : r = c
  · subst h
    rw [if_pos ⟨rfl, hc⟩, if_pos rfl]
    rfl
  · rw [if_neg fun e => h e.1.symm, if_neg h]
    rfl

theorem railDriven_spec {s : State} {k c : Nat} {on : Bool} {f : Rail → Rail} (hk : k < s.thyme.ctxs.length) (hc : c < s.sage.rails.length) :
    let t := railDriven s k c on f
    Switching k on s t ∧ (∀ r, t.rail r = if r = c then f (s.rail c) else s.rail r) ∧ t.sage.branches = s.sage.branches ∧ t.sage.accReset = s.sage.accReset ∧
      ∀ r, r ∈ (t.ctx k).busWait ↔ r ∈ (s.ctx k).busWait ∨ (r = c ∧ (s.rail c).map.pmBus ≠ none) := by
  intro t
  have hlen : (modAt s.sage.rails c f).length = s.sage.rails.length := length_modAt ..
  cases hb : (s.rail c).map.pmBus with
  | none =>
    have ht : t = s.onRail c f := by
      show railDriven s k c on f = _
      unfold railDriven
      rw [hb]
    rw [ht]
    exact ⟨⟨rfl, rfl, rfl, fun _ => rfl, hlen, rfl, rfl⟩, rail_onRail hc f, rfl, rfl, fun r => ⟨.inl, fun h => h.elim id fun h => absurd rfl h.2⟩⟩
  | some b =>
    have ht : t = ((s.onRail c f).busWrite b { rail := c, kind := .operation on, owner := .thyme k }).onCtx k fun x => { x with busWait := c :: x.busWait } := by
      show railDriven s k c on f = _
      unfold railDriven
      rw [hb]
    have hctx : t.ctx k = { s.ctx k with busWait := c :: (s.ctx k).busWait } := by
      rw [ht]
      exact ctx_onCtx (s := (s.onRail c f).busWrite b _) hk _
    refine ⟨?_, ?_, ?_, ?_, fun r => ?_⟩
    · refine ⟨ht ▸ rfl, ht ▸ rfl, ht ▸ rfl, fun _ => ht ▸ rfl, ht ▸ hlen, ?_, ?_⟩
      · rw [ht]
        exact onCtx_ctxs_length ..
      · rw [hctx]
    · rw [ht]
      exact rail_onRail hc f
    · rw [ht]
      rfl
    · rw [ht]
      rfl
    · rw [hctx]
      simp [or_comm]

/-- An off is noted for the rest of the tick. -/
def offsNoted (s : State) (on : Bool) (e : EnableTarget) : State := if on then s else s.onThyme fun h => { h with offsNow := e :: h.offsNow }

theorem offsNoted_spec (s : State) (k : Nat) (on : Bool) (e : EnableTarget) :
    Switching k on s (offsNoted s on e) ∧ (offsNoted s on e).sage = s.sage ∧ (offsNoted s on e).ctx k = s.ctx k := by
  unfold offsNoted
  cases on
  · exact ⟨⟨rfl, rfl, rfl, nofun, rfl, rfl, rfl⟩, rfl, rfl⟩
  · exact ⟨.refl s, rfl, rfl⟩

/-- The target's value is given. -/
def switchedTo (s : State) (k : Nat) (on : Bool) (e : EnableTarget) : State :=
  match e with
  | .rail c => if (s.rail c).granted = on then s else railDriven s k c on (if on then fun r => { r with granted := true, pollFails := 0 } else Rail.goesOff)
  | .branch b => s.onSage fun g => { g with branches := if on then g.branches ||| (1#12 <<< b) else g.branches &&& ~~~(1#12 <<< b) }
  | .accReset n => s.onSage fun g => { g with accReset := if on && s.acc n != .off && s.acc n != .fault then g.accReset ||| (1#8 <<< n) else g.accReset &&& ~~~(1#8 <<< n) }

theorem switch_eq (s : State) (k : Nat) (on : Bool) (e : EnableTarget) :
    s.switch k on e = if on = true ∧ e ∈ s.thyme.offsNow then s else switchedTo (offsNoted s on e) k on e := by
  cases on with
  | true =>
    simp only [State.switch, offsNoted, if_true, Bool.true_and, List.contains_iff_mem, true_and]
    split
    · rfl
    · unfold switchedTo railDriven
      cases e <;> rfl
  | false =>
    simp only [State.switch, offsNoted, Bool.false_eq_true, if_false, Bool.false_and, false_and]
    unfold switchedTo
    cases e with
    | branch b => rfl
    | accReset n => rfl
    | rail c =>
      dsimp only
      generalize s.onThyme (fun h => { h with offsNow := EnableTarget.rail c :: h.offsNow }) = v
      split
      · rfl
      · rename_i hg
        have hgo : (v.rail c).granted = true := by simpa using hg
        unfold State.railOff railDriven
        simp only [hgo, Bool.not_true, Bool.false_eq_true, if_false]
        cases (v.rail c).map.pmBus <;> rfl

/-- One bit of a set is given a value. -/
theorem getLsbD_given {w b i : Nat} (x : BitVec w) (up : Bool) (hb : b < w) :
    (if up then x ||| (1#w <<< b) else x &&& ~~~(1#w <<< b)).getLsbD i = if i = b then up else x.getLsbD i := by
  have hone : (1#w <<< b).getLsbD i = decide (i = b) := by
    by_cases h : i = b
    · subst h
      simp [hb]
    · by_cases hl : i < b
      · simp [h, hl]
      · have : ¬(i - b = 0) := by omega
        simp [h, this]
  by_cases h : i = b
  · subst h
    cases up <;> simp [hb]
  · cases up
    · simp only [Bool.false_eq_true, if_false, BitVec.getLsbD_and, BitVec.getLsbD_not, hone, h, decide_false]
      by_cases hi : i < w
      · simp [hi]
      · simp [BitVec.getLsbD_of_ge _ _ (Nat.le_of_not_lt hi)]
    · simp [BitVec.getLsbD_or, hone, h]

/-- One target is switched: it has its value, and no other target has changed. -/
theorem switch_spec {s : State} {k : Nat} (on : Bool) {e : EnableTarget} (hk : k < s.thyme.ctxs.length) (hl : s.sage.rails.length = 192) (he : InRange e) :
    SwitchedAll k on [e] s (s.switch k on e) := by
  rw [switch_eq]
  by_cases hoff : on = true ∧ e ∈ s.thyme.offsNow
  · rw [if_pos hoff]
    refine ⟨.refl s, fun e' he' => ?_, fun _ _ => rfl, fun _ _ => rfl, fun r => ⟨.inl, fun h => h.elim id fun h => ?_⟩⟩
    · obtain rfl := List.mem_singleton.mp he'
      exact (if_pos hoff).symm
    · obtain rfl := List.mem_singleton.mp h.1
      exact absurd hoff h.2.1
  · rw [if_neg hoff]
    obtain ⟨hn, hsage, hctx⟩ := offsNoted_spec s k on e
    have hkv : k < (offsNoted s on e).thyme.ctxs.length := by rw [hn.ctxs]; exact hk
    have hacc : ∀ n, (offsNoted s on e).acc n = s.acc n := hn.acc
    have hrail : ∀ r, (offsNoted s on e).rail r = s.rail r := fun r => by rw [State.rail, hsage]; rfl
    generalize offsNoted s on e = v at hn hsage hctx hkv hacc hrail
    have hval : switched s on e = (on && mayRise s e) := if_neg hoff
    cases e with
    | branch b =>
      have hbit := fun i => getLsbD_given (i := i) v.sage.branches on he
      refine ⟨hn.trans ⟨rfl, rfl, rfl, fun _ => rfl, rfl, rfl, rfl⟩, fun e' he' => ?_, fun e' he' => ?_, fun r _ => hrail r, fun r => ⟨fun h => .inl (hctx ▸ h), fun h => ?_⟩⟩
      · obtain rfl := List.mem_singleton.mp he'
        refine Eq.trans ?_ (hval.trans (Bool.and_true _)).symm
        exact (hbit b).trans (if_pos rfl)
      · cases e' with
        | rail r => exact congrArg Rail.granted (hrail r)
        | accReset n => exact congrArg (fun g => g.accReset.getLsbD n) hsage
        | branch i => exact ((hbit i).trans (if_neg fun h => he' (by rw [h]; exact List.mem_singleton_self _))).trans (congrArg (fun g => g.branches.getLsbD i) hsage)
      · rcases h with h | ⟨h, -⟩
        · exact hctx.symm ▸ h
        · exact absurd h (by simp)
    | accReset n =>
      have hbit := fun i => getLsbD_given (i := i) v.sage.accReset (on && v.acc n != .off && v.acc n != .fault) he
      refine ⟨hn.trans ⟨rfl, rfl, rfl, fun _ => rfl, rfl, rfl, rfl⟩, fun e' he' => ?_, fun e' he' => ?_, fun r _ => hrail r, fun r => ⟨fun h => .inl (hctx ▸ h), fun h => ?_⟩⟩
      · obtain rfl := List.mem_singleton.mp he'
        rw [hval]
        refine ((hbit n).trans (if_pos rfl)).trans ?_
        rw [mayRise, hacc, Bool.and_assoc]
      · cases e' with
        | rail r => exact congrArg Rail.granted (hrail r)
        | branch b => exact congrArg (fun g => g.branches.getLsbD b) hsage
        | accReset i => exact ((hbit i).trans (if_neg fun h => he' (by rw [h]; exact List.mem_singleton_self _))).trans (congrArg (fun g => g.accReset.getLsbD i) hsage)
      · rcases h with h | ⟨h, -⟩
        · exact hctx.symm ▸ h
        · exact absurd h (by simp)
    | rail c =>
      have hc : c < v.sage.rails.length := by rw [hsage, hl]; exact he
      unfold switchedTo
      dsimp only
      by_cases hg : (v.rail c).granted = on
      · rw [if_pos hg]
        refine ⟨hn, fun e' he' => ?_, fun e' _ => ?_, fun r _ => hrail r, fun r => ⟨fun h => .inl (hctx ▸ h), fun h => ?_⟩⟩
        · obtain rfl := List.mem_singleton.mp he'
          refine Eq.trans ?_ (hval.trans (Bool.and_true _)).symm
          exact hg
        · cases e' with
          | rail r => exact congrArg Rail.granted (hrail r)
          | branch b => exact congrArg (fun g => g.branches.getLsbD b) hsage
          | accReset n => exact congrArg (fun g => g.accReset.getLsbD n) hsage
        · rcases h with h | ⟨h, hw⟩
          · exact hctx.symm ▸ h
          · obtain rfl : r = c := by simpa using h
            exact absurd (hrail r ▸ hg) hw.2.1
      · rw [if_neg hg]
        obtain ⟨hs, hr, hbr, har, hw⟩ := railDriven_spec (on := on) (f := if on then fun r => { r with granted := true, pollFails := 0 } else Rail.goesOff) hkv hc
        generalize railDriven v k c on _ = t at hs hr hbr har hw
        have hgiven : (t.rail c).granted = on := by
          rw [hr, if_pos rfl]
          cases on <;> rfl
        refine ⟨hn.trans hs, fun e' he' => ?_, fun e' he' => ?_, fun r hr' => ?_, fun r => ?_⟩
        · obtain rfl := List.mem_singleton.mp he'
          refine Eq.trans ?_ (hval.trans (Bool.and_true _)).symm
          exact hgiven
        · cases e' with
          | rail r =>
            refine congrArg Rail.granted ((hr r).trans ((if_neg fun h => he' ?_).trans (hrail r)))
            rw [h]
            exact List.mem_singleton_self _
          | branch b => exact congrArg (fun x => x.getLsbD b) (hbr.trans (congrArg SageState.branches hsage))
          | accReset n => exact congrArg (fun x => x.getLsbD n) (har.trans (congrArg SageState.accReset hsage))
        · refine (hr r).trans ((if_neg fun h => hr' ?_).trans (hrail r))
          rw [h]
          exact List.mem_singleton_self _
        · rw [hw r, hctx, hrail]
          refine or_congr Iff.rfl ⟨fun h => ?_, fun h => ?_⟩
          · rw [h.1]
            exact ⟨List.mem_singleton_self _, hoff, by rw [← hrail]; exact hg, h.2⟩
          · obtain rfl : r = c := by simpa using h.1
            exact ⟨rfl, h.2.2.2⟩

/-- The targets of an ENABLE, each once, are switched one after the other. -/
theorem switches_spec {k : Nat} (on : Bool) {ts : List EnableTarget} (hts : ∀ e ∈ ts, InRange e) (hnd : ts.Nodup) {s : State} (hk : k < s.thyme.ctxs.length) (hl : s.sage.rails.length = 192) :
    SwitchedAll k on ts s (ts.foldl (fun s e => s.switch k on e) s) := by
  induction ts generalizing s with
  | nil => exact ⟨.refl s, by simp, fun _ _ => rfl, fun _ _ => rfl, by simp⟩
  | cons e ts ih =>
    obtain ⟨hne, hnd⟩ := List.nodup_cons.mp hnd
    have h1 := switch_spec (s := s) on hk hl (hts e (List.mem_cons_self ..))
    have h2 := ih (s := s.switch k on e) (fun e' he' => hts e' (List.mem_cons_of_mem _ he')) hnd (by rw [h1.keeps.ctxs]; exact hk) (by rw [h1.keeps.rails]; exact hl)
    rw [List.foldl_cons]
    generalize s.switch k on e = v at h1 h2
    generalize List.foldl _ v ts = t at h2
    have hother : ∀ e' ∈ ts, e' ∉ [e] := fun e' he' h => hne (List.mem_singleton.mp h ▸ he')
    have hbar : ∀ e', (on = true ∧ e' ∈ v.thyme.offsNow) = (on = true ∧ e' ∈ s.thyme.offsNow) := fun e' => propext (and_congr_right fun ho => by rw [h1.keeps.offs ho])
    have hrise : mayRise v = mayRise s := by
      funext e'
      cases e' <;> simp only [mayRise, h1.keeps.acc]
    have hsw : ∀ e' ∈ ts, switched v on e' = switched s on e' := fun e' he' => by
      simp only [switched, hbar, hrise, h1.others e' (hother e' he')]
    have hwr : ∀ r, .rail r ∈ ts → (ToWrite v on r ↔ ToWrite s on r) := fun r hr => by
      rw [ToWrite, hbar, h1.rails r (hother _ hr)]
      rfl
    refine ⟨h1.keeps.trans h2.keeps, fun e' he' => ?_, fun e' he' => ?_, fun r hr => ?_, fun r => ?_⟩
    · rcases List.mem_cons.mp he' with rfl | he'
      · rw [h2.others _ hne, h1.level _ (List.mem_singleton_self _)]
      · rw [h2.level _ he', hsw _ he']
    · rw [h2.others _ fun h => he' (List.mem_cons_of_mem _ h), h1.others _ fun h => he' (by rw [List.mem_singleton.mp h]; exact List.mem_cons_self ..)]
    · rw [h2.rails _ fun h => hr (List.mem_cons_of_mem _ h), h1.rails _ fun h => hr (by rw [List.mem_singleton.mp h]; exact List.mem_cons_self ..)]
    · rw [h2.waits, h1.waits, List.mem_singleton, List.mem_cons, or_assoc, or_and_right]
      exact or_congr Iff.rfl (or_congr Iff.rfl (and_congr_right (hwr r)))

end Sys2Proof.Proofs
end

section
/-! SUPPORT. What a program's first tick leaves of the arbiter's tables, and ENABLE. -/

namespace Sys2Proof.Proofs

open Sys2Proof Sys2Proof.Machine

/-! ## A program's first tick leaves the arbiter's tables as long as they were -/

/-- The rails keep their number, and the buses their queues. -/
def RailsStay (s t : State) : Prop := t.sage.rails.length = s.sage.rails.length ∧ t.sage.buses = s.sage.buses

section

variable {s t u : State}

theorem RailsStay.refl (s : State) : RailsStay s s := ⟨rfl, rfl⟩

theorem RailsStay.trans (h : RailsStay s t) (h' : RailsStay t u) : RailsStay s u := ⟨h'.1.trans h.1, h'.2.trans h.2⟩

theorem RailsStay.beside (h : t.sage = s.sage) : RailsStay s t := ⟨by rw [h], by rw [h]⟩

theorem RailsStay.guard {p : Prop} [Decidable p] (h : RailsStay s t) : RailsStay s (if p then t else s) := by
  split
  · exact h
  · exact .refl s

theorem setAcc_railsStay (s : State) (n : Nat) (a : AccState) : RailsStay s (s.setAcc n a) := by
  refine .trans (t := accPut s n a) ?_ (.beside ((setAcc_within s n a).reads State.sage fun _ => rfl))
  unfold accPut RailsStay
  dsimp only
  split <;> exact ⟨rfl, rfl⟩

theorem onThyme_railsStay (s : State) (f : ThymeState → ThymeState) : RailsStay s (s.onThyme f) := ⟨rfl, rfl⟩

theorem dropMargins_railsStay (s : State) : RailsStay s s.dropMargins := ⟨List.length_map .., rfl⟩

theorem accLow_railsStay (s : State) (n : Nat) : RailsStay s (accLow s n) := ⟨rfl, rfl⟩

theorem accsDown_railsStay (s : State) : RailsStay s s.accsDown := by
  rw [accsDown_eq]
  exact foldl_within .refl .trans (fun v n => .guard ((setAcc_railsStay v n .down).trans (accLow_railsStay ..))) _ s

theorem enterInrush_within (s : State) (x : Nat) : Within [.feed, .trace, .rec_] s (s.enterInrush x) := by
  unfold State.enterInrush
  dsimp only
  split
  · exact .refl s
  · split
    · exact .trans (t := s.onFeed x _) rfl (traced_within ..)
    · rfl

theorem feedsSettle_within (s : State) : Within [.feed, .thyme, .trace, .rec_] s s.feedsSettle := by
  unfold State.feedsSettle
  dsimp only
  generalize ht : (if s.feed.demand = true then (s.enterInrush 0).enterInrush 1 else s) = t
  have h : Within [.feed, .thyme, .trace, .rec_] s t := by
    rw [← ht]
    exact .guard (((enterInrush_within s 0).trans (enterInrush_within _ 1)).mono rfl)
  refine h.trans ?_
  split_ifs <;> rfl

theorem setDemand_railsStay (s : State) : RailsStay s s.setDemand :=
  .trans (t := (s.onFeeds fun c => { c with demand := true }).feedsSettle) (.beside ((feedsSettle_within _).reads State.sage fun _ => rfl)) (.beside (State.mirrored_sage ..))

theorem enterKind_railsStay (s : State) (k : Nat) : RailsStay s (s.enterKind k) := by
  unfold State.enterKind
  split
  · exact (onThyme_railsStay s _).trans (setDemand_railsStay _)
  · exact ((dropMargins_railsStay s).trans (onThyme_railsStay _ _)).trans (.guard (accsDown_railsStay _))
  · exact setAcc_railsStay ..
  · exact (dropMargins_railsStay s).trans (setAcc_railsStay ..)
  · exact .refl s

/-- The events and traces of a program's first tick. -/
theorem firstTick_sage {how : StartKind} {k : Nat} (h : (s.ctx k).starting = some how) : (s.firstTick k).sage = ((unstarted s k).enterKind k).sage := by
  unfold State.firstTick
  rw [h]
  dsimp only
  rw [State.mirrored_sage, State.mirrored_sage]
  split <;> simp only [State.traced_sage, State.event_sage, unstarted]

theorem firstTick_railsStay (s : State) (k : Nat) : RailsStay s (s.firstTick k) := by
  cases h : (s.ctx k).starting with
  | none => rw [firstTick_none h]; exact .refl s
  | some how => exact .trans (t := unstarted s k) ⟨rfl, rfl⟩ ((enterKind_railsStay _ k).trans (.beside (firstTick_sage h)))

end

/-! ## ENABLE (06 R149) -/

theorem enableTargets_nodup (w inst stride : Nat) : (enableTargets w inst stride).Nodup := by
  have hres : ∀ m, Function.Injective fun i => resolve w (stepIdx w + i) inst m := fun m i j h => by
    unfold resolve at h
    dsimp only at h
    split at h <;> omega
  refine List.Nodup.map ?_ List.nodup_range
  intro i j h
  dsimp only at h
  split at h
  · exact hres _ (EnableTarget.rail.inj h)
  · exact hres _ (EnableTarget.branch.inj h)
  · exact hres _ (EnableTarget.accReset.inj h)

section

variable {s : State} {k : Nat} (hm : s.mayStart k 1 = true) (h9 : s.thyme.ctxs.length = 9)

/-- The effect of an ENABLE in the state in which its step starts. -/
def enableRun (s : State) (k : Nat) (ts : List EnableTarget) (on : Bool) : State :=
  let t := ((ts.foldl (fun s e => s.switch k on e) s).onCtx k fun c => { c with held := heldAfter c.held ts on }).mirrored .grants
  if (t.ctx k).busWait = [] then t.next k else t

include hm h9 in
theorem execEnable_eq {ctx : U8} (hk : ctx.toNat = k) :
    exec (.enable ctx) s = .next (
      let u := s.firstTick k
      let on := stepVal (u.word k)
      let ts := enableTargets (u.word k) (instOf k) (u.strideOf k)
      if ts.any fun t => !permitted (u.permitOf k) t then (entered s k 1).abort k 6 0
      else if on && ts.any u.heldOff then (entered s k 1).abort k 1 0
      else enableRun (entered s k 1) k ts on) := by
  subst hk
  have hl := firstTick_ctxs hm h9
  show execEnable ctx s = _
  unfold execEnable
  dsimp only
  rw [startStep_eq hm, entered_word hl, entered_stride hl, entered_permit hl, entered_heldOff]
  rfl

/-- The step's start changes no target's level, nor what an ENABLE gives it. -/
theorem entered_switching (s : State) (k op : Nat) :
    enableLevel (entered s k op) = enableLevel (s.firstTick k) ∧ (∀ on, switched (entered s k op) on = switched (s.firstTick k) on) ∧ ∀ on r, ToWrite (entered s k op) on r ↔ ToWrite (s.firstTick k) on r := by
  have hlevel : enableLevel (entered s k op) = enableLevel (s.firstTick k) := by
    funext e
    cases e <;> simp only [enableLevel, entered_rail, entered_sage]
  have hoffs : (entered s k op).thyme.offsNow = (s.firstTick k).thyme.offsNow := by rw [entered_thyme]
  have hrise : mayRise (entered s k op) = mayRise (s.firstTick k) := by
    funext e
    cases e <;> simp only [mayRise, entered_acc]
  exact ⟨hlevel, fun on => funext fun e => by simp only [switched, hlevel, hoffs, hrise], fun on r => by simp only [ToWrite, entered_rail, hoffs]⟩

/-- The ENABLE of targets that are permitted and not held off. -/
theorem enableRun_spec {v : State} {k : Nat} {ts : List EnableTarget} (on : Bool) (hk : k < v.thyme.ctxs.length) (hl : v.sage.rails.length = 192) (hts : ∀ e ∈ ts, InRange e) (hnd : ts.Nodup)
    (hb : (v.ctx k).busWait = []) (hd : v.thyme.emergencyDue = none) (ho : (v.ctx k).offTaken = false) :
    let t := enableRun v k ts on
    (∀ e ∈ ts, enableLevel t e = switched v on e) ∧ (∀ e, e ∉ ts → enableLevel t e = enableLevel v e) ∧ (∀ r, .rail r ∉ ts → t.rail r = v.rail r) ∧ (t.ctx k).held = heldAfter (v.ctx k).held ts on ∧
      Within [.thyme, .sage, .pair] v t ∧
      ((∀ r, ¬(.rail r ∈ ts ∧ ToWrite v on r)) → t.ctx k = { (v.ctx k).goesTo ((v.ctx k).idx + 1) v.gt with held := heldAfter (v.ctx k).held ts on }) ∧
      ((∃ r, .rail r ∈ ts ∧ ToWrite v on r) → (t.ctx k).inStep = (v.ctx k).inStep ∧ ∀ r, r ∈ (t.ctx k).busWait ↔ .rail r ∈ ts ∧ ToWrite v on r) := by
  intro t
  have h := switches_spec on hts hnd hk hl
  generalize hf : ts.foldl (fun s e => s.switch k on e) v = f at h
  have hkf : k < f.thyme.ctxs.length := by rw [h.keeps.ctxs]; exact hk
  generalize hw : (f.onCtx k fun c => { c with held := heldAfter c.held ts on }).mirrored .grants = w
  have ht : t = if (w.ctx k).busWait = [] then w.next k else w := by
    rw [← hw, ← hf]
    rfl
  have hq : Quiet (f.onCtx k fun c => { c with held := heldAfter c.held ts on }) w := hw ▸ mirrored_quiet _ _
  have hwc : w.ctx k = { v.ctx k with busWait := (f.ctx k).busWait, held := heldAfter (v.ctx k).held ts on } := by
    rw [hq.ctx, ctx_onCtx hkf, h.keeps.ctx]
  have hws : w.sage = f.sage := hw ▸ State.mirrored_sage ..
  have hww : Within [.thyme, .sage, .pair] v w := (h.keeps.within.mono rfl).trans (.trans (t := f.onCtx k fun c => { c with held := heldAfter c.held ts on }) rfl (hw ▸ mirrored_within ..))
  have hwd : w.thyme.emergencyDue = none := by
    rw [hq.thyme]
    have hfd : f.thyme.emergencyDue = none := (congrArg ThymeState.emergencyDue h.keeps.thyme).trans hd
    exact hfd
  have hkw : k < w.thyme.ctxs.length := by
    rw [hq.thyme]
    exact (onCtx_ctxs_length f k _).symm ▸ hkf
  obtain ⟨hn, hnw, -, -⟩ := next_ctx hkw hwd (by rw [hwc]; exact ho)
  have hns : (w.next k).sage = w.sage := hnw.reads State.sage fun _ => rfl
  have hgt : w.gt = v.gt := hww.reads State.gt fun _ => rfl
  have hts' : t.sage = f.sage := by
    rw [ht]
    split
    · exact hns.trans hws
    · exact hws
  have hlevel : enableLevel t = enableLevel f := by
    funext e
    cases e <;> simp only [enableLevel, State.rail, hts']
  have hwait : ∀ r, r ∈ (f.ctx k).busWait ↔ .rail r ∈ ts ∧ ToWrite v on r := fun r => by
    rw [h.waits, hb]
    simp
  refine ⟨fun e he => by rw [hlevel, h.level e he], fun e he => by rw [hlevel, h.others e he], fun r hr => by rw [State.rail, hts']; exact h.rails r hr, ?_, ?_, fun hno => ?_, fun ⟨r, hr⟩ => ?_⟩
  · rw [ht]
    split
    · rw [hn, hwc]
      rfl
    · rw [hwc]
  · rw [ht]
    split
    · exact hww.trans (hnw.mono rfl)
    · exact hww
  · have hnil : (w.ctx k).busWait = [] := by
      rw [hwc]
      exact List.eq_nil_iff_forall_not_mem.mpr fun r hr => hno r ((hwait r).mp hr)
    rw [ht, if_pos hnil, hn, hwc, hgt]
    rfl
  · have hsome : (w.ctx k).busWait ≠ [] := by
      rw [hwc]
      exact List.ne_nil_of_mem ((hwait r).mpr hr)
    rw [ht, if_neg hsome, hwc]
    exact ⟨rfl, hwait⟩

end

end Sys2Proof.Proofs
end

section
/-! SUPPORT. VSET, and the abort of a step whose target a latch holds off. -/

namespace Sys2Proof.Proofs

open Sys2Proof Sys2Proof.Machine

/-! ## VSET (06 R150) -/

/-- The bus of a rail's setpoint write. -/
def vsetBus (s : State) (avs : Bool) (r : Nat) : Option Nat := if avs then some (12 + (s.rail r).map.avs % 8) else (s.rail r).map.pmBus

/-- The setpoint of a rail, clamped to the limit block. -/
def clampedMv (s : State) (mv r : Nat) : Nat := min mv (s.railLimit r).vsetMax

/-- A rail's nominal setpoint is noted. -/
def nominalNoted (s : State) (mv c : Nat) : State := s.onRail c fun r => { r with nominal := some (clampedMv s mv c) }

/-- The write of a rail's setpoint. -/
def setpointWrite (s : State) (k mv c : Nat) : BusWrite := { rail := c, kind := .setpoint (clampedMv s mv c), owner := .thyme k }

/-- One rail's setpoint is noted, and its write queued. -/
def setpointDue (s : State) (k mv : Nat) (avs : Bool) (c : Nat) : State :=
  match vsetBus s avs c with
  | some b => ((nominalNoted s mv c).busWrite b (setpointWrite s k mv c)).onCtx k fun x => { x with busWait := c :: x.busWait }
  | none => s

theorem onRail_length (s : State) (c : Nat) (f : Rail → Rail) : (s.onRail c f).sage.rails.length = s.sage.rails.length := length_modAt s.sage.rails c f

theorem nominalNoted_sage (s : State) (mv c : Nat) : (nominalNoted s mv c).sage = { s.sage with rails := (nominalNoted s mv c).sage.rails } := rfl

theorem nominalNoted_spec {s : State} (mv : Nat) {c : Nat} (hc : c < s.sage.rails.length) :
    let t := nominalNoted s mv c
    (∀ r, r ≠ c → t.rail r = s.rail r) ∧ (t.rail c).nominal = some (clampedMv s mv c) ∧ t.sage.rails.length = s.sage.rails.length := by
  intro t
  have h := rail_onRail hc fun r => { r with nominal := some (clampedMv s mv c) }
  exact ⟨fun r hr => (h r).trans (if_neg hr), congrArg Rail.nominal ((h c).trans (if_pos rfl)), onRail_length s c _⟩

/-- A queue with one more write; on an idle AVSBus it starts at once. -/
def queuedOn (b gt : Nat) (w : BusWrite) (q : List BusWrite) : List BusWrite := q ++ [if 12 ≤ b ∧ q = [] then { w with started := some gt } else w]

theorem busWrite_sage (s : State) (b : Nat) (w : BusWrite) : (s.busWrite b w).sage = { s.sage with buses := modAt s.sage.buses b (queuedOn b s.gt w) } := rfl

/-- A write goes to the end of its bus's queue. -/
theorem busWrite_queues (s : State) (b : Nat) (w : BusWrite) :
    (s.busWrite b w).sage.buses.length = s.sage.buses.length ∧ (∀ j, ∀ x ∈ nth s.sage.buses j, x ∈ nth (s.busWrite b w).sage.buses j) ∧
      (b < s.sage.buses.length → ∃ x ∈ nth (s.busWrite b w).sage.buses b, x.rail = w.rail ∧ x.kind = w.kind ∧ x.owner = w.owner) := by
  rw [busWrite_sage]
  dsimp only
  refine ⟨length_modAt .., fun j x hx => ?_, fun hb => ?_⟩
  · rw [nth_modAt]
    split
    · exact List.mem_append_left _ hx
    · exact hx
  · rw [nth_modAt, if_pos ⟨rfl, hb⟩]
    exact ⟨_, List.mem_append_right _ (List.mem_singleton_self _), by split <;> rfl, by split <;> rfl, by split <;> rfl⟩

/-- What a VSET of the rails `rs` by context k leaves. -/
structure SetpointsDue (k mv : Nat) (avs : Bool) (rs : List Nat) (s t : State) : Prop where
  within : Within [.thyme, .sage] s t
  sage : t.sage = { s.sage with rails := t.sage.rails, buses := t.sage.buses }
  thyme : t.thyme = { s.thyme with ctxs := t.thyme.ctxs }
  rails : t.sage.rails.length = s.sage.rails.length
  buses : t.sage.buses.length = s.sage.buses.length
  ctxs : t.thyme.ctxs.length = s.thyme.ctxs.length
  ctx : t.ctx k = { s.ctx k with busWait := (t.ctx k).busWait }
  others : ∀ r, r ∉ rs → t.rail r = s.rail r
  nominal : ∀ r ∈ rs, ∀ b, vsetBus s avs r = some b → (t.rail r).nominal = some (clampedMv s mv r)
  waits : ∀ r, r ∈ (t.ctx k).busWait ↔ r ∈ (s.ctx k).busWait ∨ (r ∈ rs ∧ vsetBus s avs r ≠ none)
  kept : ∀ b, ∀ x ∈ nth s.sage.buses b, x ∈ nth t.sage.buses b
  queued : ∀ r ∈ rs, ∀ b, vsetBus s avs r = some b → b < s.sage.buses.length → ∃ x ∈ nth t.sage.buses b, x.rail = r ∧ x.kind = .setpoint (clampedMv s mv r) ∧ x.owner = .thyme k

theorem setpointDue_spec {s : State} {k c : Nat} (mv : Nat) (avs : Bool) (hk : k < s.thyme.ctxs.length) (hc : c < s.sage.rails.length) : SetpointsDue k mv avs [c] s (setpointDue s k mv avs c) := by
  unfold setpointDue
  cases hb : vsetBus s avs c with
  | none =>
    refine ⟨rfl, rfl, rfl, rfl, rfl, rfl, rfl, fun _ _ => rfl, fun r hr b h => ?_, fun r => ⟨.inl, fun h => h.elim id fun h => ?_⟩, fun _ _ h => h, fun r hr b h => ?_⟩
    · rw [List.mem_singleton.mp hr, hb] at h
      exact nomatch h
    · rw [List.mem_singleton.mp h.1, hb] at h
      exact absurd rfl h.2
    · rw [List.mem_singleton.mp hr, hb] at h
      exact nomatch h
  | some b =>
    dsimp only
    obtain ⟨hother, hnom, hlen⟩ := nominalNoted_spec mv hc
    have hs := nominalNoted_sage s mv c
    have hw : Within [.sage] s (nominalNoted s mv c) := rfl
    generalize nominalNoted s mv c = v at hother hnom hlen hs hw
    have hbus : v.sage.buses = s.sage.buses := by rw [hs]
    obtain ⟨hql, hkept, hin⟩ := busWrite_queues v b (setpointWrite s k mv c)
    rw [hbus] at hql hkept hin
    have hpr : (v.busWrite b (setpointWrite s k mv c)).sage.rails = v.sage.rails := rfl
    have hps : (v.busWrite b (setpointWrite s k mv c)).sage = { s.sage with rails := (v.busWrite b (setpointWrite s k mv c)).sage.rails, buses := (v.busWrite b (setpointWrite s k mv c)).sage.buses } := by rw [busWrite_sage, hs]
    have hpw : Within [.sage] s (v.busWrite b (setpointWrite s k mv c)) := hw.trans rfl
    generalize v.busWrite b (setpointWrite s k mv c) = p at hql hkept hin hpr hps hpw
    have hpt : p.thyme = s.thyme := hpw.reads State.thyme fun _ => rfl
    have hrail : ∀ r, p.rail r = v.rail r := fun r => by rw [State.rail, hpr]; rfl
    have hctx : (p.onCtx k fun x => { x with busWait := c :: x.busWait }).ctx k = { s.ctx k with busWait := c :: (s.ctx k).busWait } := by
      rw [ctx_onCtx (by rw [hpt]; exact hk), State.ctx.eq_def, hpt]
      rfl
    refine ⟨(hpw.mono rfl).trans rfl, hps, by rw [← hpt]; rfl, ?_, hql, ?_, by rw [hctx], fun r hr => (hrail r).trans (hother r fun h => hr (List.mem_singleton.mpr h)), fun r hr b' _ => ?_, fun r => ?_, hkept,
      fun r hr b' hb' hlt => ?_⟩
    · exact (congrArg List.length hpr).trans hlen
    · exact (onCtx_ctxs_length ..).trans (congrArg (fun x => x.ctxs.length) hpt)
    · rw [List.mem_singleton.mp hr]
      exact (congrArg Rail.nominal (hrail c)).trans hnom
    · rw [hctx, List.mem_singleton]
      constructor
      · rintro (_ | ⟨_, h⟩)
        · exact .inr ⟨rfl, by rw [hb]; nofun⟩
        · exact .inl h
      · rintro (h | ⟨rfl, -⟩)
        · exact List.mem_cons_of_mem _ h
        · exact List.mem_cons_self ..
    · rw [List.mem_singleton.mp hr] at hb' ⊢
      obtain rfl := Option.some.inj (hb.symm.trans hb')
      exact hin hlt

theorem setpointsDue_spec {k : Nat} (mv : Nat) (avs : Bool) {rs : List Nat} (hnd : rs.Nodup) {s : State} (hk : k < s.thyme.ctxs.length) (hrs : ∀ r ∈ rs, r < s.sage.rails.length) :
    SetpointsDue k mv avs rs s (rs.foldl (fun s c => setpointDue s k mv avs c) s) := by
  induction rs generalizing s with
  | nil => exact ⟨rfl, rfl, rfl, rfl, rfl, rfl, rfl, fun _ _ => rfl, nofun, by simp, fun _ _ h => h, nofun⟩
  | cons c rs ih =>
    obtain ⟨hc, hnd⟩ := List.nodup_cons.mp hnd
    have h1 := setpointDue_spec mv avs hk (hrs c (List.mem_cons_self ..))
    have h2 := ih hnd (s := setpointDue s k mv avs c) (by rw [h1.ctxs]; exact hk) fun r hr => by rw [h1.rails]; exact hrs r (List.mem_cons_of_mem _ hr)
    rw [List.foldl_cons]
    generalize setpointDue s k mv avs c = v at h1 h2
    generalize List.foldl _ v rs = t at h2
    have hrest : ∀ r ∈ rs, v.rail r = s.rail r := fun r hr => h1.others r fun h => hc (List.mem_singleton.mp h ▸ hr)
    have hbus : ∀ r ∈ rs, vsetBus v avs r = vsetBus s avs r := fun r hr => by rw [vsetBus, hrest r hr]; rfl
    have hmv : ∀ r, clampedMv v mv r = clampedMv s mv r := fun r => by rw [clampedMv, State.railLimit, h1.sage]; rfl
    refine ⟨h1.within.trans h2.within, by rw [h2.sage, h1.sage], by rw [h2.thyme, h1.thyme], h2.rails.trans h1.rails, h2.buses.trans h1.buses, h2.ctxs.trans h1.ctxs, by rw [h2.ctx, h1.ctx], fun r hr => ?_,
      fun r hr b hb => ?_, fun r => ?_, fun b x hx => h2.kept b x (h1.kept b x hx), fun r hr b hb hlt => ?_⟩
    · rw [h2.others r fun h => hr (List.mem_cons_of_mem _ h), h1.others r fun h => hr (by rw [List.mem_singleton.mp h]; exact List.mem_cons_self ..)]
    · rcases List.mem_cons.mp hr with rfl | hr
      · rw [h2.others r hc, h1.nominal r (List.mem_singleton_self _) b hb]
      · rw [h2.nominal r hr b ((hbus r hr).trans hb), hmv]
    · rw [h2.waits, h1.waits, List.mem_singleton, List.mem_cons, or_assoc, or_and_right]
      exact or_congr Iff.rfl (or_congr Iff.rfl (and_congr_right fun hr => by rw [hbus r hr]))
    · rcases List.mem_cons.mp hr with rfl | hr
      · obtain ⟨x, hx, hx'⟩ := h1.queued r (List.mem_singleton_self _) b hb hlt
        exact ⟨x, h2.kept b x hx, hx'⟩
      · obtain ⟨x, hx, hx'⟩ := h2.queued r hr b ((hbus r hr).trans hb) (by rw [h1.buses]; exact hlt)
        exact ⟨x, hx, by rw [← hmv]; exact hx'⟩

theorem vsetRails_nodup (w inst stride : Nat) : (vsetRails w inst stride).Nodup :=
  List.Nodup.map (fun i j h => by unfold resolve at h; split at h <;> omega) List.nodup_range

/-- The effect of a VSET in the state in which its step starts. -/
def vsetRun (s : State) (k mv : Nat) (avs : Bool) (rs : List Nat) : State :=
  let t := rs.foldl (fun s c => setpointDue s k mv avs c) s
  if (t.ctx k).busWait = [] then t.next k else t

theorem execVset_eq {s : State} {k : Nat} {ctx : U8} (hm : s.mayStart k 2 = true) (h9 : s.thyme.ctxs.length = 9) (hk : ctx.toNat = k) :
    exec (.vset ctx) s = .next (
      let u := s.firstTick k
      let rs := vsetRails (u.word k) (instOf k) (u.strideOf k)
      if rs.any fun c => !permitted (u.permitOf k) (.rail c) then (entered s k 2).abort k 6 0
      else vsetRun (entered s k 2) k (bits (u.word k) 15 0) (stepVal (u.word k)) rs) := by
  subst hk
  have hl := firstTick_ctxs hm h9
  show execVset ctx s = _
  unfold execVset
  dsimp only
  rw [startStep_eq hm, entered_word hl, entered_stride hl, entered_permit hl]
  rfl

theorem vsetRun_spec {v : State} {k : Nat} {rs : List Nat} (mv : Nat) (avs : Bool) (hk : k < v.thyme.ctxs.length) (hrs : ∀ r ∈ rs, r < v.sage.rails.length) (hnd : rs.Nodup)
    (hb : (v.ctx k).busWait = []) (hd : v.thyme.emergencyDue = none) (ho : (v.ctx k).offTaken = false) :
    let t := vsetRun v k mv avs rs
    (∀ r ∈ rs, ∀ b, vsetBus v avs r = some b → (t.rail r).nominal = some (clampedMv v mv r) ∧ r ∈ (t.ctx k).busWait ∧
        (b < v.sage.buses.length → ∃ x ∈ nth t.sage.buses b, x.rail = r ∧ x.kind = .setpoint (clampedMv v mv r) ∧ x.owner = .thyme k)) ∧
      (∀ r, r ∉ rs → t.rail r = v.rail r) ∧ t.sage = { v.sage with rails := t.sage.rails, buses := t.sage.buses } ∧ Within [.thyme, .sage, .pair] v t ∧
      ((∃ r ∈ rs, vsetBus v avs r ≠ none) → (t.ctx k).inStep = (v.ctx k).inStep) ∧ ((∀ r ∈ rs, vsetBus v avs r = none) → t.ctx k = (v.ctx k).goesTo ((v.ctx k).idx + 1) v.gt) := by
  intro t
  have h := setpointsDue_spec mv avs hnd hk hrs
  generalize hf : rs.foldl (fun s c => setpointDue s k mv avs c) v = f at h
  have ht : t = if (f.ctx k).busWait = [] then f.next k else f := by
    rw [← hf]
    rfl
  obtain ⟨hn, hnw, -, -⟩ := next_ctx (v := f) (by rw [h.ctxs]; exact hk) ((congrArg ThymeState.emergencyDue h.thyme).trans hd) (by rw [h.ctx]; exact ho)
  have hns : (f.next k).sage = f.sage := hnw.reads State.sage fun _ => rfl
  have hts : t.sage = f.sage := by
    rw [ht]
    split
    · exact hns
    · rfl
  have hrail : ∀ r, t.rail r = f.rail r := fun r => by rw [State.rail, hts]; rfl
  have hwait : ∀ r, r ∈ (f.ctx k).busWait ↔ r ∈ rs ∧ vsetBus v avs r ≠ none := fun r => by
    rw [h.waits, hb]
    simp
  have hstay : (∃ r ∈ rs, vsetBus v avs r ≠ none) → t = f := fun ⟨r, hr, hne⟩ => ht.trans (if_neg (List.ne_nil_of_mem ((hwait r).mpr ⟨hr, hne⟩)))
  refine ⟨fun r hr b hrb => ⟨by rw [hrail]; exact h.nominal r hr b hrb, ?_, fun hlt => by rw [hts]; exact h.queued r hr b hrb hlt⟩, fun r hr => by rw [hrail]; exact h.others r hr, by rw [hts]; exact h.sage, ?_,
    fun hne => by rw [hstay hne, h.ctx], fun hno => ?_⟩
  · have hne : vsetBus v avs r ≠ none := by rw [hrb]; nofun
    rw [hstay ⟨r, hr, hne⟩]
    exact (hwait r).mpr ⟨hr, hne⟩
  · rw [ht]
    split
    · exact (h.within.mono rfl).trans (hnw.mono rfl)
    · exact h.within.mono rfl
  · have hnil : (f.ctx k).busWait = [] := List.eq_nil_iff_forall_not_mem.mpr fun r hr => by
      obtain ⟨hr, hne⟩ := (hwait r).mp hr
      exact hne (hno r hr)
    have hgt : f.gt = v.gt := h.within.reads State.gt fun _ => rfl
    rw [ht, if_pos hnil, hn, h.ctx, hgt]
    rfl

/-! ## A target that a latch holds off (06 R149, R165) -/

theorem trayAborts_reports (scope : Nat) (s : State) : Reports s (trayAborts scope s) := by
  have h := stopAll_reports s scope
  unfold trayAborts
  generalize s.stopAll scope = t at h ⊢
  exact h.trans (.onThyme rfl)

theorem abortSageRest_reports (scope kind k : Nat) (s : State) : Reports s (abortSageRest scope kind k s) := by
  unfold abortSageRest
  split
  · split
    · exact stop_reports s 0
    · exact trayAborts_reports scope s
  · exact (stop_reports s k).trans (Calm.guardNot (setAcc_calm ..)).reports

/-- A running context's abort with cause SAGE reports it. -/
theorem abort_held_report {s : State} {k : Nat} (hk : k < s.thyme.ctxs.length) (hr : s.runs k = true) (code : Nat) : ((s.abort k 1 code).ctx k).abortCause = 1 := by
  have h : ∀ scope, ((s.abortSage scope k).ctx k).abortCause = 1 := fun scope => by
    have hrep : report (s.abortSage scope k) k = (1, if 1 = 8 then 0 else (s.ctx k).abortCode) := by
      rw [abortSage_eq, hr, Bool.not_true, if_neg Bool.false_ne_true, (abortSageRest_reports ..).keeps, abortEvent_report hk]
    exact congrArg Prod.fst hrep
  exact h _

theorem abort_cause {s : State} {k : Nat} (hk : k < s.thyme.ctxs.length) (h9 : k < 9) {cause : Nat} (hc : cause ≠ 1) (code : Nat) : ((s.abort k cause code).ctx k).abortCause = cause :=
  congrArg Prod.fst (abort_report hk h9 hc code)

end Sys2Proof.Proofs
end

section
/-! SUPPORT. PG, LAUNCH and LAUNCH_TURN. -/

namespace Sys2Proof.Proofs

open Sys2Proof Sys2Proof.Machine

/-! ## PG (06 R155) -/

/-- A PG target is given its value, and no more of Thyme changes. -/
theorem setPg_spec (s : State) (k t : Nat) (on : Bool) :
    (s.setPg k t on).pgHigh t = on ∧ Within [.thyme, .trace, .rec_, .pair] s (s.setPg k t on) ∧ (s.setPg k t on).thyme = { s.thyme with pwrok := (s.setPg k t on).thyme.pwrok, trayPg := (s.setPg k t on).thyme.trayPg } := by
  unfold State.setPg
  have hth : ∀ v : State, ((v.traced 34 k (t + 256 * flag on)).mirrored .grants).thyme = v.thyme := fun v => by rw [State.mirrored_thyme, State.traced_thyme]
  refine ⟨?_, .trans (t := s.onThyme _) rfl (.trans (traced_within ..) (mirrored_within ..)), ?_⟩
  · unfold State.pgHigh
    dsimp only
    rw [hth]
    by_cases h : t < 8
    · rw [if_pos h]
      have hb := getLsbD_given (i := t) s.thyme.pwrok on h
      rw [if_pos rfl] at hb
      simpa only [State.onThyme, if_pos h] using hb
    · rw [if_neg h]
      simp only [State.onThyme, if_neg h]
  · dsimp only
    rw [hth]
    by_cases h : t < 8
    · simp only [State.onThyme, if_pos h]
    · simp only [State.onThyme, if_neg h]

theorem pgHigh_of_thyme {s t : State} (h : t.thyme = { s.thyme with ctxs := t.thyme.ctxs }) (x : Nat) : t.pgHigh x = s.pgHigh x := by
  unfold State.pgHigh
  rw [h]

/-- The step's target is switched, and the next step follows. -/
theorem setPg_next {s : State} {k : Nat} (hk : k < s.thyme.ctxs.length) (hd : s.thyme.emergencyDue = none) (ho : (s.ctx k).offTaken = false) (x : Nat) (on : Bool) :
    let t := (s.setPg k x on).next k
    t.pgHigh x = on ∧ t.ctx k = (s.ctx k).goesTo ((s.ctx k).idx + 1) s.gt ∧ Within [.thyme, .trace, .rec_, .pair] s t := by
  obtain ⟨hp, hw, ht⟩ := setPg_spec s k x on
  generalize s.setPg k x on = v at hp hw ht
  have hctxs : v.thyme.ctxs = s.thyme.ctxs := (congrArg ThymeState.ctxs ht).trans rfl
  have hc : v.ctx k = s.ctx k := congrArg (fun l => nth l k) hctxs
  obtain ⟨hn, hnw, hnt, -⟩ := next_ctx (v := v) (by rw [hctxs]; exact hk) ((congrArg ThymeState.emergencyDue ht).trans hd) (by rw [hc]; exact ho)
  refine ⟨(pgHigh_of_thyme hnt x).trans hp, ?_, hw.trans (hnw.mono rfl)⟩
  rw [hn, hc, hw.reads State.gt fun _ => rfl]

section

variable {s : State} {k : Nat}

theorem entered_pgTarget (hk : k < (s.firstTick k).thyme.ctxs.length) (op : Nat) : (entered s k op).pgTarget k = (s.firstTick k).pgTarget k := by
  unfold State.pgTarget
  rw [entered_word hk]

theorem entered_pgBlocker (s : State) (k op : Nat) : (entered s k op).pgBlocker = (s.firstTick k).pgBlocker := by
  funext x
  unfold State.pgBlocker
  simp only [entered_rail]

theorem entered_pgHigh (s : State) (k op x : Nat) : (entered s k op).pgHigh x = (s.firstTick k).pgHigh x := pgHigh_of_thyme (entered_thyme s k op) x

theorem entered_cut (hk : k < (s.firstTick k).thyme.ctxs.length) (op : Nat) : (entered s k op).cut k = (s.firstTick k).cut k := by
  unfold State.cut
  rw [entered_ctx hk, entered_thyme]
  rfl

/-- The effect of a PG step in the state in which it starts. -/
def pgRun (s : State) (k : Nat) : State :=
  let t := s.pgTarget k
  if !stepVal (s.word k) then (s.setPg k t false).next k
  else if (s.pgHigh t && (s.ctx k).resumed) || s.cut k then s.next k
  else
    match s.pgBlocker t with
    | none => (s.setPg k t true).next k
    | some c => s.traced 33 c t

theorem execPg_eq {ctx : U8} (hm : s.mayStart k 9 = true) (hk : ctx.toNat = k) : exec (.pg ctx) s = .next (pgRun (entered s k 9) k) := by
  subst hk
  show execPg ctx s = _
  unfold execPg
  dsimp only
  rw [startStep_eq hm]
  rfl

theorem pgRun_spec (hk : k < s.thyme.ctxs.length) (hcut : s.cut k = false) :
    let x := s.pgTarget k
    let t := pgRun s k
    let goes := t.ctx k = (s.ctx k).goesTo ((s.ctx k).idx + 1) s.gt
    Within [.thyme, .trace, .rec_, .pair] s t ∧ (stepVal (s.word k) = false → t.pgHigh x = false ∧ goes) ∧
      (stepVal (s.word k) = true → ((s.pgHigh x = true ∧ (s.ctx k).resumed = true) ∨ s.pgBlocker x = none) → t.pgHigh x = true ∧ goes) ∧
      (stepVal (s.word k) = true → (s.pgHigh x = false ∨ (s.ctx k).resumed = false) → s.pgBlocker x ≠ none → t.pgHigh x = s.pgHigh x ∧ t.ctx k = s.ctx k) := by
  intro x t goes
  obtain ⟨ho, hd⟩ := cut_false hcut
  obtain ⟨hn, hnw, hnt, -⟩ := next_ctx hk hd ho
  have hoff := setPg_next hk hd ho x
  have ht : t = pgRun s k := rfl
  unfold pgRun at ht
  dsimp only at ht
  cases hv : stepVal (s.word k) with
  | false =>
    obtain ⟨h1, h2, h3⟩ := hoff false
    rw [hv, Bool.not_false, if_pos rfl] at ht
    rw [show goes = (t.ctx k = _) from rfl, ht]
    exact ⟨h3, fun _ => ⟨h1, h2⟩, nofun, nofun⟩
  | true =>
    rw [hv, Bool.not_true, if_neg Bool.false_ne_true, hcut, Bool.or_false] at ht
    by_cases hr : (s.pgHigh x && (s.ctx k).resumed) = true
    · have hr' := Bool.and_eq_true_iff.mp hr
      rw [if_pos hr] at ht
      rw [show goes = (t.ctx k = _) from rfl, ht]
      refine ⟨hnw.mono rfl, nofun, fun _ _ => ⟨(pgHigh_of_thyme hnt x).trans hr'.1, hn⟩, fun _ h => ?_⟩
      rw [hr'.1, hr'.2] at h
      exact absurd h (by simp)
    · rw [if_neg hr] at ht
      have hnot : ¬(s.pgHigh x = true ∧ (s.ctx k).resumed = true) := fun h => hr (Bool.and_eq_true_iff.mpr h)
      cases hb : s.pgBlocker x with
      | none =>
        obtain ⟨h1, h2, h3⟩ := hoff true
        rw [show s.pgTarget k = x from rfl, hb] at ht
        rw [show goes = (t.ctx k = _) from rfl, ht]
        exact ⟨h3, nofun, fun _ _ => ⟨h1, h2⟩, fun _ _ h => absurd rfl h⟩
      | some c =>
        rw [show s.pgTarget k = x from rfl, hb] at ht
        rw [ht]
        refine ⟨traced_within .., nofun, fun _ h => h.elim (fun h => absurd h hnot) nofun, fun _ _ _ => ⟨?_, (traced_quiet ..).ctx k⟩⟩
        unfold State.pgHigh
        rw [State.traced_thyme]

end

/-! ## LAUNCH (06 R157) -/

/-- The program that a launch of an accelerator starts. -/
def launchProg (s : State) (down : Bool) (n : Nat) : Nat := if down then s.thyme.set.mirror (nth s.thyme.set.accUp n) else nth s.thyme.set.accUp n

/-- Power-up programs of accelerators are of their kind, and so are their mirror programs. -/
def Launchable (s : State) : Prop := ∀ n, n < 8 → nth s.thyme.set.accUp n ≠ 255 → s.thyme.set.kind (nth s.thyme.set.accUp n) = 3 ∧ s.thyme.set.kind (s.thyme.set.mirror (nth s.thyme.set.accUp n)) = 4

/-- What launches leave: a running context stays as it is. -/
structure Launched (s t : State) : Prop where
  gt : t.gt = s.gt
  set : t.thyme.set = s.thyme.set
  due : t.thyme.emergencyDue = s.thyme.emergencyDue
  ctxs : t.thyme.ctxs.length = s.thyme.ctxs.length
  accs : t.thyme.accs.length = s.thyme.accs.length
  running : ∀ j, s.runs j = true → t.ctx j = s.ctx j

namespace Launched

variable {s t u : State}

theorem refl (s : State) : Launched s s := ⟨rfl, rfl, rfl, rfl, rfl, fun _ _ => rfl⟩

theorem runs (h : Launched s t) {j : Nat} (hj : s.runs j = true) : t.runs j = true := by
  unfold State.runs
  rw [h.running j hj]
  exact hj

theorem trans (h : Launched s t) (h' : Launched t u) : Launched s u :=
  ⟨h'.gt.trans h.gt, h'.set.trans h.set, h'.due.trans h.due, h'.ctxs.trans h.ctxs, h'.accs.trans h.accs, fun j hj => (h'.running j (h.runs hj)).trans (h.running j hj)⟩

end Launched

/-- The first tick of another context's program changes no context but that one, and of an accelerator's program no other accelerator. -/
theorem startNow_beside {s : State} {n : Nat} (hk : n + 1 < s.thyme.ctxs.length) (prog idx : Nat) :
    let t := s.startNow (n + 1) prog idx
    t.gt = s.gt ∧ t.thyme.set = s.thyme.set ∧ t.thyme.emergencyDue = s.thyme.emergencyDue ∧ t.thyme.ctxs.length = s.thyme.ctxs.length ∧ t.thyme.accs.length = s.thyme.accs.length ∧
      (∀ j, j ≠ n + 1 → t.ctx j = s.ctx j) ∧ (s.thyme.set.kind prog = 3 ∨ s.thyme.set.kind prog = 4 → ∀ m, m ≠ n → t.acc m = s.acc m) := by
  intro t
  have hb := begin_ctx hk prog idx s.gt .fresh
  have hstart : ((s.begin (n + 1) prog idx s.gt .fresh).ctx (n + 1)).starting = some .fresh := by rw [hb]; rfl
  have hst : Steady (unstarted (s.begin (n + 1) prog idx s.gt .fresh) (n + 1)) t := firstTick_steady hstart
  have hq : Quiet ((unstarted (s.begin (n + 1) prog idx s.gt .fresh) (n + 1)).enterKind (n + 1)) t := firstTick_quiet hstart
  have hc : Calm (s.begin (n + 1) prog idx s.gt .fresh) t := firstTick_calm ..
  generalize hu : unstarted (s.begin (n + 1) prog idx s.gt .fresh) (n + 1) = u at hst hq
  have huctx : ∀ j, j ≠ n + 1 → u.ctx j = s.ctx j := fun j hj => by
    rw [← hu, unstarted, ctx_onCtx_ne hj.symm, State.begin, ctx_onCtx_ne hj.symm]
  have hprog : (u.ctx (n + 1)).prog = some prog := by
    rw [← hu, unstarted, ctx_onCtx (by rw [State.begin, onCtx_ctxs_length]; exact hk), hb]
    rfl
  have hset : u.thyme.set = s.thyme.set := hu ▸ rfl
  have hdue : u.thyme.emergencyDue = s.thyme.emergencyDue := hu ▸ rfl
  have haccs : u.thyme.accs = s.thyme.accs := hu ▸ rfl
  have hgt : u.gt = s.gt := hu ▸ rfl
  have hlen : (s.begin (n + 1) prog idx s.gt .fresh).thyme.ctxs.length = s.thyme.ctxs.length := onCtx_ctxs_length ..
  refine ⟨hst.gt.trans hgt, (hst.reads ThymeState.set fun _ _ _ _ _ _ => rfl).trans hset, (hst.reads ThymeState.emergencyDue fun _ _ _ _ _ _ => rfl).trans hdue, hc.ctxs.trans hlen, hc.accs.trans rfl,
    fun j hj => (hst.ctx j).trans (huctx j hj), fun hkind m hm => ?_⟩
  have hk' : u.runKind (n + 1) = s.thyme.set.kind prog := by
    unfold State.runKind
    rw [hprog, hset]
  have hput : ∀ (v : State) (a : AccState), v.thyme.accs = s.thyme.accs → (v.setAcc n a).acc m = s.acc m := fun v a hv => by
    unfold State.acc
    rw [(setAcc_quiet v n a).thyme]
    show nth (v.thyme.accs.set n a) m = _
    rw [nth_set, if_neg fun h => hm h.1.symm, hv]
  have hacc : (u.enterKind (n + 1)).acc m = s.acc m := by
    unfold State.enterKind
    rcases hkind with h | h
    · rw [hk', h]
      exact hput u .up haccs
    · rw [hk', h]
      exact hput u.dropMargins .down haccs
  unfold State.acc
  rw [hq.thyme]
  exact hacc

/-- What the launch of an accelerator whose context is idle leaves. -/
theorem launch_spec {s : State} {n : Nat} (down : Bool) (h9 : s.thyme.ctxs.length = 9) (h8 : s.thyme.accs.length = 8) (hn : n < 8) (hidle : s.runs (n + 1) = false) :
    let t := s.launch down n
    Launched s t ∧ (t.ctx (n + 1)).prog = some (launchProg s down n) ∧ (∀ j, j ≠ n + 1 → t.ctx j = s.ctx j) ∧
      (s.thyme.set.kind (launchProg s down n) = 3 ∨ s.thyme.set.kind (launchProg s down n) = 4 → ∀ m, m ≠ n → t.acc m = s.acc m) := by
  intro t
  have hk : n + 1 < s.thyme.ctxs.length := by omega
  obtain ⟨hprog, -⟩ := startIn_spec hk h8 (by omega) (launchProg s down n) (s.thyme.set.first (launchProg s down n))
  have hq : Quiet (s.startIn (n + 1) (launchProg s down n) (s.thyme.set.first (launchProg s down n))) t := traced_quiet ..
  have hin : ∀ v, v = s.startIn (n + 1) (launchProg s down n) (s.thyme.set.first (launchProg s down n)) → v.gt = s.gt ∧ v.thyme.set = s.thyme.set ∧ v.thyme.emergencyDue = s.thyme.emergencyDue ∧
      v.thyme.ctxs.length = s.thyme.ctxs.length ∧ v.thyme.accs.length = s.thyme.accs.length ∧ (∀ j, j ≠ n + 1 → v.ctx j = s.ctx j) ∧
      (s.thyme.set.kind (launchProg s down n) = 3 ∨ s.thyme.set.kind (launchProg s down n) = 4 → ∀ m, m ≠ n → v.acc m = s.acc m) := fun v hv => by
    unfold State.startIn at hv
    split at hv
    · rw [hv]
      exact ⟨rfl, rfl, rfl, onCtx_ctxs_length .., rfl, fun j hj => ctx_onCtx_ne hj.symm _, fun _ _ _ => rfl⟩
    · rw [hv]
      exact startNow_beside hk _ _
  obtain ⟨hgt, hset, hdue, hctxs, haccs, hother, hacc⟩ := hin _ rfl
  generalize s.startIn (n + 1) _ _ = v at hprog hq hgt hset hdue hctxs haccs hother hacc
  have hth : t.thyme = v.thyme := hq.thyme
  have hc : ∀ j, t.ctx j = v.ctx j := hq.ctx
  refine ⟨⟨hq.gt.trans hgt, by rw [hth]; exact hset, by rw [hth]; exact hdue, by rw [hth]; exact hctxs, by rw [hth]; exact haccs, fun j hj => (hc j).trans (hother j ?_)⟩, by rw [hc]; exact hprog,
    fun j hj => (hc j).trans (hother j hj), fun h m hm => ?_⟩
  · rintro rfl
    rw [hidle] at hj
    exact nomatch hj
  · unfold State.acc
    rw [hth]
    exact hacc h m hm

/-- An eligible accelerator has a program and an idle context. -/
theorem eligible_iff {s : State} {down : Bool} {n : Nat} :
    s.eligible down n = true ↔ nth s.thyme.set.accUp n ≠ 255 ∧ s.runs (n + 1) = false ∧ s.acc n = (if down then .on else .off) := by
  simp only [State.eligible, Bool.and_eq_true, bne_iff_ne, Bool.not_eq_true', beq_iff_eq, and_assoc]

/-- The launches of the turns that have come. -/
def launches (s : State) (down : Bool) (l : List (Nat × Nat)) : State := l.foldl (fun s t => if s.eligible down t.1 then s.launch down t.1 else s) s

/-- Each eligible accelerator of the turns is launched. -/
theorem launches_spec (down : Bool) {l : List (Nat × Nat)} {s : State} (h9 : s.thyme.ctxs.length = 9) (h8 : s.thyme.accs.length = 8) (hlt : ∀ x ∈ l, x.1 < 8) (hkinds : Launchable s ∨ l.length ≤ 1) :
    Launched s (launches s down l) ∧ ∀ x ∈ l, s.eligible down x.1 = true → ((launches s down l).ctx (x.1 + 1)).prog = some (launchProg s down x.1) := by
  induction l generalizing s with
  | nil => exact ⟨.refl s, nofun⟩
  | cons y l ih =>
    have hlt' : ∀ x ∈ l, x.1 < 8 := fun x hx => hlt x (List.mem_cons_of_mem _ hx)
    have hshort : l.length ≤ 1 ∨ Launchable s := hkinds.elim .inr fun h => .inl (by rw [List.length_cons] at h; omega)
    by_cases hy : s.eligible down y.1 = true
    · have hv : launches s down (y :: l) = launches (s.launch down y.1) down l := by
        unfold launches
        rw [List.foldl_cons, if_pos hy]
      rw [hv]
      obtain ⟨hup, hidle, hat⟩ := eligible_iff.mp hy
      have hy8 := hlt y (List.mem_cons_self ..)
      obtain ⟨h1, hprog, hother, hacc⟩ := launch_spec down h9 h8 hy8 hidle
      generalize s.launch down y.1 = v at h1 hprog hother hacc
      have hsame : ∀ n, launchProg v down n = launchProg s down n := fun n => by rw [launchProg, h1.set]; rfl
      obtain ⟨h2, hall⟩ := ih (s := v) (h1.ctxs.trans h9) (h1.accs.trans h8) hlt' (hshort.symm.imp (fun h => by rw [Launchable, h1.set]; exact h) id)
      refine ⟨h1.trans h2, fun x hx hel => ?_⟩
      by_cases hxy : x.1 = y.1
      · rw [hxy, h2.running _ (by rw [State.runs, hprog]; rfl), hprog]
      · have hxl : x ∈ l := (List.mem_cons.mp hx).resolve_left fun h => hxy (h ▸ rfl)
        have hla : Launchable s := hkinds.resolve_right fun h => by
          have := List.length_pos_of_mem hxl
          rw [List.length_cons] at h
          omega
        have hkind : s.thyme.set.kind (launchProg s down y.1) = 3 ∨ s.thyme.set.kind (launchProg s down y.1) = 4 := by
          obtain ⟨h3, h4⟩ := hla y.1 hy8 hup
          unfold launchProg
          cases down
          · exact .inl h3
          · exact .inr h4
        obtain ⟨gup, gidle, gat⟩ := eligible_iff.mp hel
        have hstill : v.eligible down x.1 = true := by
          refine eligible_iff.mpr ⟨by rw [h1.set]; exact gup, ?_, (hacc hkind x.1 hxy).trans gat⟩
          rw [State.runs, hother _ fun h => hxy (Nat.succ.inj h)]
          exact gidle
        rw [hall x hxl hstill, hsame]
    · have hv : launches s down (y :: l) = launches s down l := by
        unfold launches
        rw [List.foldl_cons, if_neg hy]
      rw [hv]
      obtain ⟨h2, hall⟩ := ih h9 h8 hlt' (hshort.symm)
      exact ⟨h2, fun x hx hel => hall x ((List.mem_cons.mp hx).resolve_left fun h => hy (h ▸ hel)) hel⟩

/-- The turns that have come. -/
def dueTurns (s : State) (k : Nat) : List (Nat × Nat) := (s.ctx k).launches.filter fun t => decide (t.2 ≤ s.gt)

/-- The turns still to come. -/
def laterTurns (s : State) (k : Nat) : List (Nat × Nat) := (s.ctx k).launches.filter fun t => decide (s.gt < t.2)

/-- The turns that have come leave the context's list. -/
def turnsTaken (s : State) (k : Nat) : State := s.onCtx k fun c => { c with launches := c.launches.filter fun t => decide (s.gt < t.2) }

theorem takeTurns_spec {s : State} {k : Nat} (h9 : s.thyme.ctxs.length = 9) (h8 : s.thyme.accs.length = 8) (hk : k < 9) (hr : s.runs k = true) (hcut : s.cut k = false) (hlt : ∀ x ∈ (s.ctx k).launches, x.1 < 8)
    (hkinds : Launchable s ∨ (dueTurns s k).length ≤ 1) :
    let t := s.takeTurns k
    (laterTurns s k = [] → t.ctx k = (s.ctx k).goesTo ((s.ctx k).idx + 1) s.gt) ∧ (laterTurns s k ≠ [] → t.ctx k = { s.ctx k with launches := laterTurns s k }) ∧
      ∀ x ∈ dueTurns s k, s.eligible (bit (s.word k) 56) x.1 = true → (t.ctx (x.1 + 1)).prog = some (launchProg s (bit (s.word k) 56) x.1) := by
  intro t
  obtain ⟨ho, hd⟩ := cut_false hcut
  have hkl : k < s.thyme.ctxs.length := by omega
  have hvc : (turnsTaken s k).ctx k = { s.ctx k with launches := laterTurns s k } := ctx_onCtx hkl _
  have hvl : (turnsTaken s k).thyme.ctxs.length = s.thyme.ctxs.length := onCtx_ctxs_length ..
  have hvo : ∀ j, k ≠ j → (turnsTaken s k).ctx j = s.ctx j := fun j h => ctx_onCtx_ne h _
  have hw : (turnsTaken s k).thyme = { s.thyme with ctxs := (turnsTaken s k).thyme.ctxs } := rfl
  have hg : (turnsTaken s k).gt = s.gt := rfl
  have ht : t = if ((launches (turnsTaken s k) (bit (s.word k) 56) (dueTurns s k)).ctx k).launches = [] then
      (launches (turnsTaken s k) (bit (s.word k) 56) (dueTurns s k)).next k
    else launches (turnsTaken s k) (bit (s.word k) 56) (dueTurns s k) := rfl
  generalize turnsTaken s k = v at hvc hvl hvo hw hg ht
  have hset : v.thyme.set = s.thyme.set := by rw [hw]
  have hvruns : ∀ j, v.runs j = s.runs j := fun j => by
    unfold State.runs
    by_cases h : k = j
    · rw [← h, hvc]
    · rw [hvo j h]
  have hel : ∀ n, v.eligible (bit (s.word k) 56) n = s.eligible (bit (s.word k) 56) n := fun n => by
    unfold State.eligible
    rw [hset, hvruns, State.acc.eq_def, hw]
    rfl
  obtain ⟨hl, hall⟩ := launches_spec (bit (s.word k) 56) (l := dueTurns s k) (s := v) (hvl.trans h9) (by rw [hw]; exact h8) (fun x hx => hlt x (List.mem_filter.mp hx).1)
    (hkinds.imp (fun h => by rw [Launchable, hset]; exact h) id)
  generalize launches v (bit (s.word k) 56) (dueTurns s k) = f at hl hall ht
  have hfc : f.ctx k = { s.ctx k with launches := laterTurns s k } := by rw [hl.running k ((hvruns k).trans hr), hvc]
  have hfd : f.thyme.emergencyDue = none := by
    rw [hl.due, hw]
    exact hd
  obtain ⟨hn, -, -, hno⟩ := next_ctx (v := f) (k := k) (by rw [hl.ctxs, hvl]; exact hkl) hfd (by rw [hfc]; exact ho)
  have hfl : (f.ctx k).launches = laterTurns s k := by rw [hfc]
  rw [hfl] at ht
  refine ⟨fun h => ?_, fun h => by rw [ht, if_neg h, hfc], fun x hx he => ?_⟩
  · rw [ht, if_pos h, hn, hfc, hl.gt, hg]
    rfl
  · have hne : x.1 + 1 ≠ k := by
      rintro rfl
      rw [(eligible_iff.mp he).2.1] at hr
      exact nomatch hr
    have hprog := hall x hx ((hel x.1).trans he)
    have hlp : launchProg v (bit (s.word k) 56) x.1 = launchProg s (bit (s.word k) 56) x.1 := by
      unfold launchProg
      rw [hset]
    rw [hlp] at hprog
    rw [ht]
    split
    · rw [hno _ hne, hprog]
    · exact hprog

end Sys2Proof.Proofs
end

section
/-! SUPPORT. The steps that switch, as commands. -/

namespace Sys2Proof.Proofs

open Sys2Proof Sys2Proof.Machine

section

variable {s : State} {ctx : U8} (h9 : s.thyme.ctxs.length = 9)

/-- A context with a step to start runs a program. -/
theorem mayStart_runs {k op : Nat} (h : s.mayStart k op = true) : s.runs k = true := by
  simp only [State.mayStart, State.stepDue, Bool.and_eq_true] at h
  obtain ⟨⟨⟨-, ⟨⟨⟨hp, -⟩, -⟩, -⟩⟩, -⟩, -⟩ := h
  exact hp

theorem entered_runs {k op : Nat} (h9 : s.thyme.ctxs.length = 9) (h : s.mayStart k op = true) : (entered s k op).runs k = true := by
  unfold State.runs
  rw [entered_ctx (firstTick_ctxs h h9)]
  show ((s.firstTick k).ctx k).prog.isSome = true
  rw [(firstTick_calm s k).prog]
  exact mayStart_runs h

include h9

/-! ## ENABLE -/

theorem enable_done (hl : s.sage.rails.length = 192) (hm : s.mayStart ctx.toNat 1 = true) (hcut : (s.firstTick ctx.toNat).cut ctx.toNat = false) :
    let k := ctx.toNat
    let u := s.firstTick k
    let on := stepVal (u.word k)
    let ts := enableTargets (u.word k) (instOf k) (u.strideOf k)
    let held := heldAfter (u.ctx k).held ts on
    ts.all (permitted (u.permitOf k)) = true → (on = true → ts.any u.heldOff = false) →
    Completes (.enable ctx) s fun t =>
      (∀ e ∈ ts, enableLevel t e = switched u on e) ∧ (∀ r, .rail r ∉ ts → t.rail r = u.rail r) ∧ (∀ e, e ∉ ts → enableLevel t e = enableLevel u e) ∧ (t.ctx k).held = held ∧ Within stepParts u t ∧
      ((∀ r, ¬(.rail r ∈ ts ∧ ToWrite u on r)) → t.ctx k = { (u.ctx k).goesTo ((u.ctx k).idx + 1) s.gt with held := held }) ∧
      ((∃ r, .rail r ∈ ts ∧ ToWrite u on r) → (t.ctx k).inStep = true ∧ ∀ r, r ∈ (t.ctx k).busWait ↔ .rail r ∈ ts ∧ ToWrite u on r) := by
  intro k u on ts held hperm hheld
  have hk := firstTick_ctxs hm h9
  obtain ⟨ho, hd⟩ := cut_false ((entered_cut hk 1).trans hcut)
  obtain ⟨hlevel, hsw, hwr⟩ := entered_switching s k 1
  have hall := List.all_eq_true.mp hperm
  have hrail : (entered s k 1).sage.rails.length = 192 := by rw [entered_sage, (firstTick_railsStay s k).1]; exact hl
  have hkE : k < (entered s k 1).thyme.ctxs.length := by rw [entered_ctxs]; exact hk
  have hc := entered_ctx hk 1
  obtain ⟨r1, r2, r3, r4, r5, r6, r7⟩ := enableRun_spec on hkE hrail (fun e he => inRange_of_permitted (hall e he)) (enableTargets_nodup (u.word k) (instOf k) (u.strideOf k)) (by rw [hc]; rfl) hd ho
  have hno : ¬(ts.any fun e => !permitted (u.permitOf k) e) = true := fun h => by
    obtain ⟨e, he, hne⟩ := List.any_eq_true.mp h
    rw [hall e he] at hne
    exact nomatch hne
  have hfree : ¬(on && ts.any u.heldOff) = true := fun h => by
    obtain ⟨hon, hany⟩ := Bool.and_eq_true_iff.mp h
    rw [hheld hon] at hany
    exact nomatch hany
  refine ⟨enableRun (entered s k 1) k ts on, ?_, fun e he => by rw [← hsw]; exact r1 e he, fun r hr => (r3 r hr).trans (entered_rail ..), fun e he => by rw [← hlevel]; exact r2 e he,
    by rw [r4, hc]; rfl, ((entered_within s k 1).mono rfl).trans (r5.mono rfl), fun h => ?_, fun ⟨r, hr⟩ => ?_⟩
  · rw [execEnable_eq hm h9 rfl]
    dsimp only
    rw [if_neg hno, if_neg hfree]
  · rw [r6 fun r hr => h r ⟨hr.1, (hwr on r).mp hr.2⟩, hc, entered_gt]
    rfl
  · obtain ⟨hin, hw⟩ := r7 ⟨r, hr.1, (hwr on r).mpr hr.2⟩
    refine ⟨by rw [hin, hc]; rfl, fun r => (hw r).trans (and_congr_right fun _ => hwr on r)⟩

theorem enable_barred (hm : s.mayStart ctx.toNat 1 = true) :
    let k := ctx.toNat
    let u := s.firstTick k
    (enableTargets (u.word k) (instOf k) (u.strideOf k)).all (permitted (u.permitOf k)) = false → Completes (.enable ctx) s fun t => (t.ctx k).abortCause = 6 := by
  intro k u hperm
  have hk : k < (entered s k 1).thyme.ctxs.length := by rw [entered_ctxs]; exact firstTick_ctxs hm h9
  refine ⟨_, (execEnable_eq hm h9 rfl).trans ?_, abort_cause hk (mayStart_lt hm) (by decide) 0⟩
  dsimp only
  rw [if_pos]
  rw [List.any_eq_not_all_not]
  simpa only [Bool.not_not, Bool.not_eq_true'] using hperm

theorem enable_heldOff (hm : s.mayStart ctx.toNat 1 = true) :
    let k := ctx.toNat
    let u := s.firstTick k
    let ts := enableTargets (u.word k) (instOf k) (u.strideOf k)
    ts.all (permitted (u.permitOf k)) = true → stepVal (u.word k) = true → ts.any u.heldOff = true → Completes (.enable ctx) s fun t => (t.ctx k).abortCause = 1 := by
  intro k u ts hperm hon hany
  have hk : k < (entered s k 1).thyme.ctxs.length := by rw [entered_ctxs]; exact firstTick_ctxs hm h9
  refine ⟨_, (execEnable_eq hm h9 rfl).trans ?_, abort_held_report hk (entered_runs h9 hm) 0⟩
  dsimp only
  rw [if_neg, if_pos]
  · exact Bool.and_eq_true_iff.mpr ⟨hon, hany⟩
  · rw [List.any_eq_not_all_not]
    simpa only [Bool.not_not, Bool.not_eq_true', Bool.not_eq_false] using hperm

/-! ## VSET -/

theorem vset_done (hl : s.sage.rails.length = 192) (hm : s.mayStart ctx.toNat 2 = true) (hcut : (s.firstTick ctx.toNat).cut ctx.toNat = false) :
    let k := ctx.toNat
    let u := s.firstTick k
    let avs := stepVal (u.word k)
    let mv := bits (u.word k) 15 0
    let rs := vsetRails (u.word k) (instOf k) (u.strideOf k)
    (∀ r ∈ rs, permitted (u.permitOf k) (.rail r) = true) →
    Completes (.vset ctx) s fun t =>
      (∀ r ∈ rs, ∀ b, vsetBus u avs r = some b → (t.rail r).nominal = some (clampedMv u mv r) ∧ r ∈ (t.ctx k).busWait ∧
        (b < s.sage.buses.length → ∃ x ∈ nth t.sage.buses b, x.rail = r ∧ x.kind = .setpoint (clampedMv u mv r) ∧ x.owner = .thyme k)) ∧
      (∀ r, r ∉ rs → t.rail r = u.rail r) ∧ t.sage = { u.sage with rails := t.sage.rails, buses := t.sage.buses } ∧ Within stepParts u t ∧
      ((∃ r ∈ rs, vsetBus u avs r ≠ none) → (t.ctx k).inStep = true) ∧ ((∀ r ∈ rs, vsetBus u avs r = none) → t.ctx k = (u.ctx k).goesTo ((u.ctx k).idx + 1) s.gt) := by
  intro k u avs mv rs hperm
  have hk := firstTick_ctxs hm h9
  obtain ⟨ho, hd⟩ := cut_false ((entered_cut hk 2).trans hcut)
  have hkE : k < (entered s k 2).thyme.ctxs.length := by rw [entered_ctxs]; exact hk
  have hc := entered_ctx hk 2
  have hrail : ∀ r ∈ rs, r < (entered s k 2).sage.rails.length := fun r hr => by
    rw [entered_sage, (firstTick_railsStay s k).1, hl]
    exact inRange_of_permitted (hperm r hr)
  have hbuses : (entered s k 2).sage.buses = s.sage.buses := by rw [entered_sage, (firstTick_railsStay s k).2]
  obtain ⟨r1, r2, r3, r4, r5, r6⟩ := vsetRun_spec mv avs hkE hrail (vsetRails_nodup (u.word k) (instOf k) (u.strideOf k)) (by rw [hc]; rfl) hd ho
  have hbus : ∀ r, vsetBus (entered s k 2) avs r = vsetBus u avs r := fun r => by simp only [vsetBus, entered_rail, u]
  have hmv : ∀ r, clampedMv (entered s k 2) mv r = clampedMv u mv r := fun r => by simp only [clampedMv, State.railLimit, entered_sage, u]
  simp only [hbus, hmv, hbuses] at r1 r5 r6
  refine ⟨vsetRun (entered s k 2) k mv avs rs, ?_, r1, fun r hr => (r2 r hr).trans (entered_rail ..), ?_, ((entered_within s k 2).mono rfl).trans (r4.mono rfl), fun h => by rw [r5 h, hc]; rfl, fun h => ?_⟩
  · rw [execVset_eq hm h9 rfl]
    dsimp only
    rw [if_neg]
    intro h
    obtain ⟨r, hr, hne⟩ := List.any_eq_true.mp h
    rw [hperm r hr] at hne
    exact nomatch hne
  · rw [r3, entered_sage]
  · rw [r6 h, hc, entered_gt]
    rfl

theorem vset_barred (hm : s.mayStart ctx.toNat 2 = true) :
    let k := ctx.toNat
    let u := s.firstTick k
    (∃ r ∈ vsetRails (u.word k) (instOf k) (u.strideOf k), permitted (u.permitOf k) (.rail r) = false) → Completes (.vset ctx) s fun t => (t.ctx k).abortCause = 6 := by
  intro k u ⟨r, hr, hne⟩
  have hk : k < (entered s k 2).thyme.ctxs.length := by rw [entered_ctxs]; exact firstTick_ctxs hm h9
  refine ⟨_, (execVset_eq hm h9 rfl).trans ?_, abort_cause hk (mayStart_lt hm) (by decide) 0⟩
  dsimp only
  rw [if_pos]
  exact List.any_eq_true.mpr ⟨r, hr, by rw [hne]; rfl⟩

/-! ## PG -/

theorem pg_done (hm : s.mayStart ctx.toNat 9 = true) (hcut : (s.firstTick ctx.toNat).cut ctx.toNat = false) :
    let k := ctx.toNat
    let u := s.firstTick k
    let c := u.ctx k
    let x := u.pgTarget k
    Completes (.pg ctx) s fun t =>
      Within stepParts u t ∧ t.sage = u.sage ∧ (stepVal (u.word k) = false → t.pgHigh x = false ∧ t.ctx k = c.goesTo (c.idx + 1) s.gt) ∧
      (stepVal (u.word k) = true → ((u.pgHigh x = true ∧ c.resumed = true) ∨ u.pgBlocker x = none) → t.pgHigh x = true ∧ t.ctx k = c.goesTo (c.idx + 1) s.gt) ∧
      (stepVal (u.word k) = true → (u.pgHigh x = false ∨ c.resumed = false) → u.pgBlocker x ≠ none → t.pgHigh x = u.pgHigh x ∧ t.ctx k = c.stays s.gt) := by
  intro k u c x
  have hk := firstTick_ctxs hm h9
  have hkE : k < (entered s k 9).thyme.ctxs.length := by rw [entered_ctxs]; exact hk
  obtain ⟨r1, r2, r3, r4⟩ := pgRun_spec hkE ((entered_cut hk 9).trans hcut)
  rw [entered_pgTarget hk, entered_word hk, entered_gt] at r2
  rw [entered_pgTarget hk, entered_word hk, entered_gt, entered_pgHigh, entered_pgBlocker] at r3
  rw [entered_pgTarget hk, entered_word hk, entered_pgHigh, entered_pgBlocker] at r4
  have hc : (entered s k 9).ctx k = c.stays s.gt := entered_ctx hk 9
  rw [hc] at r2 r3 r4
  have hw : Within [.thyme, .trace, .rec_, .pair] u (pgRun (entered s k 9) k) := (entered_within s k 9).trans r1
  exact ⟨_, execPg_eq hm rfl, hw.mono rfl, hw.reads State.sage fun _ => rfl, r2, r3, r4⟩

theorem pg_qualified (hw : s.waits ctx.toNat 9 = true) (hcut : s.cut ctx.toNat = false) (hb : s.pgBlocker (s.pgTarget ctx.toNat) = none)
    (hgt : s.gt ≤ (s.ctx ctx.toNat).stepTick + stepTmo (s.word ctx.toNat)) :
    Completes (.pgAssertQualified ctx) s fun t =>
      t.pgHigh (s.pgTarget ctx.toNat) = true ∧ t.ctx ctx.toNat = (s.ctx ctx.toNat).goesTo ((s.ctx ctx.toNat).idx + 1) s.gt ∧ t.sage = s.sage := by
  obtain ⟨ho, hd⟩ := cut_false hcut
  have hk : ctx.toNat < s.thyme.ctxs.length := by
    simp only [State.waits, Bool.and_eq_true, decide_eq_true_eq] at hw
    omega
  obtain ⟨h1, h2, h3⟩ := setPg_next hk hd ho (s.pgTarget ctx.toNat) true
  exact ⟨_, congrArg Host.Outcome.next (if_pos ⟨hw, hb, hgt⟩), h1, h2, h3.reads State.sage fun _ => rfl⟩

theorem pg_timeout (hw : s.waits ctx.toNat 9 = true) (hb : s.pgBlocker (s.pgTarget ctx.toNat) ≠ none) (hgt : (s.ctx ctx.toNat).stepTick + stepTmo (s.word ctx.toNat) ≤ s.gt) :
    Completes (.pgTimeout ctx) s fun t => (t.ctx ctx.toNat).abortCause = 4 := by
  have hk : ctx.toNat < 9 := by
    simp only [State.waits, Bool.and_eq_true, decide_eq_true_eq] at hw
    exact hw.1.1.1.1
  exact ⟨_, congrArg Host.Outcome.next (if_pos ⟨hw, Option.isSome_iff_ne_none.mpr hb, hgt⟩), abort_cause (by omega) hk (by decide) 0⟩

/-! ## LAUNCH -/

omit h9 in
theorem firstTick_set (s : State) (k : Nat) : (s.firstTick k).thyme.set = s.thyme.set := by
  cases h : (s.ctx k).starting with
  | none => rw [firstTick_none h]
  | some how => exact (firstTick_steady h).reads ThymeState.set fun _ _ _ _ _ _ => rfl

/-- The accelerators that a launch step names and may launch. -/
def launchList (s : State) (k : Nat) : List Nat := indices 8 fun n => bit (s.word k) (40 + n) && s.eligible (bit (s.word k) 56) n

/-- The turns of a launch step. -/
def launchTurns (s : State) (k : Nat) : List (Nat × Nat) := (launchList s k).mapIdx fun i n => (n, s.gt + i * stepTmo (s.word k))

/-- A launch step with its turns noted. -/
def turnsSet (s : State) (k : Nat) : State := s.onCtx k fun c => { c with launches := launchTurns s k }

omit h9 in
theorem launchTurns_cons {k n : Nat} {l : List Nat} (h : launchList s k = n :: l) : launchTurns s k = (n, s.gt) :: l.mapIdx fun i m => (m, s.gt + (i + 1) * stepTmo (s.word k)) := by
  unfold launchTurns
  rw [h, List.mapIdx_cons, Nat.zero_mul, Nat.add_zero]

omit h9 in
theorem mem_launchList {k n : Nat} (h : n ∈ launchList s k) : n < 8 ∧ s.eligible (bit (s.word k) 56) n = true := by
  obtain ⟨hn, hp⟩ := List.mem_filter.mp h
  exact ⟨List.mem_range.mp hn, (Bool.and_eq_true_iff.mp hp).2⟩

/-- The effect of a LAUNCH in the state in which its step starts, nothing cutting it short. -/
theorem launchRun_spec {k : Nat} (h8 : s.thyme.accs.length = 8) (hk : k < 9) (hr : s.runs k = true) (hcut : s.cut k = false) :
    let t := (turnsSet s k).takeTurns k
    let goes := t.ctx k = (s.ctx k).goesTo ((s.ctx k).idx + 1) s.gt
    (launchList s k = [] → goes) ∧
      (∀ n l, launchList s k = n :: l → (l = [] ∨ 0 < stepTmo (s.word k)) → (t.ctx (n + 1)).prog = some (launchProg s (bit (s.word k) 56) n) ∧ (l = [] → goes) ∧
        (l ≠ [] → t.ctx k = { s.ctx k with launches := l.mapIdx fun i m => (m, s.gt + (i + 1) * stepTmo (s.word k)) })) ∧
      (Launchable s → stepTmo (s.word k) = 0 → (∀ n ∈ launchList s k, (t.ctx (n + 1)).prog = some (launchProg s (bit (s.word k) 56) n)) ∧ goes) := by
  intro t goes
  have hvc : (turnsSet s k).ctx k = { s.ctx k with launches := launchTurns s k } := ctx_onCtx (by omega) _
  have hvo : ∀ j, k ≠ j → (turnsSet s k).ctx j = s.ctx j := fun j h => ctx_onCtx_ne h _
  have hvl : (turnsSet s k).thyme.ctxs.length = s.thyme.ctxs.length := onCtx_ctxs_length ..
  have hw : (turnsSet s k).thyme = { s.thyme with ctxs := (turnsSet s k).thyme.ctxs } := rfl
  have hg : (turnsSet s k).gt = s.gt := rfl
  have ht : t = (turnsSet s k).takeTurns k := rfl
  generalize turnsSet s k = v at hvc hvo hvl hw hg ht
  have hset : v.thyme.set = s.thyme.set := by rw [hw]
  have hvruns : ∀ j, v.runs j = s.runs j := fun j => by
    unfold State.runs
    by_cases h : k = j
    · rw [← h, hvc]
    · rw [hvo j h]
  have hel : v.eligible = s.eligible := by
    funext down n
    unfold State.eligible
    rw [hset, hvruns, State.acc.eq_def, hw]
    rfl
  have hword : v.word k = s.word k := by
    unfold State.word
    rw [hvc, hset]
  have hlp : launchProg v = launchProg s := by
    funext down n
    unfold launchProg
    rw [hset]
  have hvcut : v.cut k = false := by
    unfold State.cut at hcut ⊢
    rw [hvc, hw]
    exact hcut
  have hmem : ∀ x ∈ launchTurns s k, x.1 ∈ launchList s k := fun x hx => by
    obtain ⟨i, hi, rfl⟩ := List.mem_mapIdx.mp hx
    exact List.getElem_mem hi
  have hlt : ∀ x ∈ (v.ctx k).launches, x.1 < 8 := fun x hx => by
    rw [hvc] at hx
    exact (mem_launchList (hmem x hx)).1
  have hdue : dueTurns v k = (launchTurns s k).filter fun t => decide (t.2 ≤ s.gt) := by rw [dueTurns, hvc, hg]
  have hlater : laterTurns v k = (launchTurns s k).filter fun t => decide (s.gt < t.2) := by rw [laterTurns, hvc, hg]
  have hspec := takeTurns_spec (hvl.trans h9) (by rw [hw]; exact h8) hk ((hvruns k).trans hr) hvcut hlt
  have hla : Launchable v ↔ Launchable s := by rw [Launchable, hset]; rfl
  rw [← ht, hword, hel, hlp, hdue, hlater, hla, hvc, hg] at hspec
  refine ⟨fun hnil => ?_, fun n l hcons hl => ?_, fun hkinds hzero => ?_⟩
  · have hturns : launchTurns s k = [] := by rw [launchTurns, hnil, List.mapIdx_nil]
    rw [hturns] at hspec
    exact (hspec (.inr (Nat.zero_le _))).1 rfl
  · rw [launchTurns_cons hcons] at hspec
    have hrest : ∀ x ∈ l.mapIdx fun i m => (m, s.gt + (i + 1) * stepTmo (s.word k)), s.gt < x.2 := fun x hx => by
      obtain ⟨i, hi, rfl⟩ := List.mem_mapIdx.mp hx
      have hpos : 0 < stepTmo (s.word k) := hl.resolve_left fun h => by
        rw [h] at hi
        exact absurd hi (Nat.not_lt_zero _)
      exact Nat.lt_add_of_pos_right (Nat.mul_pos (Nat.succ_pos _) hpos)
    have hnone : (l.mapIdx fun i m => (m, s.gt + (i + 1) * stepTmo (s.word k))).filter (fun t => decide (t.2 ≤ s.gt)) = [] :=
      List.filter_eq_nil_iff.mpr fun x hx => by simpa using hrest x hx
    have hall : (l.mapIdx fun i m => (m, s.gt + (i + 1) * stepTmo (s.word k))).filter (fun t => decide (s.gt < t.2)) = l.mapIdx fun i m => (m, s.gt + (i + 1) * stepTmo (s.word k)) :=
      List.filter_eq_self.mpr fun x hx => decide_eq_true (hrest x hx)
    rw [List.filter_cons_of_pos (by simp), List.filter_cons_of_neg (by simp), hnone, hall] at hspec
    obtain ⟨hgoes, hstays, hlaunched⟩ := hspec (.inr (Nat.le_refl 1))
    refine ⟨hlaunched (n, s.gt) (List.mem_singleton_self _) (mem_launchList (hcons ▸ List.mem_cons_self ..)).2, fun h => hgoes ?_, fun h => hstays ?_⟩
    · rw [h, List.mapIdx_nil]
    · exact fun hn => h (List.mapIdx_eq_nil_iff.mp hn)
  · have hnow : ∀ x ∈ launchTurns s k, x.2 = s.gt := fun x hx => by
      obtain ⟨i, hi, rfl⟩ := List.mem_mapIdx.mp hx
      simp [hzero]
    have hnone : (launchTurns s k).filter (fun t => decide (s.gt < t.2)) = [] := List.filter_eq_nil_iff.mpr fun x hx => by simp [hnow x hx]
    have hall : (launchTurns s k).filter (fun t => decide (t.2 ≤ s.gt)) = launchTurns s k := List.filter_eq_self.mpr fun x hx => by simp [hnow x hx]
    rw [hnone, hall] at hspec
    obtain ⟨hgoes, -, hlaunched⟩ := hspec (.inl hkinds)
    refine ⟨fun n hn => ?_, hgoes rfl⟩
    obtain ⟨i, hi, rfl⟩ := List.getElem_of_mem hn
    exact hlaunched _ (List.mem_mapIdx.mpr ⟨i, hi, rfl⟩) (mem_launchList hn).2

theorem launch_done (h8 : s.thyme.accs.length = 8) (hm : s.mayStart ctx.toNat 11 = true) (hcut : (s.firstTick ctx.toNat).cut ctx.toNat = false) :
    let k := ctx.toNat
    let u := s.firstTick k
    let w := u.word k
    Completes (.launch ctx) s fun t =>
      let goes := t.ctx k = (u.ctx k).goesTo ((u.ctx k).idx + 1) s.gt
      (launchList u k = [] → goes) ∧
      (∀ n l, launchList u k = n :: l → (l = [] ∨ 0 < stepTmo w) → (t.ctx (n + 1)).prog = some (launchProg u (bit w 56) n) ∧ (l = [] → goes) ∧
        (l ≠ [] → t.ctx k = { (u.ctx k).stays s.gt with launches := l.mapIdx fun i m => (m, s.gt + (i + 1) * stepTmo w) })) ∧
      (Launchable s → stepTmo w = 0 → (∀ n ∈ launchList u k, (t.ctx (n + 1)).prog = some (launchProg u (bit w 56) n)) ∧ goes) := by
  intro k u w
  have hk := firstTick_ctxs hm h9
  have hc : (entered s k 11).ctx k = (u.ctx k).stays s.gt := entered_ctx hk 11
  have hword : (entered s k 11).word k = w := entered_word hk 11
  have hset : (entered s k 11).thyme.set = u.thyme.set := entered_set s k 11
  have hruns : ∀ j, (entered s k 11).runs j = u.runs j := fun j => by
    unfold State.runs
    by_cases h : k = j
    · rw [← h, hc]
      rfl
    · rw [entered_ctx_ne h]
  have hel : (entered s k 11).eligible = u.eligible := by
    funext down n
    unfold State.eligible
    rw [hset, hruns, entered_acc]
  have hlist : launchList (entered s k 11) k = launchList u k := by
    unfold launchList
    rw [hword, hel]
  have hlp : launchProg (entered s k 11) = launchProg u := by
    funext down n
    unfold launchProg
    rw [hset]
  have hla : Launchable (entered s k 11) ↔ Launchable s := by
    have hus : u.thyme.set = s.thyme.set := firstTick_set s k
    rw [Launchable, hset, hus]
    rfl
  have hctxs : (entered s k 11).thyme.ctxs.length = 9 := by rw [entered_ctxs, (firstTick_calm s k).ctxs, h9]
  have haccs : (entered s k 11).thyme.accs.length = 8 := by rw [entered_thyme]; exact (firstTick_calm s k).accs.trans h8
  have hspec := launchRun_spec hctxs haccs (mayStart_lt hm) (entered_runs h9 hm) ((entered_cut hk 11).trans hcut)
  rw [hword, hlist, hlp, hla, hc, entered_gt] at hspec
  refine ⟨(turnsSet (entered s k 11) k).takeTurns k, ?_, hspec⟩
  show execLaunch ctx s = _
  unfold execLaunch
  dsimp only
  rw [startStep_eq hm, (entered_cut hk 11).trans hcut, if_neg Bool.false_ne_true]
  rfl

theorem launchTurn_done {acc : U8} (h8 : s.thyme.accs.length = 8) (hw : s.waits 0 11 = true) (hcut : s.cut 0 = false) (hkinds : Launchable s) (hlt : ∀ x ∈ (s.ctx 0).launches, x.1 < 8)
    (hturn : ∃ g, (acc.toNat, g) ∈ (s.ctx 0).launches ∧ g ≤ s.gt) :
    Completes (.launchTurn acc) s fun t =>
      (∀ x ∈ (s.ctx 0).launches, x.2 ≤ s.gt → s.eligible (bit (s.word 0) 56) x.1 = true → (t.ctx (x.1 + 1)).prog = some (launchProg s (bit (s.word 0) 56) x.1)) ∧
      ((∀ x ∈ (s.ctx 0).launches, x.2 ≤ s.gt) → t.ctx 0 = (s.ctx 0).goesTo ((s.ctx 0).idx + 1) s.gt) ∧
      ((∃ x ∈ (s.ctx 0).launches, s.gt < x.2) → t.ctx 0 = { s.ctx 0 with launches := (s.ctx 0).launches.filter fun x => decide (s.gt < x.2) }) := by
  have hr : s.runs 0 = true := by
    simp only [State.waits, Bool.and_eq_true] at hw
    exact hw.1.1.2
  obtain ⟨hgoes, hstays, hlaunched⟩ := takeTurns_spec h9 h8 (by decide) hr hcut hlt (.inl hkinds)
  obtain ⟨g, hg, hle⟩ := hturn
  refine ⟨_, congrArg Host.Outcome.next (if_pos ⟨hw, List.any_eq_true.mpr ⟨_, hg, by simpa using hle⟩⟩), fun x hx hle hel => ?_, fun hall => hgoes ?_, fun ⟨x, hx, hlt⟩ => hstays ?_⟩
  · exact hlaunched x (List.mem_filter.mpr ⟨hx, decide_eq_true hle⟩) hel
  · exact List.filter_eq_nil_iff.mpr fun x hx => by simpa using hall x hx
  · exact List.ne_nil_of_mem (List.mem_filter.mpr ⟨hx, decide_eq_true hlt⟩)

end

end Sys2Proof.Proofs
end

section
/-! SUPPORT. The steps that switch, as a whole. -/

namespace Sys2Proof.Proofs

open Sys2Proof Sys2Proof.Machine

theorem completes_mono {c : Instr} {s : State} {P Q : State → Prop} (h : Completes c s P) (hPQ : ∀ t, P t → Q t) : Completes c s Q :=
  h.elim fun t ht => ⟨t, ht.1, hPQ t ht.2⟩

/-- Settles O22, from what each command does to the context, its targets and the accelerators it launches. -/
theorem thymeSwitchSteps : Obligations.thyme_switch_steps := by
  unfold Obligations.thyme_switch_steps
  intro s ctx h9 hl h8
  refine ⟨fun hcut => ⟨fun hm hperm hheld => ?_, fun hm => enable_barred h9 hm, fun hm => enable_heldOff h9 hm, fun hm hperm => ?_, fun hm => vset_barred h9 hm, fun hm => pg_done h9 hm hcut, fun hm => ?_⟩,
    fun hcut hw => ⟨fun hb hgt => pg_qualified h9 hw hcut hb hgt, fun hb hgt => pg_timeout h9 hw hb hgt⟩, fun acc hw hcut hkinds hlt hturn => launchTurn_done h9 h8 hw hcut hkinds hlt hturn⟩
  · refine completes_mono (enable_done h9 hl hm hcut hperm hheld) fun t ⟨hlevel, hrails, hothers, hheld, hwithin, hgoes, hwaits⟩ => ?_
    refine ⟨fun e he => (hlevel e he).trans ?_, hrails, fun b hb => hothers (.branch b) hb, fun n hn => hothers (.accReset n) hn, hheld, hwithin, hgoes, hwaits⟩
    cases e <;> rfl
  · exact vset_done h9 hl hm hcut hperm
  · exact launch_done h9 h8 hm hcut

end Sys2Proof.Proofs
end

section
/-! SUPPORT. Messages that leave: what sending to dies, host contexts, neighbours, sessions and packages leaves alone. -/

namespace Sys2Proof.Proofs

open Sys2Proof Sys2Proof.Machine

/-! ## Messages leave -/

/-- The parts in which messages wait at ports and paths. -/
abbrev pathParts : List Part := [.trace, .rec_, .link, .pair]

/-- The parts in which a session is answered. -/
abbrev answerParts : List Part := [.ports, .log, .trace, .rec_]

/-- The parts that a message can change on its way, beside the hub. -/
abbrev wayParts : List Part := [.ports, .log, .trace, .rec_, .link, .pair]

/-- Messages have left within some parts: the pair's own state is as it was, and nothing recorded is forgotten. -/
structure Passing (ps : List Part) (s t : State) : Prop where
  within : Within ps s t
  sending : Sending s t
  adding : Adding s t

namespace Passing

variable {ps qs : List Part} {s t u : State}

theorem refl (s : State) : Passing ps s s := ⟨.refl s, .refl s, .refl s⟩

theorem trans (h : Passing ps s t) (h' : Passing ps t u) : Passing ps s u := ⟨h.within.trans h'.within, h.sending.trans h'.sending, h.adding.trans h'.adding⟩

theorem mono (h : Passing ps s t) (hp : among ps qs = true) : Passing qs s t := ⟨h.within.mono hp, h.sending, h.adding⟩

theorem guard {p : Prop} [Decidable p] (h : Passing ps s t) : Passing ps s (if p then t else s) := by
  split
  · exact h
  · exact refl s

theorem guardNot {p : Prop} [Decidable p] (h : Passing ps s t) : Passing ps s (if p then s else t) := by
  split
  · exact refl s
  · exact h

theorem foldl {α : Type} {f : State → α → State} (h : ∀ s a, Passing ps s (f s a)) (l : List α) (s : State) : Passing ps s (l.foldl f s) := foldl_within refl trans h l s

/-- A change beside the pair and the recorder. -/
theorem beside (hw : Within [.ports, .log, .link, .sync] s t) (hp : Within ps s t) : Passing ps s t :=
  ⟨hp, .beside (hw.reads State.pair fun _ => rfl), .beside (hw.reads State.clk fun _ => rfl) (hw.reads (fun u => u.rec_.ports) fun _ => rfl)⟩

end Passing

section

variable (s : State)

/-! ### Ports and paths -/

theorem traced_passing (point source arg : Nat) : Passing [.trace, .rec_] s (s.traced point source arg) := ⟨traced_within .., traced_sending .., traced_adding ..⟩

theorem event_passing (port : EvPort) (code src : Nat) (payload : List Byte) {sev : Nat} (hs : sev < 3) : Passing [.rec_] s (s.event port code sev src payload) :=
  ⟨event_within_rec s port code src hs payload, event_sending .., event_adding ..⟩

theorem onSkv_passing (n : Nat) (f : SkvPort → SkvPort) : Passing pathParts s (s.onSkv n f) := ⟨by unfold State.onSkv; split <;> rfl, onSkv_sending .., onSkv_adding ..⟩

theorem portTo_passing (n : Nat) (ph : PortPhase) : Passing pathParts s (s.portTo n ph) := (onSkv_passing s n _).trans ((traced_passing ..).mono rfl)

theorem mirOut_passing (m : MirOut) : Passing pathParts s (s.mirOut m) := ⟨rfl, ⟨rfl, _, rfl⟩, .beside rfl rfl⟩

theorem portSend_passing (n cls : Nat) (body : List Byte) : Passing pathParts s (s.portSend n cls body) := (onSkv_passing s n _).trans (onSkv_passing ..)

theorem skvSend_passing (n cls : Nat) (body : List Byte) : Passing pathParts s (s.skvSend n cls body) := by
  unfold State.skvSend
  split
  · exact mirOut_passing ..
  · exact portSend_passing ..

theorem ethOut_passing (f : EthOut) : Passing pathParts s (s.ethOut f) := .beside rfl rfl

theorem sendRole_passing : Passing pathParts s s.sendRole := .foldl (fun s _ => portSend_passing s ..) _ s

theorem refreshPaths_passing : Passing pathParts s s.refreshPaths := .foldl (fun s _ => portTo_passing s ..) _ s

theorem deliver_passing (q : HostQueue) : Passing pathParts s (s.deliver q) := by
  unfold State.deliver
  split
  · exact .refl s
  · dsimp only
    refine .trans (.foldl (fun s e => ?_) _ s) (.beside rfl rfl)
    have h := (skvSend_passing s q.port 5 (cmdMessage 1 q.num e.qseq e.data)).trans ((traced_passing _ 227 q.num e.qseq).mono rfl)
    generalize (s.skvSend q.port 5 _).traced 227 _ _ = u at h ⊢
    split
    · exact h.trans (skvSend_passing ..)
    · exact h

theorem deliverAll_passing : Passing pathParts s s.deliverAll := .foldl (fun s q => deliver_passing s q) _ s

theorem restartPushes_passing : Passing pathParts s s.restartPushes := .foldl (fun s _ => .foldl (fun s _ => skvSend_passing s ..) _ s) _ s

/-! ### Sessions -/

theorem onPort_passing (p : Nat) (f : PortState → PortState) : Passing answerParts s (s.onPort p f) := .beside rfl rfl

theorem streamOver_passing : Passing answerParts s s.streamOver := by
  unfold State.streamOver
  split
  · exact .refl s
  · exact .trans (t := { s with rec_ := { s.rec_ with stream := none } }) ⟨rfl, .beside rfl, .beside rfl rfl⟩ ((event_passing _ _ _ _ _ (by decide)).mono rfl)

theorem sendFrame_passing : Passing answerParts s s.sendFrame := by
  have h := sendFrame_telemetry s
  exact ⟨h.within.mono rfl, .beside (h.within.reads State.pair fun _ => rfl), .beside (h.within.reads State.clk fun _ => rfl) h.intake⟩

theorem endSession_passing (p : Nat) : Passing answerParts s (s.endSession p) := by
  unfold State.endSession State.endStreamOf
  split
  · exact .refl s
  · refine .trans ?_ (onPort_passing ..)
    split
    · exact .guard ((sendFrame_passing s).trans (streamOver_passing _))
    · exact .refl s

theorem post_passing (p type : Nat) (body : List Byte) : Passing answerParts s (s.post p type body) := by
  unfold State.post
  split
  · exact .refl s
  · split
    · exact endSession_passing ..
    · exact onPort_passing ..

theorem closeAfter_passing (p : Nat) (reqId : U32) : Passing answerParts s (s.closeAfter p reqId) := by
  unfold State.closeAfter
  split
  · exact .guard (endSession_passing ..)
  · exact .refl s

theorem releaseResponses_passing (p : Nat) (ok : Nat → Bool) : Passing answerParts s (s.releaseResponses p ok) := by
  unfold State.releaseResponses
  split
  · exact .refl s
  · refine .trans (onPort_passing s p _) (.foldl (fun s e => ?_) _ _)
    exact ((onPort_passing s p _).trans (post_passing ..)).trans (closeAfter_passing ..)

theorem logWrite_passing (comp level msg : Nat) (args : List Nat) : Passing answerParts s (s.logWrite comp level msg args) := by
  unfold State.logWrite
  exact .guard (.beside rfl rfl)

theorem lateAnswer_passing (port : Nat) (session reqId : U32) (status : Status) (payload : List Byte) : Passing answerParts s (s.lateAnswer port session reqId status payload) := by
  unfold State.lateAnswer
  dsimp only
  split
  · exact (onPort_passing s port _).trans (logWrite_passing ..)
  · split
    · exact .refl s
    · split
      · exact .refl s
      · generalize hu : s.onSession port _ = u
        have h : Passing answerParts s u := hu ▸ onPort_passing s port _
        split
        · exact h
        · exact h.trans (post_passing ..)

theorem answerForwarded_passing : Passing answerParts s s.answerForwarded := .foldl (fun s _ => .foldl (fun s _ => lateAnswer_passing s ..) _ s) _ s

end

/-! ## The hub's messages leave (12 R343, R344) -/

/-- Messages of the hub have left: what waits, and the objects, are as they were. -/
structure Leaving (s t : State) : Prop where
  passing : Passing (.sync :: wayParts) s t
  hub : t.sync = { s.sync with sent := t.sync.sent, issued := t.sync.issued, hopTx := t.sync.hopTx, treeOut := t.sync.treeOut }
  sent : s.sync.sent ⊆ t.sync.sent

namespace Leaving

variable {s t u : State}

theorem refl (s : State) : Leaving s s := ⟨.refl s, rfl, List.Subset.refl _⟩

theorem trans (h : Leaving s t) (h' : Leaving t u) : Leaving s u := ⟨h.passing.trans h'.passing, by rw [h'.hub, h.hub], fun _ hx => h'.sent (h.sent hx)⟩

theorem guard {p : Prop} [Decidable p] (h : Leaving s t) : Leaving s (if p then t else s) := by
  split
  · exact h
  · exact refl s

theorem foldl {α : Type} {f : State → α → State} (h : ∀ s a, Leaving s (f s a)) (l : List α) (s : State) : Leaving s (l.foldl f s) := foldl_within refl trans h l s

/-- A change beside the hub. -/
theorem besideHub (h : Passing wayParts s t) : Leaving s t := by
  have hy : t.sync = s.sync := h.within.reads State.sync fun _ => rfl
  exact ⟨h.mono rfl, by rw [hy], by rw [hy]; exact List.Subset.refl _⟩

theorem held (h : Leaving s t) : t.sync.held = s.sync.held := by rw [h.hub]

end Leaving

section

variable (s : State)

theorem toDie_leaving (die : Nat) (o : SyncOut) : Leaving s (s.toDie die o) := by
  unfold State.toDie
  dsimp only
  have h : Leaving s (s.skvSend (die / 8) 1 o.entry) := .besideHub ((skvSend_passing ..).mono rfl)
  generalize s.skvSend (die / 8) 1 o.entry = t at h ⊢
  split
  · exact h
  · exact h.trans ⟨.beside rfl rfl, rfl, List.Subset.refl _⟩

theorem treeSend_leaving (nbr : Nat) (body : TreeBody) : Leaving s (s.treeSend nbr body) :=
  .trans (t := s.onSync _) ⟨.beside rfl rfl, rfl, List.Subset.refl _⟩ (.besideHub ((ethOut_passing ..).mono rfl))

theorem toHostCtx_leaving (ctx : Nat) (o : SyncOut) : Leaving s (s.toHostCtx ctx o) := by
  unfold State.toHostCtx
  dsimp only
  split
  · exact .refl s
  · exact .besideHub (.beside rfl rfl)

/-- A message that leaves is among those that have left. -/
theorem leave_leaving (o : SyncOut) : Leaving s (s.leave o) ∧ o ∈ (s.leave o).sync.sent := by
  have hs : Leaving s (s.onSync fun y => { y with sent := y.sent ++ [o] }) := ⟨.beside rfl rfl, rfl, List.subset_append_left ..⟩
  have ho : o ∈ (s.onSync fun y => { y with sent := y.sent ++ [o] }).sync.sent := List.mem_append_right _ (List.mem_singleton_self _)
  have hrest : Leaving (s.onSync fun y => { y with sent := y.sent ++ [o] }) (s.leave o) := by
    unfold State.leave
    dsimp only
    generalize s.onSync _ = t
    split
    · split
      · split
        · exact treeSend_leaving ..
        · exact .refl t
      · split
        · exact toDie_leaving ..
        · exact .guard (toHostCtx_leaving ..)
    · split
      · exact toDie_leaving ..
      · exact .guard (toHostCtx_leaving ..)
  exact ⟨hs.trans hrest, hrest.sent ho⟩

end

/-! ## What waits for an acknowledgement is let go (12 R343) -/

/-- The hub's messages that wait for a record that `ok` names wait no longer. -/
def unwaiting (s : State) (ok : Nat → Bool) : State := s.onSync fun y => { y with held := y.held.filter fun h => !ok h.1 }

/-- The hub's messages, and the queues' acknowledgements, that wait for a record that `ok` names no longer wait. -/
def unheld (s : State) (ok : Nat → Bool) : State :=
  (unwaiting s ok).onLink fun l => { l with heldAcks := l.heldAcks.filter fun h => !ok h.1 }

/-- Messages that leave one after the other. -/
theorem leaves_leaving (l : List (Nat × SyncOut)) (s : State) : Leaving s (l.foldl (fun s h => s.leave h.2) s) ∧ ∀ x ∈ l, x.2 ∈ (l.foldl (fun s h => s.leave h.2) s).sync.sent := by
  induction l generalizing s with
  | nil => exact ⟨.refl s, nofun⟩
  | cons y l ih =>
    obtain ⟨h, hall⟩ := ih (s.leave y.2)
    obtain ⟨hy, hin⟩ := leave_leaving s y.2
    exact ⟨hy.trans h, fun x hx => (List.mem_cons.mp hx).elim (fun hx => hx ▸ h.sent hin) (hall x)⟩

/-- The hub's messages leave, then the queues' acknowledgements, then the sessions' responses. -/
theorem releaseHeld_eq (s : State) (ok : Nat → Bool) :
    s.releaseHeld ok = [0, 1].foldl (fun s p => s.releaseResponses p ok)
      ((s.link.heldAcks.filter fun h => ok h.1).foldl (fun s h => s.ethOut h.2) ((s.sync.held.filter fun h => ok h.1).foldl (fun s h => s.leave h.2) (unheld s ok))) := rfl

/-- Each message that waited for such a record leaves. -/
theorem releaseHeld_spec (s : State) (ok : Nat → Bool) : Leaving (unheld s ok) (s.releaseHeld ok) ∧ ∀ x ∈ s.sync.held, ok x.1 = true → x.2 ∈ (s.releaseHeld ok).sync.sent := by
  rw [releaseHeld_eq]
  obtain ⟨h, hin⟩ := leaves_leaving (s.sync.held.filter fun h => ok h.1) (unheld s ok)
  generalize (s.sync.held.filter fun h => ok h.1).foldl (fun s h => s.leave h.2) (unheld s ok) = t at h hin
  have hrest := (Leaving.foldl (fun s h => .besideHub ((ethOut_passing s h.2).mono rfl)) (s.link.heldAcks.filter fun h => ok h.1) t).trans (.foldl (fun s p => .besideHub ((releaseResponses_passing s p ok).mono rfl)) [0, 1] _)
  exact ⟨h.trans hrest, fun x hx hok => hrest.sent (hin x (List.mem_filter.mpr ⟨hx, hok⟩))⟩

theorem unheld_within (s : State) (ok : Nat → Bool) : Within [.sync, .link] s (unheld s ok) := .trans (t := unwaiting s ok) rfl rfl

theorem unheld_sync (s : State) (ok : Nat → Bool) : (unheld s ok).sync = { s.sync with held := s.sync.held.filter fun h => !ok h.1 } := by
  unfold unheld
  rfl

theorem unheld_sending (s : State) (ok : Nat → Bool) : Sending s (unheld s ok) := .beside ((unheld_within s ok).reads State.pair fun _ => rfl)

theorem unheld_adding (s : State) (ok : Nat → Bool) : Adding s (unheld s ok) :=
  .beside ((unheld_within s ok).reads State.clk fun _ => rfl) ((unheld_within s ok).reads (fun u => u.rec_.ports) fun _ => rfl)

end Sys2Proof.Proofs
end

section
/-! SUPPORT. The pair: acknowledgements, straps, mirror states and the handover. -/

namespace Sys2Proof.Proofs

open Sys2Proof Sys2Proof.Machine

/-! ## Acknowledgements (15 R410) -/

theorem lagged_eq (p : PairState) (done : List MirRecord) (gt : Nat) :
    p.lagged done gt = { p with lagMax := (p.lagged done gt).lagMax, lagSum := (p.lagged done gt).lagSum, lagCount := (p.lagged done gt).lagCount } := by
  unfold PairState.lagged
  induction done generalizing p with
  | nil => rfl
  | cons r done ih =>
    rw [List.foldl_cons]
    exact ih _

/-- The acknowledged records leave the list of those outstanding. -/
def unacked (s : State) (n : Nat) : List MirRecord := s.pair.outstanding.filter fun r => !seqLe r.mseq n

/-- What an acknowledgement of some record changes, before what waited for it is let go. -/
theorem ackedTo_eq {s : State} {n : Nat} (h : ¬∀ r ∈ s.pair.outstanding, seqLe r.mseq n = false) :
    ∃ u, s.ackedTo n = (if u.isOwner then u.releaseHeld (fun m => seqLe m n) else [0, 1].foldl (fun v p => v.releaseResponses p fun m => seqLe m n) u) ∧
      u.pair.outstanding = unacked s n ∧ u.pair.role = s.pair.role ∧ Within [.pair, .free] s u := by
  have hne : (s.pair.outstanding.filter fun r => seqLe r.mseq n) ≠ [] := fun he => h fun r hr => by
    simpa using List.filter_eq_nil_iff.mp he r hr
  unfold State.ackedTo
  dsimp only
  rw [if_neg hne]
  generalize s.pair.outstanding.filter (fun r => seqLe r.mseq n) = done
  by_cases hb : (s.pair.mstate == .syncing && decide (0 < s.pair.bulkLeft)) = true
  · simp only [hb, if_true]
    refine ⟨_, rfl, ?_, ?_, rfl⟩
    · exact (congrArg PairState.outstanding (lagged_eq ..)).trans rfl
    · exact (congrArg PairState.role (lagged_eq ..)).trans rfl
  · simp only [eq_false_of_ne_true hb, Bool.false_eq_true, if_false]
    refine ⟨_, rfl, ?_, ?_, rfl⟩
    · exact (congrArg PairState.outstanding (lagged_eq ..)).trans rfl
    · exact (congrArg PairState.role (lagged_eq ..)).trans rfl

theorem ackedTo_spec {s : State} {n : Nat} (h : ¬∀ r ∈ s.pair.outstanding, seqLe r.mseq n = false) :
    let t := s.ackedTo n
    t.pair.outstanding = unacked s n ∧ (s.isOwner = true → t.sync.held = s.sync.held.filter (fun h => !seqLe h.1 n) ∧ ∀ x ∈ s.sync.held, seqLe x.1 n = true → x.2 ∈ t.sync.sent) ∧ (s.isOwner = false → t.sync = s.sync) := by
  intro t
  obtain ⟨u, ht, ho, hr, hw⟩ := ackedTo_eq h
  have hown : u.isOwner = s.isOwner := by rw [State.isOwner, hr]; rfl
  rw [hown] at ht
  have hy : u.sync = s.sync := hw.reads State.sync fun _ => rfl
  replace ht : t = _ := ht
  cases hs : s.isOwner with
  | true =>
    rw [hs, if_pos rfl] at ht
    obtain ⟨hl, hsent⟩ := releaseHeld_spec u fun m => seqLe m n
    rw [ht]
    refine ⟨((hl.passing.sending.reads PairState.outstanding fun _ => rfl).trans ((unheld_sending u _).reads PairState.outstanding fun _ => rfl)).trans ho, fun _ => ⟨?_, fun x hx => hsent x (hy ▸ hx)⟩, nofun⟩
    rw [hl.held, unheld_sync, hy]
  | false =>
    rw [hs, if_neg Bool.false_ne_true] at ht
    have hp : Passing answerParts u t := ht ▸ .foldl (fun v p => releaseResponses_passing v p _) _ u
    exact ⟨(hp.sending.reads PairState.outstanding fun _ => rfl).trans ho, nofun, fun _ => (hp.within.reads State.sync fun _ => rfl).trans hy⟩

theorem ackedTo_none {s : State} {n : Nat} (h : ∀ r ∈ s.pair.outstanding, seqLe r.mseq n = false) : s.ackedTo n = s := by
  unfold State.ackedTo
  dsimp only
  rw [if_pos]
  exact List.filter_eq_nil_iff.mpr fun r hr => by simp [h r hr]

/-- A command that does nothing under a condition, and otherwise acts. -/
theorem completes_unless {c : Instr} {s : State} {C : Prop} [Decidable C] {P : State → Prop} (hdoes : ¬C → Completes c s P) (hnot : C → exec c s = .next s) :
    Completes c s fun t => if C then t = s else P t := by
  by_cases h : C
  · exact ⟨s, hnot h, (if_pos h).mpr rfl⟩
  · obtain ⟨t, ht, hp⟩ := hdoes h
    exact ⟨t, ht, (if_neg h).mpr hp⟩

theorem mirrorAck_done (s : State) (n : U32) : Completes (.mirrorAckReceive n) s fun t =>
    if s.mirTrained = false ∨ ∀ r ∈ s.pair.outstanding, seqLe r.mseq n.toNat = false then t = s
    else t.pair.outstanding = unacked s n.toNat ∧
      (s.isOwner = true → t.sync.held = s.sync.held.filter (fun h => !seqLe h.1 n.toNat) ∧ ∀ x ∈ s.sync.held, seqLe x.1 n.toNat = true → x.2 ∈ t.sync.sent) ∧ (s.isOwner = false → t.sync = s.sync) := by
  refine completes_unless (fun h => ⟨_, congrArg Host.Outcome.next (if_pos ?_), ackedTo_spec fun hall => h (.inr hall)⟩) fun h => congrArg Host.Outcome.next ?_
  · exact Bool.of_not_eq_false fun hf => h (.inl hf)
  · rcases h with h | h
    · exact if_neg fun hm => by rw [h] at hm; exact nomatch hm
    · rw [ackedTo_none h]
      exact ite_self s

/-! ## Straps (03 R82, 15 R411) -/

/-- Three events, each where its condition asks for it, are recorded one after the other. -/
theorem threeEvents {s u : State} (h : Adding s u) (hp : s.rec_.ports.length = 16) (a b c : Bool) {x y z : Nat} (hx : reservedEvent x = false) (hy : reservedEvent y = false) (hz : reservedEvent z = false) :
    let v := if a then u else u.event .mirror x 2 0 []
    let w := if b then v.event .mirror y 2 0 [] else v
    let t := if c then w else w.event .mirror z 1 0 []
    (a = false → Recorded s t .mirror x 2) ∧ (b = true → Recorded s t .mirror y 2) ∧ (c = false → Recorded s t .mirror z 1) ∧ Within [.rec_] u t := by
  intro v w t
  have hport : EvPort.mirror.num < s.rec_.ports.length := by rw [hp]; decide
  have h1 : Passing [.rec_] u v := .guardNot (event_passing u .mirror x 0 [] (by decide))
  have h2 : Passing [.rec_] v w := .guard (event_passing v .mirror y 0 [] (by decide))
  have h3 : Passing [.rec_] w t := .guardNot (event_passing w .mirror z 0 [] (by decide))
  refine ⟨fun ha => (h2.trans h3).adding.recorded ?_, fun hb => h3.adding.recorded ?_, fun hc => ?_, ((h1.trans h2).trans h3).within⟩
  · rw [show v = _ from if_neg (ne_true_of_eq_false ha)]
    exact h.event hport hx ..
  · rw [show w = _ from if_pos hb]
    exact (h.trans h1.adding).event hport hy ..
  · rw [show t = _ from if_neg (ne_true_of_eq_false hc)]
    exact (h.trans (h1.trans h2).adding).event hport hz ..

/-- The partner's straps fit this governor's. -/
def strapsFit (s : State) (q : PartnerStraps) : Bool := q.slotId == s.straps.slotId && q.coolMode == s.straps.coolMode && q.pairSel != s.straps.pairSel

/-- What a partner's straps leave of the pair. -/
def strapped (s : State) (q : PartnerStraps) : State :=
  s.onPair fun p => { p with
    strapsOk := some (strapsFit s q), protoPartner := q.proto.toNat, limitsDiffer := !q.limitsEqual, partnerSerial := q.serial, partnerFw := q.fw.toNat }

theorem strapExchange_done {s : State} (hp : s.rec_.ports.length = 16) (q : PartnerStraps) : Completes (.strapExchange q) s fun t =>
    let ok := decide (q.slotId = s.straps.slotId ∧ q.coolMode = s.straps.coolMode ∧ q.pairSel ≠ s.straps.pairSel)
    let own := s.runningManifest.mirrorProto
    if s.mirTrained = true ∧ s.clk.coreInReset = false then
      t.pair = { s.pair with strapsOk := some ok, limitsDiffer := !q.limitsEqual, protoPartner := q.proto.toNat, partnerSerial := q.serial, partnerFw := q.fw.toNat } ∧
      (ok = false → Recorded s t .mirror 0x0B10 2) ∧ (own + 1 < q.proto.toNat ∨ q.proto.toNat + 1 < own → Recorded s t .mirror 0x0B11 2) ∧ (q.limitsEqual = false → Recorded s t .mirror 0x0B12 1) ∧
      t.without [.pair, .rec_] = s.without [.pair, .rec_]
    else t = s := by
  have hok : strapsFit s q = decide (q.slotId = s.straps.slotId ∧ q.coolMode = s.straps.coolMode ∧ q.pairSel ≠ s.straps.pairSel) := by
    rw [Bool.eq_iff_iff]
    simp [strapsFit, and_assoc]
  have hadd : Adding s (strapped s q) := .beside rfl rfl
  obtain ⟨h1, h2, h3, hw⟩ := threeEvents hadd hp (strapsFit s q) (decide (s.runningManifest.mirrorProto + 1 < q.proto.toNat ∨ q.proto.toNat + 1 < s.runningManifest.mirrorProto)) q.limitsEqual
    (x := 0x0B10) (y := 0x0B11) (z := 0x0B12) rfl rfl rfl
  refine completes_ite (fun hc => ⟨_, congrArg Host.Outcome.next (if_pos ⟨hc.1, by rw [hc.2]; rfl⟩), ?_, fun hf => h1 (hok.trans hf), fun hf => h2 (decide_eq_true hf), h3, (?_ : Within [.pair, .rec_] s _)⟩)
    fun hc => congrArg Host.Outcome.next (if_neg fun hc' => hc ⟨hc'.1, by simpa using hc'.2⟩)
  · refine (hw.reads State.pair fun _ => rfl).trans ?_
    rw [← hok]
    rfl
  · exact (show Within [.pair, .rec_] s (strapped s q) from rfl).trans (hw.mono rfl)

/-! ## Mirror states (15 R411, R412, R415) -/

theorem toMirrorState_adding (s : State) (m : MirrorPhase) : Adding s (s.toMirrorState m) := by
  unfold State.toMirrorState
  split
  · exact .refl s
  · dsimp only
    refine .trans ?_ (traced_adding ..)
    split <;> exact .beside rfl rfl

/-- The copy at the partner is given up. -/
theorem detach_spec (s : State) :
    let t := s.detach
    t.pair.mstate = .detached ∧ t.pair.losses = s.pair.losses ∧ t.pair.role = s.pair.role ∧ t.pair.outstanding = [] ∧ t.sync.held = [] ∧ Within (.sync :: wayParts) s t ∧ Adding s t := by
  intro t
  have h1 := toMirrorState_sending s (m := .detached) nofun
  have h1w := toMirrorState_within s (m := .detached) nofun
  have h1a := toMirrorState_adding s .detached
  have ht : t = ((s.toMirrorState .detached).onPair fun p => { p with outstanding := [], bulkLeft := 0, handover := match p.handover with | .accepted _ => .none | h => h }).releaseHeld fun _ => true := rfl
  generalize s.toMirrorState .detached = v at h1 h1w h1a ht
  generalize hu : (v.onPair fun p => { p with outstanding := [], bulkLeft := 0, handover := match p.handover with | .accepted _ => .none | h => h }) = u at ht
  obtain ⟨hl, -⟩ := releaseHeld_spec u fun _ => true
  rw [← ht] at hl
  have hs : Sending u t := (unheld_sending u _).trans hl.passing.sending
  have huw : Within [.pair] v u := hu ▸ rfl
  have hua : Adding v u := hu ▸ .beside rfl rfl
  refine ⟨(hs.reads PairState.mstate fun _ => rfl).trans ?_, (hs.reads PairState.losses fun _ => rfl).trans ?_, (hs.reads PairState.role fun _ => rfl).trans ?_, (hs.reads PairState.outstanding fun _ => rfl).trans ?_, ?_, ?_,
    (h1a.trans hua).trans ((unheld_adding u _).trans hl.passing.adding)⟩
  · rw [← hu]
    exact h1.reads PairState.mstate fun _ => rfl
  · rw [← hu]
    exact h1.reads PairState.losses fun _ => rfl
  · rw [← hu]
    exact h1.reads PairState.role fun _ => rfl
  · rw [← hu]
    rfl
  · rw [hl.held, unheld_sync]
    exact List.filter_eq_nil_iff.mpr fun _ _ => by simp
  · exact ((h1w.mono rfl).trans (huw.mono rfl)).trans (((unheld_within u _).mono rfl).trans (hl.passing.within))

/-- MIR has been silent for 50 ticks, or is down, with the partner ALIVE (15 R415). -/
theorem mirrorLoss_done {s : State} (hp : s.rec_.ports.length = 16) : Completes .mirrorLoss s fun t =>
    if s.pair.mstate ≠ .detached ∧ s.pair.alive = true ∧ s.pair.role ≠ .undecided ∧ ((∀ g ∈ s.pair.hbRx, g + 50 ≤ s.gt) ∨ s.mirTrained = false) then
      t.pair.mstate = .detached ∧ t.pair.losses = satAdd 32 s.pair.losses 1 ∧ Recorded s t .mirror 0x0B03 2 ∧ t.pair.role = s.pair.role ∧ t.pair.outstanding = [] ∧ t.sync.held = [] ∧ t.sage = s.sage ∧ t.thyme = s.thyme
    else t = s := by
  have hiff : (s.pair.mstate ≠ .detached ∧ s.pair.alive = true ∧ s.pair.role ≠ .undecided ∧ ((s.pair.hbRx.all fun t => s.since t 50) = true ∨ (!s.mirTrained) = true)) ↔
      (s.pair.mstate ≠ .detached ∧ s.pair.alive = true ∧ s.pair.role ≠ .undecided ∧ ((∀ g ∈ s.pair.hbRx, g + 50 ≤ s.gt) ∨ s.mirTrained = false)) := by
    simp only [Option.all_eq_true, State.since, decide_eq_true_eq, Bool.not_eq_true']
    rfl
  refine completes_ite (fun hc => ⟨_, congrArg Host.Outcome.next (if_pos (hiff.mpr hc)), ?_⟩) fun hc => congrArg Host.Outcome.next (if_neg fun hc' => hc (hiff.mp hc'))
  have hport : EvPort.mirror.num < s.rec_.ports.length := by rw [hp]; decide
  have hu : Adding s (s.onPair fun p => { p with losses := satAdd 32 p.losses 1 }) := .beside rfl rfl
  have hev := event_passing (s.onPair fun p => { p with losses := satAdd 32 p.losses 1 }) .mirror 0x0B03 0 (i1 (flag !s.mirTrained)) (sev := 2) (by decide)
  have hrec := hu.event hport (code := 0x0B03) rfl 2 0 (i1 (flag !s.mirTrained))
  generalize (s.onPair fun p => { p with losses := satAdd 32 p.losses 1 }).event .mirror 0x0B03 2 0 (i1 (flag !s.mirTrained)) = v at hev hrec
  obtain ⟨h1, h2, h3, h4, h5, hw, ha⟩ := detach_spec v
  have hws : Within (.sync :: wayParts) s v.detach := .trans (t := s.onPair _) rfl ((hev.within.mono rfl).trans hw)
  exact ⟨h1, h2.trans (hev.sending.reads PairState.losses fun _ => rfl), ha.recorded hrec, h3.trans (hev.sending.reads PairState.role fun _ => rfl), h4, h5, hws.reads State.sage fun _ => rfl, hws.reads State.thyme fun _ => rfl⟩

/-- The copy is complete (15 R412). -/
theorem mirroringEntry_done {s : State} (hp : s.rec_.ports.length = 16) : Completes .mirroringEntry s fun t =>
    if s.isOwner = true ∧ s.pair.mstate = .syncing ∧ s.pair.bulkLeft = 0 ∧ s.restarting 13 = false then
      t.pair.mstate = .mirroring ∧ t.pins = { s.pins with shadowHold := none } ∧ Recorded s t .mirror 0x0B02 0 ∧ t.without [.pair, .rec_, .trace, .pins] = s.without [.pair, .rec_, .trace, .pins]
    else t = s := by
  refine completes_ite (fun hc => ⟨_, congrArg Host.Outcome.next (if_pos ⟨hc.1, hc.2.1, hc.2.2.1, by rw [hc.2.2.2]; rfl⟩), ?_⟩)
    fun hc => congrArg Host.Outcome.next (if_neg fun hc' => hc ⟨hc'.1, hc'.2.1, hc'.2.2.1, by simpa using hc'.2.2.2⟩)
  obtain ⟨-, hm, -, -⟩ := hc
  have hport : EvPort.mirror.num < s.rec_.ports.length := by rw [hp]; decide
  have hs : s.toMirrorState .mirroring = (({ s with pins := { s.pins with shadowHold := none } } : State).onPair fun p => { p with mstate := .mirroring }).traced 242 0 MirrorPhase.mirroring.code := by
    unfold State.toMirrorState
    rw [if_neg (by rw [hm]; nofun), if_pos rfl]
  have ha := toMirrorState_adding s .mirroring
  have ht := traced_passing (({ s with pins := { s.pins with shadowHold := none } } : State).onPair fun p => { p with mstate := .mirroring }) 242 0 MirrorPhase.mirroring.code
  rw [← hs] at ht
  have hev := fun payload => event_passing (s.toMirrorState .mirroring) .mirror 0x0B02 0 payload (sev := 0) (by decide)
  have hrec := fun payload => ha.event hport (code := 0x0B02) rfl 0 0 payload
  have hall := fun payload => (ht.mono (qs := [.trace, .rec_]) rfl).trans ((hev payload).mono rfl)
  exact ⟨((hall _).sending.reads PairState.mstate fun _ => rfl).trans rfl, ((hall _).within.reads State.pins fun _ => rfl).trans rfl, hrec _,
    (show Within [.pair, .rec_, .trace, .pins] s (({ s with pins := { s.pins with shadowHold := none } } : State).onPair fun p => { p with mstate := .mirroring }) from rfl).trans ((hall _).within.mono rfl)⟩

/-! ## The bulk copy (15 R411, R412, 17 R457) -/

/-- The records of a list are sent while a copy is kept: each is outstanding, in order. -/
theorem recordsSent {α : Type} (f : α → MirKind) (g : α → Nat) (l : List α) {s : State} (hm : s.mirrors = true) :
    let t := l.foldl (fun s x => s.sendRecordOf (f x) (g x)) s
    t.pair.outstanding.map MirRecord.kind = s.pair.outstanding.map MirRecord.kind ++ l.map f ∧ t.pair.mseqSent % 2 ^ 32 = (s.pair.mseqSent + l.length) % 2 ^ 32 ∧ (l ≠ [] ∨ s.pair.mseqSent < 2 ^ 32 → t.pair.mseqSent < 2 ^ 32) ∧
      t.pair.mstate = s.pair.mstate ∧ t.pair.bulkLeft = s.pair.bulkLeft ∧ t.rec_ = s.rec_ := by
  induction l generalizing s with
  | nil => exact ⟨(List.append_nil _).symm, rfl, fun h => h.elim (absurd rfl) id, rfl, rfl, rfl⟩
  | cons x l ih =>
    obtain ⟨n, hn, ho, hst, hb, hr⟩ : ∃ n, n = (s.pair.mseqSent + 1) % 2 ^ 32 ∧ (s.sendRecordOf (f x) (g x)).pair.outstanding = s.pair.outstanding ++ [{ mseq := n, kind := f x, gt := s.gt, item := g x }] ∧
        (s.sendRecordOf (f x) (g x)).pair.mseqSent = n ∧ ((s.sendRecordOf (f x) (g x)).pair.mstate = s.pair.mstate ∧ (s.sendRecordOf (f x) (g x)).pair.bulkLeft = s.pair.bulkLeft) ∧ (s.sendRecordOf (f x) (g x)).rec_ = s.rec_ := by
      unfold State.sendRecordOf
      rw [if_pos hm]
      exact ⟨_, rfl, rfl, rfl, ⟨rfl, rfl⟩, rfl⟩
    rw [List.foldl_cons]
    generalize s.sendRecordOf (f x) (g x) = v at ho hst hb hr
    obtain ⟨h1, h2, h3, h4, h5, h6⟩ := ih (s := v) (by rw [State.mirrors, hb.1]; exact hm)
    refine ⟨?_, ?_, fun _ => h3 (.inr (by omega)), h4.trans hb.1, h5.trans hb.2, h6.trans hr⟩
    · rw [h1, ho, List.map_append, List.append_assoc]
      rfl
    · rw [h2, hst, hn, List.length_cons]
      omega

theorem syncingStart_done (s : State) : Completes .syncingStart s fun t =>
    let k := bulkKinds.length + s.rec_.ring.length
    if s.maySync = true then t.pair.mstate = .syncing ∧ t.pair.outstanding.map MirRecord.kind = bulkKinds ++ List.replicate s.rec_.ring.length .events ∧ t.pair.bulkLeft = k ∧ t.pair.mseqSent = (s.pair.mseqSent + k) % 2 ^ 32
    else t = s := by
  refine completes_ite (fun hc => ⟨_, congrArg Host.Outcome.next (if_pos hc), ?_⟩) fun hc => congrArg Host.Outcome.next (if_neg hc)
  dsimp only
  generalize hv : (s.draw.2.onPair fun p => _) = v
  have hv1 : v.pair.outstanding = [] ∧ v.pair.bulkLeft = bulkKinds.length + s.rec_.ring.length ∧ v.pair.mseqSent = s.pair.mseqSent ∧ v.rec_ = s.rec_ := by
    rw [← hv]
    exact ⟨rfl, rfl, rfl, rfl⟩
  obtain ⟨ho, hb, hn, hr⟩ := hv1
  have hs := toMirrorState_sending v (m := .syncing) nofun
  have hring : (v.toMirrorState .syncing).rec_.ring = v.rec_.ring := by
    unfold State.toMirrorState
    rw [if_neg (by nofun : MirrorPhase.syncing ≠ .mirroring)]
    split
    · rfl
    · rw [(traced_telemetry ..).rec_]
      rfl
  generalize v.toMirrorState .syncing = u at hs hring
  have hum : u.pair.mstate = .syncing := hs.reads PairState.mstate fun _ => rfl
  have huo : u.pair.outstanding = [] := (hs.reads PairState.outstanding fun _ => rfl).trans ho
  have hub : u.pair.bulkLeft = _ := (hs.reads PairState.bulkLeft fun _ => rfl).trans hb
  have hun : u.pair.mseqSent = s.pair.mseqSent := (hs.reads PairState.mseqSent fun _ => rfl).trans hn
  obtain ⟨a1, a2, a3, a4, a5, a6⟩ := recordsSent id (fun _ => 0) bulkKinds (s := u) (by rw [State.mirrors, hum]; rfl)
  have hw : bulkKinds.foldl (fun s k => s.sendRecord k) u = bulkKinds.foldl (fun s x => s.sendRecordOf (id x) 0) u := rfl
  rw [hw]
  generalize bulkKinds.foldl (fun s x => s.sendRecordOf (id x) 0) u = w at a1 a2 a3 a4 a5 a6
  obtain ⟨b1, b2, b3, b4, b5, -⟩ := recordsSent (fun _ => .events) EventRec.recSeq w.rec_.ring (s := w) (by rw [State.mirrors, a4, hum]; rfl)
  have hlen : w.rec_.ring.length = s.rec_.ring.length := by rw [a6, hring, hr]
  have hlt := b3 (.inr (a3 (.inl (by decide))))
  have hsend : w.sendRing = w.rec_.ring.foldl (fun s x => s.sendRecordOf .events x.recSeq) w := rfl
  rw [hsend]
  refine ⟨b4.trans (a4.trans hum), ?_, b5.trans (a5.trans hub), ?_⟩
  · rw [b1, a1, huo, List.map_id, List.map_const', hlen]
    rfl
  · rw [← Nat.mod_eq_of_lt hlt, b2, Nat.add_mod, a2, ← Nat.add_mod, hun, hlen, Nat.add_assoc]

end Sys2Proof.Proofs
end

section
/-! SUPPORT. The handover, a claim and what a new OWNER does; the pair commands of a session. -/

namespace Sys2Proof.Proofs

open Sys2Proof Sys2Proof.Machine

/-! ## Roles (15 R406) -/

section

variable (s : State)

/-- A role is taken: the pair's state is otherwise as it was. -/
theorem takeRole_spec (r : Role) : Sending (s.onPair fun p => { p with role := r }) (s.takeRole r) ∧ Within pathParts s (s.takeRole r) ∧ Adding s (s.takeRole r) := by
  unfold State.takeRole
  split
  · rename_i h
    exact ⟨.beside (by rw [← h]; rfl), .refl s, .refl s⟩
  · dsimp only
    have h1 := traced_passing (s.onPair fun p => { p with role := r }) 240 s.position r.code
    generalize (s.onPair fun p => { p with role := r }).traced 240 s.position r.code = u at h1
    have h2 : Passing pathParts u ((u.onLink fun l => { l with trayAddr := r == .owner }).sendRole.refreshPaths) :=
      .trans (t := u.onLink _) (.beside rfl rfl) ((sendRole_passing _).trans (refreshPaths_passing _))
    have h := (h1.mono (qs := pathParts) rfl).trans h2
    have ha : Adding s (s.onPair fun p => { p with role := r }) := .beside rfl rfl
    exact ⟨h.sending, (show Within pathParts s (s.onPair fun p => { p with role := r }) from rfl).trans h.within, ha.trans h.adding⟩

/-- The ledger is restored from the journal where it was to come from a partner (11 R310). -/
theorem ledgerOwn_adding (item : Nat) : Adding s (s.ledgerOwn item) := by
  unfold State.ledgerOwn
  split
  · exact (ledgerStart_booking s false).adding.trans (.beside rfl rfl)
  · exact .refl s

/-- The pair as a claim makes it, the role aside. -/
def claiming (item : Nat) : State :=
  ((({ s with pins := { s.pins with shadowHold := none } } : State).onPair fun p =>
    { p with pull := true, claimGt := some s.gt, releaseAt := none, shadowReleased := false, lostPending := false, takeovers := if item = 1 then satAdd 32 p.takeovers 1 else p.takeovers }).traced 241 s.position item).mirOut .claim

theorem claim_eq (item : Nat) : s.claim item = (((claiming (s.ledgerOwn item) item).takeRole .owner).answerForwarded.ethOut .gratuitousArp).ethOut (.neighbourAdvert true false) := rfl

theorem claiming_spec (item : Nat) : (claiming s item).pair.pull = true ∧ Adding s (claiming s item) := by
  unfold claiming
  generalize hu : (({ s with pins := { s.pins with shadowHold := none } } : State).onPair fun p =>
    { p with pull := true, claimGt := some s.gt, releaseAt := none, shadowReleased := false, lostPending := false, takeovers := if item = 1 then satAdd 32 p.takeovers 1 else p.takeovers }) = u
  have hpull : u.pair.pull = true := hu ▸ rfl
  have ha : Adding s u := hu ▸ .beside rfl rfl
  have h := ((traced_passing u 241 s.position item).mono (qs := pathParts) rfl).trans (mirOut_passing _ .claim)
  exact ⟨(h.sending.reads PairState.pull fun _ => rfl).trans hpull, ha.trans h.adding⟩

/-- A claim: OWN_N is pulled and the role is OWNER. -/
theorem claim_spec (item : Nat) : (s.claim item).pair.role = .owner ∧ (s.claim item).pair.pull = true ∧ Adding s (s.claim item) := by
  have ha := ledgerOwn_adding s item
  obtain ⟨hpull, hc⟩ := claiming_spec (s.ledgerOwn item) item
  obtain ⟨hr, -, hra⟩ := takeRole_spec (claiming (s.ledgerOwn item) item) .owner
  rw [claim_eq]
  have h : Passing wayParts ((claiming (s.ledgerOwn item) item).takeRole .owner) ((((claiming (s.ledgerOwn item) item).takeRole .owner).answerForwarded.ethOut .gratuitousArp).ethOut (.neighbourAdvert true false)) :=
    ((answerForwarded_passing _).mono rfl).trans (((ethOut_passing ..).trans (ethOut_passing ..)).mono rfl)
  exact ⟨(h.sending.reads PairState.role fun _ => rfl).trans (hr.reads PairState.role fun _ => rfl), (h.sending.reads PairState.pull fun _ => rfl).trans ((hr.reads PairState.pull fun _ => rfl).trans hpull),
    ((ha.trans hc).trans hra).trans h.adding⟩

/-! ## What a new OWNER does with the state it holds (15 R418) -/

/-- The parts of the values that a governor holds. -/
abbrev heldParts : List Part := [.thyme, .sage, .op, .phase, .cool, .feed, .ledger, .repro, .link]

theorem onThyme_held (f : ThymeState → ThymeState) : Within heldParts s (s.onThyme f) := rfl
theorem onSage_held (f : SageState → SageState) : Within heldParts s (s.onSage f) := rfl
theorem onOp_held (f : OpState → OpState) : Within heldParts s (s.onOp f) := rfl
theorem onPhase_held (f : PhaseState → PhaseState) : Within heldParts s (s.onPhase f) := rfl
theorem onCool_held (f : CoolState → CoolState) : Within heldParts s (s.onCool f) := rfl
theorem onFeeds_held (f : FeedState → FeedState) : Within heldParts s (s.onFeeds f) := rfl
theorem onLedger_held (f : LedgerState → LedgerState) : Within heldParts s (s.onLedger f) := rfl
theorem onRepro_held (f : ReproState → ReproState) : Within heldParts s (s.onRepro f) := rfl
theorem onLink_held (f : LinkState → LinkState) : Within heldParts s (s.onLink f) := rfl

theorem writeSetpoint_held (c mv : Nat) (bus : Option Nat) (owner : WriteOwner) : Within heldParts s (s.writeSetpoint c mv bus owner) := by
  unfold State.writeSetpoint
  split
  · exact onSage_held s _
  · exact .refl s

/-- Clamping changes held values alone. -/
theorem reclamp_held : Within heldParts s s.reclamp := by
  unfold State.reclamp
  refine .trans (.trans (.trans (.trans (.trans ?_ (onSage_held ..)) (onOp_held ..)) (onPhase_held ..)) (onFeeds_held ..)) (onCool_held ..)
  exact .foldl (fun s _ => writeSetpoint_held s ..) _ s

/-- The held state as a new OWNER takes it on. -/
def takenOn : State :=
  let s := s.reclamp
  let s := s.onThyme fun t => { t with ctxs := t.ctxs.map fun c => c.resume s.gt }
  let s := s.onLedger LedgerState.takenOver
  let s := s.onRepro fun r => { r with records := r.records.map fun x => if x.isOpen then { x with flags := x.flags ||| 32#16 } else x }
  let s := s.onLink LinkState.takenOver
  let s := s.onCool fun c => { c with th := max c.th c.partnerTh, partnerTh := 0 }
  s.onOp fun o => { o with resendDue := true, throttle := if o.slow then .waitHigh else o.throttle, highSince := if o.slow then none else o.highSince }

theorem takenOn_within : Within heldParts s (takenOn s) := by
  unfold takenOn
  exact .trans (.trans (.trans (.trans (.trans (.trans (reclamp_held s) (onThyme_held ..)) (onLedger_held ..)) (onRepro_held ..)) (onLink_held ..)) (onCool_held ..)) (onOp_held ..)

theorem resendHeld_spec : Sending s s.resendHeld ∧ Adding s s.resendHeld := by
  unfold State.resendHeld
  dsimp only
  have h1 := traced_passing s 245 0 (s.sync.issued.length + s.sync.held.length)
  generalize s.traced 245 0 _ = v at h1
  have h2 : Leaving (v.onSync fun y => { y with issued := [] }) (s.sync.issued.foldl (fun s o => s.leave o) (v.onSync fun y => { y with issued := [] })) := .foldl (fun s o => (leave_leaving s o).1) _ _
  generalize s.sync.issued.foldl _ _ = w at h2
  obtain ⟨h3, -⟩ := releaseHeld_spec w fun _ => true
  exact ⟨(h1.sending.trans (.trans (t := v.onSync fun y => { y with issued := [] }) (.beside rfl) h2.passing.sending)).trans ((unheld_sending w _).trans h3.passing.sending),
    (h1.adding.trans (.trans (t := v.onSync fun y => { y with issued := [] }) (.beside rfl rfl) h2.passing.adding)).trans ((unheld_adding w _).trans h3.passing.adding)⟩

/-- The pair's own state stays, and nothing recorded is forgotten. -/
theorem resumeAsOwner_spec : Sending s s.resumeAsOwner ∧ Adding s s.resumeAsOwner := by
  have he : s.resumeAsOwner = (takenOn s).resendHeld.restartPushes.deliverAll := rfl
  have hw := takenOn_within s
  rw [he]
  generalize takenOn s = v at hw
  obtain ⟨h1, h2⟩ := resendHeld_spec v
  have h := (restartPushes_passing v.resendHeld).trans (deliverAll_passing _)
  exact ⟨.trans (.beside (hw.reads State.pair fun _ => rfl)) (h1.trans h.sending), .trans (.beside (hw.reads State.clk fun _ => rfl) (hw.reads (fun u => u.rec_.ports) fun _ => rfl)) (h2.trans h.adding)⟩

end

/-! ## The handover (15 R423) -/

/-- The OWNER's side of the handover: the final record, OWN_N released, and the role of STANDBY. -/
theorem handoverRelease_done (s : State) : Completes .handoverRelease s fun t =>
    match s.pair.handover with
    | .accepted q =>
      if s.isOwner = true ∧ s.pair.mstate = .mirroring ∧ s.gt % 50 = 0 then
        t.pair.role = .standby ∧ t.pair.pull = false ∧ t.pair.handover = .released s.gt q ∧ t.pair.qualifier = s.pair.qualifier ∧ .handover s.pair.mseqSent ∈ t.pair.out ∧ t.pins = s.pins ∧ t.sage = s.sage ∧ t.sync = s.sync
      else t = s
    | _ => t = s := by
  have hexec : exec .handoverRelease s = execHandoverRelease s := rfl
  unfold execHandoverRelease at hexec
  cases hh : s.pair.handover with
  | accepted q =>
    rw [hh] at hexec
    dsimp only at hexec
    refine completes_ite (fun hc => ⟨_, hexec.trans (congrArg Host.Outcome.next (if_pos hc)), ?_⟩) fun hc => hexec.trans (congrArg Host.Outcome.next (if_neg hc))
    have h1 : Within pathParts s (s.mirOut (.handover s.pair.mseqSent)) := rfl
    have hout : .handover s.pair.mseqSent ∈ (s.mirOut (.handover s.pair.mseqSent)).pair.out := List.mem_append_right _ (List.mem_singleton_self _)
    have hq : (s.mirOut (.handover s.pair.mseqSent)).pair.qualifier = s.pair.qualifier := rfl
    generalize s.mirOut (.handover s.pair.mseqSent) = a at h1 hout hq
    have h2 := releaseOwn_sending a
    have h2w := releaseOwn_within a
    generalize a.releaseOwn = b at h2 h2w
    have hg : b.gt = s.gt := ((h1.mono (qs := [.trace, .rec_, .link, .pair]) rfl).trans (h2w.mono rfl)).reads State.gt fun _ => rfl
    obtain ⟨h3, h3w, -⟩ := takeRole_spec (b.onPair fun p => { p with handover := .released s.gt q }) .standby
    rw [hg]
    generalize (b.onPair fun p => { p with handover := .released s.gt q }).takeRole .standby = d at h3 h3w
    have h4 := traced_passing d 246 0 1
    generalize d.traced 246 0 1 = t at h4
    have h5 := h3.trans h4.sending
    have hbout : .handover s.pair.mseqSent ∈ b.pair.out := by
      obtain ⟨l, hl⟩ := h2.out
      rw [hl]
      exact List.mem_append_left _ hout
    have hw : Within pathParts s t := (h1.trans (h2w.mono rfl)).trans (.trans (t := b.onPair _) rfl (h3w.trans (h4.within.mono rfl)))
    refine ⟨h5.reads PairState.role fun _ => rfl, (h5.reads PairState.pull fun _ => rfl).trans (h2.reads PairState.pull fun _ => rfl), h5.reads PairState.handover fun _ => rfl,
      (h5.reads PairState.qualifier fun _ => rfl).trans ((h2.reads PairState.qualifier fun _ => rfl).trans hq), ?_, hw.reads State.pins fun _ => rfl, hw.reads State.sage fun _ => rfl, hw.reads State.sync fun _ => rfl⟩
    obtain ⟨l, hl⟩ := h5.out
    rw [hl]
    exact List.mem_append_left _ hbout
  | none => exact ⟨s, by rw [hexec, hh], rfl⟩
  | released t q => exact ⟨s, by rw [hexec, hh], rfl⟩
  | target t n => exact ⟨s, by rw [hexec, hh], rfl⟩

/-- The partner's side: the final record is held. -/
theorem handoverRecord_done (s : State) (n : U32) : Completes (.handoverRecord n) s fun t =>
    if s.pair.role = .standby ∧ s.mirTrained = true ∧ s.pair.mstate = .mirroring then t.pair = { s.pair with handover := .target s.gt n.toNat } ∧ t.without [.pair, .trace, .rec_] = s.without [.pair, .trace, .rec_] else t = s :=
  completes_ite (fun hc => ⟨_, congrArg Host.Outcome.next (if_pos hc), State.traced_pair ..,
    (show Within [.pair, .trace, .rec_] s (s.onPair fun p => { p with handover := .target s.gt n.toNat }) from rfl).trans (traced_within ..)⟩) fun hc => congrArg Host.Outcome.next (if_neg hc)

/-- No claim has followed: the former OWNER claims again. -/
theorem handoverAbandon_done {s : State} (hp : s.rec_.ports.length = 16) : Completes .handoverAbandon s fun t =>
    match s.pair.handover with
    | .released g _ =>
      if s.pair.qualifier = true ∧ s.pair.role = .standby ∧ g + 1000 ≤ s.gt ∧ s.ownHigh 1000 = true then t.pair.role = .owner ∧ t.pair.pull = true ∧ t.pair.handover = .none ∧ Recorded s t .mirror 0x0B04 1 else t = s
    | _ => t = s := by
  have hexec : exec .handoverAbandon s = execHandoverAbandon s := rfl
  unfold execHandoverAbandon at hexec
  cases hh : s.pair.handover with
  | released g q =>
    rw [hh] at hexec
    simp only [State.since, decide_eq_true_eq] at hexec
    refine completes_ite (fun hc => ⟨_, hexec.trans (congrArg Host.Outcome.next (if_pos hc)), ?_⟩) fun hc => hexec.trans (congrArg Host.Outcome.next (if_neg hc))
    have hport : EvPort.mirror.num < s.rec_.ports.length := by rw [hp]; decide
    obtain ⟨hrole, hpull, ha⟩ := claim_spec s 3
    generalize s.claim 3 = v at hrole hpull ha
    have hrec := ha.event hport (code := 0x0B04) rfl 1 0 (i1 1 ++ i1 q)
    have hev := event_passing v .mirror 0x0B04 0 (i1 1 ++ i1 q) (sev := 1) (by decide)
    generalize v.event .mirror 0x0B04 1 0 (i1 1 ++ i1 q) = w at hrec hev
    have ht := traced_passing (w.onPair fun p => { p with handover := .none }) 246 0 4
    obtain ⟨hs, hra⟩ := resumeAsOwner_spec ((w.onPair fun p => { p with handover := .none }).traced 246 0 4)
    have hall := ht.sending.trans hs
    refine ⟨(hall.reads PairState.role fun _ => rfl).trans ((hev.sending.reads PairState.role fun _ => rfl).trans hrole), (hall.reads PairState.pull fun _ => rfl).trans ((hev.sending.reads PairState.pull fun _ => rfl).trans hpull),
      hall.reads PairState.handover fun _ => rfl, ?_⟩
    exact ((Adding.beside (t := w.onPair fun p => { p with handover := .none }) rfl rfl).trans (ht.adding.trans hra)).recorded hrec
  | none => exact ⟨s, by rw [hexec, hh], rfl⟩
  | accepted q => exact ⟨s, by rw [hexec, hh], rfl⟩
  | target t n => exact ⟨s, by rw [hexec, hh], rfl⟩

end Sys2Proof.Proofs
end

section
/-! SUPPORT. What a mirror record brings: grants, the tray, semaphores and the other rows of the mirrored state. -/

namespace Sys2Proof.Proofs

open Sys2Proof Sys2Proof.Machine

/-! ## Grants (15 R413, R416) -/

theorem keepNets_within (s : State) : Within [.pins] s s.keepNets := by
  unfold State.keepNets
  split <;> rfl

theorem mirrorRails_granted {s : State} (rails : List Nat) (setpoints : List (Nat × Nat × Int)) {c : Nat} (hc : c < s.sage.rails.length) :
    (nth (s.mirrorRails rails setpoints) c).granted = (rails.contains c && !s.heldOff (.rail c)) := by
  have hgrant : ∀ (b : Bool) (r : Rail), (if b = true then (if r.granted then r else { r with granted := true, pollFails := 0 }) else if r.granted then r.goesOff else r).granted = b := fun b r => by
    cases hg : r.granted <;> cases b <;> simp [hg, Rail.goesOff]
  unfold State.mirrorRails
  rw [nth_mapIdx hc]
  dsimp only
  split <;> exact hgrant ..

/-- The drive follows the grants, less what this governor's own latches hold off. -/
theorem takeGrants_spec (s : State) (rails : List Nat) (setpoints : List (Nat × Nat × Int)) (duties budgets : List Nat) (ceil : Nat) (nets : BitVec 103) :
    let t := s.takeGrants rails setpoints duties budgets ceil nets
    (∀ c, c < s.sage.rails.length → ((nth t.sage.rails c).granted = true ↔ c ∈ rails ∧ s.heldOff (.rail c) = false)) ∧
      (∀ b, b < 12 → t.sage.branches.getLsbD b = (nets.getLsbD (64 + b) && !s.heldOff (.branch b))) ∧ (∀ k, k < 8 → t.sage.accReset.getLsbD k = (nets.getLsbD (76 + k) && !s.heldOff (.accReset k))) ∧
      (∀ k, k < 8 → t.thyme.pwrok.getLsbD k = (nets.getLsbD (84 + k) && !s.heldOff (.accReset k))) ∧ t.op.budgetSent = budgets ∧ t.op.ceil = ceil ∧ t.pair.mirNets = nets := by
  have hw := keepNets_within s
  have hsage : s.keepNets.sage = s.sage := hw.reads State.sage fun _ => rfl
  have hheld : ∀ e, s.keepNets.heldOff e = s.heldOff e := fun e => by
    cases e <;> simp only [State.heldOff, State.targetInScope, State.rail, hsage]
  unfold State.takeGrants
  generalize s.keepNets = v at hsage hheld
  refine ⟨fun c hc => ?_, fun b hb => ?_, fun k hk => ?_, fun k hk => ?_, rfl, rfl, rfl⟩
  · refine (iff_of_eq (congrArg (· = true) (mirrorRails_granted rails setpoints (hsage ▸ hc)))).trans ?_
    rw [hheld]
    simp
  · exact (bitsOf_getLsbD hb _).trans (by dsimp only; rw [hheld])
  · exact (bitsOf_getLsbD hk _).trans (by dsimp only; rw [hheld])
  · exact (bitsOf_getLsbD hk _).trans (by dsimp only; rw [hheld])

/-! ## The tray (15 R413) -/

/-- The feeds settle: of Thyme only what is deferred and requested changes. -/
def Settling (s t : State) : Prop := t.thyme = { s.thyme with deferredUp := t.thyme.deferredUp, requests := t.thyme.requests }

/-- What of Thyme does not look at these reads the same. -/
theorem Settling.reads {s t : State} (h : Settling s t) {α : Type} (f : ThymeState → α) (hf : ∀ x up reqs, f { x with deferredUp := up, requests := reqs } = f x) : f t.thyme = f s.thyme := by
  unfold Settling at h
  rw [h]
  exact hf ..

theorem feedsSettle_settling (s : State) : Settling s s.feedsSettle := by
  unfold State.feedsSettle
  dsimp only
  generalize ht : (if s.feed.demand = true then (s.enterInrush 0).enterInrush 1 else s) = t
  have hth : t.thyme = s.thyme := by
    rw [← ht]
    split
    · exact (enterInrush_beside (s.enterInrush 0) 1).2.1.trans (enterInrush_beside s 0).2.1
    · rfl
  unfold Settling
  split_ifs <;> rw [← hth] <;> rfl

/-- The switches follow the mirrored demand. -/
theorem takeFeeds_spec (s : State) (demand : Bool) (forced : List Bool) : Settling s (s.takeFeeds demand forced) ∧ (s.takeFeeds demand forced).feed.demand = demand := by
  unfold State.takeFeeds
  dsimp only
  generalize hu : s.onFeeds _ = u
  have hth : u.thyme = s.thyme := hu ▸ rfl
  have hd : u.feed.demand = s.feed.demand := hu ▸ rfl
  have hset : ∀ t : State, Settling u t → Settling s t := fun t h => by
    unfold Settling at h ⊢
    rw [h, hth]
  have hup : Settling u u.setDemand := by
    have h := feedsSettle_settling (u.onFeeds fun c => { c with demand := true })
    unfold Settling at h ⊢
    have hm : u.setDemand.thyme = (u.onFeeds fun c => { c with demand := true }).feedsSettle.thyme := State.mirrored_thyme ..
    rw [hm, h]
    rfl
  have hdown : Settling u u.clearDemand := by
    unfold Settling State.clearDemand
    rw [State.mirrored_thyme]
    rfl
  by_cases h : demand = u.feed.demand
  · rw [if_pos h]
    exact ⟨hset _ (feedsSettle_settling u), (feedsSettle_steady u).2.2.trans h.symm⟩
  · rw [if_neg h]
    cases demand with
    | true => exact ⟨hset _ hup, (setDemand_steady u).2.2⟩
    | false => exact ⟨hset _ hdown, clearDemand_demand u⟩

/-- The tray, accelerators and feed demand as the OWNER has them, this governor's own latches aside. -/
theorem takeTray_spec (s : State) (tray : TrayState) (accs : List AccState) (demand fault leak : Bool) (forced : List Bool) (minOff : Option Nat) (loss : Bool) :
    let t := s.takeTray tray accs demand fault leak forced minOff loss
    t.thyme.tray = tray ∧ t.thyme.latchLeak = leak ∧ t.feed.demand = demand ∧ t.thyme.minOffEnd = minOff.map s.ownTime ∧
      (∀ k, k < accs.length → s.sage.holdBranch.getLsbD k = false → nth t.thyme.accs k = nth accs k) ∧ (fault = true → t.thyme.latchFault = true) := by
  intro t
  have hclear : ∀ k, s.sage.holdBranch.getLsbD k = false → (s.followClears accs fault).sage.holdBranch.getLsbD k = false := fun k hk => by
    show (s.sage.holdBranch &&& _).getLsbD k = false
    rw [BitVec.getLsbD_and, hk, Bool.false_and]
  have htime : (s.followClears accs fault).ownTime = s.ownTime := rfl
  have ht : t = (((((s.followClears accs fault).onThyme fun t => ({ t with
      tray := tray, accs := accs.mapIdx fun n a => if (s.followClears accs fault).sage.holdBranch.getLsbD n then .fault else a, latchFault := fault || (s.followClears accs fault).sage.holdFault, latchLeak := leak
      minOffEnd := minOff.map (s.followClears accs fault).ownTime, afterInputLoss := loss } : ThymeState).followed).takeFeeds demand forced).throttleIdle).refreshSensors) := rfl
  rw [htime] at ht
  generalize s.followClears accs fault = c at hclear ht
  generalize hv : (c.onThyme fun t => _) = v at ht
  have hvt : v.thyme.tray = tray ∧ v.thyme.latchLeak = leak ∧ v.thyme.minOffEnd = minOff.map s.ownTime ∧ v.thyme.accs = (accs.mapIdx fun n a => if c.sage.holdBranch.getLsbD n then .fault else a) ∧ v.thyme.latchFault = (fault || c.sage.holdFault) := by
    rw [← hv]
    exact ⟨rfl, rfl, rfl, rfl, rfl⟩
  obtain ⟨h1, h2, h3, h4, h5⟩ := hvt
  obtain ⟨hs, hd⟩ := takeFeeds_spec v demand forced
  generalize v.takeFeeds demand forced = w at hs hd ht
  have hq : Quiet w t := ht ▸ (throttleIdle_quiet w).trans (refreshSensors_quiet _)
  have hst : Settling v t := by
    unfold Settling at hs ⊢
    rw [hq.thyme]
    exact hs
  refine ⟨(hst.reads ThymeState.tray fun _ _ _ => rfl).trans h1, (hst.reads ThymeState.latchLeak fun _ _ _ => rfl).trans h2, (congrArg FeedState.demand hq.feed).trans hd, (hst.reads ThymeState.minOffEnd fun _ _ _ => rfl).trans h3,
    fun k hk hb => ?_, fun hf => ?_⟩
  · rw [hst.reads ThymeState.accs fun _ _ _ => rfl, h4, nth_mapIdx hk, hclear k hb]
    rfl
  · rw [hst.reads ThymeState.latchFault fun _ _ _ => rfl, h5, hf, Bool.true_or]

/-! ## Semaphores (02 R61, 15 R413) -/

theorem takeSems_spec (s : State) (l : List (Option SemHolder)) : (s.takeSems l).sems = (List.range 16).map fun i => (nth l i).map fun y => { y with leaseEnd := s.ownTime y.leaseEnd } := by
  have h : Within releaseParts { s with sems := (List.range 16).map fun i => (nth l i).map fun y => { y with leaseEnd := s.ownTime y.leaseEnd } } (s.takeSems l) :=
    .foldl (fun t id => released_within t id _ true) _ _
  exact h.reads State.sems fun _ => rfl

/-! ## A record is applied and acknowledged (15 R410) -/

/-- A record has been taken; it is noted as applied, and acknowledged. -/
def recordNoted (s : State) (n : Nat) : State := (s.saveSettings.onPair fun p => { p with mseqApplied := n, bulkLeft := 0 }).mirOut (.recordAck n)

theorem recordNoted_spec (s : State) (n : Nat) :
    let t := recordNoted s n
    t.pair.mseqApplied = n ∧ (∃ l, t.pair.out = l ++ [.recordAck n]) ∧ Within [.pair, .sec] s t ∧ t.pair.fromPartner = s.pair.fromPartner ∧ t.pair.mirNets = s.pair.mirNets := by
  have hs := saveSettings_eq (s := s)
  unfold recordNoted
  generalize s.saveSettings = v at hs
  rw [hs]
  exact ⟨rfl, ⟨_, rfl⟩, rfl, rfl, rfl⟩

end Sys2Proof.Proofs
end

section
/-! SUPPORT. The pair's commands of a session, a record's arrival, and the mirror as a whole. -/

namespace Sys2Proof.Proofs

open Sys2Proof Sys2Proof.Machine

/-! ## The pair's commands of a session (15 R423, R424) -/

theorem pairHandover_answers (u : State) (c : Ctx) :
    let r := (bodyPairHandover c u).1
    let t := (bodyPairHandover c u).2
    if u.thyme.latched = true ∨ u.deferConds.getLsbD 0 = true then r = Reply.fail .emergencyActive ∧ t = u
    else if u.pair.mstate ≠ .mirroring ∨ u.allIdle = false then r = Reply.fail .stateConflict ∧ t = u
    else r = { status := .accepted } ∧ t = { u with pair := { u.pair with handover := .accepted c.port } } := by
  have href : u.handoverRefused = if u.thyme.latched = true ∨ u.deferConds.getLsbD 0 = true then some .emergencyActive else if u.pair.mstate ≠ .mirroring ∨ u.allIdle = false then some .stateConflict else none := by
    simp only [State.handoverRefused, Bool.not_eq_true']
  unfold bodyPairHandover
  rw [href]
  by_cases h1 : u.thyme.latched = true ∨ u.deferConds.getLsbD 0 = true
  · simp only [if_pos h1]
    exact ⟨rfl, rfl⟩
  · by_cases h2 : u.pair.mstate ≠ .mirroring ∨ u.allIdle = false
    · simp only [if_neg h1, if_pos h2]
      exact ⟨rfl, rfl⟩
    · simp only [if_neg h1, if_neg h2]
      exact ⟨rfl, rfl⟩

theorem pairStatus_answers (u : State) (c : Ctx) :
    let r := (bodyPairStatus c u).1
    (bodyPairStatus c u).2 = u ∧ r.status = .ok ∧ r.detail = 0 ∧
      r.payload.take 4 = i1 u.pair.role.code ++ i1 u.position ++ i1 u.pair.mstate.code ++ i1 (packBits [u.pair.alive, u.pair.ownLow, u.pair.pull, u.mirTrained, u.pair.limitsDiffer, u.isOwner && u.pair.mstate == .detached && u.pair.alive]) := by
  refine ⟨rfl, rfl, rfl, ?_⟩
  unfold bodyPairStatus okay
  simp only [List.append_assoc]
  rfl

theorem mirrorStatus_answers (u : State) (c : Ctx) :
    let r := (bodyMirrorStatus c u).1
    r.status = .ok ∧ r.detail = 0 ∧ r.payload.take 24 = i8 u.pair.sent ++ i8 u.pair.acked ++ i4 (1000 * u.pair.lagMax) ++ i4 (1000 * u.pair.lagSum / u.pair.lagCount) ∧
      (bodyMirrorStatus c u).2 = { u with pair := { u.pair with lagMax := 0, lagSum := 0, lagCount := 0 } } := by
  refine ⟨rfl, rfl, ?_, rfl⟩
  unfold bodyMirrorStatus okay
  simp only [List.append_assoc]
  rfl

/-! ## A record arrives (15 R410, R413) -/

/-- What the STANDBY holds once it has applied a record. -/
def Applied (s : State) (x : MirContent) (t : State) : Prop :=
  match x with
  | .hub st => t.sync = { st.shifted s.ownTime with sent := s.sync.sent, awaitCopy := false } ∧ Within [.sync, .pair, .sec] s t
  | .sems l => t.sems = (List.range 16).map fun i => (nth l i).map fun y => { y with leaseEnd := s.ownTime y.leaseEnd }
  | .thyme ctxs rq on set dup off due => t.thyme.ctxs = ctxs.map (fun c => c.shifted s.ownTime) ∧ t.thyme.requests = rq.map (fun r => (r.1, s.ownTime r.2)) ∧ t.thyme.autoOn = on ∧ t.thyme.set = set ∧
    t.thyme.deferredUp = dup ∧ t.thyme.accMinOffEnd = off.map (fun t => t.map s.ownTime) ∧ t.thyme.emergencyDue = due ∧ t.thyme.tray = s.thyme.tray ∧ t.thyme.accs = s.thyme.accs ∧ Within [.thyme, .pair, .sec] s t
  | .grants rails _ _ bu ce nets =>
    (∀ c, c < s.sage.rails.length → ((nth t.sage.rails c).granted = true ↔ c ∈ rails ∧ s.heldOff (.rail c) = false)) ∧
    (∀ b, b < 12 → t.sage.branches.getLsbD b = (nets.getLsbD (64 + b) && !s.heldOff (.branch b))) ∧ (∀ k, k < 8 → t.sage.accReset.getLsbD k = (nets.getLsbD (76 + k) && !s.heldOff (.accReset k))) ∧
    (∀ k, k < 8 → t.thyme.pwrok.getLsbD k = (nets.getLsbD (84 + k) && !s.heldOff (.accReset k))) ∧ t.op.budgetSent = bu ∧ t.op.ceil = ce ∧ t.pair.mirNets = nets
  | .tray ty accs demand fault leak _ off _ => t.thyme.tray = ty ∧ t.thyme.latchLeak = leak ∧ t.feed.demand = demand ∧ t.thyme.minOffEnd = off.map s.ownTime ∧
    (∀ k, k < accs.length → s.sage.holdBranch.getLsbD k = false → nth t.thyme.accs k = nth accs k) ∧ (fault = true → t.thyme.latchFault = true)
  | .op pn ce cc up armed seq w f g b pf => t.op = (s.op.mirrored pn ce cc up armed seq w f g b pf).capped s.sage.limits ∧ Within [.op, .pair, .sec] s t
  | .phaseState tb ac sl od fr => t.phase = { s.phase with table := tb, acc := ac, slots := sl, order := od, frameNo := fr, snapDue := true } ∧ Within [.phase, .pair, .sec] s t
  | .ledger st => t.ledger = s.ledger.copied st ∧ t.pair.fromPartner = false ∧ Within [.ledger, .pair, .sec] s t
  | .host k q i qs b pu => t.link = { s.link with ctxKeys := k, queueKeys := q, imageKeys := i, queues := qs, buffers := b, pushes := pu } ∧ Within [.link, .pair, .sec] s t
  | .repro st => t.repro = st ∧ Within [.repro, .pair, .sec] s t
  | .plan q => t.upd.plan = q ∧ Within [.upd, .pair, .sec] s t
  | _ => True

/-- Each row of the mirrored-state table is held as it came. -/
theorem recordNoted_applied (s : State) (x : MirContent) (n : Nat) : Applied s x (recordNoted (s.takeRecord x) n) := by
  obtain ⟨-, -, hw, hfrom, hnets⟩ := recordNoted_spec (s.takeRecord x) n
  generalize recordNoted (s.takeRecord x) n = t at hw hfrom hnets
  have hthyme : t.thyme = (s.takeRecord x).thyme := hw.reads State.thyme fun _ => rfl
  have hop : t.op = (s.takeRecord x).op := hw.reads State.op fun _ => rfl
  have hsage : t.sage = (s.takeRecord x).sage := hw.reads State.sage fun _ => rfl
  have hrow : ∀ ps, Within ps s (s.takeRecord x) → among [.pair, .sec] ps = true → Within ps s t := fun ps h hp => h.trans (hw.mono hp)
  cases x with
  | hub st => exact ⟨(hw.reads State.sync fun _ => rfl).trans rfl, hrow [.sync, .pair, .sec] rfl rfl⟩
  | sems l => exact (hw.reads State.sems fun _ => rfl).trans (takeSems_spec s l)
  | thyme ctxs rq on set dup off due =>
    exact ⟨congrArg ThymeState.ctxs hthyme, congrArg ThymeState.requests hthyme, congrArg ThymeState.autoOn hthyme, congrArg ThymeState.set hthyme, congrArg ThymeState.deferredUp hthyme,
      congrArg ThymeState.accMinOffEnd hthyme, congrArg ThymeState.emergencyDue hthyme, (congrArg ThymeState.tray hthyme).trans rfl, (congrArg ThymeState.accs hthyme).trans rfl, hrow [.thyme, .pair, .sec] rfl rfl⟩
  | grants rails sp du bu ce nets =>
    have h := takeGrants_spec s rails sp du bu ce nets
    show _ ∧ _
    rw [hsage, hthyme, hop, hnets]
    exact h
  | tray ty accs demand fault leak forced off loss =>
    have h := takeTray_spec s ty accs demand fault leak forced off loss
    have hfeed : t.feed = (s.takeRecord (.tray ty accs demand fault leak forced off loss)).feed := hw.reads State.feed fun _ => rfl
    show _ ∧ _
    rw [hthyme, hfeed]
    exact h
  | op pn ce cc up armed seq w f g b pf => exact ⟨hop.trans rfl, hrow [.op, .pair, .sec] rfl rfl⟩
  | phaseState tb ac sl od fr => exact ⟨(hw.reads State.phase fun _ => rfl).trans rfl, hrow [.phase, .pair, .sec] rfl rfl⟩
  | ledger st => exact ⟨(hw.reads State.ledger fun _ => rfl).trans rfl, hfrom.trans rfl, hrow [.ledger, .pair, .sec] rfl rfl⟩
  | host k q i qs b pu => exact ⟨(hw.reads State.link fun _ => rfl).trans rfl, hrow [.link, .pair, .sec] rfl rfl⟩
  | repro st => exact ⟨(hw.reads State.repro fun _ => rfl).trans rfl, hrow [.repro, .pair, .sec] rfl rfl⟩
  | plan q => exact ⟨congrArg UpdateState.plan (hw.reads State.upd fun _ => rfl), hrow [.upd, .pair, .sec] rfl rfl⟩
  | phaseAction slot action model => trivial
  | cool fanI pumpI fanOv pumpOv valveOv levels graceMs => trivial
  | events r => trivial
  | semAnswer port session reqId status payload => trivial
  | bulkItem bytes => trivial
  | path pkg cls body => trivial

/-- The OWNER takes a recorder record. -/
theorem recorder_taken {s : State} {x : MirContent} (hx : x.recorder = true) (n : Nat) :
    let t := ((s.takeRecord x).onPair fun p => { p with mseqApplied := n }).mirOut (.recordAck n)
    t.pair.mseqApplied = n ∧ (∃ l, t.pair.out = l ++ [.recordAck n]) ∧ Within [.pair, .rec_] s t := by
  cases x with
  | events r => exact ⟨rfl, ⟨_, rfl⟩, rfl⟩
  | _ => exact nomatch hx

theorem mirrorRecord_done (s : State) (n : U32) (x : MirContent) : Completes (.mirrorRecordApply n x) s fun t =>
    if s.pair.role = .standby ∧ s.mirTrained = true ∧ s.pair.mstate = .detached ∧ x.unnumbered = true then t = s.takeRecord x
    else if s.pair.role = .owner ∧ s.mirTrained = true ∧ s.pair.mstate ≠ .detached ∧ x.recorder = true then t.pair.mseqApplied = n.toNat ∧ (∃ l, t.pair.out = l ++ [.recordAck n.toNat]) ∧ t.without [.pair, .rec_] = s.without [.pair, .rec_]
    else if s.pair.role = .standby ∧ s.mirTrained = true ∧ s.pair.mstate ≠ .detached ∧ (n.toNat = (s.pair.mseqApplied + 1) % 2 ^ 32 ∨ (s.pair.mstate = .syncing ∧ s.pair.bulkLeft = 1)) then
      t.pair.mseqApplied = n.toNat ∧ (∃ l, t.pair.out = l ++ [.recordAck n.toNat]) ∧ Applied s x t
    else t = s := by
  have hexec : exec (.mirrorRecordApply n x) s = execMirrorRecordApply n x s := rfl
  unfold execMirrorRecordApply at hexec
  refine ⟨_, hexec, ?_⟩
  by_cases h1 : s.pair.role = .standby ∧ s.mirTrained = true ∧ s.pair.mstate = .detached ∧ x.unnumbered = true
  · simp only [if_pos h1]
  · by_cases h2 : s.pair.role = .owner ∧ s.mirTrained = true ∧ s.pair.mstate ≠ .detached ∧ x.recorder = true
    · simp only [if_neg h1, if_pos h2]
      exact recorder_taken h2.2.2.2 n.toNat
    · by_cases h3 : s.pair.role = .standby ∧ s.mirTrained = true ∧ s.pair.mstate ≠ .detached ∧ (n.toNat = (s.pair.mseqApplied + 1) % 2 ^ 32 ∨ (s.pair.mstate = .syncing ∧ s.pair.bulkLeft = 1))
      · simp only [if_neg h1, if_neg h2, if_pos h3]
        obtain ⟨ha, ho, -⟩ := recordNoted_spec (s.takeRecord x) n.toNat
        exact ⟨ha, ho, recordNoted_applied s x n.toNat⟩
      · simp only [if_neg h1, if_neg h2, if_neg h3]

/-- Settles O53, from what each command does under its condition, and from what each row of the mirrored state brings. -/
theorem mirrorAndHandover : Obligations.mirror_and_handover := by
  unfold Obligations.mirror_and_handover
  intro s hp
  refine ⟨fun n x => ?_, mirrorAck_done s, strapExchange_done hp, syncingStart_done s, mirroringEntry_done hp, mirrorLoss_done hp, handoverRelease_done s, handoverRecord_done s, handoverAbandon_done hp,
    fun h => ⟨Laws.answers_of rfl fun se _ _ k hk _ _ _ _ _ => ?_, Laws.answers_of rfl fun se _ _ k _ _ _ _ _ _ => pairStatus_answers (s.taken h se) k,
      Laws.answers_of rfl fun se _ _ k _ _ _ _ _ _ => mirrorStatus_answers (s.taken h se) k⟩⟩
  · have hx := mirrorRecord_done s n x
    cases x <;> exact hx
  · have ha := pairHandover_answers (s.taken h se) k
    rw [hk] at ha
    exact ha

end Sys2Proof.Proofs
end

section
/-! SUPPORT. Identity, attestation, the customer key and debug access (04 R98, R104, R106, R107, R109, R110). -/

namespace Sys2Proof.Proofs

open Sys2Proof Sys2Proof.Machine

section

variable (s : State) (c : Ctx)

/-! ## Identity (R106) -/

theorem certChainRead_answers (i : U8) :
    let a := bodyCertChainRead i c s
    a.2 = s ∧ a.1 = if 2 < i.toNat then Reply.fail .badArg else { payload := if i = 0 then s.sec.idkCert else keyCertificate s.sec.serial i.toNat } := by
  unfold bodyCertChainRead
  simp only [check_one, decide_eq_true_eq]
  split <;> exact ⟨rfl, rfl⟩

/-! ## The customer key (R98) -/

theorem customerKeyEnroll_answers (based : U32) (key : BitVec 384) (ok : Bool) :
    let a := bodyCustomerKeyEnroll based key ok c s
    if s.anchor.ckEnrolled = true ∧ ok = false then a.1.status = .integrityFail ∧ a.2 = s
    else a.1.status = .accepted ∧ a.2 = { s with sec := { s.sec with anchorStaging := some (based.toNat, .enrol key) } } := by
  unfold bodyCustomerKeyEnroll
  simp only [check_one, Bool.and_eq_true, Bool.not_eq_true']
  split <;> exact ⟨rfl, rfl⟩

theorem customerKeyEnrollRemove_answers (based : U32) (ok : Bool) :
    let a := bodyCustomerKeyEnrollRemove based ok c s
    if s.anchor.ckEnrolled = true ∧ ok = true then a.1.status = .accepted ∧ a.2 = { s with sec := { s.sec with anchorStaging := some (based.toNat, .remove) } }
    else a.1.status = .integrityFail ∧ a.2 = s := by
  have hrefused : ((!s.anchor.ckEnrolled || !ok) = true) = ¬(s.anchor.ckEnrolled = true ∧ ok = true) := by
    simp only [← Bool.not_and, Bool.not_eq_true', ← Bool.not_eq_true, Bool.and_eq_true]
  unfold bodyCustomerKeyEnrollRemove
  simp only [check_one, hrefused, ite_not]
  split <;> exact ⟨rfl, rfl⟩

/-! ## The recovery loader (R104) -/

theorem bootRecovery_answers :
    let a := bodyBootRecovery c s
    if s.sage.branches &&& 0xDFF#12 ≠ 0 ∧ s.pair.role ≠ .standby then a.1.status = .stateConflict ∧ a.2 = s
    else a.1.status = .accepted ∧ a.2.clk = { s.clk with recoveryAt := some (s.gt + ms 1) } ∧ Within [.clk, .rec_, .upd] s a.2 := by
  have hc : ((s.branchOn && s.pair.role != .standby) = true) = (s.sage.branches &&& 0xDFF#12 ≠ 0 ∧ s.pair.role ≠ .standby) := by
    simp only [State.branchOn, Bool.and_eq_true, bne_iff_ne]
  unfold bodyBootRecovery
  simp only [check_one, hc]
  split
  · exact ⟨rfl, rfl⟩
  · exact ⟨rfl, State.event_clk .., .trans (t := s.onClk fun c => { c with recoveryAt := some (s.gt + ms 1) }) rfl (event_within ..)⟩

/-! ## Debug access (R109, R110) -/

/-- The state whose challenge is consumed. -/
def unchallenged : State := { s with sec := { s.sec with unlock := { s.sec.unlock with challenge := none } } }

theorem lockDebug_locks : s.lockDebug.sec.unlock.scope = 0 ∧ Within [.sec, .rec_, .upd] s s.lockDebug := by
  unfold State.lockDebug
  split
  · exact ⟨‹_›, .refl s⟩
  · refine ⟨?_, .trans (t := s.onSec fun c => { c with unlock := { c.unlock with scope := 0, lockAt := none } }) rfl (event_within ..)⟩
    rw [State.event_sec]
    rfl

theorem debugUnlock_answers (magic : U32) (serial : BitVec 128) (ch : BitVec 256) (scope dur : U32) (v o : Bool) :
    let a := bodyDebugUnlock magic serial ch scope dur { vendorOk := v, custOk := o } c s
    a.2.sec.unlock.challenge = none ∧
      if magic ≠ 0x5444474C ∨ 7 < scope.toNat ∨ dur.toNat = 0 ∨ 86400 < dur.toNat then a.1.status = .badArg ∧ a.2 = unchallenged s
      else if serial = s.sec.serial ∧ s.sec.unlock.challenge = some ch ∧ v = true ∧ (s.anchor.ckEnrolled = false ∨ o = true) then
        a.1.status = .ok ∧ a.2.sec.unlock.scope = scope ∧ a.2.sec.unlock.lockAt = some (s.gt + secs dur.toNat) ∧ Within [.sec, .rec_, .upd] s a.2
      else a.1.status = .integrityFail ∧ a.2 = unchallenged s := by
  have hbad : ((magic != 0x5444474C || decide (7 < scope.toNat) || decide (dur.toNat = 0) || decide (86400 < dur.toNat)) = true) =
      (magic ≠ 0x5444474C ∨ 7 < scope.toNat ∨ dur.toNat = 0 ∨ 86400 < dur.toNat) := by
    simp only [Bool.or_eq_true, bne_iff_ne, decide_eq_true_eq, or_assoc]
  have hok : ((serial == s.sec.serial && s.sec.unlock.challenge == some ch && v && (!s.anchor.ckEnrolled || o)) = true) =
      (serial = s.sec.serial ∧ s.sec.unlock.challenge = some ch ∧ v = true ∧ (s.anchor.ckEnrolled = false ∨ o = true)) := by
    simp only [Bool.and_eq_true, Bool.or_eq_true, beq_iff_eq, Bool.not_eq_true', and_assoc]
  unfold bodyDebugUnlock
  simp only [check_one, hbad, hok]
  split
  · exact ⟨rfl, rfl, rfl⟩
  · split
    · rw [okay, State.event_sec]
      exact ⟨rfl, rfl, rfl, rfl, .trans (t := s.onSec fun c => { c with unlock := { c.unlock with challenge := none, scope := scope, lockAt := some (s.gt + secs dur.toNat) } }) rfl (event_within ..)⟩
    · exact ⟨rfl, rfl, rfl⟩

end

/-- The duration of the unlock has passed, or not yet (R110). -/
theorem debugDurationEnd_done {s : State} {g : Nat} (hg : s.sec.unlock.lockAt = some g) :
    Completes .debugDurationEnd s fun t => if g ≤ s.gt then t.sec.unlock.scope = 0 ∧ Within [.sec, .rec_, .upd] s t else t = s := by
  have hexec : exec .debugDurationEnd s = .next (if g ≤ s.gt then s.lockDebug else s) := by
    show execDebugDurationEnd s = _
    unfold execDebugDurationEnd
    rw [hg]
  refine ⟨_, hexec, ?_⟩
  split
  · exact lockDebug_locks s
  · rfl

/-- Settles O16, from what each command answers and leaves. -/
theorem identityAndDebug : Obligations.identity_and_debug := by
  unfold Obligations.identity_and_debug
  intro s h
  refine ⟨fun nonce => Laws.answers_of rfl fun se _ _ k _ _ _ _ _ _ => ⟨rfl, rfl⟩,
    fun i => Laws.answers_of rfl fun se _ _ k _ _ _ _ _ _ => certChainRead_answers (s.taken h se) k i,
    Laws.answers_of rfl fun se _ _ k _ _ _ _ _ _ => ⟨rfl, rfl, rfl⟩,
    fun b key ok => Laws.answers_of rfl fun se _ _ k _ _ _ _ _ _ => customerKeyEnroll_answers (s.taken h se) k b key ok,
    fun b ok => Laws.answers_of rfl fun se _ _ k _ _ _ _ _ _ => customerKeyEnrollRemove_answers (s.taken h se) k b ok,
    Laws.answers_of rfl fun se _ _ k _ _ _ _ _ _ => ⟨Config.freeNonce s.free, rfl, rfl, rfl⟩,
    fun magic serial ch scope dur v o => Laws.answers_of rfl fun se _ _ k _ _ _ _ _ _ => debugUnlock_answers (s.taken h se) k magic serial ch scope dur v o,
    Laws.answers_of rfl fun se _ _ k _ _ _ _ _ _ => ⟨rfl, lockDebug_locks (s.taken h se)⟩,
    fun g hg => debugDurationEnd_done hg,
    Laws.answers_of rfl fun se _ _ k _ _ _ _ _ _ => bootRecovery_answers (s.taken h se) k⟩

end Sys2Proof.Proofs
end

section
/-! SUPPORT. What is common to commands that note a change, and image pushes that start and end (13 R383). -/

namespace Sys2Proof.Proofs

open Sys2Proof Sys2Proof.Machine

theorem check_three (b c d : Bool) (st st' st'' : Status) (s : State) (k : Unit → Answer) :
    check [(b, st), (c, st'), (d, st'')] s k = if b = true then refuse st s else if c = true then refuse st' s else if d = true then refuse st'' s else k () := rfl

/-- A command that refuses under a condition, and otherwise goes on. -/
theorem guarded {p : Prop} [Decidable p] {dec : Decidable p} {a b : Answer} {st : Status} {s : State} {Q : Prop} (ha : a = if p then refuse st s else b) (h : ¬p → a = b → Q) :
    @ite _ p dec (a.1 = Reply.fail st ∧ a.2 = s) Q := by
  by_cases hp : p
  · rw [if_pos hp] at ha
    rw [if_pos hp, ha]
    exact ⟨rfl, rfl⟩
  · rw [if_neg hp] at ha
    rw [if_neg hp]
    exact h hp ha

/-! ## Events of a tick -/

theorem evPort_num_lt (port : EvPort) : port.num < 16 := by
  cases port <;> decide

/-- A change within some parts is told by an event, and its mirror record follows. -/
theorem event_mirrored_spec {ps qs : List Part} {s u : State} (h16 : s.rec_.ports.length = 16) (ha : Adding s u) (hw : Within ps s u) (port : EvPort) {code : Nat}
    (hc : reservedEvent code = false) {sev : Nat} (hs : sev < 3) (src : Nat) (payload : List Byte) (kind : MirKind) (hp : among ps qs = true) (hq : among [.rec_, .pair] qs = true) :
    Recorded s ((u.event port code sev src payload).mirrored kind) port code sev ∧ Within qs s ((u.event port code sev src payload).mirrored kind) := by
  have hrec : Within [.rec_, .pair] u ((u.event port code sev src payload).mirrored kind) := ((event_within_rec u port code src hs payload).mono rfl).trans (mirrored_within ..)
  exact ⟨(mirrored_adding _ kind).recorded (ha.event (h16 ▸ evPort_num_lt port) hc sev src payload), (hw.mono hp).trans (hrec.mono hq)⟩

/-! ## Folds -/

/-- Each element of a fold brings about what later steps, in the order `R`, keep. -/
theorem foldl_establishes {α : Type} {R : State → State → Prop} {Q : α → State → Prop} (hr : ∀ s, R s s) (ht : ∀ {s t u}, R s t → R t u → R s u) {f : State → α → State}
    {s₀ : State} (hf : ∀ s a, R s (f s a)) (hq : ∀ s a, R s₀ s → Q a (f s a)) (hk : ∀ a s t, R s t → Q a s → Q a t) (l : List α) {s : State} (hs : R s₀ s) :
    ∀ a ∈ l, Q a (l.foldl f s) := by
  induction l generalizing s with
  | nil => exact nofun
  | cons b l ih =>
    intro a ha
    rcases List.mem_cons.mp ha with rfl | ha
    · exact hk a _ _ (foldl_within hr ht hf l _) (hq s a hs)
    · exact ih (ht hs (hf s b)) a ha

theorem mem_members (b : BitVec 8) (n : Nat) : n ∈ members b ↔ b.getLsbD n = true := by
  simp only [members, indices, List.mem_filter, List.mem_range]
  exact ⟨And.right, fun h => ⟨BitVec.lt_of_getLsbD h, h⟩⟩

theorem eq_zero_iff_members (b : BitVec 8) : b = 0 ↔ ∀ n, n ∉ members b := by
  simp only [mem_members, Bool.not_eq_true]
  exact ⟨fun h n => h ▸ BitVec.getLsbD_zero, fun h => BitVec.eq_of_getLsbD_eq fun n _ => (h n).trans BitVec.getLsbD_zero.symm⟩

/-! ## Messages to packages -/

theorem onSkv_linkPorts (s : State) (n : Nat) (f : SkvPort → SkvPort) : ∃ ports, (s.onSkv n f).link = { s.link with ports := ports } := by
  unfold State.onSkv
  split
  · exact ⟨s.link.ports, rfl⟩
  · exact ⟨_, rfl⟩

/-- Of the links, a message to a package changes the ports alone. -/
theorem skvSend_linkPorts (s : State) (n cls : Nat) (body : List Byte) : ∃ ports, (s.skvSend n cls body).link = { s.link with ports := ports } := by
  unfold State.skvSend
  split
  · exact ⟨s.link.ports, rfl⟩
  · unfold State.portSend State.pump
    obtain ⟨p, hp⟩ := onSkv_linkPorts s n fun p => if p.phase = .unused then p else { p with txq := p.txq ++ [({ cls := cls, body := body } : SkvMsg)] }
    obtain ⟨q, hq⟩ := onSkv_linkPorts (s.onSkv n _) n (SkvPort.pumped _ _ _ 512)
    exact ⟨q, hq.trans (by rw [hp])⟩

/-- Of the links, messages to packages change the ports alone. -/
theorem skvSends_linkPorts (cls : Nat) (body : List Byte) (l : List Nat) (s : State) : ∃ ports, (l.foldl (fun s n => s.skvSend n cls body) s).link = { s.link with ports := ports } := by
  induction l generalizing s with
  | nil => exact ⟨s.link.ports, rfl⟩
  | cons n l ih =>
    obtain ⟨p, hp⟩ := skvSend_linkPorts s n cls body
    obtain ⟨q, hq⟩ := ih (s.skvSend n cls body)
    exact ⟨q, hq.trans (by rw [hp])⟩

/-! ## A push starts (R383) -/

/-- The push that starts next. -/
def newPush (s : State) (mask : BitVec 8) (obj : ObjectImage) (content : Option Mem) (overlay : Bool) : ImagePush :=
  { id := (s.link.pushId + 1) % 2 ^ 32, mask := mask, obj := obj, content := content, overlay := overlay }

theorem startPush_spec (s : State) (mask : BitVec 8) (obj : ObjectImage) (content : Option Mem) (overlay : Bool) :
    let p := newPush s mask obj content overlay
    let a := s.startPush mask obj content overlay
    a.1 = p.id ∧ a.2.link.pushId = p.id ∧ a.2.link.pushes = s.link.pushes ++ [p] ∧ Within [.link, .pair] s a.2 := by
  intro p a
  let u := s.onLink fun l => { l with pushId := p.id, pushes := l.pushes ++ [p] }
  have ha : a.2 = (members mask).foldl (fun s n => s.skvSend n 6 (imgMessage 1 p.id (digestBytes obj.man.digest))) u := rfl
  obtain ⟨ports, hl⟩ := skvSends_linkPorts 6 (imgMessage 1 p.id (digestBytes obj.man.digest)) (members mask) u
  have hw : Within [.link, .pair] u a.2 := ha ▸ .foldl (fun s n => (skvSend_outward s n 6 _).within) (members mask) u
  rw [← ha] at hl
  exact ⟨rfl, by rw [hl]; rfl, by rw [hl]; rfl, .trans (t := u) rfl hw⟩

/-! ## Pushes end (R383) -/

/-- Every push left is one of the earlier ones, to some of its packages. -/
def Thinned (l l' : List ImagePush) : Prop := ∀ q ∈ l', ∃ p ∈ l, p.id = q.id ∧ ∀ n, q.mask.getLsbD n = true → p.mask.getLsbD n = true

theorem Thinned.refl (l : List ImagePush) : Thinned l l := fun q hq => ⟨q, hq, rfl, fun _ => id⟩

theorem Thinned.trans {l l' l'' : List ImagePush} (h : Thinned l l') (h' : Thinned l' l'') : Thinned l l'' := fun q hq => by
  obtain ⟨p, hp, hid, hmask⟩ := h' q hq
  obtain ⟨p', hp', hid', hmask'⟩ := h p hp
  exact ⟨p', hp', hid'.trans hid, fun n hn => hmask' n (hmask n hn)⟩

/-- No push of an ID goes to a package. -/
def Ended (id n : Nat) (l : List ImagePush) : Prop := ∀ q ∈ l, q.id = id → q.mask.getLsbD n = false

theorem Ended.thinned {id n : Nat} {l l' : List ImagePush} (h : Ended id n l) (h' : Thinned l l') : Ended id n l' := fun q hq hid => by
  obtain ⟨p, hp, hpid, hmask⟩ := h' q hq
  exact Bool.eq_false_iff.mpr fun hn => Bool.false_ne_true ((h p hp (hpid.trans hid)).symm.trans (hmask n hn))

theorem without_getLsbD (p : ImagePush) (n k : Nat) : (p.without n).mask.getLsbD k = (p.mask.getLsbD k && !decide (k = n)) := by
  have hbit : k < 8 → (1#8 <<< n).getLsbD k = decide (k = n) := fun hk => by
    rw [BitVec.getLsbD_shiftLeft, BitVec.getLsbD_one, Bool.eq_iff_iff]
    simp only [Bool.and_eq_true, Bool.not_eq_true', decide_eq_true_eq, decide_eq_false_iff_not]
    omega
  rw [ImagePush.without, BitVec.getLsbD_and, BitVec.getLsbD_not]
  by_cases hk : k < 8
  · rw [hbit hk, decide_eq_true hk, Bool.true_and]
  · rw [BitVec.getLsbD_of_ge _ _ (Nat.not_lt.mp hk), Bool.false_and, Bool.false_and]

theorem mem_pushLeaves {l : LinkState} {id n : Nat} {q : ImagePush} (h : q ∈ (l.pushLeaves id n).pushes) : ∃ p ∈ l.pushes, q = if p.id = id then p.without n else p := by
  obtain ⟨h, -⟩ := List.mem_filter.mp h
  obtain ⟨p, hp, rfl⟩ := List.mem_map.mp h
  exact ⟨p, hp, rfl⟩

theorem pushLeaves_thinned (l : LinkState) (id n : Nat) : Thinned l.pushes (l.pushLeaves id n).pushes := fun q hq => by
  obtain ⟨p, hp, rfl⟩ := mem_pushLeaves hq
  refine ⟨p, hp, ?_⟩
  split
  · exact ⟨rfl, fun k hk => by rw [without_getLsbD, Bool.and_eq_true] at hk; exact hk.1⟩
  · exact ⟨rfl, fun k hk => hk⟩

theorem pushLeaves_ended (l : LinkState) (id n : Nat) : Ended id n (l.pushLeaves id n).pushes := fun q hq hid => by
  obtain ⟨p, hp, rfl⟩ := mem_pushLeaves hq
  by_cases h : p.id = id
  · rw [if_pos h, without_getLsbD, decide_eq_true rfl, Bool.not_true, Bool.and_false]
  · rw [if_neg h] at hid
    exact absurd hid h

/-- What waits for a push leaves the links alone. -/
theorem substDone_link (s : State) (id n : Nat) (ok : Bool) : (s.substDone id n ok).link = s.link := by
  unfold State.substDone
  split
  · rfl
  · dsimp only
    split
    · rw [State.mirrored_link, State.substEvent, State.event_link]
    · split
      · rfl
      · rw [State.mirrored_link, State.substEvent, State.event_link]
        rw [saveSettings_eq]

theorem pushEnds_link (s : State) (id n : Nat) (ok : Bool) : (s.pushEnds id n ok).link = s.link.pushLeaves id n :=
  (substDone_link ..).trans (State.event_link ..)

/-- Pushes have come to an end, and what was recorded is kept. -/
structure Ending (s t : State) : Prop where
  adding : Adding s t
  thinned : Thinned s.link.pushes t.link.pushes

namespace Ending

theorem refl (s : State) : Ending s s := ⟨.refl s, .refl _⟩

theorem trans {s t u : State} (h : Ending s t) (h' : Ending t u) : Ending s u := ⟨h.adding.trans h'.adding, h.thinned.trans h'.thinned⟩

end Ending

theorem skvSend_ending (s : State) (n cls : Nat) (body : List Byte) : Ending s (s.skvSend n cls body) := by
  obtain ⟨ports, h⟩ := skvSend_linkPorts s n cls body
  exact ⟨(skvSend_passing s n cls body).adding, by rw [h]; exact .refl _⟩

theorem pushEnds_ending (s : State) (id n : Nat) (ok : Bool) : Ending s (s.pushEnds id n ok) :=
  ⟨(pushEnds_unpushed s id n ok).adding, by rw [pushEnds_link]; exact pushLeaves_thinned s.link id n⟩

/-- The end of a push is recorded (R386). -/
theorem pushEnds_recorded {r s : State} (h16 : r.rec_.ports.length = 16) (h : Adding r s) (id n : Nat) : Recorded r (s.pushEnds id n false) .fp3 0x0907 2 := by
  have hu : Adding r { s with link := s.link.pushLeaves id n } := h.trans (.beside rfl rfl)
  exact (substDone_unpushed _ id n false).adding.recorded (hu.event (h16 ▸ evPort_num_lt .fp3) rfl 2 n [])

/-- An ABORT of push `id` to package `n`, as it leaves the pushes and the records of since `r`. -/
def Aborted (r : State) (id n : Nat) (t : State) : Prop := Ended id n t.link.pushes ∧ Recorded r t .fp3 0x0907 2

theorem Aborted.ending {r s t : State} {id n : Nat} (h : Ending s t) (ha : Aborted r id n s) : Aborted r id n t := ⟨ha.1.thinned h.thinned, h.adding.recorded ha.2⟩

/-- Package `n` is sent an ABORT of a push, which ends there. -/
def abortedAt (id : Nat) (s : State) (n : Nat) : State := (s.skvSend n 6 (imgMessage 4 id [])).pushEnds id n false

theorem abortPush_eq (s : State) (p : ImagePush) (mask : BitVec 8) : s.abortPush p mask = (members (p.mask &&& mask)).foldl (abortedAt p.id) s := rfl

theorem abortedAt_ending (id : Nat) (s : State) (n : Nat) : Ending s (abortedAt id s n) := (skvSend_ending s n 6 _).trans (pushEnds_ending ..)

theorem abortedAt_aborted {r s : State} (h16 : r.rec_.ports.length = 16) (h : Ending r s) (id n : Nat) : Aborted r id n (abortedAt id s n) := by
  refine ⟨?_, pushEnds_recorded h16 (h.trans (skvSend_ending s n 6 _)).adding id n⟩
  rw [abortedAt, pushEnds_link]
  exact pushLeaves_ended _ id n

theorem abortPush_ending (s : State) (p : ImagePush) (mask : BitVec 8) : Ending s (s.abortPush p mask) :=
  foldl_within .refl .trans (abortedAt_ending p.id) _ s

/-- A push is aborted at each package that it goes to and the mask names. -/
def AbortedAll (r : State) (mask : BitVec 8) (p : ImagePush) (t : State) : Prop := ∀ n ∈ members (p.mask &&& mask), Aborted r p.id n t

theorem AbortedAll.ending {r s t : State} {mask : BitVec 8} {p : ImagePush} (h : Ending s t) (ha : AbortedAll r mask p s) : AbortedAll r mask p t := fun n hn => (ha n hn).ending h

/-- A push is aborted at each package that the mask names. -/
theorem abortPush_aborted {r s : State} (h16 : r.rec_.ports.length = 16) (h : Ending r s) (p : ImagePush) (mask : BitVec 8) : AbortedAll r mask p (s.abortPush p mask) := by
  rw [abortPush_eq]
  exact foldl_establishes (R := Ending) (Q := Aborted r p.id) .refl .trans (abortedAt_ending p.id) (fun s n hs => abortedAt_aborted h16 hs p.id n) (fun n s t hst ha => ha.ending hst) _ h

/-- Every push is aborted at each package that the mask names. -/
theorem abortPushes_spec {s : State} (h16 : s.rec_.ports.length = 16) (mask : BitVec 8) :
    let t := s.link.pushes.foldl (fun s p => s.abortPush p mask) s
    (∀ p ∈ t.link.pushes, p.mask &&& mask = 0) ∧ ((∃ p ∈ s.link.pushes, p.mask &&& mask ≠ 0) → Recorded s t .fp3 0x0907 2) := by
  intro t
  have hstep : ∀ u p, Ending u (State.abortPush u p mask) := fun u p => abortPush_ending u p mask
  have hending : Ending s t := foldl_within .refl .trans hstep _ s
  have hall : ∀ p ∈ s.link.pushes, AbortedAll s mask p t :=
    foldl_establishes .refl .trans hstep (fun u p hu => abortPush_aborted h16 hu p mask) (fun _ _ _ => .ending) _ (.refl s)
  refine ⟨fun q hq => (eq_zero_iff_members _).mpr fun n hn => ?_, fun ⟨p, hp, hne⟩ => ?_⟩
  · rw [mem_members, BitVec.getLsbD_and, Bool.and_eq_true] at hn
    obtain ⟨hq', hm⟩ := hn
    obtain ⟨p, hp, hid, hmask⟩ := hending.thinned q hq
    have hmem : n ∈ members (p.mask &&& mask) := (mem_members ..).mpr (by rw [BitVec.getLsbD_and, hmask n hq', hm, Bool.and_self])
    exact Bool.false_ne_true (((hall p hp n hmem).1 q hq hid.symm).symm.trans hq')
  · obtain ⟨n, hn⟩ : ∃ n, n ∈ members (p.mask &&& mask) := by
      simpa only [not_forall, not_not] using mt (eq_zero_iff_members _).mpr hne
    exact (hall p hp n hn).2

end Sys2Proof.Proofs
end

section
/-! SUPPORT. The host-path commands: queues and image pushes (13 R378, R381-R383, R385). -/

namespace Sys2Proof.Proofs

open Sys2Proof Sys2Proof.Machine

section

variable (s : State) (c : Ctx)

/-! ## Host queues (R378, R381) -/

/-- A queue has been made, with its key. -/
def queueMade (q : HostQueue) (key : BitVec 256) : State :=
  s.onLink fun l => { l with queueKeys := l.queueKeys.set q.num { bound := true, key := key }, queues := insertQueue q l.queues }

/-- A queue has been removed, with its key. -/
def queueRemoved (q : Nat) : State := s.onLink fun l => { l with queueKeys := l.queueKeys.set q {}, queues := l.queues.filter fun x => x.num != q }

/-- The event of a queue that is made or removed, and the mirror record. -/
theorem queueEvent_spec {s u : State} (h16 : s.rec_.ports.length = 16) (ha : Adding s u) (hw : Within [.link] s u) (src : Nat) (payload : List Byte) :
    let t := (u.event .fp3 0x090B 0 src payload).mirrored .host
    t.link = u.link ∧ Recorded s t .fp3 0x090B 0 ∧ Within [.link, .rec_, .pair] s t :=
  ⟨(State.mirrored_link ..).trans (State.event_link ..), event_mirrored_spec h16 ha hw .fp3 rfl (by decide) src payload .host rfl rfl⟩

theorem hostqCreate_answers {s : State} (h16 : s.rec_.ports.length = 16) (q n : U8) (depth bytes : U16) (key : BitVec 256) :
    let a := bodyHostqCreate q n depth bytes key c s
    let x : HostQueue := { num := q.toNat, port := n.toNat, depth := depth.toNat, entryBytes := bytes.toNat }
    if 63 < q.toNat ∨ 9 < n.toNat ∨ depth.toNat < 16 ∨ 4096 < depth.toNat ∨ bytes.toNat < 64 ∨ 4096 < bytes.toNat then a.1 = Reply.fail .badArg ∧ a.2 = s
    else if s.queue q.toNat ≠ none ∨ s.portFitted n.toNat = false then a.1 = Reply.fail .stateConflict ∧ a.2 = s
    else if 256 * 2 ^ 20 < (s.link.queues.map fun x => x.depth * x.entryBytes).foldl (· + ·) (depth.toNat * bytes.toNat) then a.1 = Reply.fail .noResource ∧ a.2 = s
    else a.1 = {} ∧ a.2.link = (queueMade s x key).link ∧ Recorded s a.2 .fp3 0x090B 0 ∧ Within [.link, .rec_, .pair] s a.2 := by
  intro a x
  have hused : ((s.queue q.toNat).isSome || !s.portFitted n.toNat) = true ↔ s.queue q.toNat ≠ none ∨ s.portFitted n.toNat = false := by
    rw [Bool.or_eq_true, Option.isSome_iff_ne_none, Bool.not_eq_true']
  have ha : a = bodyHostqCreate q n depth bytes key c s := rfl
  unfold bodyHostqCreate at ha
  simp only [check_three, decide_eq_true_eq, hused] at ha
  refine guarded ha fun _ ha => guarded ha fun _ ha => guarded ha fun _ ha => ?_
  rw [ha]
  exact ⟨rfl, queueEvent_spec (u := queueMade s x key) h16 (.beside rfl rfl) rfl q.toNat (i1 q.toNat ++ i1 n.toNat)⟩

theorem hostqDelete_answers {s : State} (h16 : s.rec_.ports.length = 16) (q : U8) :
    let a := bodyHostqDelete q c s
    if 63 < q.toNat then a.1 = Reply.fail .badArg ∧ a.2 = s
    else match s.queue q.toNat with
      | none => a.1 = Reply.fail .stateConflict ∧ a.2 = s
      | some x => a.1 = { payload := i4 x.entries.length ++ i4 x.comps.length } ∧ a.2.link = (queueRemoved s q.toNat).link ∧ Recorded s a.2 .fp3 0x090B 0 ∧ Within [.link, .rec_, .pair] s a.2 := by
  unfold bodyHostqDelete
  by_cases hbad : 63 < q.toNat
  · simp only [if_pos hbad]
    exact ⟨rfl, rfl⟩
  · simp only [if_neg hbad]
    cases hq : s.queue q.toNat with
    | none => exact ⟨rfl, rfl⟩
    | some x =>
      have hnum : x.num = q.toNat := by simpa only [beq_iff_eq] using List.find?_some hq
      simp only [hnum]
      exact ⟨rfl, queueEvent_spec (u := queueRemoved s q.toNat) h16 (.beside rfl rfl) rfl q.toNat (i1 q.toNat ++ i1 x.port)⟩

/-! ## Image buffers and pushes (R382, R383) -/

theorem imagePushOpen_answers (b m src : U8) (size : U32) (key : BitVec 256) :
    let a := bodyImagePushOpen b m src size key c s
    if 7 < b.toNat ∨ size.toNat < 65536 ∨ 96 * 2 ^ 20 < size.toNat then a.1 = Reply.fail .badArg ∧ a.2 = s
    else a.1 = {} ∧ a.2.link = { s.link with imageKeys := s.link.imageKeys.set b.toNat { bound := true, key := key }, buffers := s.link.buffers.set b.toNat (some { size := size.toNat }) } ∧
      Within [.link, .pair] s a.2 := by
  unfold bodyImagePushOpen
  simp only [check_one, decide_eq_true_eq]
  split
  · exact ⟨rfl, rfl⟩
  · exact ⟨rfl, State.mirrored_link .., .trans (t := s.onLink _) rfl (mirrored_within ..)⟩

theorem imagePushAbort_answers {s : State} (h16 : s.rec_.ports.length = 16) (b m src : U8) (o : U32) :
    let a := bodyImagePushAbort b m src o c s
    if m = 0 then a.1 = Reply.fail .badArg ∧ a.2 = s
    else a.1 = {} ∧ (∀ p ∈ a.2.link.pushes, p.mask &&& m = 0) ∧ ((∃ p ∈ s.link.pushes, p.mask &&& m ≠ 0) → Recorded s a.2 .fp3 0x0907 2) := by
  unfold bodyImagePushAbort
  simp only [check_one, beq_iff_eq]
  split
  · exact ⟨rfl, rfl⟩
  · obtain ⟨hgone, hrec⟩ := abortPushes_spec h16 m
    refine ⟨rfl, ?_, fun h => (mirrored_adding ..).recorded (hrec h)⟩
    rw [okay, State.mirrored_link]
    exact hgone

/-- An image that does not verify is not pushed, and its failed load is recorded (04 R101). -/
theorem loadFailed_spec {r s : State} (h16 : r.rec_.ports.length = 16) (h : Adding r s) (port : EvPort) (o : ObjectImage) (block : Nat) :
    Recorded r (s.loadFailed port o block) port 0x0C07 2 ∧ Within [.rec_] s (s.loadFailed port o block) :=
  ⟨h.event (h16 ▸ evPort_num_lt port) rfl 2 0 _, event_within_rec s port 0x0C07 0 (by decide) _⟩

theorem imagePushStart_answers {s : State} (h16 : s.rec_.ports.length = 16) (b m src : U8) (o : U32) :
    let a := bodyImagePushStart b m src o c s
    if sourceBad src.toNat b.toNat o.toNat = true ∨ m = 0 then a.1 = Reply.fail .badArg ∧ a.2 = s
    else if ∃ n ∈ members m, s.pushable n = false then a.1 = Reply.fail .stateConflict ∧ a.2 = s
    else match s.imageSource src.toNat b.toNat o.toNat with
      | none => a.1 = Reply.fail (if src = 0 then .integrityFail else .stateConflict) ∧ a.2 = s
      | some (obj, content) =>
        if src = 0 ∧ s.updateOverlaps o.toNat obj.span = true then a.1 = Reply.fail .stateConflict ∧ a.2 = s
        else if s.imageVerifies obj [5, 6] = false then a.1 = Reply.fail .integrityFail ∧ Recorded s a.2 .fp3 0x0C07 2 ∧ Within [.rec_] s a.2
        else a.1 = { status := .accepted, payload := i4 a.2.link.pushId } ∧ a.2.link.pushId = (s.link.pushId + 1) % 2 ^ 32 ∧
          a.2.link.pushes = s.link.pushes ++ [{ id := a.2.link.pushId, mask := m, obj := obj, content := content }] ∧ Within [.link, .pair] s a.2 := by
  intro a
  have ha : a = bodyImagePushStart b m src o c s := rfl
  unfold bodyImagePushStart at ha
  simp only [check_two, check_one, Bool.or_eq_true, beq_iff_eq, List.any_eq_true, Bool.not_eq_true', Bool.and_eq_true] at ha
  refine guarded ha fun _ ha => guarded ha fun _ ha => ?_
  cases hi : s.imageSource src.toNat b.toNat o.toNat with
  | none =>
    simp only [hi] at ha
    rw [ha]
    exact ⟨rfl, rfl⟩
  | some x =>
    obtain ⟨obj, content⟩ := x
    simp only [hi] at ha
    refine guarded ha fun _ ha => ?_
    by_cases hv : s.imageVerifies obj [5, 6] = false
    · rw [if_pos hv] at ha
      rw [if_pos hv, ha]
      exact ⟨rfl, loadFailed_spec h16 (.refl s) .fp3 obj obj.badBlock⟩
    · rw [if_neg hv] at ha
      obtain ⟨hid, hlast, hpushes, hw⟩ := startPush_spec s m obj content false
      rw [if_neg hv, ha, State.mirrored_link, hid, hlast, hpushes]
      exact ⟨rfl, rfl, rfl, hw.trans (mirrored_within ..)⟩

end

/-- Settles O50, from what each command answers and leaves. -/
theorem hostPathCommands : Obligations.host_path_commands := by
  unfold Obligations.host_path_commands
  intro s h h16 _ _ _ _
  exact ⟨fun q n depth bytes key => Laws.answers_of rfl fun se _ _ k _ _ _ _ _ _ => hostqCreate_answers k (s := s.taken h se) h16 q n depth bytes key,
    fun q => Laws.answers_of rfl fun se _ _ k _ _ _ _ _ _ => hostqDelete_answers k (s := s.taken h se) h16 q,
    fun b m src size key => Laws.answers_of rfl fun se _ _ k _ _ _ _ _ _ => imagePushOpen_answers (s.taken h se) k b m src size key,
    fun b m src o => Laws.answers_of rfl fun se _ _ k _ _ _ _ _ _ => imagePushStart_answers k (s := s.taken h se) h16 b m src o,
    fun b m src o => Laws.answers_of rfl fun se _ _ k _ _ _ _ _ _ => imagePushAbort_answers k (s := s.taken h se) h16 b m src o⟩

end Sys2Proof.Proofs
end

section
/-! SUPPORT. Strict mode, replay bindings and records, and spare substitution (14 R390, R393, R396-R399, R401-R403). -/

namespace Sys2Proof.Proofs

open Sys2Proof Sys2Proof.Machine

/-- The event of a change of the reproducibility part, and the mirror record. -/
theorem reproEvent_spec {s : State} (h16 : s.rec_.ports.length = 16) (f : ReproState → ReproState) {code : Nat} (hc : reservedEvent code = false) (src : Nat) (payload : List Byte) :
    let t := ((s.onRepro f).event .fp3 code 0 src payload).mirrored .repro
    t.repro = f s.repro ∧ Recorded s t .fp3 code 0 ∧ Within [.repro, .rec_, .pair] s t :=
  ⟨(State.mirrored_repro ..).trans (State.event_repro ..), event_mirrored_spec (u := s.onRepro f) h16 (.beside rfl rfl) (ps := [.repro]) rfl .fp3 hc (by decide) src payload .repro rfl rfl⟩

/-- A change of the reproducibility part, and the mirror record. -/
theorem reproChange_spec (s : State) (f : ReproState → ReproState) :
    let t := (s.onRepro f).mirrored .repro
    t.repro = f s.repro ∧ Within [.repro, .pair] s t :=
  ⟨State.mirrored_repro .., .trans (t := s.onRepro f) rfl (mirrored_within ..)⟩

section

variable {s : State} (h16 : s.rec_.ports.length = 16) (c : Ctx)

include h16

/-! ## Strict mode (R390) -/

theorem strictSet_answers (v : U8) :
    let a := bodyStrictSet v c s
    if 1 < v.toNat then a.1 = Reply.fail .badArg ∧ a.2 = s
    else if (v == 1) = s.repro.strict then a.1 = {} ∧ a.2 = s
    else if s.sync.parked ≠ [] ∨ s.sync.jobs.any (fun j => s.recordOpen j.num) = true then a.1 = Reply.fail .stateConflict ∧ a.2 = s
    else a.1 = {} ∧ a.2.repro = { s.repro with strict := v == 1 } ∧ Recorded s a.2 .fp3 0x0A01 0 ∧ Within [.repro, .rec_, .pair] s a.2 := by
  intro a
  have ha : a = bodyStrictSet v c s := rfl
  unfold bodyStrictSet at ha
  simp only [check_one, Bool.or_eq_true, bne_iff_ne] at ha
  refine guarded ha fun _ ha => ?_
  by_cases hv : (v == 1) = s.repro.strict
  · rw [if_pos hv] at ha
    rw [if_pos hv, ha]
    exact ⟨rfl, rfl⟩
  · rw [if_neg hv] at ha
    rw [if_neg hv]
    refine guarded ha fun _ ha => ?_
    rw [ha]
    exact ⟨rfl, reproEvent_spec h16 _ rfl ..⟩

/-! ## Bindings (R393) -/

theorem replayBind_answers (j : U8) (iv : U64) (prog input ref : BitVec 384) (cores : List U32) (seeds : List U64) :
    let a := bodyReplayBind j iv prog input ref cores seeds c s
    if jobNumber j.toNat = false ∨ 2 ^ 48 < iv.toNat ∨ 16 < seeds.length ∨ cores.length ≠ 8 then a.1 = Reply.fail .badArg ∧ a.2 = s
    else if s.sync.jobs.any (fun x => x.num == j.toNat) = true then a.1 = Reply.fail .stateConflict ∧ a.2 = s
    else a.1 = {} ∧ Recorded s a.2 .fp3 0x0A02 0 ∧ Within [.repro, .rec_, .pair] s a.2 ∧
      a.2.repro = { s.repro with binds := insertBind { job := j.toNat, prog := prog, input := input, ref := ref, refCores := cores.map BitVec.toNat, seeds := seeds, interval := iv.toNat } s.repro.binds } := by
  intro a
  have ha : a = bodyReplayBind j iv prog input ref cores seeds c s := rfl
  unfold bodyReplayBind at ha
  simp only [check_two, Bool.or_eq_true, Bool.not_eq_true', decide_eq_true_eq] at ha
  refine guarded ha fun _ ha => guarded ha fun _ ha => ?_
  rw [ha]
  exact ⟨rfl, and_rotate.mp (reproEvent_spec h16 _ rfl ..)⟩

theorem replayBindRemove_answers (j : U8) :
    let a := bodyReplayBindRemove j c s
    if jobNumber j.toNat = false then a.1 = Reply.fail .badArg ∧ a.2 = s
    else if s.repro.binds.any (fun b => b.job == j.toNat) = false then a.1 = Reply.fail .stateConflict ∧ a.2 = s
    else a.1 = {} ∧ a.2.repro = { s.repro with binds := s.repro.binds.filter fun b => b.job != j.toNat } ∧ Recorded s a.2 .fp3 0x0A02 0 ∧ Within [.repro, .rec_, .pair] s a.2 := by
  intro a
  have ha : a = bodyReplayBindRemove j c s := rfl
  unfold bodyReplayBindRemove at ha
  simp only [check_two, Bool.not_eq_true'] at ha
  refine guarded ha fun _ ha => guarded ha fun _ ha => ?_
  rw [ha]
  exact ⟨rfl, reproEvent_spec h16 _ rfl ..⟩

end

section

variable (s : State) (c : Ctx)

/-! ## Records (R396, R401) -/

/-- The records with one replaced. -/
def recordSet (records : List ReplayRecord) (r r' : ReplayRecord) : List ReplayRecord := records.map fun y => if y.rpSeq = r.rpSeq then r' else y

theorem mem_recordSet {records : List ReplayRecord} {r : ReplayRecord} (h : r ∈ records) (r' : ReplayRecord) : r' ∈ recordSet records r r' :=
  List.mem_map.mpr ⟨r, h, if_pos rfl⟩

/-- The open record of a job, and its captured checkpoint of a step that has no result (R396). -/
def awaitedCheckpoint (j step : Nat) : Option (ReplayRecord × Nat) :=
  (s.repro.records.find? fun x => x.job == j && x.isOpen).bind fun x => (x.cps.findIdx? fun k => k.step == step && k.result.isNone).map fun i => (x, i)

theorem replayBindResult_answers (j : U8) (step : U64) (d : BitVec 384) :
    let a := bodyReplayBindResult j step d c s
    if jobNumber j.toNat = false then a.1 = Reply.fail .badArg ∧ a.2 = s
    else match awaitedCheckpoint s j.toNat step.toNat with
      | none => a.1 = Reply.fail .stateConflict ∧ a.2 = s
      | some (x, i) => a.1 = { payload := i1 i ++ zeros 3 } ∧ { x with cps := modAt x.cps i fun k => { k with result := some d } } ∈ a.2.repro.records ∧ Within [.repro, .pair] s a.2 := by
  unfold bodyReplayBindResult
  simp only [Bool.not_eq_true']
  split
  · exact ⟨rfl, rfl⟩
  · cases hx : s.repro.records.find? fun x => x.job == j.toNat && x.isOpen with
    | none =>
      simp only [awaitedCheckpoint, hx, Option.bind_none]
      exact ⟨rfl, rfl⟩
    | some x =>
      cases hi : x.cps.findIdx? fun k => k.step == step.toNat && k.result.isNone with
      | none =>
        simp only [awaitedCheckpoint, hx, hi, Option.bind_some, Option.map_none]
        exact ⟨rfl, rfl⟩
      | some i =>
        simp only [awaitedCheckpoint, hx, hi, Option.bind_some, Option.map_some]
        let x' : ReplayRecord := { x with cps := modAt x.cps i fun k => { k with result := some d } }
        obtain ⟨hrepro, hw⟩ := reproChange_spec s fun r => { r with records := recordSet r.records x x' }
        exact ⟨rfl, (congrArg ReproState.records hrepro).symm ▸ mem_recordSet (List.mem_of_find?_eq_some hx) x', hw⟩

/-- The record that a read selects: a sealed one by its number, or the open one of a job (R401). -/
def recordRead (sel job : U8) (rp : U64) : Option ReplayRecord :=
  if sel = 0 then s.repro.records.find? fun x => x.rpSeq == rp.toNat && !x.isOpen else s.repro.records.find? fun x => x.job == job.toNat && x.isOpen

theorem mem_of_recordRead {s : State} {sel job : U8} {rp : U64} {x : ReplayRecord} (h : recordRead s sel job rp = some x) : x ∈ s.repro.records := by
  unfold recordRead at h
  split at h <;> exact List.mem_of_find?_eq_some h

theorem replayRecordRead_answers (sel job : U8) (rp : U64) (o n : U16) :
    let a := bodyReplayRecordRead sel job rp o n c s
    if 1 < sel.toNat ∨ c.se.largest < n.toNat + 12 ∨ 3680 < o.toNat + n.toNat ∨ (sel = 1 ∧ jobNumber job.toNat = false) then a.1 = Reply.fail .badArg ∧ a.2 = s
    else match recordRead s sel job rp with
      | none => a.1 = { payload := i1 0 ++ zeros 3 ++ i8 0 } ∧ a.2 = s
      | some x => a.1 = { payload := i1 (if x.isOpen = true then 1 else 2) ++ zeros 3 ++ i8 x.rpSeq ++ ((x.bytes s.straps.slotId.toNat).drop o.toNat).take n.toNat } ∧
        (x.isOpen = true → a.2 = s) ∧ (x.isOpen = false → { x with read := true } ∈ a.2.repro.records ∧ Within [.repro, .pair] s a.2) := by
  intro a
  have ha : a = bodyReplayRecordRead sel job rp o n c s := rfl
  unfold bodyReplayRecordRead at ha
  simp only [check_one, Bool.or_eq_true, decide_eq_true_eq, Bool.and_eq_true, beq_iff_eq, Bool.not_eq_true', or_assoc] at ha
  refine guarded ha fun _ ha => ?_
  rw [← recordRead] at ha
  cases hx : recordRead s sel job rp with
  | none =>
    simp only [hx] at ha
    rw [ha]
    exact ⟨rfl, rfl⟩
  | some x =>
    simp only [hx] at ha
    rw [ha]
    refine ⟨rfl, fun ho => if_pos ho, fun ho => ?_⟩
    have hopen : ¬x.isOpen = true := ho ▸ Bool.false_ne_true
    obtain ⟨hrepro, hw⟩ := reproChange_spec s fun r => { r with records := r.records.map fun y => if y.rpSeq = x.rpSeq then { y with read := true } else y }
    simp only [okay, if_neg hopen]
    rw [hrepro]
    exact ⟨List.mem_map.mpr ⟨x, mem_of_recordRead hx, if_pos rfl⟩, hw⟩

/-! ## Spare substitution (R398, R399) -/

/-- A source in range that is not a missing buffer names the store where it has no object. -/
theorem store_of_imageSource_none {s : State} {src b : U8} {o : Nat} (hbad : ¬sourceBad src.toNat b.toNat o = true) (hbuf : ¬(src = 1 ∧ nth s.link.buffers b.toNat = none))
    (h : s.imageSource src.toNat b.toNat o = none) : src = 0 := by
  by_contra hsrc
  have hne : src.toNat ≠ 0 := fun h => hsrc (BitVec.eq_of_toNat_eq h)
  have hle : src.toNat ≤ 1 := by
    simp only [sourceBad, decide_eq_true_eq, not_or, not_lt] at hbad
    exact hbad.1
  rw [State.imageSource, if_neg hne, Option.map_eq_none_iff] at h
  exact hbuf ⟨BitVec.eq_of_toNat_eq (show src.toNat = 1 by omega), h⟩

theorem spareSubstitute_answers (n k src b : U8) (cores failed spare o : U32) :
    let a := bodySpareSubstitute n k src b cores failed spare o c s
    if 7 < n.toNat ∨ 1 < k.toNat ∨ sourceBad src.toNat b.toNat o.toNat = true then a.1 = Reply.fail .badArg ∧ a.2 = s
    else if src = 1 ∧ nth s.link.buffers b.toNat = none then a.1 = Reply.fail .stateConflict ∧ a.2 = s
    else if 2 ≤ countIf (fun x => x.pkg == n.toNat) s.repro.inForce then a.1 = Reply.fail .noResource ∧ a.2 = s
    else match s.imageSource src.toNat b.toNat o.toNat with
      | none => a.1 = Reply.fail .integrityFail ∧ a.2 = s
      | some (obj, content) => a.1 = { status := .accepted } ∧ Within [.repro, .pair] s a.2 ∧
        a.2.repro = { s.repro with pending := s.repro.pending ++ [{ pkg := n.toNat, changed := k == 1, coresAfter := cores.toNat, failed := failed, spare := spare, obj := obj, content := content }] } := by
  intro a
  have ha : a = bodySpareSubstitute n k src b cores failed spare o c s := rfl
  unfold bodySpareSubstitute at ha
  simp only [check_three, Bool.or_eq_true, decide_eq_true_eq, Bool.and_eq_true, beq_iff_eq, Option.isNone_iff_eq_none, or_assoc] at ha
  refine guarded ha fun hbad ha => guarded ha fun hbuf ha => guarded ha fun _ ha => ?_
  cases hi : s.imageSource src.toNat b.toNat o.toNat with
  | none =>
    simp only [hi, if_pos (store_of_imageSource_none (fun h => hbad (.inr (.inr h))) hbuf hi)] at ha
    rw [ha]
    exact ⟨rfl, rfl⟩
  | some x =>
    obtain ⟨obj, content⟩ := x
    simp only [hi] at ha
    rw [ha]
    exact ⟨rfl, (reproChange_spec s _).symm⟩

theorem spareSubstituteRemove_answers (n : U8) :
    let a := bodySpareSubstituteRemove n c s
    if 7 < n.toNat then a.1 = Reply.fail .badArg ∧ a.2 = s
    else a.1 = { status := .accepted } ∧ a.2.repro = { s.repro with inForce := s.repro.inForce.map fun x => if x.pkg = n.toNat then { x with ended := true } else x } ∧ Within [.repro, .pair, .sec] s a.2 := by
  unfold bodySpareSubstituteRemove
  simp only [check_one, decide_eq_true_eq]
  split
  · exact ⟨rfl, rfl⟩
  · refine ⟨rfl, ?_, .trans (t := s.onRepro _) rfl ((saveSettings_within _).trans (mirrored_within ..))⟩
    rw [accepted, State.mirrored_repro, saveSettings_eq]
    rfl

end

/-- The substitution of a package that is to be pushed: it is pending, and the package is pushable and in no job (R398, R403). -/
def dueSubstitution (s : State) (n : Nat) : Option Substitution :=
  if s.isOwner = true ∧ s.restarting 11 = false ∧ s.pushable n = true ∧ nth s.repro.overlays n = [] ∧ s.inJob (1#8 <<< n) = false then s.repro.pending.find? fun x => x.pkg == n else none

/-- The substitution waits no longer. -/
def unpending (s : State) (x : Substitution) : State := s.onRepro fun r => { r with pending := r.pending.erase x }

/-- The push of a substitution starts (R398). -/
def substPushed (s : State) (x : Substitution) (n : Nat) : State :=
  let a := (unpending s x).startPush (1#8 <<< n) x.obj x.content true
  (a.2.onRepro fun r => { r with pushing := r.pushing ++ [(a.1, x)] }).mirrored .repro

/-- A substitution fails, since its image does not verify (R101, R402). -/
def substFailed (s : State) (x : Substitution) : State := (((unpending s x).loadFailed .fp3 x.obj x.obj.badBlock).substEvent x 2).mirrored .repro

theorem substitutionStart_exec (s : State) (n : U8) :
    exec (.substitutionStart n) s = .next ((dueSubstitution s n.toNat).elim s fun x => if s.imageVerifies x.obj [6] = true then substPushed s x n.toNat else substFailed s x) := by
  have hexec : exec (.substitutionStart n) s = execSubstitutionStart n s := rfl
  rw [hexec, execSubstitutionStart, dueSubstitution]
  simp only [Bool.and_eq_true, Bool.not_eq_true', beq_iff_eq, and_assoc]
  cases s.repro.pending.find? fun x => x.pkg == n.toNat with
  | none => rw [ite_self, Option.elim_none]
  | some x =>
    dsimp only
    split
    · rfl
    · rfl

theorem substPushed_spec (s : State) (x : Substitution) (n : Nat) :
    let p := newPush (unpending s x) (1#8 <<< n) x.obj x.content true
    let t := substPushed s x n
    t.link.pushes = s.link.pushes ++ [p] ∧ t.repro = { s.repro with pending := s.repro.pending.erase x, pushing := s.repro.pushing ++ [(p.id, x)] } ∧ Within [.repro, .link, .pair] s t := by
  intro p t
  let a := (unpending s x).startPush (1#8 <<< n) x.obj x.content true
  obtain ⟨hid, -, hpushes, hw⟩ := startPush_spec (unpending s x) (1#8 <<< n) x.obj x.content true
  obtain ⟨hrepro, hwithin⟩ := reproChange_spec a.2 fun r => { r with pushing := r.pushing ++ [(a.1, x)] }
  have hlink : t.link = a.2.link := State.mirrored_link ..
  refine ⟨?_, ?_, .trans (t := unpending s x) rfl ((hw.mono rfl).trans (hwithin.mono rfl))⟩
  · rw [hlink, hpushes]
    rfl
  · refine hrepro.trans ?_
    rw [hw.reads State.repro fun _ => rfl, hid]
    rfl

theorem substFailed_spec {s : State} (h16 : s.rec_.ports.length = 16) (x : Substitution) :
    let t := substFailed s x
    t.repro = { s.repro with pending := s.repro.pending.erase x } ∧ Recorded s t .fp3 0x0C07 2 ∧ Recorded s t .fp3 0x0A05 2 ∧ Within [.repro, .rec_, .pair] s t := by
  intro t
  let u := (unpending s x).loadFailed .fp3 x.obj x.obj.badBlock
  have hpend : Adding s (unpending s x) := .beside rfl rfl
  obtain ⟨hload, hw⟩ := loadFailed_spec h16 hpend .fp3 x.obj x.obj.badBlock
  have hu : Adding s u := hpend.trans (event_adding ..)
  have hwu : Within [.repro, .rec_] s u := .trans (t := unpending s x) rfl (hw.mono rfl)
  obtain ⟨hsubst, hwithin⟩ := event_mirrored_spec h16 hu hwu .fp3 (code := 0x0A05) rfl (sev := 2) (by decide) x.pkg (i1 x.pkg ++ i1 (flag x.changed) ++ i4 x.coresAfter) .repro (qs := [.repro, .rec_, .pair]) rfl rfl
  have hrepro : t.repro = u.repro := (State.mirrored_repro ..).trans (State.event_repro ..)
  exact ⟨hrepro.trans (State.event_repro ..), ((event_adding ..).trans (mirrored_adding ..)).recorded hload, hsubst, hwithin⟩

theorem substitutionStart_done {s : State} (h16 : s.rec_.ports.length = 16) (n : U8) : Completes (.substitutionStart n) s fun t =>
    match dueSubstitution s n.toNat with
    | none => t = s
    | some x =>
      if s.imageVerifies x.obj [6] = true then ∃ p, t.link.pushes = s.link.pushes ++ [p] ∧ p.mask = 1#8 <<< n.toNat ∧ p.obj = x.obj ∧ p.overlay = true ∧
        t.repro = { s.repro with pending := s.repro.pending.erase x, pushing := s.repro.pushing ++ [(p.id, x)] } ∧ Within [.repro, .link, .pair] s t
      else t.repro = { s.repro with pending := s.repro.pending.erase x } ∧ Recorded s t .fp3 0x0C07 2 ∧ Recorded s t .fp3 0x0A05 2 ∧ Within [.repro, .rec_, .pair] s t := by
  refine ⟨_, substitutionStart_exec s n, ?_⟩
  cases dueSubstitution s n.toNat with
  | none => exact Option.elim_none ..
  | some x =>
    simp only [Option.elim_some]
    split
    · obtain ⟨hpushes, hrest⟩ := substPushed_spec s x n.toNat
      exact ⟨_, hpushes, rfl, rfl, rfl, hrest⟩
    · exact substFailed_spec h16 x

/-- Settles O51, from what each command answers and leaves, and from what becomes of a pending substitution. -/
theorem reproducibility : Obligations.reproducibility := by
  unfold Obligations.reproducibility
  intro s h h16
  refine ⟨fun v => Laws.answers_of rfl fun se _ _ k _ _ _ _ _ _ => strictSet_answers (s := s.taken h se) h16 k v,
    fun j iv prog input ref cores seeds => Laws.answers_of rfl fun se _ _ k _ _ _ _ _ _ => replayBind_answers (s := s.taken h se) h16 k j iv prog input ref cores seeds,
    fun j step d => Laws.answers_of rfl fun se _ _ k _ _ _ _ _ _ => replayBindResult_answers (s.taken h se) k j step d,
    fun j => Laws.answers_of rfl fun se _ _ k _ _ _ _ _ _ => replayBindRemove_answers (s := s.taken h se) h16 k j,
    fun sel job rp o n => Laws.answers_of rfl fun se _ hs k _ hk _ _ _ _ => ⟨s.handed h se, ?_, ?_⟩,
    fun n kind src b cores failed spare o => Laws.answers_of rfl fun se _ _ k _ _ _ _ _ _ => spareSubstitute_answers (s.taken h se) k n kind src b cores failed spare o,
    fun n => Laws.answers_of rfl fun se _ _ k _ _ _ _ _ _ => spareSubstituteRemove_answers (s.taken h se) k n,
    fun n => substitutionStart_done h16 n⟩
  · rw [State.taken, Laws.onPort_port _ (Laws.port_lt hs)]
  · rw [← hk]
    exact replayRecordRead_answers (s.taken h se) k sel job rp o n

end Sys2Proof.Proofs
end

section
/-! SUPPORT. Loading models: slots, the commit of a container, the loads after a reset, the starts that are due, and uncorrectable errors (09 R250-R252, R254, R257). -/

namespace Sys2Proof.Proofs

open Sys2Proof Sys2Proof.Machine

/-! ## Slots -/

theorem slot_modAt {s : State} {slots : List ModelSlot} {k : Nat} {f : ModelSlot → ModelSlot} (h : s.phase.slots = modAt slots k f) (j : Nat) :
    s.slot j = if k = j ∧ k < slots.length then f (nth slots j) else nth slots j := by
  rw [State.slot, h, nth_modAt]

/-- A slot as the container of a record is loaded into it (R251). -/
def loadedAs (x : StoredModel) (m : ModelSlot) : ModelSlot :=
  { m with phase := .loaded, cont := x.cont, version := x.obj.man.version, digest := x.obj.man.digest, autostart := x.autostart
           runs := 0, adv := List.replicate 8 none, region := [], pend := none, restart := false }

/-- What a load makes of its slot: the container, or nothing where it does not verify (R252). -/
def slotLoaded (s : State) (x : StoredModel) (m : ModelSlot) : ModelSlot := if x.obj.verifies 4 s.anchor.custKey = true then loadedAs x m else {}

/-- The slots after a load, and the load order (R251, R252). -/
def slotTaken (s : State) (k : Nat) (x : StoredModel) : State :=
  s.onPhase fun p => { p with order := if x.obj.verifies 4 s.anchor.custKey = true then p.order.filter (· != k) ++ [k] else p.order, slots := modAt p.slots k (slotLoaded s x) }

/-- A load changes its slot and the load order, beside a trace point or a record. -/
theorem loadSlot_eq (s : State) (k : Nat) (x : StoredModel) :
    s.loadSlot k x = if x.obj.verifies 4 s.anchor.custKey = true then (slotTaken s k x).traced 101 k x.cont.cycles else (slotTaken s k x).loadFailed .fp1 x.obj x.obj.badBlock := by
  unfold State.loadSlot slotTaken slotLoaded
  by_cases h : x.obj.verifies 4 s.anchor.custKey = true
  · simp only [if_pos h]
    rfl
  · simp only [if_neg h]
    rfl

theorem loadSlot_phase (s : State) (k : Nat) (x : StoredModel) : (s.loadSlot k x).phase = (slotTaken s k x).phase := by
  rw [loadSlot_eq]
  split
  · exact State.traced_phase ..
  · exact State.event_phase ..

theorem loadSlot_spec (s : State) (k : Nat) (x : StoredModel) : Within [.phase, .trace, .rec_] s (s.loadSlot k x) ∧ Adding s (s.loadSlot k x) := by
  have hw : Within [.phase, .trace, .rec_] s (slotTaken s k x) := rfl
  have ha : Adding s (slotTaken s k x) := .beside rfl rfl
  rw [loadSlot_eq]
  split
  · exact ⟨hw.trans (traced_within ..), ha.trans (traced_adding ..)⟩
  · exact ⟨hw.trans ((event_within_rec _ .fp1 0x0C07 0 (by decide) _).mono rfl), ha.trans (event_adding ..)⟩

theorem loadSlot_slot (s : State) (k j : Nat) (x : StoredModel) :
    (s.loadSlot k x).slot j = if k = j ∧ k < s.phase.slots.length then slotLoaded s x (s.slot j) else s.slot j :=
  slot_modAt (congrArg PhaseState.slots (loadSlot_phase s k x)) j

/-! ## Markers (R254) -/

theorem ring_write (p : PhaseState) (r : DecisionRecord) (h : p.ringCap ≠ 0) : ∃ chain, (p.write r).ring.getLast? = some { r with chain := chain } := by
  refine ⟨digestBytes (Config.sha384 (p.chain ++ r.body)), ?_⟩
  simp only [PhaseState.write]
  rw [List.drop_append_of_le_length (by rw [List.length_append, List.length_singleton]; omega), List.getLast?_append]
  rfl

/-- A marker is the last record of the ring, and changes the ring and its chain alone. -/
theorem marker_spec (s : State) (k action : Nat) :
    let t := s.marker k action
    t.phase = { s.phase with ring := t.phase.ring, chain := t.phase.chain, snaps := t.phase.snaps } ∧ Adding s t ∧
      (s.phase.ringCap ≠ 0 → ∃ y, t.phase.ring.getLast? = some y ∧ y.marker = true ∧ y.mSlot = k ∧ y.mAction = action) := by
  unfold State.marker
  refine ⟨?_, .trans (t := s.onPhase _) (.beside rfl rfl) (mirrored_adding ..), fun h => ?_⟩
  · rw [State.mirrored_phase]
    rfl
  · rw [State.mirrored_phase]
    obtain ⟨chain, hr⟩ := ring_write s.phase _ h
    exact ⟨_, hr, rfl, rfl, rfl⟩

/-! ## BEGIN and DATA (R251) -/

section

variable (s : State) (c : Ctx)

theorem modelLoadBegin_answers (slot flags : U8) :
    let a := bodyModelLoadBegin slot flags c s
    if 7 < slot.toNat ∨ 1 < flags.toNat then a.1 = Reply.fail .badArg ∧ a.2 = s
    else a.1 = {} ∧ a.2 = { s with phase := { s.phase with staging := some (slot.toNat, flags == 1, []) } } := by
  unfold bodyModelLoadBegin
  simp only [check_one, Bool.or_eq_true, decide_eq_true_eq]
  split <;> exact ⟨rfl, rfl⟩

theorem modelLoadData_answers (slot flags : U8) (o : U32) (data : List Byte) :
    let a := bodyModelLoadData slot flags o data c s
    if (7 < slot.toNat ∨ 1 < flags.toNat) ∨ 2 ^ 24 < o.toNat + data.length then a.1 = Reply.fail .badArg ∧ a.2 = s
    else match s.phase.staging with
      | none => a.1 = Reply.fail .stateConflict ∧ a.2 = s
      | some (j, b, m) => a.1 = {} ∧ a.2 = { s with phase := { s.phase with staging := some (j, b, m.writeBytes o.toNat data) } } := by
  intro a
  have ha : a = bodyModelLoadData slot flags o data c s := rfl
  unfold bodyModelLoadData at ha
  simp only [check_two, Bool.or_eq_true, decide_eq_true_eq] at ha
  refine guarded ha fun _ ha => ?_
  cases hst : s.phase.staging with
  | none =>
    rw [hst] at ha
    rw [ha]
    exact ⟨rfl, rfl⟩
  | some x =>
    rw [hst] at ha
    rw [ha, State.onPhase, hst]
    exact ⟨rfl, rfl⟩

end

/-! ## COMMIT (R251, R254) -/

/-- The record of a container is written to the settings area, and nothing is staged any more. -/
def containerRecorded (s : State) (k : Nat) (x : StoredModel) : State := (s.onPhase fun p => { p with stored := p.stored.set k (some x), staging := none }).saveSettings

/-- A container has been stored and loaded, with its marker. -/
def committed (s : State) (k : Nat) (x : StoredModel) : State := ((containerRecorded s k x).loadSlot k x).marker k 1

theorem containerRecorded_phase (s : State) (k : Nat) (x : StoredModel) : (containerRecorded s k x).phase = { s.phase with stored := s.phase.stored.set k (some x), staging := none } := by
  rw [containerRecorded, saveSettings_eq]
  rfl

theorem containerRecorded_anchor (s : State) (k : Nat) (x : StoredModel) : (containerRecorded s k x).anchor = s.anchor := by
  rw [containerRecorded, saveSettings_eq]
  rfl

theorem containerRecorded_adding (s : State) (k : Nat) (x : StoredModel) : Adding s (containerRecorded s k x) := .trans (t := s.onPhase _) (.beside rfl rfl) (saveSettings_adding _)

/-- What the commit of a container that verifies leaves, beside the ring of decision records. -/
theorem committed_phase {s : State} {x : StoredModel} (hv : x.obj.verifies 4 s.anchor.custKey = true) (k : Nat) :
    let p := (committed s k x).phase
    p.stored = s.phase.stored.set k (some x) ∧ p.staging = none ∧ p.slots = modAt s.phase.slots k (loadedAs x) ∧ p.regs = s.phase.regs := by
  intro p
  obtain ⟨hmarker, -⟩ := marker_spec ((containerRecorded s k x).loadSlot k x) k 1
  have hload : slotLoaded (containerRecorded s k x) x = loadedAs x := funext fun m => by rw [slotLoaded, containerRecorded_anchor, if_pos hv]
  rw [loadSlot_phase, slotTaken, hload, State.onPhase, containerRecorded_phase] at hmarker
  exact ⟨(congrArg PhaseState.stored hmarker :), (congrArg PhaseState.staging hmarker :), (congrArg PhaseState.slots hmarker :), (congrArg PhaseState.regs hmarker :)⟩

theorem committed_adding (s : State) (k : Nat) (x : StoredModel) : Adding s (committed s k x) :=
  ((containerRecorded_adding s k x).trans (loadSlot_spec _ k x).2).trans (marker_spec _ k 1).2.1

/-- The marker of a commit is the last decision record (R254). -/
theorem committed_marker {s : State} (h : s.phase.ringCap ≠ 0) (k : Nat) (x : StoredModel) :
    ∃ y, (committed s k x).phase.ring.getLast? = some y ∧ y.marker = true ∧ y.mSlot = k ∧ y.mAction = 1 := by
  obtain ⟨-, -, hring⟩ := marker_spec ((containerRecorded s k x).loadSlot k x) k 1
  refine hring ?_
  rw [loadSlot_phase, slotTaken, State.onPhase, containerRecorded_phase]
  exact h

section

variable {s : State} (c : Ctx) {slot flags : U8} (hok : ¬(7 < slot.toNat ∨ 1 < flags.toNat)) {j : Nat} {b : Bool} {m : Mem} (hst : s.phase.staging = some (j, b, m)) (obj : ObjectImage)

include hok hst

theorem modelLoadCommit_unverified (hv : obj.verifies 4 s.anchor.custKey = false) :
    bodyModelLoadCommit slot flags obj c s = if (s.slot slot.toNat).phase = .running ∨ ∃ x ∈ s.upd.plan.models, x.1 = slot.toNat then refuse .stateConflict s
      else (Reply.fail .integrityFail, s.loadFailed .fp1 obj obj.badBlock) := by
  unfold bodyModelLoadCommit
  simp only [check_one, Bool.or_eq_true, decide_eq_true_eq, if_neg hok, hst, hv, Bool.not_false, if_true, List.any_eq_true, beq_iff_eq]
  rfl

theorem modelLoadCommit_noContainer (hv : obj.verifies 4 s.anchor.custKey = true) (hc : Container.ofImage m containerBase obj.man.length = none) :
    bodyModelLoadCommit slot flags obj c s = ({ status := .badArg, detail := 0xFFFF }, s.event .fp1 0x0505 1 slot.toNat (i1 slot.toNat ++ i2 0xFFFF)) := by
  unfold bodyModelLoadCommit
  simp only [check_one, Bool.or_eq_true, decide_eq_true_eq, if_neg hok, hst, hv, hc, Bool.not_true, Bool.false_eq_true, if_false]

theorem modelLoadCommit_fault (hv : obj.verifies 4 s.anchor.custKey = true) {x : Container} (hc : Container.ofImage m containerBase obj.man.length = some x) {d : Nat}
    (hf : x.fault m containerBase slot.toNat (s.modelRoom slot.toNat) = some d) :
    bodyModelLoadCommit slot flags obj c s = ({ status := .badArg, detail := d }, s.event .fp1 0x0505 1 slot.toNat (i1 slot.toNat ++ i2 d)) := by
  unfold bodyModelLoadCommit
  simp only [check_one, Bool.or_eq_true, decide_eq_true_eq, if_neg hok, hst, hv, hc, hf, Bool.not_true, Bool.false_eq_true, if_false]

theorem modelLoadCommit_good (hv : obj.verifies 4 s.anchor.custKey = true) {x : Container} (hc : Container.ofImage m containerBase obj.man.length = some x)
    (hf : x.fault m containerBase slot.toNat (s.modelRoom slot.toNat) = none) :
    bodyModelLoadCommit slot flags obj c s = if (s.slot slot.toNat).phase = .running ∨ ∃ x ∈ s.upd.plan.models, x.1 = slot.toNat then refuse .stateConflict s
      else okay [] ((committed s slot.toNat { cont := x, obj := obj, autostart := flags == 1 }).event .fp1 0x0501 0 slot.toNat (i1 slot.toNat ++ (digestBytes obj.man.digest).take 8 ++ i1 c.port)) := by
  unfold bodyModelLoadCommit
  simp only [check_one, Bool.or_eq_true, decide_eq_true_eq, if_neg hok, hst, hv, hc, hf, Bool.not_true, Bool.false_eq_true, if_false, List.any_eq_true, beq_iff_eq]
  rfl

end

theorem modelLoadCommit_wrong {slot flags : U8} (hw : 7 < slot.toNat ∨ 1 < flags.toNat) (obj : ObjectImage) (c : Ctx) (s : State) : bodyModelLoadCommit slot flags obj c s = refuse .badArg s := by
  unfold bodyModelLoadCommit
  simp only [check_one, Bool.or_eq_true, decide_eq_true_eq, if_pos hw]

theorem modelLoadCommit_unstaged {slot flags : U8} (hok : ¬(7 < slot.toNat ∨ 1 < flags.toNat)) {s : State} (hst : s.phase.staging = none) (obj : ObjectImage) (c : Ctx) :
    bodyModelLoadCommit slot flags obj c s = refuse .stateConflict s := by
  unfold bodyModelLoadCommit
  simp only [check_one, Bool.or_eq_true, decide_eq_true_eq, if_neg hok, hst]

/-- What a commit answers and leaves, once a transfer is staged (R250, R251). -/
theorem modelLoadCommit_staged {s : State} (h8 : s.phase.slots.length = 8) (hs8 : s.phase.stored.length = 8) (h16 : s.rec_.ports.length = 16) (c : Ctx) {slot flags : U8}
    (hok : ¬(7 < slot.toNat ∨ 1 < flags.toNat)) {j : Nat} {b : Bool} {m : Mem} (hst : s.phase.staging = some (j, b, m)) (obj : ObjectImage) :
    let a := bodyModelLoadCommit slot flags obj c s
    let k := slot.toNat
    let cont := Container.ofImage m containerBase obj.man.length
    let refused := (s.slot k).phase = .running ∨ ∃ x ∈ s.upd.plan.models, x.1 = k
    (obj.verifies 4 s.anchor.custKey = false →
      (refused → a.1 = Reply.fail .stateConflict ∧ a.2 = s) ∧ (¬refused → a.1 = Reply.fail .integrityFail ∧ a.2.phase = s.phase ∧ Recorded s a.2 .fp1 0x0C07 2)) ∧
    (obj.verifies 4 s.anchor.custKey = true →
      (cont = none → a.1 = { status := .badArg, detail := 0xFFFF } ∧ a.2.phase = s.phase ∧ Recorded s a.2 .fp1 0x0505 1) ∧
      ∀ x, cont = some x →
        (∀ d, x.fault m containerBase k (s.modelRoom k) = some d → a.1 = { status := .badArg, detail := d } ∧ a.2.phase = s.phase ∧ Recorded s a.2 .fp1 0x0505 1) ∧
        (x.fault m containerBase k (s.modelRoom k) = none → refused → a.1 = Reply.fail .stateConflict ∧ a.2 = s) ∧
        (x.fault m containerBase k (s.modelRoom k) = none → ¬refused →
          a.1 = {} ∧ (a.2.slot k).phase = .loaded ∧ (a.2.slot k).cont = x ∧ (a.2.slot k).digest = obj.man.digest ∧ a.2.phase.staging = none ∧
          nth a.2.phase.stored k = some { cont := x, obj := obj, autostart := flags == 1 } ∧ Recorded s a.2 .fp1 0x0501 0 ∧
          (s.phase.ringCap ≠ 0 → ∃ y, a.2.phase.ring.getLast? = some y ∧ y.marker = true ∧ y.mSlot = k ∧ y.mAction = 1) ∧
          a.2.phase.regs = s.phase.regs ∧ ∀ j, j ≠ k → a.2.slot j = s.slot j)) := by
  intro a k cont refused
  have hk : k < 8 := by omega
  have hrec : ∀ d, (s.event .fp1 0x0505 1 k (i1 k ++ i2 d)).phase = s.phase ∧ Recorded s (s.event .fp1 0x0505 1 k (i1 k ++ i2 d)) .fp1 0x0505 1 := fun d =>
    ⟨State.event_phase .., (Adding.refl s).event (h16 ▸ evPort_num_lt .fp1) rfl 1 k _⟩
  refine ⟨fun hv => ?_, fun hv => ⟨fun hc => ?_, fun x hc => ⟨fun d hf => ?_, fun hf hr => ?_, fun hf hr => ?_⟩⟩⟩
  · have ha : a = _ := modelLoadCommit_unverified c hok hst obj hv
    refine ⟨fun hr => ?_, fun hr => ?_⟩
    · rw [ha, if_pos hr]
      exact ⟨rfl, rfl⟩
    · rw [ha, if_neg hr]
      exact ⟨rfl, State.event_phase .., (loadFailed_spec h16 (.refl s) .fp1 obj obj.badBlock).1⟩
  · have ha : a = _ := modelLoadCommit_noContainer c hok hst obj hv hc
    rw [ha]
    exact ⟨rfl, hrec 0xFFFF⟩
  · have ha : a = _ := modelLoadCommit_fault c hok hst obj hv hc hf
    rw [ha]
    exact ⟨rfl, hrec d⟩
  · have ha : a = _ := modelLoadCommit_good c hok hst obj hv hc hf
    rw [ha, if_pos hr]
    exact ⟨rfl, rfl⟩
  · have ha : a = _ := modelLoadCommit_good c hok hst obj hv hc hf
    rw [if_neg hr] at ha
    let x' : StoredModel := { cont := x, obj := obj, autostart := flags == 1 }
    have hphase : a.2.phase = (committed s k x').phase := by
      rw [ha]
      exact State.event_phase ..
    obtain ⟨hstored, hstaging, hslots, hregs⟩ := committed_phase (x := x') hv k
    rw [← hphase] at hstored hstaging hslots hregs
    have hslot : a.2.slot k = loadedAs x' (s.slot k) := by
      rw [slot_modAt hslots, if_pos ⟨rfl, h8 ▸ hk⟩]
      rfl
    rw [hslot, hstored, nth_set_self (hs8 ▸ hk), hphase]
    refine ⟨by rw [ha]; rfl, rfl, rfl, rfl, hphase ▸ hstaging, rfl, ?_, fun h => committed_marker h k x', hphase ▸ hregs, fun j hj => ?_⟩
    · rw [ha]
      exact (committed_adding s k x').event (h16 ▸ evPort_num_lt .fp1) rfl 0 k _
    · rw [slot_modAt hslots, if_neg fun h => hj h.1.symm]
      rfl

end Sys2Proof.Proofs
end

section
/-! SUPPORT. The loads after a reset, the starts that are due, and uncorrectable errors; and the loading of models as a whole (09 R252, R257). -/

namespace Sys2Proof.Proofs

open Sys2Proof Sys2Proof.Machine

/-! ## Slots one after the other -/

section

variable {f : State → Nat → State} (hslot : ∀ s a b, b ≠ a → (f s b).slot a = s.slot a)

include hslot

/-- A slot that is none of those gone through stays as it is. -/
theorem foldl_slot_notMem {l : List Nat} {a : Nat} (ha : a ∉ l) (s : State) : (l.foldl f s).slot a = s.slot a := by
  induction l generalizing s with
  | nil => rfl
  | cons b l ih =>
    rw [List.mem_cons, not_or] at ha
    exact (ih ha.2 _).trans (hslot s a b (Ne.symm ha.1))

/-- When its turn comes, a slot is as it was at first, and it stays as its turn leaves it; `R` holds across the turns before and after. -/
theorem foldl_slot_mem {R : State → State → Prop} (hr : ∀ s, R s s) (ht : ∀ {s t u}, R s t → R t u → R s u) (hf : ∀ s b, R s (f s b))
    {l : List Nat} (hl : l.Nodup) {a : Nat} (ha : a ∈ l) (s : State) :
    ∃ u, R s u ∧ u.slot a = s.slot a ∧ (l.foldl f s).slot a = (f u a).slot a := by
  induction l generalizing s with
  | nil => exact nomatch ha
  | cons b l ih =>
    obtain ⟨hb, hl⟩ := List.nodup_cons.mp hl
    by_cases h : b = a
    · exact ⟨s, hr s, rfl, h ▸ foldl_slot_notMem hslot hb _⟩
    · obtain ⟨u, hu, hbefore, hafter⟩ := ih hl ((List.mem_cons.mp ha).resolve_left (Ne.symm h)) (f s b)
      exact ⟨u, ht (hf s b) hu, hbefore.trans (hslot s a b h), hafter⟩

end

/-! ## MODEL_SLOTS_LOAD (R252) -/

/-- Slots have been loaded: the records in the settings area and the anchor are as they were. -/
structure SlotsLoaded (s t : State) : Prop where
  phase : t.phase = { s.phase with order := t.phase.order, slots := t.phase.slots }
  size : t.phase.slots.length = s.phase.slots.length
  sec : t.sec = s.sec

namespace SlotsLoaded

variable {s t u : State}

theorem refl (s : State) : SlotsLoaded s s := ⟨rfl, rfl, rfl⟩

theorem trans (h : SlotsLoaded s t) (h' : SlotsLoaded t u) : SlotsLoaded s u := ⟨by rw [h'.phase, h.phase], h'.size.trans h.size, h'.sec.trans h.sec⟩

theorem anchor (h : SlotsLoaded s t) : t.anchor = s.anchor := by
  unfold State.anchor
  rw [h.sec]

end SlotsLoaded

theorem loadSlot_slotsLoaded (s : State) (k : Nat) (x : StoredModel) : SlotsLoaded s (s.loadSlot k x) := by
  refine ⟨?_, ?_, (loadSlot_spec s k x).1.reads State.sec fun _ => rfl⟩
  · rw [loadSlot_phase]
    rfl
  · rw [loadSlot_phase]
    exact length_modAt ..

/-- The load of one slot after a reset, if a record names it. -/
def slotLoad (s : State) (k : Nat) : State :=
  match nth s.phase.stored k with
  | some x => if (s.slot k).phase = .running then s else s.loadSlot k x
  | none => s

theorem slotLoad_slotsLoaded (s : State) (k : Nat) : SlotsLoaded s (slotLoad s k) := by
  unfold slotLoad
  split
  · split
    · exact .refl s
    · exact loadSlot_slotsLoaded ..
  · exact .refl s

theorem slotLoad_slot_ne (s : State) (a b : Nat) (h : b ≠ a) : (slotLoad s b).slot a = s.slot a := by
  unfold slotLoad
  split
  · split
    · rfl
    · rw [loadSlot_slot, if_neg fun e => h e.1]
  · rfl

/-- The loads are due no longer, and the starts are. -/
def loadsBegun (s : State) : State := s.onPhase fun p => { p with loadPending := false, autoDue := true }

theorem modelSlotsLoad_done {s : State} (h8 : s.phase.slots.length = 8) (hl : s.phase.loadPending = true) (hc : s.clk.phase = .running) : Completes .modelSlotsLoad s fun t =>
    t.phase.loadPending = false ∧ t.phase.autoDue = true ∧
      ∀ j x, j < 8 → nth s.phase.stored j = some x → (s.slot j).phase ≠ .running →
        (x.obj.verifies 4 s.anchor.custKey = true → (t.slot j).phase = .loaded ∧ (t.slot j).cont = x.cont) ∧ (x.obj.verifies 4 s.anchor.custKey = false → t.slot j = {}) := by
  have hexec : exec .modelSlotsLoad s = .next ((List.range 8).foldl slotLoad (loadsBegun s)) := by
    have h : exec .modelSlotsLoad s = execModelSlotsLoad s := rfl
    rw [h, execModelSlotsLoad, if_pos ⟨hl, hc⟩]
    rfl
  have hall : SlotsLoaded (loadsBegun s) ((List.range 8).foldl slotLoad (loadsBegun s)) := foldl_within .refl .trans slotLoad_slotsLoaded _ _
  refine ⟨_, hexec, by rw [hall.phase]; rfl, by rw [hall.phase]; rfl, fun j x hj hx hrun => ?_⟩
  obtain ⟨u, hu, hbefore, hafter⟩ := foldl_slot_mem slotLoad_slot_ne SlotsLoaded.refl .trans slotLoad_slotsLoaded List.nodup_range (List.mem_range.mpr hj) (loadsBegun s)
  have hstored : nth u.phase.stored j = some x := by
    rw [hu.phase]
    exact hx
  have hload : slotLoad u j = u.loadSlot j x := by
    rw [slotLoad, hstored]
    exact if_neg (hbefore ▸ hrun)
  have hanchor : u.anchor = s.anchor := hu.anchor
  rw [hafter, hload, loadSlot_slot, if_pos ⟨rfl, by rw [hu.size]; exact h8 ▸ hj⟩, slotLoaded, hanchor]
  refine ⟨fun hv => ?_, fun hv => ?_⟩
  · rw [if_pos hv]
    exact ⟨rfl, rfl⟩
  · rw [if_neg (by rw [hv]; exact Bool.false_ne_true)]

/-! ## MODEL_AUTOSTART (R244, R252) -/

/-- Fewer elements have no larger sum. -/
theorem sum_map_le_of_subset {l l' : List Nat} (hl : l.Nodup) (h : l ⊆ l') (f : Nat → Nat) : (l.map f).sum ≤ (l'.map f).sum := by
  obtain ⟨l'', hperm, hsub⟩ := List.subperm_of_subset hl h
  rw [← (hperm.map f).sum_eq]
  exact (hsub.map f).sum_le_sum fun _ _ => Nat.zero_le _

/-- The slot is loaded and marked autostart. -/
def marked (m : ModelSlot) : Bool := m.phase == .loaded && m.autostart

/-- Marked slots have been told to start, and nothing else has changed. -/
structure Started (s t : State) : Prop where
  only : t = { s with phase := { s.phase with slots := t.phase.slots } }
  size : t.phase.slots.length = s.phase.slots.length
  slot : ∀ j, t.slot j = s.slot j ∨ marked (s.slot j) = true ∧ t.slot j = { s.slot j with pend := some true }

namespace Started

variable {s t u : State}

theorem refl (s : State) : Started s s := ⟨rfl, rfl, fun _ => .inl rfl⟩

theorem trans (h : Started s t) (h' : Started t u) : Started s u := by
  refine ⟨by rw [h'.only, h.only], h'.size.trans h.size, fun j => ?_⟩
  rcases h.slot j with hj | ⟨hm, hj⟩
  · rw [← hj]
    exact h'.slot j
  · refine .inr ⟨hm, ?_⟩
    rcases h'.slot j with hj' | ⟨-, hj'⟩
    · exact hj'.trans hj
    · rw [hj', hj]

theorem cont (h : Started s t) (j : Nat) : (t.slot j).cont = (s.slot j).cont := by
  rcases h.slot j with hj | ⟨-, hj⟩ <;> rw [hj]

/-- Who will run is who would have run, or a marked slot. -/
theorem willRun (h : Started s t) {j : Nat} (hj : t.willRun j = true) : s.willRun j = true ∨ marked (s.slot j) = true := by
  rcases h.slot j with he | ⟨hm, -⟩
  · unfold State.willRun at hj ⊢
    rw [he] at hj
    exact .inl hj
  · exact .inr hm

end Started

/-- One slot is told to start, if it is marked and fits. -/
def autoStart (s : State) (k : Nat) : State :=
  if (s.slot k).phase = .loaded ∧ (s.slot k).autostart = true ∧ s.fits k = true then s.onSlot k fun m => { m with pend := some true } else s

theorem onSlot_slot (s : State) (k j : Nat) (f : ModelSlot → ModelSlot) : (s.onSlot k f).slot j = if k = j ∧ k < s.phase.slots.length then f (s.slot j) else s.slot j := nth_modAt ..

theorem onSlot_size (s : State) (k : Nat) (f : ModelSlot → ModelSlot) : (s.onSlot k f).phase.slots.length = s.phase.slots.length := List.length_set ..

theorem autoStart_started (s : State) (k : Nat) : Started s (autoStart s k) := by
  unfold autoStart
  split
  · rename_i h
    obtain ⟨hloaded, hauto, -⟩ := h
    refine ⟨rfl, onSlot_size .., fun j => ?_⟩
    rw [onSlot_slot]
    split
    · rename_i hj
      rw [← hj.1]
      exact .inr ⟨by rw [marked, hloaded, hauto]; rfl, rfl⟩
    · exact .inl rfl
  · exact .refl s

theorem autoStart_slot_ne (s : State) (a b : Nat) (h : b ≠ a) : (autoStart s b).slot a = s.slot a := by
  unfold autoStart
  split
  · rw [onSlot_slot, if_neg fun e => h e.1]
  · rfl

/-- A marked slot fits while all that are marked fit beside what will run. -/
theorem fits_of_budget {s u : State} (hu : Started s u) {k : Nat} (hk : k < 8) (hm : marked (s.slot k) = true)
    (hb : ((indices 8 fun j => s.willRun j || marked (s.slot j)).map fun j => (s.slot j).cont.cycles + 200).foldl (· + ·) 0 ≤ 48000) : u.fits k = true := by
  have hnodup : (k :: indices 8 fun j => j != k && u.willRun j).Nodup :=
    List.nodup_cons.mpr ⟨fun h => by simpa using (List.mem_filter.mp h).2, List.nodup_range.filter _⟩
  have hsub : (k :: indices 8 fun j => j != k && u.willRun j) ⊆ indices 8 fun j => s.willRun j || marked (s.slot j) := fun j hj => by
    rcases List.mem_cons.mp hj with rfl | hj
    · exact List.mem_filter.mpr ⟨List.mem_range.mpr hk, by rw [hm, Bool.or_true]⟩
    · obtain ⟨hj, hrun⟩ := List.mem_filter.mp hj
      exact List.mem_filter.mpr ⟨hj, (Bool.or_eq_true ..).mpr (hu.willRun ((Bool.and_eq_true ..).mp hrun).2)⟩
  have hle := sum_map_le_of_subset hnodup hsub fun j => (s.slot j).cont.cycles + 200
  rw [List.map_cons, List.sum_cons] at hle
  rw [← List.sum_eq_foldl] at hb
  unfold State.fits
  simp only [hu.cont, ← List.sum_eq_foldl, decide_eq_true_eq]
  omega

/-- The starts are due no longer. -/
def startsBegun (s : State) : State := s.onPhase fun p => { p with autoDue := false }

theorem modelAutostart_done {s : State} (h8 : s.phase.slots.length = 8) (hdue : s.phase.autoDue = true) : Completes .modelAutostart s fun t =>
    let auto := fun j => (s.slot j).phase == .loaded && (s.slot j).autostart && s.pair.role != .standby
    t = { s with phase := { s.phase with autoDue := false, slots := t.phase.slots } } ∧ (∀ j, auto j = false → t.slot j = s.slot j) ∧
      (∀ j, t.slot j = s.slot j ∨ t.slot j = { s.slot j with pend := some true }) ∧
      (((indices 8 fun j => s.willRun j || auto j).map fun j => (s.slot j).cont.cycles + 200).foldl (· + ·) 0 ≤ 48000 → ∀ j, j < 8 → auto j = true → t.slot j = { s.slot j with pend := some true }) := by
  have h : exec .modelAutostart s = execModelAutostart s := rfl
  rw [execModelAutostart, if_pos hdue] at h
  by_cases hrole : s.pair.role = .standby
  · have hexec : exec .modelAutostart s = .next (startsBegun s) := h.trans (congrArg Host.Outcome.next (if_pos hrole))
    have hnone : ∀ j, ((s.slot j).phase == .loaded && (s.slot j).autostart && s.pair.role != .standby) = false := fun j => by
      rw [hrole]
      exact Bool.and_false _
    exact ⟨_, hexec, rfl, fun _ _ => rfl, fun _ => .inl rfl, fun _ j _ hj => absurd ((hnone j).symm.trans hj) Bool.false_ne_true⟩
  · have hexec : exec .modelAutostart s = .next ((List.range 8).foldl autoStart (startsBegun s)) := h.trans (congrArg Host.Outcome.next (if_neg hrole))
    have hauto : ∀ j, ((s.slot j).phase == .loaded && (s.slot j).autostart && s.pair.role != .standby) = marked (s.slot j) := fun j => by
      rw [bne_iff_ne.mpr hrole]
      exact Bool.and_true _
    have hall : Started (startsBegun s) ((List.range 8).foldl autoStart (startsBegun s)) := foldl_within .refl .trans autoStart_started _ _
    refine ⟨_, hexec, hall.only, fun j hj => ?_, fun j => (hall.slot j).imp id And.right, fun hb j hj hm => ?_⟩
    · rcases hall.slot j with he | ⟨hm, -⟩
      · exact he
      · exact absurd (hj.symm.trans ((hauto j).trans hm)) Bool.false_ne_true
    · simp only [hauto] at hb hm
      obtain ⟨u, hu, hbefore, hafter⟩ := foldl_slot_mem autoStart_slot_ne Started.refl .trans autoStart_started List.nodup_range (List.mem_range.mpr hj) (startsBegun s)
      have hbefore : u.slot j = s.slot j := hbefore
      obtain ⟨hloaded, hstart⟩ : (u.slot j).phase = .loaded ∧ (u.slot j).autostart = true := by
        rw [hbefore]
        simpa only [marked, Bool.and_eq_true, beq_iff_eq] using hm
      have hsize : j < u.phase.slots.length := hu.size.symm ▸ h8.symm ▸ hj
      rw [hafter, autoStart, if_pos ⟨hloaded, hstart, fits_of_budget hu hj hm hb⟩, onSlot_slot, if_pos ⟨rfl, hsize⟩, hbefore]

/-! ## MODEL_STORE_ECC_ERROR (R257) -/

/-- A run is void, and a slot waits to be reloaded. -/
def runVoided (s : State) (k : Nat) : State := (s.onPhase fun p => { p with void := true }).onSlot k fun m => { m with restart := true }

theorem runVoided_slot (s : State) (k j : Nat) : (runVoided s k).slot j = if k = j ∧ k < s.phase.slots.length then { s.slot j with restart := true } else s.slot j := onSlot_slot ..

/-- The error is recorded. -/
theorem runVoided_spec {s : State} (h8 : s.phase.slots.length = 8) (h16 : s.rec_.ports.length = 16) {k : Nat} (hk : k < 8) (payload : List Byte) :
    let t := (runVoided s k).event .phase 0x0506 2 k payload
    t.phase = { s.phase with void := true, slots := t.phase.slots } ∧ t.slot k = { s.slot k with restart := true } ∧ Recorded s t .phase 0x0506 2 ∧
      (∀ j, j ≠ k → t.slot j = s.slot j) ∧ Within [.phase, .rec_] s t := by
  intro t
  have hphase : t.phase = (runVoided s k).phase := State.event_phase ..
  have hslot : ∀ j, t.slot j = (runVoided s k).slot j := fun j => by rw [State.slot, hphase, ← State.slot]
  have ha : Adding s (runVoided s k) := .beside rfl rfl
  have hw : Within [.phase, .rec_] s (runVoided s k) := rfl
  refine ⟨by rw [hphase]; rfl, ?_, ha.event (h16 ▸ evPort_num_lt .phase) rfl 2 k payload, fun j hj => ?_, hw.trans ((event_within_rec _ .phase 0x0506 k (by decide) payload).mono rfl)⟩
  · rw [hslot, runVoided_slot, if_pos ⟨rfl, h8 ▸ hk⟩]
  · rw [hslot, runVoided_slot, if_neg fun h => hj h.1.symm]

theorem modelStoreEccError_done {s : State} (h8 : s.phase.slots.length = 8) (h16 : s.rec_.ports.length = 16) (slot : U8) : Completes (.modelStoreEccError slot) s fun t =>
    let k := slot.toNat
    if s.phase.inRun = true ∧ k < 8 ∧ (s.slot k).phase = .running then
      t.phase = { s.phase with void := true, slots := t.phase.slots } ∧ t.slot k = { s.slot k with restart := true } ∧ Recorded s t .phase 0x0506 2 ∧
      (∀ j, j ≠ k → t.slot j = s.slot j) ∧ Within [.phase, .rec_] s t
    else t = s := by
  have hexec : exec (.modelStoreEccError slot) s = execModelStoreEccError slot s := rfl
  unfold execModelStoreEccError at hexec
  refine ⟨_, hexec, ?_⟩
  by_cases h : s.phase.inRun = true ∧ slot.toNat < 8 ∧ (s.slot slot.toNat).phase = .running
  · simp only [if_pos h]
    exact runVoided_spec h8 h16 h.2.1 _
  · simp only [if_neg h]

/-- Settles O35, from what each command answers and leaves. -/
theorem modelLoading : Obligations.model_loading := by
  unfold Obligations.model_loading
  intro s h slot flags h8 hs8 h16
  refine ⟨Laws.answers_of rfl fun se _ _ k _ _ _ _ _ _ => modelLoadBegin_answers (s.taken h se) k slot flags,
    fun o data => Laws.answers_of rfl fun se _ _ k _ _ _ _ _ _ => modelLoadData_answers (s.taken h se) k slot flags o data,
    fun obj => Laws.answers_of rfl fun se _ _ k _ _ _ _ _ _ => ?_,
    fun hl hc => modelSlotsLoad_done h8 hl hc, fun hdue => modelAutostart_done h8 hdue, modelStoreEccError_done h8 h16 slot⟩
  by_cases hw : 7 < slot.toNat ∨ 1 < flags.toNat
  · have hb : runBody (.modelLoadCommit slot flags obj) k (s.taken h se) = _ := modelLoadCommit_wrong hw obj k (s.taken h se)
    rw [hb]
    simp only [if_pos hw]
    exact ⟨rfl, rfl⟩
  · simp only [if_neg hw]
    cases hst : s.phase.staging with
    | none =>
      have hb : runBody (.modelLoadCommit slot flags obj) k (s.taken h se) = _ := modelLoadCommit_unstaged (s := s.taken h se) hw hst obj k
      rw [hb]
      exact ⟨rfl, rfl⟩
    | some x =>
      obtain ⟨j, b, m⟩ := x
      exact modelLoadCommit_staged (s := s.taken h se) h8 hs8 h16 k hw hst obj

end Sys2Proof.Proofs
end
